-- ==== Sys2Proof/Word.lean ====
section
/-! DEFINITION. The word types of the model: register words, memory bytes, and the sparse table that
holds like things by number. -/

namespace Sys2Proof

/-- A register word (R8: registers are 32 bits wide). -/
abbrev Word := BitVec 32

/-- A memory byte; every memory offset is a byte offset (R328). -/
abbrev Byte := BitVec 8

end Sys2Proof
end

