-- ==== Sys2Proof/Syntax.lean ====
section
/-! DEFINITION. The commands of the PN-8512: one constructor of `Instr` for each row of
spec/opcode_table.json, in the table's order, with what the world outside hands the device at that
step: who accesses a register and with what value, the bytes of a frame, the reading of a sensor. -/

namespace Sys2Proof

/-- Who makes a register or memory access (R10, R11, R93): a management session (slot 15 is the service
port), an application core in machine mode or in supervisor or user mode, the safety pair, or the
vendor runtime's repair access of R342. -/
inductive Who where
  | session (slot : Nat)
  | core (c : Nat) (machine : Bool)
  | safety
  | repair
deriving DecidableEq, Repr

/-- Who makes a memory access (R329, R345). -/
inductive MemAgent where
  | who (w : Who)
  | cmp | pho | net | bat | pvw | hdr | show | mtr | rdg | upd | scrub
deriving DecidableEq, Repr

/-- The physical condition in which a codeword is found (R334): the code matrices are not published, so
the outcome of the decode is what the world hands the device. -/
inductive Upset where
  | none | correctable | uncorrectable
deriving DecidableEq, Repr

/-- A PTP message as the ordinary clock hears it on a port (R21, R74, R77), with the domain of its header and times in 1/256 ns, to which
correctionField has been added: an Announce, and whether its grandmaster is a clock of the domain; a Sync of a one-step or a two-step
master with its origin time and its receipt; the Follow_Up of a two-step Sync; the answer to a Delay_Req with the times of sending and of
receipt; a completed Pdelay exchange with its four times; and a neighbour's Pdelay_Req with its receipt and the sending of the answer. -/
inductive PtpMsg where
  | announce (port domain : Nat) (inDomain : Bool)
  | sync (port domain seq : Nat) (twoStep : Bool) (origin rx : Int)
  | followUp (port domain seq : Nat) (origin : Int)
  | delayResp (port domain : Nat) (tx rx : Int)
  | pdelay (port : Nat) (t1 t2 t3 t4 : Int)
  | pdelayReq (port : Nat) (rx tx : Int)
deriving DecidableEq, Repr

/-- A management message as received (R353, R354): the port (4, 5, or 7 for the service port), the source
address and UDP port, the header's fields, the body and the tag. The type is the row's own. -/
structure Msg where
  port    : Nat
  ip      : BitVec 32
  udp     : BitVec 16
  version : Byte
  length  : BitVec 16
  session : Byte
  key     : Byte
  epoch   : BitVec 16
  seq     : BitVec 32
  body    : List Byte
  tag     : List Byte
deriving DecidableEq, Repr

/-- A heartbeat of the peer (R391), with the frame count, the selected source and the timing mode that R394 has the standby take, and
the show time of its header (R390). -/
structure Heartbeat where
  unitB     : Bool
  state     : Nat
  roleTime  : Nat
  holding   : Bool
  lastLatch : Nat
  deltaSeq  : Nat
  sweepSeq  : Nat
  frame     : Nat
  source    : Nat
  raster    : List (BitVec 32)
  stamp     : Nat
deriving DecidableEq, Repr

/-- One stream's entry of a capture record (R395): the stream, the RTP timestamp captured or none, and
the frame digest. -/
structure CapStream where
  stream : Nat
  rtp    : Option (BitVec 32)
  digest : BitVec 32
deriving DecidableEq, Repr

/-- A capture record (R395). -/
structure CaptureRecord where
  content   : Nat
  streams   : List CapStream
  universes : BitVec 32
  uniXor    : BitVec 32
  deltaSeq  : Nat
deriving DecidableEq, Repr

/-- An output record (R401): the content frame, the canvas and bank digests, the excluded chains, the
chains that issued a latch, and the zone scales and guard decisions of the next content frame. -/
structure OutputRecord where
  content  : Nat
  canvas   : BitVec 32
  banks    : List (BitVec 32)
  output   : BitVec 32
  excluded : List Nat
  latched  : List Nat
  withheld : List Nat
  scales   : List Nat
  guards   : List Nat
deriving DecidableEq, Repr

/-- A commit record (R393): the frame whose commit point it is, the groups applied with their numbers and entries in
order, and the digest of the safety-pair commit. -/
structure CommitRecord where
  frame  : Nat
  groups : List (Nat × List (Nat × Word))
  safety : BitVec 32
deriving DecidableEq, Repr

/-- One item of carried state, as a delta or a sweep carries it (R405). -/
inductive Carried where
  | status (fixture : Nat) (record : List Byte) (frame : Nat) (temp : Bool)
  | corr (group : Nat) (c : Int) (hMeas hMod : Nat)
  | placement (fixture chain pos : Nat) (moved valid : Bool)
  | position (chain pos : Nat) (fixture : Option Nat) (dark : Bool) (uid delay : Nat) (trim : Int)
  | ranging (chain count comp hop : Nat) (ranged : Bool)
  | derate (fixture : Nat) (td : Int)
  | ageSum (fixture emitter : Nat) (w : Nat)
  | demand (group : Nat) (codes : List Nat)
  | meterK (zone : Nat) (k : Nat)
  | pulse (p count resid : Nat)
  | sacn (univ : Nat) (values : List Byte)
  | group (g : Nat) (entries : List (Nat × Word))
  | commit (g : Nat) (target : Option (Nat × Nat)) (entries : List (Nat × Word × Word))
  | epoch (e : Word)
  | updateLock (on : Bool)
  | bankExt (bank : Nat) (v : Word)
deriving DecidableEq, Repr

/-- The commands. -/
inductive Instr where
  -- Show phase and the light list
  | frameBoundary
  | lineStart
  | commitPoint
  | latchInstant
  | snapshotTaken (slot : Nat)
  | ptpMessageRx (m : PtpMsg)
  | glkVPulse (input : Nat) (edge : Nat)
  | ltcFrameRx (valid : Bool) (rateNum rateDen : Nat) (edge : Nat)
  | wclkQualifyWindow (milliHz : Nat)
  | ptpAnnounceTimeout
  | glkLossTimeout (input : Nat)
  | ltcLoss
  | wclkLoss
  | holdoverExpired
  | sourceRevert
  | frameSetArm (w : Who) (v : Word)
  | ppsInEdge
  | ppsInMissing
  | ppsOutRise
  | ppsOutFall
  | realign (w : Who) (v : Word)
  | timingModeWrite (w : Who) (off : Nat) (v : Word)
  | rasterRestart
  | showFrameLoRead (w : Who)
  | showTimeLoRead (w : Who)
  | llSwap (w : Who) (v : Word)
  | llValidationDone
  | llEnable (w : Who) (v : Word)
  -- Register access
  | shDirectWrite (w : Who) (off : Nat) (v : Word)
  | registerWrite (w : Who) (off : Nat) (v : Word)
  | rcRegisterRead (w : Who) (off : Nat)
  | octetsLoRead (w : Who) (off : Nat)
  | latchingLoRead (w : Who) (off : Nat)
  -- Network ports, time-stamps and stream intake
  | netFrameRx (port : Nat) (frame : List Byte) (codeErr : Bool) (ts256 : Nat)
  | classifierItemPush (port ring : Nat)
  | netRxTailWrite (w : Who) (port ring : Nat) (v : Word)
  | netTxTailWrite (w : Who) (port q : Nat) (v : Word)
  | netFrameTx (port : Nat) (ts256 : Nat)
  | txtsTagRead (w : Who) (port : Nat)
  | cascadeForward (inPort : Nat) (frame : List Byte) (rxTs256 txTs256 : Nat) (codeErr : Bool)
  | linkChange (port : Nat) (status : BitVec 5)
  | streamSkewWaitEnd (stream : Nat)
  | streamLost (stream : Nat)
  | pathLost (stream path : Nat)
  | sacnSourceLost (univ : Nat) (cid : List Byte)
  | sacnSyncLost (univ : Nat)
  -- Priority queues and the hardware scheduler
  | quePush (agent q : Nat) (v : Word)
  | quePop (agent q : Nat)
  | queDataRead (agent q : Nat)
  | queMark (agent q : Nat)
  | queRewind (agent q : Nat)
  | queRelease (agent q scope : Nat)
  | queFlush (w : Who) (q : Nat) (v : Word)
  | queStale (q : Nat)
  | doorbellSubmit (q : Nat)
  | taskSubmit (agent : Nat) (w3 : Word)
  | taskEligible (slot : Nat)
  | taskDispatch
  | affinityWaitExpiry (slot : Nat)
  | taskDone (agent core : Nat) (v : Word)
  | delayListTick (d : Nat)
  | taskCancel (agent : Nat) (v : Word)
  -- Composition and check-value units
  | cmpDone (micros : Nat)
  | cmpLate
  | chkExpectFrameWrite (w : Who) (off : Nat) (v : Word)
  | coefLoad (w : Who) (v : Word)
  | safeLayerCommit (entries : List (Nat × Word))
  -- Photometry and mapping
  | phoDone (micros : Nat)
  | phoLate
  | mapSwap (w : Who) (v : Word)
  | mapValidationDone
  | replanNow (w : Who) (v : Word)
  | replanDue
  | sensorPoll (point : Nat) (reading : Option (List Byte))
  | ageSaveTimer
  | ageSaveDone (ok : Bool)
  -- Batten outputs
  | chainFrameStart (c : Nat)
  | railStrobe (c : Nat)
  | chainLatchIssue (c : Nat)
  | readbackTurn (c : Nat) (ack : Bool)
  | readbackStreamRx (c : Nat) (records : List (List Byte))
  | headroomStale (group : Nat)
  | chainEnum (w : Who) (c : Nat) (v : Word)
  | bringupCycle (c : Nat) (records : List (List Byte))
  | identityCheck (c : Nat) (records : List (List Byte))
  | chainRange (w : Who) (c : Nat) (v : Word)
  | rangeDone (c : Nat) (rt0 rtN : List Nat) (records : List (List Byte))
  | driftRanging (c : Nat) (rt0 rtN : Nat)
  | eyecal (w : Who) (c : Nat) (v : Word)
  | eyeCalDone (c : Nat) (clean : List Bool) (checkOk : Bool)
  | dmxFrameStart (c : Nat)
  | rdmWindow (c : Nat) (found : List (Nat × Nat)) (refused : List Nat)
  | rdmGo (w : Who) (v : Word)
  | rdmDone (result : Nat) (response : List Byte)
  | motionHoldExpiry (c : Nat)
  | bankSupply (bank milliVolt : Nat)
  -- Supply headroom and power budgets
  | buckReferenceChange (c : Nat)
  | buckPeriod (c : Nat) (vsns isns : Nat)
  | buckEnable (w : Who) (c : Nat) (v : Word)
  | buckFaultClear (w : Who) (c : Nat) (v : Word)
  | corrWindowEnd
  -- Energy metering
  | meterSample (samples : List Int) (crossings : List Nat)
  | measIntervalEnd (n : Nat) (milliHz : Nat)
  | energyCycleEnd (n : Nat)
  | noZeroCross (n : Nat)
  | calStart (w : Who) (n : Nat) (v : Word)
  | calGainPhase (n : Nat)
  | calEnd (n : Nat) (inRange : Bool)
  | pulseEmit (p : Nat)
  | pulseWidthEnd (p : Nat)
  | periodicSave
  | saveNow (w : Who) (v : Word)
  | periodicSaveDone (ok : Bool)
  | warnSlotEraseDone
  | gapEndWrite (w : Who) (v : Word)
  -- Preview scan-out
  | pvwFrameStart
  | pvwUnderrun
  | pvwEnable (w : Who) (v : Word)
  | pvwDisable (w : Who) (v : Word)
  | pvwApply (w : Who) (v : Word)
  | teEdge
  | pvwTeTimeout
  | pvwInternalFrame
  | pvwCmdGo (w : Who) (v : Word)
  | pvwCmdDone (result : Byte) (response : List Byte)
  -- Memory and stored-data integrity
  | memReadAccess (a : MemAgent) (off : Nat) (u : Upset)
  | memPartialWrite (a : MemAgent) (off : Nat) (data : List Byte) (u : Upset)
  | memFullWrite (a : MemAgent) (off : Nat) (data : List Byte)
  | scrubCodeword (u : Upset) (raced : Bool)
  | zeroFill (w : Who) (v : Word)
  | zeroFillDone
  | discard (w : Who) (region : Nat) (v : Word)
  | discardDone (region : Nat)
  | writeRaw (w : Who) (v : Word)
  | readRaw (w : Who) (v : Word)
  | sramUncorrectable (sram : Nat) (place : Nat)
  | memShareShort
  -- Management and the Keeper
  | openSession (m : Msg)
  | closeSession (m : Msg)
  | keepalive (m : Msg)
  | msgRead (m : Msg)
  | msgWrite (m : Msg)
  | memRead (m : Msg)
  | memWrite (m : Msg)
  | keeperRequest (m : Msg)
  | keeperWithdraw (m : Msg)
  | keeperRelease (m : Msg)
  | groupLoad (m : Msg)
  | commitGroup (m : Msg)
  | subscribe (m : Msg)
  | noticeEvent (slot : Nat)
  | sessionIdleTimeout (slot : Nat)
  | leaseExpired
  | electionWindowEnd
  | usbConfigured (on : Bool)
  | kprGrpClear (w : Who) (v : Word)
  | kprGrpAdd (w : Who) (v : Word)
  | kprCommitGo (w : Who) (v : Word)
  | eventRaise
  -- Active and standby operation
  | ridgeHeartbeatTx
  | ridgeHeartbeatRx (hb : Heartbeat)
  | ridgeHeartbeatMiss
  | ridgeResendTimeout (lane : Nat)
  | ridgeBlockLockLoss (lane : Nat)
  | ridgeLaneRetrain (lane : Nat) (lockHeld : Bool)
  | netHeartbeatTx
  | netHeartbeatRx (hb : Heartbeat) (tag : List Byte)
  | netPathLost
  | captureRecordRx (r : CaptureRecord)
  | capWaitExpiry
  | outputRecordRx (r : OutputRecord)
  | commitRecordRx (r : CommitRecord)
  | forwardedWriteRx (off : Nat) (v : Word) (frame : Nat)
  | mirrorWriteRx (off : Nat) (data : List Byte)
  | deltaRx (seq : Nat) (items : List Carried)
  | sweepRx (items : List Carried) (pages : List (Nat × List Byte)) (last : Bool)
  | repairRequestRx (stream seq : Nat)
  | repairDataRx (stream seq : Nat) (packet : List Byte) (univ : Nat) (values : List Byte)
  | healthRecord
  | healthRecordRx (record : List Byte)
  | roleDecision
  | witnessLatchSeen (c : Nat)
  | takeoverWaitExpiry
  | resync (w : Who) (v : Word)
  | take (w : Who) (v : Word)
  | yieldRole (w : Who) (v : Word)
  -- Reset, boot and supply
  | por
  | railReset (rail : Nat)
  | pinReset
  | wdtExpiry
  | wdtWarn
  | wdtKick (w : Who) (v : Word)
  | softReset (w : Who) (v : Word)
  | safetyReset
  | resetRelease (unitB bootSvc : Bool)
  | runtimeStart
  | showImageLoad
  | srcWaitExpired
  | rasterStart
  | slotConfirm
  | supplyWarning
  | warnRecordDone (ok : Bool)
  | powerSaveDone (ok : Bool) (micros : Nat)
  | pwrSlotEraseDone
  | brownout
  | holdupTest (w : Who) (v : Word)
  | holdupTestPeriodic
  | holdupDone (v0 : Nat) (dtNs : Option Nat)
  | saveSettings (w : Who) (v : Word)
  | ageSave (w : Who) (v : Word)
  | bootTrialConfirm (w : Who) (v : Word)
  -- Field update
  | block (w : Who) (v : Word)
  | blockWriteDone (ok : Bool)
  | dfuDnload (index : Nat) (data : List Byte)
  | dfuDnloadEnd
  | updDiscard (w : Who) (v : Word)
  | updVerified
  | installDone (ok : Bool)
  | activate (w : Who) (v : Word)
  | fwHandover (settingsFmt : Nat)
  | handoverTimeout
  | safetyStartTimeout
  | imageActivate
  | drvPieceDelivery (c : Nat) (pos : Nat) (good : Bool)
  | drvActivate (c : Nat)
  -- Housekeeping
  | thermSample (temps : List Int)
  | thermalResetRelease (temps : List Int)
  | pdmSample (slacks : List Int)
  | vcoreStep
  | avsReadback (ack : Bool) (milliVolt : Nat)
  | pmbusPoll (vout iout temp status : BitVec 16)
  | marginReplan (delays : List Int)
  | safeNChange (level : Bool)
  | fogMinExpiry
  | gpioEdge (pin : Nat) (level : Bool) (time : Nat)
  | gpioSet (w : Who) (v : Word)
  | gpioClr (w : Who) (v : Word)
  | forwardedChangeAcknowledged
deriving DecidableEq, Repr

end Sys2Proof
end

