-- ==== Sys2Proof/Machine/Bits.lean ====
section
/-! DEFINITION. Bit fields, sign extension, little-endian bytes and saturating arithmetic. -/

namespace Sys2Proof.Machine

/-- The field [hi:lo] of a number. -/
def fld (v hi lo : Nat) : Nat := (v >>> lo) % 2 ^ (hi - lo + 1)

/-- One bit of a number. -/
def bit (v i : Nat) : Bool := v.testBit i

/-- The field [hi:lo] of a register word. -/
def wfld (v : Word) (hi lo : Nat) : Nat := fld v.toNat hi lo

/-- One bit of a register word. -/
def wbit (v : Word) (i : Nat) : Bool := v.toNat.testBit i

/-- 1 for true, 0 for false. -/
def b2n (b : Bool) : Nat := if b then 1 else 0

/-- The word `v` with its field [hi:lo] replaced by the low bits of `x`. -/
def setFld (v : Word) (hi lo x : Nat) : Word :=
  let w := 2 ^ (hi - lo + 1)
  let old := (v.toNat >>> lo) % w
  BitVec.ofNat 32 (v.toNat - old * 2 ^ lo + (x % w) * 2 ^ lo)

/-- The word with one bit set to a truth value. -/
def setBit (v : Word) (i : Nat) (b : Bool) : Word := setFld v i i (b2n b)

/-- A number of `w` bits read as two's complement. -/
def sext (w v : Nat) : Int := if v % 2 ^ w < 2 ^ (w - 1) then (v % 2 ^ w : Nat) else (v % 2 ^ w : Nat) - (2 ^ w : Nat)

/-- The low `w` bits of an integer in two's complement. -/
def trunc (w : Nat) (v : Int) : Nat := (v % ((2 ^ w : Nat) : Int)).toNat

/-- A number held at `m` when it exceeds it. -/
def satN (m v : Nat) : Nat := if v ≤ m then v else m

/-- An integer limited to `lo` … `hi`. -/
def clampI (lo hi v : Int) : Int := if v < lo then lo else if hi < v then hi else v

/-- Division rounded up. -/
def cdiv (a b : Nat) : Nat := if b = 0 then 0 else (a + b - 1) / b

/-- Division rounded to the nearest, halves up; 0 for a zero divisor. -/
def rdiv (a b : Nat) : Nat := if b = 0 then 0 else (2 * a + b) / (2 * b)

/-- A saturating increment of a register word. -/
def satInc (v : Word) (n : Nat) : Word := BitVec.ofNat 32 (satN 0xFFFF_FFFF (v.toNat + n))

/-- The `n` bytes of a number, least significant first. -/
def leBytes : Nat → Nat → List Byte
  | 0, _ => []
  | n + 1, v => BitVec.ofNat 8 v :: leBytes n (v / 256)

/-- The number of a list of bytes, least significant first. -/
def ofLe : List Byte → Nat
  | [] => 0
  | b :: bs => b.toNat + 256 * ofLe bs

/-- The number of a list of bytes, most significant first. -/
def ofBe (bs : List Byte) : Nat := bs.foldl (fun a b => 256 * a + b.toNat) 0

/-- The `n` bytes of a number, most significant first. -/
def beBytes (n v : Nat) : List Byte := (leBytes n v).reverse

/-- Bytes `at` to `at + n − 1` of a list as a little-endian number; bytes past its end count as absent. -/
def leAt (bs : List Byte) (i n : Nat) : Nat := ofLe ((bs.drop i).take n)

/-- Bytes `at` to `at + n − 1` of a list as a big-endian number. -/
def beAt (bs : List Byte) (i n : Nat) : Nat := ofBe ((bs.drop i).take n)

/-- A list of numbers 0 … n − 1. -/
def upto (n : Nat) : List Nat := List.range n

/-- The largest `r` with `p r`, for r ≤ hi, by halving: `p` holds on an initial part of the range and at 0. -/
def bisect (p : Nat → Bool) : Nat → Nat → Nat → Nat
  | 0, lo, _ => lo
  | f + 1, lo, hi =>
    if hi ≤ lo then lo
    else
      let mid := (lo + hi + 1) / 2
      if p mid then bisect p f mid hi else bisect p f lo (mid - 1)

/-- Integer square root rounded down, by halving. -/
def isqrt (n : Nat) : Nat := bisect (fun r => r * r ≤ n) (n.size + 2) 0 (2 ^ ((n.size + 1) / 2))

/-- Signed comparison of two counts of `w` bits: a − b taken nearest to zero (R18). -/
def wrapDiff (w a b : Nat) : Int :=
  sext w ((a + 2 ^ w - b % 2 ^ w) % 2 ^ w)

/-- Puts an element before the first one that it does not come after. -/
def insertBy {α : Type} (le : α → α → Bool) (x : α) : List α → List α
  | [] => [x]
  | y :: l => if le x y then x :: y :: l else y :: insertBy le x l

/-- A list in ascending order; equal elements keep their order. -/
def sortBy {α : Type} (le : α → α → Bool) (l : List α) : List α := l.foldr (insertBy le) []

/-- The highest element of a list of numbers, 0 for none. -/
def maxL (l : List Nat) : Nat := l.foldl max 0

/-- The sum of a list of numbers. -/
def sumL (l : List Nat) : Nat := l.foldl (· + ·) 0

end Sys2Proof.Machine
end

