-- ==== Sys2Proof/Machine/Fixed.lean ====
section
/-! DEFINITION. Exact rounding of the functions that the fixed tables and the filter set 1 are made of (R132, R133, R177, R319, R524):
integer roots where the function is algebraic, fixed-point series of 192 fraction bits where it is not. -/

namespace Sys2Proof.Machine.Fixed

/-- The fixed-point unit: 2^192. -/
def one : Int := 2 ^ 192

/-- The product of two fixed-point values. -/
def mul (a b : Int) : Int := a * b / one

/-- The quotient of two fixed-point values. -/
def div (a b : Int) : Int := if b = 0 then 0 else a * one / b

/-- The sum over odd k of z^k / k, from the term `t` = z^k on: atanh when z² is given as it is, atan when it is negated. -/
def oddSeries (z2 : Int) : Nat → Nat → Int → Int
  | 0, _, _ => 0
  | n + 1, k, t => t / (k : Int) + oddSeries z2 n (k + 2) (mul t z2)

/-- The natural logarithm of a value from 1 to 2. -/
def lnUnit (m : Int) : Int :=
  let z := div (m - one) (m + one)
  2 * oddSeries (mul z z) 130 1 z

/-- The natural logarithm of 2. -/
def ln2 : Int := lnUnit (2 * one)

/-- The natural logarithm of a quotient of positive integers. -/
def lnRatio (a b : Nat) : Int :=
  let half (n : Nat) : Int :=
    let k := n.log2
    (k : Int) * ln2 + lnUnit ((n : Int) * one / (2 ^ k : Nat))
  half a - half b

/-- The exponential series from the term `t` = x^k / k! on. -/
def expSeries (x : Int) : Nat → Nat → Int → Int
  | 0, _, _ => 0
  | n + 1, k, t => t + expSeries x n (k + 1) (mul t x / ((k : Int) + 1))

/-- The exponential: the argument is taken to a remainder below ln 2 and a power of two. -/
def exp (x : Int) : Int :=
  let q := x / ln2
  let e := expSeries (x - q * ln2) 60 0 one
  if 0 ≤ q then e * (2 ^ q.toNat : Nat) else e / (2 ^ (-q).toNat : Nat)

/-- π by Machin's formula. -/
def pi : Int :=
  let atan (n : Int) : Int := oddSeries (-(one / (n * n))) 90 1 (one / n)
  4 * (4 * atan 5 - atan 239)

/-- The sine series from the term `t` = x^k / k! on, k odd. -/
def sinSeries (x2 : Int) : Nat → Nat → Int → Int
  | 0, _, _ => 0
  | n + 1, k, t => t - sinSeries x2 n (k + 2) (mul t x2 / (((k : Int) + 1) * ((k : Int) + 2)))

/-- sin x / x for x = π a / b; 1 at 0. -/
def sinc (a : Int) (b : Nat) : Int :=
  if a = 0 then one
  else
    let x := pi * a / (b : Int)
    div (sinSeries (mul x x) 90 1 x) x

/-- A fixed-point value times a factor, rounded to the nearest integer, halves up. -/
def roundUp (x : Int) (k : Nat) : Nat := ((2 * x * (k : Int) + one) / (2 * one)).toNat

/-- The largest r ≤ hi with r − 1/2 ≤ k · (n / d)^(p/q): the exact value rounded to the nearest integer, halves up. -/
def rootRound (k n d p q hi : Nat) : Nat :=
  bisect (fun r => (2 * r - 1) ^ q * d ^ p ≤ 2 ^ q * k ^ q * n ^ p) 20 0 hi

end Sys2Proof.Machine.Fixed

namespace Sys2Proof.Machine

/-- GAMMA24 of R132: 65,535 × (v / 4,095)^2.4. -/
def gamma24 (v : Nat) : Nat := Fixed.rootRound 65535 v 4095 12 5 65535

/-- The 24-bit PQ table of R132. PRESUMED (log 11): the constants of SMPTE ST 2084, which the spec names by reference. -/
def pqTable (v : Nat) : Nat :=
  if v = 0 then 0
  else
    let n := Fixed.exp (Fixed.lnRatio v 4095 * 32 / 2523)
    let num := max (n - Fixed.one * 3424 / 4096) 0
    let den := Fixed.one * 2413 / 128 - n * 299 / 16
    if num = 0 then 0
    else
      let l := Fixed.lnUnit
      let q := Fixed.div num den
      -- ln q, q in (0, 1]: bring it to 1 … 2 by a power of two
      let k := 192 - q.toNat.log2
      let ln := l (q * (2 ^ k : Nat)) - (k : Int) * Fixed.ln2
      Fixed.roundUp (Fixed.exp (ln * 16384 / 2610)) 16777215

/-- The HLG table of R132. PRESUMED (log 11): the inverse OETF of BT.2100, with a = 0.17883277, b = 1 − 4a and c = 0.5 − a ln 4a. -/
def hlgTable (v : Nat) : Nat :=
  if 2 * v ≤ 4095 then rdiv (65535 * v * v) (3 * 4095 * 4095)
  else
    let a := Fixed.one * 17883277 / 100000000
    let x := Fixed.one * (2 * (v : Int) - 4095) / 8190
    let e := Fixed.mul (4 * a) (Fixed.exp (Fixed.div x a)) + Fixed.one - 4 * a
    min 65535 (Fixed.roundUp (e / 12) 65535)

/-- G of R177: min(65,536, round(65,536 × (j / 4,095)^0.2)). -/
def ootfG (j : Nat) : Nat := Fixed.rootRound 65536 j 4095 1 5 65536

/-- The preview gamma table of R319, reduced to 12 bits. -/
def pvwGamma (j : Nat) : Nat := Fixed.rootRound 65535 j 4095 5 12 65535 / 16

/-- The PQ factor K of R132. -/
def pqFactor (peak : Nat) : Nat := rdiv (2 ^ 32 * 65535 * 10000) (16777215 * peak)

/-- The coefficients of one phase of set 1 (R524): `taps` taps, the sinc window `win` wide, tap `centre` at distance 0 of phase 0. -/
def sincPhase (taps centre win p : Nat) : List Int :=
  let w := (upto taps).map (fun (t : Nat) =>
    let d : Int := 64 * ((t : Int) - centre) - p
    Fixed.mul (Fixed.sinc d 64) (Fixed.sinc d (64 * win)))
  let total := w.foldl (· + ·) 0
  let round (x : Int) : Int :=
    let y := (2 * 4096 * x.natAbs + total.natAbs) / (2 * total.natAbs)
    if x < 0 then -(y : Int) else y
  let c := w.map round
  let lack := 4096 - c.foldl (· + ·) 0
  let top := c.foldl max (c.headD 0)
  let k := (c.findIdx? (· = top)).getD 0
  c.set k (top + lack)

end Sys2Proof.Machine
end

