-- ==== Sys2Proof/Machine/Crc.lean ====
section
/-! DEFINITION. The check values: CRC-32C (R157), CRC-16 (R226) and the Ethernet frame check sequence (R65). -/

namespace Sys2Proof.Machine

/-- One bit of a reflected 32-bit CRC with the reflected polynomial `p`. -/
def crcReflBit (p c : Nat) : Nat := if c % 2 = 1 then (c / 2) ^^^ p else c / 2

/-- `n` bits of a reflected CRC. -/
def crcReflBits (p : Nat) : Nat → Nat → Nat
  | 0, c => c
  | n + 1, c => crcReflBits p n (crcReflBit p c)

/-- The running value of a reflected CRC over bytes. -/
def crcRefl (p : Nat) (bs : List Byte) (c : Nat) : Nat :=
  bs.foldl (fun c b => crcReflBits p 8 (c ^^^ b.toNat)) c

/-- CRC-32C of R157: polynomial 0x1EDC6F41 reflected, final inversion, from the preset given. -/
def crc32cFrom (preset : Nat) (bs : List Byte) : Nat := crcRefl 0x82F63B78 bs preset ^^^ 0xFFFFFFFF

/-- CRC-32C of R157 with the preset 0xFFFF_FFFF. -/
def crc32c (bs : List Byte) : Nat := crc32cFrom 0xFFFFFFFF bs

/-- The IEEE 802.3 frame check sequence. PRESUMED: the standard's polynomial, which the spec names only by reference. -/
def fcs32 (bs : List Byte) : Nat := crcRefl 0xEDB88320 bs 0xFFFFFFFF ^^^ 0xFFFFFFFF

/-- One bit of the 16-bit CRC of R226. -/
def crc16Bit (c : Nat) : Nat :=
  if 0x8000 ≤ c then (c * 2 % 0x10000) ^^^ 0x1021 else c * 2

/-- `n` bits of the 16-bit CRC. -/
def crc16Bits : Nat → Nat → Nat
  | 0, c => c
  | n + 1, c => crc16Bits n (crc16Bit c)

/-- CRC-16 of R226: polynomial 0x1021, preset 0xFFFF, no reflection, no inversion. -/
def crc16 (bs : List Byte) : Nat :=
  bs.foldl (fun c b => crc16Bits 8 (c ^^^ (b.toNat * 256))) 0xFFFF

end Sys2Proof.Machine
end

