-- ==== Sys2Proof/Config.lean ====
section
/-! DEFINITION. What the spec leaves open and an implementation fixes: each is a constant without a body, so nothing can be
proved of its value. -/

namespace Sys2Proof.Config

/-- The byte that a read of memory never written in an untracked region returns (R338), by offset and by the state's counter. -/
opaque undefMem : Nat → Nat → BitVec 8

/-- Whether an address that no region holds lies in the private memory of the safety pair (R116), whose place is not stated. -/
opaque safetyPrivate : Nat → Bool

/-- The device nonce N_d of an OPEN (R355, R356): 16 bytes the device chooses. -/
opaque nonce : Nat → List (BitVec 8)

/-- The decode of a raw codeword (R331, R347): for class and data bytes and check bits, 0 good, 1 correctable, 2 uncorrectable,
3 the reserved syndrome of poison. The code matrices are not published. -/
opaque decode : Nat → List (BitVec 8) → Nat → Nat

/-- The corrected data of a correctable raw codeword (R334). -/
opaque corrected : Nat → List (BitVec 8) → Nat → List (BitVec 8)

/-- The check bits of a well-coded codeword of class S or M (R331), as READ_RAW shows them. -/
opaque checkBits : Nat → List (BitVec 8) → Nat

/-- The bytes of a lattice node of a profile with an emitter of CY = 0 (R184), which has no chromaticity: by the state's counter, profile and
place. -/
opaque lattice : Nat → Nat → Nat → BitVec 8

/-- The weights with which equally cheap mixes of a lattice node are combined (R184): by the state's counter, profile × 4,913 + node and mix. -/
opaque mixWeight : Nat → Nat → Nat → Nat

/-- The planning temperature of a profile, in 1/16 K, while no fixture temperature of the last 10 s is known (R184). -/
opaque planTemp : Nat → Int

/-- The efficacy that a lattice slot which the runtime has not built was built with (R185): by slot × 1,024 + profile and emitter. -/
opaque builtEfficacy : Nat → Nat → Rat

/-- The trim that the runtime works out for an emitter of a sensor point (R200): by the state's counter, point and emitter. No rule gives
the control law. -/
opaque trim : Nat → Nat → Nat → BitVec 16

/-- The mean drive time in hours of a re-plan's drivers (R267), which no rule says how to obtain. -/
opaque driveHours : Nat → Nat

/-- How many blocks of a chain frame that starts before its pass has ended are ready when the serialiser reaches them (R230, R242), by the
state's counter and chain; taken modulo the number of blocks and one. -/
opaque readyBlocks : Nat → Nat → Nat

/-- Which of the two middle phases is the centre of a run of even length (R243), by the state's counter. -/
opaque upperCentre : Nat → Bool

/-- The fractional-sample interpolation of the meters (R290, R291): the sample that lies num / den of a sample before the first of a list,
newest first. The spec names no interpolator. -/
opaque interpolate : List Int → Nat → Nat → Int

/-- The coil integrator's output normalised to gain 1.0 at 50 or 60 Hz (R288), whose rounding no rule gives. -/
opaque coilNorm : Nat → Int → Int

/-- The voltage in mV that a margin re-plan asks for while no step has measured the sensitivity k (R485), by the state's counter. -/
opaque planVolt : Nat → Nat

/-- The rate adjustment that SHOW_RATE_ADJ shows while a source is followed (R22, R55), by the state's counter: the servo is not
specified. -/
opaque rateAdj : Nat → BitVec 32

/-- The data bandwidth of an agent over the last 1 ms in MB/s (R349), by the agent and the instant: the spec gives the traffic no timing. -/
opaque bandwidth : Nat → Nat → BitVec 20

/-- The payload in MB that the ridge sent in the second before a health record (R420), by the record's number: the messages' sizes are not stated. -/
opaque ridgeLoad : Nat → BitVec 16

/-- The voltage on the VMON pin in mV that SYS_VMON shows (R448), by the instant: a measured value. -/
opaque vmon : Nat → BitVec 11

/-- The slack of a monitor at manufacture in the fuses (R482). -/
opaque slackBase : Nat → BitVec 16

/-- The station address of a port in the fuses (R87): the words of NET_MAC_LO and NET_MAC_HI. -/
opaque macLo : Nat → BitVec 32

/-- The word of NET_MAC_HI in the fuses (R87); its upper half is reserved. -/
opaque macHi : Nat → BitVec 16

/-- The root-key hash in the fuses (R431, R450): 32 bytes. -/
opaque rootHash : List (BitVec 8)

/-- The die unique ID in the fuses (R448): its word 0 or 1. -/
opaque dieId : Nat → BitVec 32

/-- Whether an ECDSA P-256 signature is valid: public key, SHA-256 of what is signed, signature (R431, R455). The curve is named by reference. -/
opaque signed : List (BitVec 8) → List (BitVec 8) → List (BitVec 8) → Bool

/-- The bytes of an RFC 1951 deflate stream, none when it is invalid (R434). The format is named by reference. -/
opaque inflate : List (BitVec 8) → Option (List (BitVec 8))

/-- What a REGIONS, MGMT, UNIT or SAFETY section sets, by KIND and content: registers as offset and value, none when the content does not
parse (R437). The layout of these sections is not stated. -/
opaque sectionRegs : Nat → List (BitVec 8) → Option (List (Nat × BitVec 32))

/-- The client keys of a MGMT section (R359, R437): number, key, rights, PRIO_MIN. The layout is not stated. -/
opaque clientKeys : List (BitVec 8) → List (Nat × List (BitVec 8) × Nat × Nat)

/-- The pair key of a MGMT section (R392, R437), whose layout is not stated. -/
opaque pairKey : List (BitVec 8) → List (BitVec 8)

/-- The UCODE (2) or SAFETY (3) version of a firmware slot, by its body (R475): the header names the FW version alone. -/
opaque partVersion : Nat → List (BitVec 8) → BitVec 32

/-- The settings FORMAT that the runtime of a slot reads, by the slot's body (R468, R475). -/
opaque settingsFormat : List (BitVec 8) → BitVec 16

/-- The range that a running part declares for another (R453), by its combination key, its version and the other's key, while no manifest is at hand:
no rule says where a running part's ranges are kept. -/
opaque partRange : Nat → Nat → Nat → BitVec 32 × BitVec 32

end Sys2Proof.Config
end

