-- ==== Sys2Proof/Machine/RegMap.lean ====
section
/-! DEFINITION. The register map: offsets by name, and one row per register of the chapters' register
tables with its access types, reset value, bit masks by write behaviour and own-range checks (R8 to R10, R13, R379). -/

namespace Sys2Proof.Machine

/-- What a write may do to a register as a whole (R10). -/
inductive Access where
  | rw | ro | rc | lk
deriving DecidableEq, Repr

/-- One own-value check of a field [hi:lo], taken alone (R520, kinds 5 and 6). -/
inductive FieldCheck where
  | range (hi lo min max : Nat)
  | zeroOr (hi lo min max : Nat)
  | signed (hi lo : Nat) (min max : Int)
  | mult (hi lo k : Nat)
  | code (hi lo max : Nat)
deriving DecidableEq, Repr

/-- A row of a register table. The register's instances lie at off + i * s1 + j * s2 for i < n1, j < n2.
The masks say which bits a write sets plainly (rw), clears by 1 (w1c), sets by 1 (w1s), may not
change at run time (lk) or leaves alone (ro); a bit in no mask is reserved (R9). -/
structure RegSpec where
  name   : String
  off    : Nat
  s1     : Nat
  n1     : Nat
  s2     : Nat
  n2     : Nat
  access : Access
  sh     : Bool
  kp     : Bool
  banked : Bool
  aon    : Bool
  reset  : Nat
  rw     : Nat
  w1c    : Nat
  w1s    : Nat
  lk     : Nat
  ro     : Nat
  wo     : Nat
  checks : List FieldCheck
deriving DecidableEq, Repr

/-- The bits that some field covers; the others are reserved. -/
def RegSpec.defined (r : RegSpec) : Nat := r.rw ||| r.w1c ||| r.w1s ||| r.lk ||| r.ro ||| r.wo

/-- Whether the register has an instance at the offset. -/
def RegSpec.covers (r : RegSpec) (off : Nat) : Bool :=
  r.off ≤ off &&
    (let d := off - r.off
     let i := if r.s1 = 0 then 0 else d / r.s1
     let e := if r.s1 = 0 then d else d % r.s1
     let j := if r.s2 = 0 then 0 else e / r.s2
     let f := if r.s2 = 0 then e else e % r.s2
     i < r.n1 && j < r.n2 && f = 0)

/-- The first instance number of the offset. -/
def RegSpec.index (r : RegSpec) (off : Nat) : Nat := if r.s1 = 0 then 0 else (off - r.off) / r.s1

/-- The SYS block's registers. -/
def specsSYS : List RegSpec :=
  [ ⟨"SYS_REV", 0x0, 0x0, 1, 0x0, 1, .ro, false, false, false, false, 0x85120020,
      0x0, 0x0, 0x0, 0x0, 0xffff00ff, 0x0, []⟩,
    ⟨"SYS_ID_LO", 0x4, 0x0, 1, 0x0, 1, .ro, false, false, false, false, 0x0,
      0x0, 0x0, 0x0, 0x0, 0xffffffff, 0x0, []⟩,
    ⟨"SYS_ID_HI", 0x8, 0x0, 1, 0x0, 1, .ro, false, false, false, false, 0x0,
      0x0, 0x0, 0x0, 0x0, 0xffffffff, 0x0, []⟩,
    ⟨"SYS_STATUS", 0xc, 0x0, 1, 0x0, 1, .ro, false, false, false, false, 0x0,
      0x0, 0x0, 0x0, 0x0, 0xff, 0x0, []⟩,
    ⟨"SYS_RESET_CAUSE", 0x10, 0x0, 1, 0x0, 1, .rw, false, false, false, true, 0x1,
      0x0, 0x7f, 0x0, 0x0, 0x0, 0x0, []⟩,
    ⟨"SYS_CMD", 0x14, 0x0, 1, 0x0, 1, .rw, false, true, false, false, 0x0,
      0x0, 0x0, 0xf, 0x0, 0x0, 0x0, []⟩,
    ⟨"SYS_VMON_CFG", 0x18, 0x0, 1, 0x0, 1, .rw, false, true, false, false, 0x5140384,
      0x3f7f07ff, 0x0, 0x0, 0x0, 0x0, 0x0, [.range 10 0 700 1100, .range 22 16 10 100, .range 29 24 1 50]⟩,
    ⟨"SYS_VMON", 0x1c, 0x0, 1, 0x0, 1, .ro, false, false, false, false, 0x0,
      0x0, 0x0, 0x0, 0x0, 0x107ff, 0x0, []⟩,
    ⟨"SYS_BRACE_CFG", 0x20, 0x0, 1, 0x0, 1, .rw, false, true, false, false, 0x5,
      0x7f, 0x0, 0x0, 0x0, 0x0, 0x0, [.range 6 0 1 100]⟩,
    ⟨"SYS_BROWNOUTS", 0x24, 0x0, 1, 0x0, 1, .rc, false, false, false, true, 0x0,
      0x0, 0x0, 0x0, 0x0, 0xffffffff, 0x0, []⟩,
    ⟨"SYS_BRACE_TIME", 0x28, 0x0, 1, 0x0, 1, .ro, false, false, false, false, 0x0,
      0x0, 0x0, 0x0, 0x0, 0xffffffff, 0x0, []⟩,
    ⟨"SYS_LAST_BRACE_LO", 0x2c, 0x0, 1, 0x0, 1, .ro, false, false, false, false, 0x0,
      0x0, 0x0, 0x0, 0x0, 0xffffffff, 0x0, []⟩,
    ⟨"SYS_LAST_BRACE_HI", 0x30, 0x0, 1, 0x0, 1, .ro, false, false, false, false, 0x0,
      0x0, 0x0, 0x0, 0x0, 0xffffffff, 0x0, []⟩,
    ⟨"SYS_HU_CFG1", 0x34, 0x0, 1, 0x0, 1, .rw, false, true, false, false, 0x23284e20,
      0xffffffff, 0x0, 0x0, 0x0, 0x0, 0x0, []⟩,
    ⟨"SYS_HU_CFG2", 0x38, 0x0, 1, 0x0, 1, .rw, false, true, false, false, 0x25801d6,
      0xffffffff, 0x0, 0x0, 0x0, 0x0, 0x0, [.range 31 16 300 3000]⟩,
    ⟨"SYS_HU_PERIOD", 0x3c, 0x0, 1, 0x0, 1, .rw, false, true, false, false, 0x1400003c,
      0xffff07ff, 0x0, 0x0, 0x0, 0x0, 0x0, [.zeroOr 10 0 10 1440]⟩,
    ⟨"SYS_HU_RESULT", 0x40, 0x0, 1, 0x0, 1, .ro, false, false, false, false, 0x0,
      0x0, 0x0, 0x0, 0x0, 0xffffffff, 0x0, []⟩,
    ⟨"SYS_HU_SENSE", 0x44, 0x0, 1, 0x0, 1, .ro, false, false, false, false, 0x0,
      0x0, 0x0, 0x0, 0x0, 0xffff, 0x0, []⟩,
    ⟨"SYS_PWR_SAVE_STATUS", 0x48, 0x0, 1, 0x0, 1, .ro, false, false, false, false, 0x0,
      0x0, 0x0, 0x0, 0x0, 0xffff0003, 0x0, []⟩,
    ⟨"SYS_SAVE_SLOTS", 0x4c, 0x0, 1, 0x0, 1, .ro, false, false, false, false, 0x0,
      0x0, 0x0, 0x0, 0x0, 0x3f, 0x0, []⟩,
    ⟨"SYS_WDT_CFG", 0x50, 0x0, 1, 0x0, 1, .rw, false, true, false, false, 0x1388,
      0x1ffff, 0x0, 0x0, 0x0, 0x0, 0x0, [.range 15 0 10 60000]⟩,
    ⟨"SYS_WDT_KICK", 0x54, 0x0, 1, 0x0, 1, .rw, false, false, false, false, 0x0,
      0x0, 0x0, 0x0, 0x0, 0x0, 0xffffffff, []⟩,
    ⟨"SYS_UPTIME", 0x58, 0x0, 1, 0x0, 1, .ro, false, false, false, false, 0x0,
      0x0, 0x0, 0x0, 0x0, 0xffffffff, 0x0, []⟩,
    ⟨"SYS_RAIL_STATUS", 0x5c, 0x0, 1, 0x0, 1, .ro, false, false, false, false, 0x0,
      0x0, 0x0, 0x0, 0x0, 0x7f, 0x0, []⟩ ] ++
  [ ⟨"SYS_SETTINGS_STATUS", 0x60, 0x0, 1, 0x0, 1, .ro, false, false, false, false, 0x0,
      0x0, 0x0, 0x0, 0x0, 0xffffff03, 0x0, []⟩,
    ⟨"SYS_FLASH_STATUS", 0x64, 0x0, 1, 0x0, 1, .ro, false, false, false, false, 0x0,
      0x0, 0x0, 0x0, 0x0, 0x7, 0x0, []⟩,
    ⟨"SYS_RESETS", 0x68, 0x0, 1, 0x0, 1, .rc, false, false, false, true, 0x0,
      0x0, 0x0, 0x0, 0x0, 0xffffffff, 0x0, []⟩,
    ⟨"SYS_PWREVT_TIME_LO", 0x6c, 0x0, 1, 0x0, 1, .ro, false, false, false, false, 0x0,
      0x0, 0x0, 0x0, 0x0, 0xffffffff, 0x0, []⟩,
    ⟨"SYS_PWREVT_TIME_HI", 0x70, 0x0, 1, 0x0, 1, .ro, false, false, false, false, 0x0,
      0x0, 0x0, 0x0, 0x0, 0xffffffff, 0x0, []⟩,
    ⟨"SYS_PWREVT_FRAME_LO", 0x74, 0x0, 1, 0x0, 1, .ro, false, false, false, false, 0x0,
      0x0, 0x0, 0x0, 0x0, 0xffffffff, 0x0, []⟩,
    ⟨"SYS_SCRATCH0", 0x78, 0x0, 1, 0x0, 1, .rw, false, true, false, true, 0x0,
      0xffffffff, 0x0, 0x0, 0x0, 0x0, 0x0, []⟩,
    ⟨"SYS_SCRATCH1", 0x7c, 0x0, 1, 0x0, 1, .rw, false, true, false, true, 0x0,
      0xffffffff, 0x0, 0x0, 0x0, 0x0, 0x0, []⟩,
    ⟨"SYS_PWREVT_FRAME_HI", 0x80, 0x0, 1, 0x0, 1, .ro, false, false, false, false, 0x0,
      0x0, 0x0, 0x0, 0x0, 0xffff, 0x0, []⟩ ]

/-- The BOOT block's registers. -/
def specsBOOT : List RegSpec :=
  [ ⟨"BOOT_STATUS", 0x10000, 0x0, 1, 0x0, 1, .ro, false, false, false, false, 0x0,
      0x0, 0x0, 0x0, 0x0, 0xffff, 0x0, []⟩,
    ⟨"BOOT_STRAPS", 0x10004, 0x0, 1, 0x0, 1, .ro, false, false, false, false, 0x0,
      0x0, 0x0, 0x0, 0x0, 0x3, 0x0, []⟩,
    ⟨"BOOT_FW_VER_A", 0x10008, 0x0, 1, 0x0, 1, .ro, false, false, false, false, 0x0,
      0x0, 0x0, 0x0, 0x0, 0xffffffff, 0x0, []⟩,
    ⟨"BOOT_FW_VER_B", 0x1000c, 0x0, 1, 0x0, 1, .ro, false, false, false, false, 0x0,
      0x0, 0x0, 0x0, 0x0, 0xffffffff, 0x0, []⟩,
    ⟨"BOOT_FW_STATE", 0x10010, 0x0, 1, 0x0, 1, .ro, false, false, false, false, 0x0,
      0x0, 0x0, 0x0, 0x0, 0xffffffff, 0x0, []⟩,
    ⟨"BOOT_FUSE_MIN_VER", 0x10014, 0x0, 1, 0x0, 1, .ro, false, false, false, false, 0x0,
      0x0, 0x0, 0x0, 0x0, 0xffffffff, 0x0, []⟩,
    ⟨"BOOT_ROOT_HASH_ID", 0x10018, 0x0, 1, 0x0, 1, .ro, false, false, false, false, 0x0,
      0x0, 0x0, 0x0, 0x0, 0xffffffff, 0x0, []⟩,
    ⟨"BOOT_IMAGE_VER", 0x1001c, 0x0, 1, 0x0, 1, .ro, false, false, false, false, 0x0,
      0x0, 0x0, 0x0, 0x0, 0xffffffff, 0x0, []⟩,
    ⟨"BOOT_IMAGE_ID", 0x10020, 0x0, 1, 0x0, 1, .ro, false, false, false, false, 0x0,
      0x0, 0x0, 0x0, 0x0, 0xffffffff, 0x0, []⟩,
    ⟨"BOOT_SECTIONS", 0x10024, 0x0, 1, 0x0, 1, .ro, false, false, false, false, 0x0,
      0x0, 0x0, 0x0, 0x0, 0x7f, 0x0, []⟩,
    ⟨"BOOT_SECTION_DEFAULTED_LO", 0x10028, 0x0, 1, 0x0, 1, .ro, false, false, false, false, 0x0,
      0x0, 0x0, 0x0, 0x0, 0xffffffff, 0x0, []⟩,
    ⟨"BOOT_SECTION_DEFAULTED_HI", 0x1002c, 0x0, 1, 0x0, 1, .ro, false, false, false, false, 0x0,
      0x0, 0x0, 0x0, 0x0, 0xffffffff, 0x0, []⟩,
    ⟨"BOOT_SECTION_CASCADE_LO", 0x10030, 0x0, 1, 0x0, 1, .ro, false, false, false, false, 0x0,
      0x0, 0x0, 0x0, 0x0, 0xffffffff, 0x0, []⟩,
    ⟨"BOOT_SECTION_CASCADE_HI", 0x10034, 0x0, 1, 0x0, 1, .ro, false, false, false, false, 0x0,
      0x0, 0x0, 0x0, 0x0, 0xffffffff, 0x0, []⟩,
    ⟨"BOOT_SECTION_SEL", 0x10038, 0x0, 1, 0x0, 1, .rw, false, false, true, false, 0x0,
      0x3f, 0x0, 0x0, 0x0, 0x0, 0x0, []⟩,
    ⟨"BOOT_SECTION_INFO", 0x1003c, 0x0, 1, 0x0, 1, .ro, false, false, false, false, 0x0,
      0x0, 0x0, 0x0, 0x0, 0x1fffff, 0x0, []⟩,
    ⟨"BOOT_SECTION_LEN", 0x10040, 0x0, 1, 0x0, 1, .ro, false, false, false, false, 0x0,
      0x0, 0x0, 0x0, 0x0, 0xffffffff, 0x0, []⟩,
    ⟨"BOOT_T_ROM", 0x10044, 0x0, 1, 0x0, 1, .ro, false, false, false, false, 0x0,
      0x0, 0x0, 0x0, 0x0, 0xffffffff, 0x0, []⟩,
    ⟨"BOOT_T_IMAGE", 0x10048, 0x0, 1, 0x0, 1, .ro, false, false, false, false, 0x0,
      0x0, 0x0, 0x0, 0x0, 0xffffffff, 0x0, []⟩,
    ⟨"BOOT_T_RASTER", 0x1004c, 0x0, 1, 0x0, 1, .ro, false, false, false, false, 0x0,
      0x0, 0x0, 0x0, 0x0, 0xffffffff, 0x0, []⟩,
    ⟨"BOOT_T_LATCH", 0x10050, 0x0, 1, 0x0, 1, .ro, false, false, false, false, 0x0,
      0x0, 0x0, 0x0, 0x0, 0xffffffff, 0x0, []⟩,
    ⟨"BOOT_SRC_WAIT", 0x10054, 0x0, 1, 0x0, 1, .lk, false, false, false, false, 0x0,
      0x0, 0x0, 0x0, 0x1fff, 0x0, 0x0, [.range 12 0 0 5000]⟩,
    ⟨"BOOT_DIR_STATUS", 0x10058, 0x0, 1, 0x0, 1, .ro, false, false, false, false, 0x0,
      0x0, 0x0, 0x0, 0x0, 0x7, 0x0, []⟩,
    ⟨"BOOT_TRIAL", 0x1005c, 0x0, 1, 0x0, 1, .rw, false, false, false, false, 0x0,
      0x0, 0x0, 0x2, 0x0, 0x1, 0x0, []⟩ ]

/-- The KPR block's registers. -/
def specsKPR : List RegSpec :=
  [ ⟨"KPR_CFG", 0x20000, 0x0, 1, 0x0, 1, .lk, false, false, false, false, 0x0,
      0x0, 0x0, 0x0, 0xffff01, 0x0, 0x0, [.range 15 8 1 100, .range 23 16 10 255]⟩,
    ⟨"KPR_STATUS", 0x20004, 0x0, 1, 0x0, 1, .ro, false, false, false, false, 0xff1f,
      0x0, 0x0, 0x0, 0x0, 0x3ff1f, 0x0, []⟩,
    ⟨"KPR_EPOCH", 0x20008, 0x0, 1, 0x0, 1, .ro, false, false, false, false, 0x0,
      0x0, 0x0, 0x0, 0x0, 0xffffffff, 0x0, []⟩,
    ⟨"KPR_LEASE_LEFT", 0x2000c, 0x0, 1, 0x0, 1, .ro, false, false, false, false, 0x0,
      0x0, 0x0, 0x0, 0x0, 0x3fff, 0x0, []⟩,
    ⟨"KPR_UPDATE_LOCK", 0x20010, 0x0, 1, 0x0, 1, .rw, false, true, false, false, 0x0,
      0x1, 0x0, 0x0, 0x0, 0x0, 0x0, []⟩,
    ⟨"KPR_SESSIONS", 0x20014, 0x0, 1, 0x0, 1, .ro, false, false, false, false, 0x0,
      0x0, 0x0, 0x0, 0x0, 0xffff, 0x0, []⟩,
    ⟨"KPR_AUTH_FAIL", 0x20018, 0x0, 1, 0x0, 1, .rc, false, false, false, false, 0x0,
      0x0, 0x0, 0x0, 0x0, 0xffffffff, 0x0, []⟩,
    ⟨"KPR_REPLAY", 0x2001c, 0x0, 1, 0x0, 1, .rc, false, false, false, false, 0x0,
      0x0, 0x0, 0x0, 0x0, 0xffffffff, 0x0, []⟩,
    ⟨"KPR_MSG_DROPPED", 0x20020, 0x0, 1, 0x0, 1, .rc, false, false, false, false, 0x0,
      0x0, 0x0, 0x0, 0x0, 0xffffffff, 0x0, []⟩,
    ⟨"KPR_EVT_LOST", 0x20024, 0x0, 1, 0x0, 1, .rc, false, false, false, false, 0x0,
      0x0, 0x0, 0x0, 0x0, 0xffffffff, 0x0, []⟩,
    ⟨"KPR_GRP_BASE", 0x20028, 0x0, 1, 0x0, 1, .lk, false, false, false, false, 0x0,
      0x0, 0x0, 0x0, 0x3fffff, 0x0, 0x0, []⟩,
    ⟨"KPR_KEY_COUNT", 0x2002c, 0x0, 1, 0x0, 1, .ro, false, false, false, false, 0x0,
      0x0, 0x0, 0x0, 0x0, 0x3f, 0x0, []⟩,
    ⟨"KPR_SESS_SEL", 0x20030, 0x0, 1, 0x0, 1, .rw, false, false, true, false, 0x0,
      0xf, 0x0, 0x0, 0x0, 0x0, 0x0, []⟩,
    ⟨"KPR_SESS_INFO", 0x20034, 0x0, 1, 0x0, 1, .ro, false, false, false, false, 0x0,
      0x0, 0x0, 0x0, 0x0, 0x3ff1f03, 0x0, []⟩,
    ⟨"KPR_SESS_ADDR", 0x20038, 0x0, 1, 0x0, 1, .ro, false, false, false, false, 0x0,
      0x0, 0x0, 0x0, 0x0, 0xffffffff, 0x0, []⟩,
    ⟨"KPR_SESS_PORT", 0x2003c, 0x0, 1, 0x0, 1, .ro, false, false, false, false, 0x0,
      0x0, 0x0, 0x0, 0x0, 0x7ffff, 0x0, []⟩,
    ⟨"KPR_GRP_SEL", 0x20040, 0x0, 1, 0x0, 1, .rw, false, true, true, false, 0x0,
      0xff, 0x0, 0x0, 0x0, 0x0, 0x0, []⟩,
    ⟨"KPR_GRP_CMD", 0x20044, 0x0, 1, 0x0, 1, .rw, false, true, false, false, 0x0,
      0x0, 0x0, 0x3, 0x0, 0x0, 0x0, []⟩,
    ⟨"KPR_GRP_OFS", 0x20048, 0x0, 1, 0x0, 1, .rw, false, true, true, false, 0x0,
      0xffffffff, 0x0, 0x0, 0x0, 0x0, 0x0, []⟩,
    ⟨"KPR_GRP_VAL", 0x2004c, 0x0, 1, 0x0, 1, .rw, false, true, true, false, 0x0,
      0xffffffff, 0x0, 0x0, 0x0, 0x0, 0x0, []⟩,
    ⟨"KPR_GRP_COUNT", 0x20050, 0x0, 1, 0x0, 1, .ro, false, false, false, false, 0x0,
      0x0, 0x0, 0x0, 0x0, 0x3ff, 0x0, []⟩,
    ⟨"KPR_COMMIT", 0x20054, 0x0, 1, 0x0, 1, .rw, false, true, true, false, 0x0,
      0x1ff, 0x0, 0x80000000, 0x0, 0x0, 0x0, []⟩,
    ⟨"KPR_COMMIT_FRAME_LO", 0x20058, 0x0, 1, 0x0, 1, .rw, false, true, true, false, 0x0,
      0xffffffff, 0x0, 0x0, 0x0, 0x0, 0x0, []⟩,
    ⟨"KPR_COMMIT_FRAME_HI", 0x2005c, 0x0, 1, 0x0, 1, .rw, false, true, true, false, 0x0,
      0xffff, 0x0, 0x0, 0x0, 0x0, 0x0, []⟩ ] ++
  [ ⟨"KPR_COMMIT_LINE", 0x20060, 0x0, 1, 0x0, 1, .rw, false, true, true, false, 0x0,
      0x1fff, 0x0, 0x0, 0x0, 0x0, 0x0, []⟩,
    ⟨"KPR_COMMIT_RESULT", 0x20064, 0x0, 1, 0x0, 1, .ro, false, false, true, false, 0x0,
      0x0, 0x0, 0x0, 0x0, 0xffff, 0x0, []⟩,
    ⟨"KPR_COMMIT_ERR_ADDR", 0x20068, 0x0, 1, 0x0, 1, .ro, false, false, true, false, 0x0,
      0x0, 0x0, 0x0, 0x0, 0xffffffff, 0x0, []⟩,
    ⟨"KPR_PENDING", 0x2006c, 0x0, 1, 0x0, 1, .ro, false, false, false, false, 0x0,
      0x0, 0x0, 0x0, 0x0, 0x7f, 0x0, []⟩ ]

/-- The EVT block's registers. -/
def specsEVT : List RegSpec :=
  [ ⟨"EVT_SESS_RATE", 0x30000, 0x0, 1, 0x0, 1, .rw, false, true, false, false, 0x64,
      0x3ff, 0x0, 0x0, 0x0, 0x0, 0x0, [.range 9 0 10 1000]⟩,
    ⟨"EVT_LOG_BASE", 0x30004, 0x0, 1, 0x0, 1, .lk, false, false, false, false, 0x0,
      0x0, 0x0, 0x0, 0x3fffff, 0x0, 0x0, []⟩,
    ⟨"EVT_LOG_SIZE", 0x30008, 0x0, 1, 0x0, 1, .lk, false, false, false, false, 0x0,
      0x0, 0x0, 0x0, 0x1ffff, 0x0, 0x0, [.range 16 0 256 65536]⟩,
    ⟨"EVT_LOG_HEAD", 0x3000c, 0x0, 1, 0x0, 1, .ro, false, false, false, false, 0x0,
      0x0, 0x0, 0x0, 0x0, 0xffff, 0x0, []⟩,
    ⟨"EVT_LOG_SEQ", 0x30010, 0x0, 1, 0x0, 1, .ro, false, false, false, false, 0x0,
      0x0, 0x0, 0x0, 0x0, 0xffffffff, 0x0, []⟩,
    ⟨"EVT_PENDj", 0x30020, 0x4, 8, 0x0, 1, .rw, false, false, false, false, 0x0,
      0x0, 0xffffffff, 0x0, 0x0, 0x0, 0x0, []⟩,
    ⟨"EVT_Cc_PENDj", 0x30100, 0x40, 8, 0x4, 8, .rw, false, false, false, false, 0x0,
      0x0, 0xffffffff, 0x0, 0x0, 0x0, 0x0, []⟩,
    ⟨"EVT_Cc_NEXT", 0x30120, 0x40, 8, 0x0, 1, .ro, false, false, false, false, 0x100,
      0x0, 0x0, 0x0, 0x0, 0x1ff, 0x0, []⟩,
    ⟨"EVT_ROUTEe", 0x30400, 0x4, 256, 0x0, 1, .rw, false, true, false, false, 0x0,
      0xcff, 0x0, 0x0, 0x300, 0x0, 0x0, []⟩ ]

/-- The NET block's registers. -/
def specsNET : List RegSpec :=
  [ ⟨"NET_CTRL", 0x40000, 0x2000, 6, 0x0, 1, .rw, false, true, false, false, 0x20,
      0xff, 0x0, 0x0, 0x0, 0x0, 0x0, [.code 2 1 2]⟩,
    ⟨"NET_STATUS", 0x40004, 0x2000, 6, 0x0, 1, .ro, false, false, false, false, 0x0,
      0x0, 0x0, 0x0, 0x0, 0x1f, 0x0, []⟩,
    ⟨"NET_MAX_FRAME", 0x40008, 0x2000, 6, 0x0, 1, .rw, false, true, false, false, 0x5ee,
      0x3fff, 0x0, 0x0, 0x0, 0x0, 0x0, [.range 13 0 1518 9216]⟩,
    ⟨"NET_MAC_LO", 0x4000c, 0x2000, 6, 0x0, 1, .rw, false, true, false, false, 0x0,
      0xffffffff, 0x0, 0x0, 0x0, 0x0, 0x0, []⟩,
    ⟨"NET_MAC_HI", 0x40010, 0x2000, 6, 0x0, 1, .rw, false, true, false, false, 0x0,
      0xffff, 0x0, 0x0, 0x0, 0x0, 0x0, []⟩,
    ⟨"NET_TS_EXT", 0x40014, 0x2000, 6, 0x0, 1, .rw, false, true, false, false, 0x0,
      0xffffffff, 0x0, 0x0, 0x0, 0x0, 0x0, []⟩,
    ⟨"NET_RXRk_BASE", 0x40100, 0x2000, 6, 0x10, 16, .rw, false, true, false, false, 0x0,
      0x3fffffff, 0x0, 0x0, 0x0, 0x0, 0x0, []⟩,
    ⟨"NET_RXRk_SIZE", 0x40104, 0x2000, 6, 0x10, 16, .rw, false, true, false, false, 0x0,
      0x1fff, 0x0, 0x0, 0x0, 0x0, 0x0, [.zeroOr 12 0 16 4096]⟩,
    ⟨"NET_RXRk_HEAD", 0x40108, 0x2000, 6, 0x10, 16, .ro, false, false, false, false, 0x0,
      0x0, 0x0, 0x0, 0x0, 0xfff, 0x0, []⟩,
    ⟨"NET_RXRk_TAIL", 0x4010c, 0x2000, 6, 0x10, 16, .rw, false, true, false, false, 0x0,
      0xfff, 0x0, 0x0, 0x0, 0x0, 0x0, []⟩,
    ⟨"NET_TXQq_BASE", 0x40200, 0x2000, 6, 0x20, 8, .rw, false, true, false, false, 0x0,
      0x3fffffff, 0x0, 0x0, 0x0, 0x0, 0x0, []⟩,
    ⟨"NET_TXQq_SIZE", 0x40204, 0x2000, 6, 0x20, 8, .rw, false, true, false, false, 0x0,
      0x1fff, 0x0, 0x0, 0x0, 0x0, 0x0, [.zeroOr 12 0 16 4096]⟩,
    ⟨"NET_TXQq_HEAD", 0x40208, 0x2000, 6, 0x20, 8, .ro, false, false, false, false, 0x0,
      0x0, 0x0, 0x0, 0x0, 0xfff, 0x0, []⟩,
    ⟨"NET_TXQq_TAIL", 0x4020c, 0x2000, 6, 0x20, 8, .rw, false, true, false, false, 0x0,
      0xfff, 0x0, 0x0, 0x0, 0x0, 0x0, []⟩,
    ⟨"NET_TXQq_CBS", 0x40210, 0x2000, 6, 0x20, 8, .rw, false, true, false, false, 0x0,
      0x1, 0x0, 0x0, 0x0, 0x0, 0x0, []⟩,
    ⟨"NET_TXQq_IDLE_SLOPE", 0x40214, 0x2000, 6, 0x20, 8, .rw, false, true, false, false, 0x0,
      0x1ffffff, 0x0, 0x0, 0x0, 0x0, 0x0, []⟩,
    ⟨"NET_TXQq_CREDIT", 0x40218, 0x2000, 6, 0x20, 8, .ro, false, false, false, false, 0x0,
      0x0, 0x0, 0x0, 0x0, 0xffffffff, 0x0, []⟩,
    ⟨"NET_RXRk_QUEUE", 0x40340, 0x2000, 6, 0x4, 16, .rw, false, true, false, false, 0x0,
      0x1f, 0x0, 0x0, 0x0, 0x0, 0x0, []⟩,
    ⟨"NET_TXTS_STATUS", 0x40300, 0x2000, 6, 0x0, 1, .rw, false, false, false, false, 0x0,
      0x0, 0x100, 0x0, 0x0, 0x1f, 0x0, []⟩,
    ⟨"NET_TXTS_TAG", 0x40304, 0x2000, 6, 0x0, 1, .ro, false, false, false, false, 0x0,
      0x0, 0x0, 0x0, 0x0, 0x1ffff, 0x0, []⟩,
    ⟨"NET_TXTS_LO", 0x40308, 0x2000, 6, 0x0, 1, .ro, false, false, false, false, 0x0,
      0x0, 0x0, 0x0, 0x0, 0xffffffff, 0x0, []⟩,
    ⟨"NET_TXTS_HI", 0x4030c, 0x2000, 6, 0x0, 1, .ro, false, false, false, false, 0x0,
      0x0, 0x0, 0x0, 0x0, 0xffffffff, 0x0, []⟩,
    ⟨"NET_TXTS_FRAC", 0x40310, 0x2000, 6, 0x0, 1, .ro, false, false, false, false, 0x0,
      0x0, 0x0, 0x0, 0x0, 0xff, 0x0, []⟩,
    ⟨"NET_RX_FRAMES", 0x40400, 0x2000, 6, 0x0, 1, .rc, false, false, false, false, 0x0,
      0x0, 0x0, 0x0, 0x0, 0xffffffff, 0x0, []⟩ ] ++
  [ ⟨"NET_RX_OCTETS_LO", 0x40404, 0x2000, 6, 0x0, 1, .rc, false, false, false, false, 0x0,
      0x0, 0x0, 0x0, 0x0, 0xffffffff, 0x0, []⟩,
    ⟨"NET_RX_OCTETS_HI", 0x40408, 0x2000, 6, 0x0, 1, .rc, false, false, false, false, 0x0,
      0x0, 0x0, 0x0, 0x0, 0xffffffff, 0x0, []⟩,
    ⟨"NET_RX_RUNT", 0x4040c, 0x2000, 6, 0x0, 1, .rc, false, false, false, false, 0x0,
      0x0, 0x0, 0x0, 0x0, 0xffffffff, 0x0, []⟩,
    ⟨"NET_RX_OVERSIZE", 0x40410, 0x2000, 6, 0x0, 1, .rc, false, false, false, false, 0x0,
      0x0, 0x0, 0x0, 0x0, 0xffffffff, 0x0, []⟩,
    ⟨"NET_RX_FCS", 0x40414, 0x2000, 6, 0x0, 1, .rc, false, false, false, false, 0x0,
      0x0, 0x0, 0x0, 0x0, 0xffffffff, 0x0, []⟩,
    ⟨"NET_RX_NOBUF", 0x40418, 0x2000, 6, 0x0, 1, .rc, false, false, false, false, 0x0,
      0x0, 0x0, 0x0, 0x0, 0xffffffff, 0x0, []⟩,
    ⟨"NET_RX_PAUSE", 0x4041c, 0x2000, 6, 0x0, 1, .rc, false, false, false, false, 0x0,
      0x0, 0x0, 0x0, 0x0, 0xffffffff, 0x0, []⟩,
    ⟨"NET_RX_FILTERED", 0x40420, 0x2000, 6, 0x0, 1, .rc, false, false, false, false, 0x0,
      0x0, 0x0, 0x0, 0x0, 0xffffffff, 0x0, []⟩,
    ⟨"NET_RX_CODE_ERR", 0x40424, 0x2000, 6, 0x0, 1, .rc, false, false, false, false, 0x0,
      0x0, 0x0, 0x0, 0x0, 0xffffffff, 0x0, []⟩,
    ⟨"NET_TX_FRAMES", 0x40428, 0x2000, 6, 0x0, 1, .rc, false, false, false, false, 0x0,
      0x0, 0x0, 0x0, 0x0, 0xffffffff, 0x0, []⟩,
    ⟨"NET_TX_OCTETS_LO", 0x4042c, 0x2000, 6, 0x0, 1, .rc, false, false, false, false, 0x0,
      0x0, 0x0, 0x0, 0x0, 0xffffffff, 0x0, []⟩,
    ⟨"NET_TX_OCTETS_HI", 0x40430, 0x2000, 6, 0x0, 1, .rc, false, false, false, false, 0x0,
      0x0, 0x0, 0x0, 0x0, 0xffffffff, 0x0, []⟩,
    ⟨"NET_CASCADE_FWD", 0x40434, 0x2000, 6, 0x0, 1, .rc, false, false, false, false, 0x0,
      0x0, 0x0, 0x0, 0x0, 0xffffffff, 0x0, []⟩,
    ⟨"NET_CASCADE_DROP", 0x40438, 0x2000, 6, 0x0, 1, .rc, false, false, false, false, 0x0,
      0x0, 0x0, 0x0, 0x0, 0xffffffff, 0x0, []⟩,
    ⟨"NET_CASCADE_STOMPED", 0x4043c, 0x2000, 6, 0x0, 1, .rc, false, false, false, false, 0x0,
      0x0, 0x0, 0x0, 0x0, 0xffffffff, 0x0, []⟩,
    ⟨"NET_TC_CORRECTED", 0x40440, 0x2000, 6, 0x0, 1, .rc, false, false, false, false, 0x0,
      0x0, 0x0, 0x0, 0x0, 0xffffffff, 0x0, []⟩,
    ⟨"NET_CASCADE_CTRL", 0x4c000, 0x0, 1, 0x0, 1, .rw, false, true, false, false, 0x0,
      0x3, 0x0, 0x0, 0x0, 0x0, 0x0, []⟩,
    ⟨"NET_STRM_TIMEOUT", 0x4c004, 0x0, 1, 0x0, 1, .rw, false, true, false, false, 0x64,
      0x3fff, 0x0, 0x0, 0x0, 0x0, 0x0, [.range 13 0 10 10000]⟩,
    ⟨"NET_PATH_SKEW", 0x4c008, 0x0, 1, 0x0, 1, .rw, false, true, false, false, 0x3e8,
      0x3fff, 0x0, 0x0, 0x0, 0x0, 0x0, [.range 13 0 100 10000]⟩,
    ⟨"NET_SACN_BASE", 0x4c00c, 0x0, 1, 0x0, 1, .lk, false, false, false, false, 0x0,
      0x0, 0x0, 0x0, 0xffffffff, 0x0, 0x0, [.mult 31 0 64]⟩,
    ⟨"NET_SACN_COUNT", 0x4c010, 0x0, 1, 0x0, 1, .rw, true, true, false, false, 0x0,
      0x1fff, 0x0, 0x0, 0x0, 0x0, 0x0, [.range 12 0 0 4096]⟩,
    ⟨"NET_SACN_TIMEOUT", 0x4c014, 0x0, 1, 0x0, 1, .rw, false, true, false, false, 0x9c4,
      0x3fff, 0x0, 0x0, 0x0, 0x0, 0x0, [.range 13 0 1000 10000]⟩,
    ⟨"NET_SACN_DISCARD", 0x4c018, 0x0, 1, 0x0, 1, .rc, false, false, false, false, 0x0,
      0x0, 0x0, 0x0, 0x0, 0xffffffff, 0x0, []⟩,
    ⟨"NET_STEER_r", 0x4c020, 0x4, 16, 0x0, 1, .rw, false, true, false, false, 0x0,
      0x3ff3ffff, 0x0, 0x0, 0x0, 0x0, 0x0, []⟩ ] ++
  [ ⟨"STRM_CTRL", 0x4c400, 0x40, 32, 0x0, 1, .rw, true, true, false, false, 0x6000,
      0x7f3f, 0x0, 0x0, 0x0, 0x0, 0x0, [.range 14 8 96 127]⟩,
    ⟨"STRM_GROUP", 0x4c404, 0x40, 32, 0x0, 1, .rw, true, true, false, false, 0x0,
      0xffffffff, 0x0, 0x0, 0x0, 0x0, 0x0, []⟩,
    ⟨"STRM_SOURCE", 0x4c408, 0x40, 32, 0x0, 1, .rw, true, true, false, false, 0x0,
      0xffffffff, 0x0, 0x0, 0x0, 0x0, 0x0, []⟩,
    ⟨"STRM_UDP", 0x4c40c, 0x40, 32, 0x0, 1, .rw, true, true, false, false, 0x0,
      0xffff, 0x0, 0x0, 0x0, 0x0, 0x0, []⟩,
    ⟨"STRM_SIZE", 0x4c410, 0x40, 32, 0x0, 1, .rw, true, true, false, false, 0x0,
      0x3fff3fff, 0x0, 0x0, 0x0, 0x0, 0x0, [.range 13 0 16 8192, .range 29 16 16 8192]⟩,
    ⟨"STRM_BUF", 0x4c414, 0x40, 32, 0x0, 1, .rw, true, true, false, false, 0x0,
      0x3fffff, 0x0, 0x0, 0x0, 0x0, 0x0, []⟩,
    ⟨"STRM_STATUS", 0x4c418, 0x40, 32, 0x0, 1, .ro, false, false, false, false, 0x0,
      0x0, 0x0, 0x0, 0x0, 0x37, 0x0, []⟩,
    ⟨"STRM_LAST_RTP", 0x4c41c, 0x40, 32, 0x0, 1, .ro, false, false, false, false, 0x0,
      0x0, 0x0, 0x0, 0x0, 0xffffffff, 0x0, []⟩,
    ⟨"STRM_PKTS_A", 0x4c420, 0x40, 32, 0x0, 1, .rc, false, false, false, false, 0x0,
      0x0, 0x0, 0x0, 0x0, 0xffffffff, 0x0, []⟩,
    ⟨"STRM_PKTS_B", 0x4c424, 0x40, 32, 0x0, 1, .rc, false, false, false, false, 0x0,
      0x0, 0x0, 0x0, 0x0, 0xffffffff, 0x0, []⟩,
    ⟨"STRM_RECOVERED", 0x4c428, 0x40, 32, 0x0, 1, .rc, false, false, false, false, 0x0,
      0x0, 0x0, 0x0, 0x0, 0xffffffff, 0x0, []⟩,
    ⟨"STRM_LOST", 0x4c42c, 0x40, 32, 0x0, 1, .rc, false, false, false, false, 0x0,
      0x0, 0x0, 0x0, 0x0, 0xffffffff, 0x0, []⟩,
    ⟨"STRM_FRAMES", 0x4c430, 0x40, 32, 0x0, 1, .rc, false, false, false, false, 0x0,
      0x0, 0x0, 0x0, 0x0, 0xffffffff, 0x0, []⟩,
    ⟨"STRM_INCOMPLETE", 0x4c434, 0x40, 32, 0x0, 1, .rc, false, false, false, false, 0x0,
      0x0, 0x0, 0x0, 0x0, 0xffffffff, 0x0, []⟩,
    ⟨"STRM_LATE", 0x4c438, 0x40, 32, 0x0, 1, .rc, false, false, false, false, 0x0,
      0x0, 0x0, 0x0, 0x0, 0xffffffff, 0x0, []⟩,
    ⟨"STRM_FORMAT", 0x4c43c, 0x40, 32, 0x0, 1, .rc, false, false, false, false, 0x0,
      0x0, 0x0, 0x0, 0x0, 0xffffffff, 0x0, []⟩ ]

/-- The SHOW block's registers. -/
def specsSHOW : List RegSpec :=
  [ ⟨"SHOW_CTRL", 0x60000, 0x0, 1, 0x0, 1, .rw, false, true, false, false, 0x2,
      0x1b, 0x0, 0x4, 0x0, 0x0, 0x0, []⟩,
    ⟨"SHOW_SRC_ORDER", 0x60004, 0x0, 1, 0x0, 1, .rw, false, true, false, false, 0x543210,
      0xffffff, 0x0, 0x0, 0x0, 0x0, 0x0, []⟩,
    ⟨"SHOW_SRC_STATUS", 0x60008, 0x0, 1, 0x0, 1, .ro, false, false, false, false, 0x2005,
      0x0, 0x0, 0x0, 0x0, 0xffff7f7f, 0x0, []⟩,
    ⟨"SHOW_HOLD_CFG", 0x6000c, 0x0, 1, 0x0, 1, .rw, false, true, false, false, 0xa000a,
      0xfff0fff, 0x0, 0x0, 0x0, 0x0, 0x0, [.range 11 0 1 3600, .range 27 16 0 3600]⟩,
    ⟨"SHOW_SLEW", 0x60010, 0x0, 1, 0x0, 1, .rw, false, true, false, false, 0x3e80064,
      0xffff03ff, 0x0, 0x0, 0x0, 0x0, 0x0, [.range 9 0 1 1000, .range 31 16 1 65535]⟩,
    ⟨"SHOW_OFFSET", 0x60014, 0x0, 1, 0x0, 1, .ro, false, false, false, false, 0x0,
      0x0, 0x0, 0x0, 0x0, 0xffffffff, 0x0, []⟩,
    ⟨"SHOW_RATE_ADJ", 0x60018, 0x0, 1, 0x0, 1, .ro, false, false, false, false, 0x0,
      0x0, 0x0, 0x0, 0x0, 0xffffffff, 0x0, []⟩,
    ⟨"SHOW_TIME_LO", 0x60020, 0x0, 1, 0x0, 1, .ro, false, false, false, false, 0x0,
      0x0, 0x0, 0x0, 0x0, 0xffffffff, 0x0, []⟩,
    ⟨"SHOW_TIME_HI", 0x60024, 0x0, 1, 0x0, 1, .ro, false, false, false, false, 0x0,
      0x0, 0x0, 0x0, 0x0, 0xffffffff, 0x0, []⟩,
    ⟨"SHOW_FRAME_LO", 0x60028, 0x0, 1, 0x0, 1, .ro, false, false, false, false, 0x0,
      0x0, 0x0, 0x0, 0x0, 0xffffffff, 0x0, []⟩,
    ⟨"SHOW_FRAME_HI", 0x6002c, 0x0, 1, 0x0, 1, .ro, false, false, false, false, 0x0,
      0x0, 0x0, 0x0, 0x0, 0xffff, 0x0, []⟩,
    ⟨"SHOW_POS", 0x60030, 0x0, 1, 0x0, 1, .ro, false, false, false, false, 0x0,
      0x0, 0x0, 0x0, 0x0, 0x7fffffff, 0x0, []⟩,
    ⟨"SHOW_V_TOTAL", 0x60040, 0x0, 1, 0x0, 1, .rw, true, true, false, false, 0x465,
      0x3fff, 0x0, 0x0, 0x0, 0x0, 0x0, [.range 13 0 64 8192]⟩,
    ⟨"SHOW_V_ACTIVE", 0x60044, 0x0, 1, 0x0, 1, .rw, true, true, false, false, 0x438,
      0x3fff, 0x0, 0x0, 0x0, 0x0, 0x0, [.range 13 0 16 8190]⟩,
    ⟨"SHOW_LATCH_LINE", 0x60048, 0x0, 1, 0x0, 1, .rw, true, true, false, false, 0x0,
      0x1fff, 0x0, 0x0, 0x0, 0x0, 0x0, []⟩,
    ⟨"SHOW_RATE_NUM", 0x6004c, 0x0, 1, 0x0, 1, .rw, true, true, false, false, 0x3c,
      0x3ffff, 0x0, 0x0, 0x0, 0x0, 0x0, [.range 17 0 1 262143]⟩,
    ⟨"SHOW_RATE_DEN", 0x60050, 0x0, 1, 0x0, 1, .rw, true, true, false, false, 0x1,
      0xffff, 0x0, 0x0, 0x0, 0x0, 0x0, [.range 15 0 1 65535]⟩,
    ⟨"SHOW_MODE_STATE", 0x60054, 0x0, 1, 0x0, 1, .ro, false, false, false, false, 0x0,
      0x0, 0x0, 0x0, 0x0, 0xff03, 0x0, []⟩,
    ⟨"SHOW_GLK_DELAY", 0x60058, 0x0, 1, 0x0, 1, .rw, false, true, false, false, 0x0,
      0xffffffff, 0x0, 0x0, 0x0, 0x0, 0x0, [.signed 31 0 (-1000000) (1000000)]⟩,
    ⟨"SHOW_LTC_CFG", 0x6005c, 0x0, 1, 0x0, 1, .rw, false, true, false, false, 0x1,
      0xffffff0f, 0x0, 0x0, 0x0, 0x0, 0x0, [.range 3 0 1 8, .range 31 8 0 86399]⟩,
    ⟨"SHOW_WCLK_CFG", 0x60060, 0x0, 1, 0x0, 1, .rw, false, true, false, false, 0x40320,
      0x1fffff, 0x0, 0x0, 0x0, 0x0, 0x0, [.code 20 18 5, .range 17 0 1 262143]⟩,
    ⟨"SHOW_PTP_CFG", 0x60064, 0x0, 1, 0x0, 1, .rw, false, true, false, false, 0x7f,
      0xfff, 0x0, 0x0, 0x0, 0x0, 0x0, [.range 7 0 0 127, .range 10 8 0 5]⟩,
    ⟨"SHOW_PTP_PHASE_OFFSET", 0x60070, 0x0, 1, 0x0, 1, .ro, false, false, false, false, 0x0,
      0x0, 0x0, 0x0, 0x0, 0xffffffff, 0x0, []⟩,
    ⟨"SHOW_FRAME_BASE_LO", 0x60074, 0x0, 1, 0x0, 1, .ro, false, false, false, false, 0x0,
      0x0, 0x0, 0x0, 0x0, 0xffffffff, 0x0, []⟩ ] ++
  [ ⟨"SHOW_FRAME_BASE_HI", 0x60078, 0x0, 1, 0x0, 1, .ro, false, false, false, false, 0x0,
      0x0, 0x0, 0x0, 0x0, 0xffff, 0x0, []⟩,
    ⟨"SHOW_FRAME_SET_LO", 0x60080, 0x0, 1, 0x0, 1, .rw, false, true, false, false, 0x0,
      0xffffffff, 0x0, 0x0, 0x0, 0x0, 0x0, []⟩,
    ⟨"SHOW_FRAME_SET_HI", 0x60084, 0x0, 1, 0x0, 1, .rw, false, true, false, false, 0x0,
      0xffff, 0x0, 0x0, 0x0, 0x0, 0x0, []⟩,
    ⟨"SHOW_FRAME_SET_CTRL", 0x60088, 0x0, 1, 0x0, 1, .rw, false, true, false, false, 0x0,
      0x2, 0x0, 0x1, 0x0, 0x0, 0x0, []⟩,
    ⟨"SHOW_COMMIT_STATE", 0x60090, 0x0, 1, 0x0, 1, .ro, false, false, false, false, 0x0,
      0x0, 0x0, 0x0, 0x0, 0xffff0f, 0x0, []⟩,
    ⟨"SHOW_COMMIT_FRAME_LO", 0x60094, 0x0, 1, 0x0, 1, .ro, false, false, false, false, 0x0,
      0x0, 0x0, 0x0, 0x0, 0xffffffff, 0x0, []⟩,
    ⟨"SHOW_COMMIT_FRAME_HI", 0x60098, 0x0, 1, 0x0, 1, .ro, false, false, false, false, 0x0,
      0x0, 0x0, 0x0, 0x0, 0xffff, 0x0, []⟩,
    ⟨"SHOW_LL_CTRL", 0x600a0, 0x0, 1, 0x0, 1, .rw, false, true, false, false, 0x0,
      0x1, 0x0, 0x2, 0x0, 0x30, 0x0, []⟩,
    ⟨"SHOW_LL_BASE", 0x600a4, 0x0, 1, 0x0, 1, .lk, false, false, false, false, 0x0,
      0x0, 0x0, 0x0, 0x3fffff, 0x0, 0x0, [.mult 21 0 128]⟩,
    ⟨"SHOW_LL_COUNT0", 0x600a8, 0x0, 1, 0x0, 1, .rw, false, true, false, false, 0x0,
      0x7fff, 0x0, 0x0, 0x0, 0x0, 0x0, [.range 14 0 0 16384]⟩,
    ⟨"SHOW_LL_COUNT1", 0x600ac, 0x0, 1, 0x0, 1, .rw, false, true, false, false, 0x0,
      0x7fff, 0x0, 0x0, 0x0, 0x0, 0x0, [.range 14 0 0 16384]⟩,
    ⟨"SHOW_LL_STATUS", 0x600b0, 0x0, 1, 0x0, 1, .ro, false, false, false, false, 0x0,
      0x0, 0x0, 0x0, 0x0, 0xff3fff, 0x0, []⟩,
    ⟨"SHOW_LL_NEXT", 0x600b4, 0x0, 1, 0x0, 1, .ro, false, false, false, false, 0x80000000,
      0x0, 0x0, 0x0, 0x0, 0x80003fff, 0x0, []⟩,
    ⟨"SHOW_LL_MISSED", 0x600b8, 0x0, 1, 0x0, 1, .rc, false, false, false, false, 0x0,
      0x0, 0x0, 0x0, 0x0, 0xffffffff, 0x0, []⟩,
    ⟨"SHOW_LL_LAST_MISSED", 0x600bc, 0x0, 1, 0x0, 1, .ro, false, false, false, false, 0x0,
      0x0, 0x0, 0x0, 0x0, 0xffff3fff, 0x0, []⟩,
    ⟨"SHOW_SNAP_BASE", 0x600c0, 0x0, 1, 0x0, 1, .lk, false, false, false, false, 0x0,
      0x0, 0x0, 0x0, 0x3fffff, 0x0, 0x0, [.mult 21 0 16]⟩,
    ⟨"SHOW_SNAP_STATUS", 0x600c4, 0x0, 1, 0x0, 1, .rw, false, false, false, false, 0x0,
      0x0, 0xff0, 0x0, 0x0, 0xf00f, 0x0, []⟩ ]

/-- The QUE block's registers. -/
def specsQUE : List RegSpec :=
  [ ⟨"QUE_CTRL", 0x70000, 0x80, 32, 0x0, 1, .rw, false, true, false, false, 0x0,
      0x3, 0x0, 0x4, 0x0, 0x0, 0x0, []⟩,
    ⟨"QUE_BASE", 0x70004, 0x80, 32, 0x0, 1, .rw, false, true, false, false, 0x0,
      0x1ffff, 0x0, 0x0, 0x0, 0x0, 0x0, [.mult 16 0 64, .range 16 0 0 131008]⟩,
    ⟨"QUE_SIZE", 0x70008, 0x80, 32, 0x0, 1, .rw, false, true, false, false, 0x0,
      0x1ffff, 0x0, 0x0, 0x0, 0x0, 0x0, [.mult 16 0 64, .zeroOr 16 0 64 65536]⟩,
    ⟨"QUE_HIGH_WM", 0x7000c, 0x80, 32, 0x0, 1, .rw, false, true, false, false, 0x0,
      0x1ffff, 0x0, 0x0, 0x0, 0x0, 0x0, []⟩,
    ⟨"QUE_LOW_WM", 0x70010, 0x80, 32, 0x0, 1, .rw, false, true, false, false, 0x0,
      0x1ffff, 0x0, 0x0, 0x0, 0x0, 0x0, []⟩,
    ⟨"QUE_STALE_TIME", 0x70014, 0x80, 32, 0x0, 1, .rw, false, true, false, false, 0x0,
      0xfffff, 0x0, 0x0, 0x0, 0x0, 0x0, [.zeroOr 19 0 10 1000000]⟩,
    ⟨"QUE_LEVEL", 0x70018, 0x80, 32, 0x0, 1, .ro, false, false, false, false, 0x0,
      0x0, 0x0, 0x0, 0x0, 0x1ffff, 0x0, []⟩,
    ⟨"QUE_ITEMS", 0x7001c, 0x80, 32, 0x0, 1, .ro, false, false, false, false, 0x0,
      0x0, 0x0, 0x0, 0x0, 0xffffffff, 0x0, []⟩,
    ⟨"QUE_STATUS", 0x70020, 0x80, 32, 0x0, 1, .rw, false, false, false, false, 0x0,
      0x0, 0x7, 0x0, 0x0, 0x700, 0x0, []⟩,
    ⟨"QUE_HI_COUNT", 0x70024, 0x80, 32, 0x0, 1, .rc, false, false, false, false, 0x0,
      0x0, 0x0, 0x0, 0x0, 0xffffffff, 0x0, []⟩,
    ⟨"QUE_LO_COUNT", 0x70028, 0x80, 32, 0x0, 1, .rc, false, false, false, false, 0x0,
      0x0, 0x0, 0x0, 0x0, 0xffffffff, 0x0, []⟩,
    ⟨"QUE_STALE_COUNT", 0x7002c, 0x80, 32, 0x0, 1, .rc, false, false, false, false, 0x0,
      0x0, 0x0, 0x0, 0x0, 0xffffffff, 0x0, []⟩,
    ⟨"QUE_FLUSH_PARTIAL", 0x70030, 0x80, 32, 0x0, 1, .rc, false, false, false, false, 0x0,
      0x0, 0x0, 0x0, 0x0, 0xffffffff, 0x0, []⟩,
    ⟨"QUE_REFUSED", 0x70034, 0x80, 32, 0x0, 1, .rc, false, false, false, false, 0x0,
      0x0, 0x0, 0x0, 0x0, 0xffffffff, 0x0, []⟩,
    ⟨"QUE_PUSH_ERR", 0x70038, 0x80, 32, 0x0, 1, .ro, false, false, false, false, 0x0,
      0x0, 0x0, 0x0, 0x0, 0xfff, 0x0, []⟩,
    ⟨"QUE_PUSH", 0x70040, 0x80, 32, 0x0, 1, .rw, false, false, false, false, 0x0,
      0x0, 0x0, 0x0, 0x0, 0x0, 0xffffffff, []⟩,
    ⟨"QUE_POP", 0x70044, 0x80, 32, 0x0, 1, .ro, false, false, false, false, 0x0,
      0x0, 0x0, 0x0, 0x0, 0xffffffff, 0x0, []⟩,
    ⟨"QUE_DATA", 0x70048, 0x80, 32, 0x0, 1, .ro, false, false, false, false, 0x0,
      0x0, 0x0, 0x0, 0x0, 0xffffffff, 0x0, []⟩,
    ⟨"QUE_CMD", 0x7004c, 0x80, 32, 0x0, 1, .rw, false, false, false, false, 0x0,
      0x0, 0x0, 0x0, 0x0, 0x0, 0xf, [.code 3 2 2]⟩,
    ⟨"QUE_DB_ENTRY", 0x70050, 0x80, 32, 0x0, 1, .rw, false, true, false, false, 0x0,
      0xffffffff, 0x0, 0x0, 0x0, 0x0, 0x0, []⟩,
    ⟨"QUE_DB_CFG", 0x70054, 0x80, 32, 0x0, 1, .rw, false, true, false, false, 0xff000000,
      0xffffffff, 0x0, 0x0, 0x0, 0x0, 0x0, []⟩,
    ⟨"QUE_DB_AFF", 0x70058, 0x80, 32, 0x0, 1, .rw, false, true, false, false, 0x0,
      0xff, 0x0, 0x0, 0x0, 0x0, 0x0, []⟩ ]

/-- The SCH block's registers. -/
def specsSCH : List RegSpec :=
  [ ⟨"SCH_CTRL", 0x80000, 0x0, 1, 0x0, 1, .rw, false, true, false, false, 0x1,
      0x1, 0x0, 0x0, 0x0, 0x0, 0x0, []⟩,
    ⟨"SCH_CORE_EN", 0x80004, 0x0, 1, 0x0, 1, .rw, false, true, false, false, 0xff,
      0xff, 0x0, 0x0, 0x0, 0x0, 0x0, []⟩,
    ⟨"SCH_AFFINITY_WAIT", 0x80008, 0x0, 1, 0x0, 1, .rw, false, true, false, false, 0x14,
      0xff, 0x0, 0x0, 0x0, 0x0, 0x0, []⟩,
    ⟨"SCH_FREE", 0x8000c, 0x0, 1, 0x0, 1, .ro, false, false, false, false, 0x1000,
      0x0, 0x0, 0x0, 0x0, 0x1fff, 0x0, []⟩,
    ⟨"SCH_LOW_SLOTS", 0x80010, 0x0, 1, 0x0, 1, .rw, false, true, false, false, 0x100,
      0x1fff, 0x0, 0x0, 0x0, 0x0, 0x0, []⟩,
    ⟨"SCH_ROB_USED", 0x80014, 0x0, 1, 0x0, 1, .ro, false, false, false, false, 0x0,
      0x0, 0x0, 0x0, 0x0, 0x7fff, 0x0, []⟩,
    ⟨"SCH_DISPATCHED", 0x80020, 0x0, 1, 0x0, 1, .rc, false, false, false, false, 0x0,
      0x0, 0x0, 0x0, 0x0, 0xffffffff, 0x0, []⟩,
    ⟨"SCH_REFUSED", 0x80024, 0x0, 1, 0x0, 1, .rc, false, false, false, false, 0x0,
      0x0, 0x0, 0x0, 0x0, 0xffffffff, 0x0, []⟩,
    ⟨"SCH_CANCELLED", 0x80028, 0x0, 1, 0x0, 1, .rc, false, false, false, false, 0x0,
      0x0, 0x0, 0x0, 0x0, 0xffffffff, 0x0, []⟩,
    ⟨"SCH_AFF_HIT", 0x8002c, 0x0, 1, 0x0, 1, .rc, false, false, false, false, 0x0,
      0x0, 0x0, 0x0, 0x0, 0xffffffff, 0x0, []⟩,
    ⟨"SCH_AFF_MISS", 0x80030, 0x0, 1, 0x0, 1, .rc, false, false, false, false, 0x0,
      0x0, 0x0, 0x0, 0x0, 0xffffffff, 0x0, []⟩,
    ⟨"SCH_DLY_CFGd", 0x80040, 0x4, 8, 0x0, 1, .rw, false, true, false, false, 0x1,
      0x800003ff, 0x0, 0x0, 0x0, 0x0, 0x0, [.range 9 0 1 1000]⟩,
    ⟨"SCH_PORT_STALLED_LO", 0x80060, 0x0, 1, 0x0, 1, .ro, false, false, false, false, 0x0,
      0x0, 0x0, 0x0, 0x0, 0xffffffff, 0x0, []⟩,
    ⟨"SCH_PORT_STALLED_HI", 0x80064, 0x0, 1, 0x0, 1, .ro, false, false, false, false, 0x0,
      0x0, 0x0, 0x0, 0x0, 0x1ff, 0x0, []⟩,
    ⟨"SCH_PORT_RESERVEp", 0x80100, 0x4, 41, 0x0, 1, .rw, false, true, false, false, 0x0,
      0xffffffff, 0x0, 0x0, 0x0, 0x0, 0x0, [.range 31 0 0 4095]⟩,
    ⟨"SCH_SUB_W0", 0x80200, 0x0, 1, 0x0, 1, .rw, false, false, false, false, 0x0,
      0x0, 0x0, 0x0, 0x0, 0x0, 0xffffffff, []⟩,
    ⟨"SCH_SUB_W1", 0x80204, 0x0, 1, 0x0, 1, .rw, false, false, false, false, 0x0,
      0x0, 0x0, 0x0, 0x0, 0x0, 0xffffffff, []⟩,
    ⟨"SCH_SUB_W2", 0x80208, 0x0, 1, 0x0, 1, .rw, false, false, false, false, 0x0,
      0x0, 0x0, 0x0, 0x0, 0x0, 0xffffffff, []⟩,
    ⟨"SCH_SUB_W3", 0x8020c, 0x0, 1, 0x0, 1, .rw, false, false, false, false, 0x0,
      0x0, 0x0, 0x0, 0x0, 0x0, 0xffffffff, []⟩,
    ⟨"SCH_SUB_RESULT", 0x80210, 0x0, 1, 0x0, 1, .ro, false, false, false, false, 0x0,
      0x0, 0x0, 0x0, 0x0, 0xffffff, 0x0, []⟩,
    ⟨"SCH_CANCEL", 0x80220, 0x0, 1, 0x0, 1, .rw, false, false, false, false, 0x0,
      0x0, 0x0, 0x0, 0x0, 0x0, 0xffffffff, []⟩,
    ⟨"SCH_CANCEL_RESULT", 0x80224, 0x0, 1, 0x0, 1, .ro, false, false, false, false, 0x0,
      0x0, 0x0, 0x0, 0x0, 0x3, 0x0, []⟩,
    ⟨"SCH_FLOW_SEL", 0x80230, 0x0, 1, 0x0, 1, .rw, false, false, true, false, 0x0,
      0x3ff, 0x0, 0x0, 0x0, 0x0, 0x0, []⟩,
    ⟨"SCH_FLOW_INFO", 0x80234, 0x0, 1, 0x0, 1, .ro, false, false, false, false, 0x0,
      0x0, 0x0, 0x0, 0x0, 0x1fff1fff, 0x0, []⟩ ] ++
  [ ⟨"SCH_Cc_HANDLE", 0x80400, 0x20, 8, 0x0, 1, .ro, false, false, false, false, 0x0,
      0x0, 0x0, 0x0, 0x0, 0xffff, 0x0, []⟩,
    ⟨"SCH_Cc_ENTRY", 0x80404, 0x20, 8, 0x0, 1, .ro, false, false, false, false, 0x0,
      0x0, 0x0, 0x0, 0x0, 0xffffffff, 0x0, []⟩,
    ⟨"SCH_Cc_ARG", 0x80408, 0x20, 8, 0x0, 1, .ro, false, false, false, false, 0x0,
      0x0, 0x0, 0x0, 0x0, 0xffffffff, 0x0, []⟩,
    ⟨"SCH_Cc_DONE", 0x8040c, 0x20, 8, 0x0, 1, .rw, false, false, false, false, 0x0,
      0x0, 0x0, 0x0, 0x0, 0x0, 0xffffffff, []⟩,
    ⟨"SCH_Cc_STATE", 0x80410, 0x20, 8, 0x0, 1, .ro, false, false, false, false, 0x0,
      0x0, 0x0, 0x0, 0x0, 0x3, 0x0, []⟩ ]

/-- The CMP block's registers. -/
def specsCMP : List RegSpec :=
  [ ⟨"CMP_CTRL", 0x100000, 0x0, 1, 0x0, 1, .rw, true, true, false, false, 0x1,
      0x1, 0x0, 0x2, 0x0, 0x0, 0x0, []⟩,
    ⟨"CMP_CANVAS_SIZE", 0x100004, 0x0, 1, 0x0, 1, .rw, true, true, false, false, 0x4380780,
      0x3fff7fff, 0x0, 0x0, 0x0, 0x0, 0x0, [.range 14 0 16 16384, .range 29 16 16 8192]⟩,
    ⟨"CMP_CANVAS_MAX", 0x100008, 0x0, 1, 0x0, 1, .lk, false, false, false, false, 0x0,
      0x0, 0x0, 0x0, 0xffffff, 0x0, 0x0, [.range 23 0 256 8388608]⟩,
    ⟨"CMP_CANVAS_BASE", 0x10000c, 0x0, 1, 0x0, 1, .lk, false, false, false, false, 0x0,
      0x0, 0x0, 0x0, 0x3fffff, 0x0, 0x0, []⟩,
    ⟨"CMP_CACHE_BASE", 0x100010, 0x0, 1, 0x0, 1, .lk, false, false, false, false, 0x0,
      0x0, 0x0, 0x0, 0x3fffff, 0x0, 0x0, []⟩,
    ⟨"CMP_BG_RG", 0x100014, 0x0, 1, 0x0, 1, .rw, true, true, false, false, 0x0,
      0xffffffff, 0x0, 0x0, 0x0, 0x0, 0x0, []⟩,
    ⟨"CMP_BG_B", 0x100018, 0x0, 1, 0x0, 1, .rw, true, true, false, false, 0x0,
      0xffff, 0x0, 0x0, 0x0, 0x0, 0x0, []⟩,
    ⟨"CMP_DONE_LINE", 0x10001c, 0x0, 1, 0x0, 1, .rw, true, true, false, false, 0x232,
      0x1fff, 0x0, 0x0, 0x0, 0x0, 0x0, [.range 12 0 1 8191]⟩,
    ⟨"CMP_PQ_PEAK", 0x100020, 0x0, 1, 0x0, 1, .rw, true, true, false, false, 0x3e8,
      0x3fff, 0x0, 0x0, 0x0, 0x0, 0x0, [.range 13 0 100 10000]⟩,
    ⟨"CMP_CACHE_SPLIT01", 0x100024, 0x0, 1, 0x0, 1, .rw, true, true, false, false, 0x3fff3fff,
      0x3fff3fff, 0x0, 0x0, 0x0, 0x0, 0x0, []⟩,
    ⟨"CMP_CACHE_SPLIT2", 0x100028, 0x0, 1, 0x0, 1, .rw, true, true, false, false, 0x3fff,
      0x3fff, 0x0, 0x0, 0x0, 0x0, 0x0, []⟩,
    ⟨"CMP_SAFE_RESERVE", 0x10002c, 0x0, 1, 0x0, 1, .lk, false, false, false, false, 0x0,
      0x0, 0x0, 0x0, 0x1f, 0x0, 0x0, [.range 4 0 0 16]⟩,
    ⟨"CMP_COEF_BASE", 0x100030, 0x0, 1, 0x0, 1, .lk, false, false, false, false, 0x0,
      0x0, 0x0, 0x0, 0x3fffffff, 0x0, 0x0, []⟩,
    ⟨"CMP_COEF_CTRL", 0x100034, 0x0, 1, 0x0, 1, .rw, false, true, false, false, 0x0,
      0x0, 0x0, 0x1, 0x0, 0xff00, 0x0, []⟩,
    ⟨"CMP_STATUS", 0x100040, 0x0, 1, 0x0, 1, .ro, false, false, false, false, 0x0,
      0x0, 0x0, 0x0, 0x0, 0x3f3f, 0x0, []⟩,
    ⟨"CMP_ROW_DONE", 0x100044, 0x0, 1, 0x0, 1, .ro, false, false, false, false, 0x0,
      0x0, 0x0, 0x0, 0x0, 0x3fff, 0x0, []⟩,
    ⟨"CMP_EST_TIME", 0x100048, 0x0, 1, 0x0, 1, .ro, false, false, false, false, 0x0,
      0x0, 0x0, 0x0, 0x0, 0xfffff, 0x0, []⟩,
    ⟨"CMP_LAST_TIME", 0x10004c, 0x0, 1, 0x0, 1, .ro, false, false, false, false, 0x0,
      0x0, 0x0, 0x0, 0x0, 0xfffff, 0x0, []⟩,
    ⟨"CMP_DONE_FRAME_LO", 0x100050, 0x0, 1, 0x0, 1, .ro, false, false, false, false, 0x0,
      0x0, 0x0, 0x0, 0x0, 0xffffffff, 0x0, []⟩,
    ⟨"CMP_DONE_FRAME_HI", 0x100054, 0x0, 1, 0x0, 1, .ro, false, false, false, false, 0x0,
      0x0, 0x0, 0x0, 0x0, 0xffff, 0x0, []⟩,
    ⟨"CMP_LATE", 0x100058, 0x0, 1, 0x0, 1, .rc, false, false, false, false, 0x0,
      0x0, 0x0, 0x0, 0x0, 0xffffffff, 0x0, []⟩,
    ⟨"CMP_PARITY", 0x10005c, 0x0, 1, 0x0, 1, .rc, false, false, false, false, 0x0,
      0x0, 0x0, 0x0, 0x0, 0xffffffff, 0x0, []⟩,
    ⟨"CMP_PARITY_LAST", 0x100060, 0x0, 1, 0x0, 1, .ro, false, false, false, false, 0x0,
      0x0, 0x0, 0x0, 0x0, 0x7fffffff, 0x0, []⟩,
    ⟨"CMP_CACHE_BUILDS", 0x100064, 0x0, 1, 0x0, 1, .rc, false, false, false, false, 0x0,
      0x0, 0x0, 0x0, 0x0, 0xffffffff, 0x0, []⟩ ] ++
  [ ⟨"CMP_SRC_MISSING", 0x100068, 0x0, 1, 0x0, 1, .rc, false, false, false, false, 0x0,
      0x0, 0x0, 0x0, 0x0, 0xffffffff, 0x0, []⟩,
    ⟨"CMP_LYR_CTRL", 0x101000, 0x100, 16, 0x0, 1, .rw, true, true, false, false, 0x0,
      0xfff, 0x0, 0x0, 0x0, 0x0, 0x0, [.code 3 2 2, .code 11 10 2]⟩,
    ⟨"CMP_LYR_SRC", 0x101004, 0x100, 16, 0x0, 1, .rw, true, true, false, false, 0x10000,
      0xff0ffb, 0x0, 0x0, 0x0, 0x0, 0x0, [.code 1 0 2, .range 23 16 1 255]⟩,
    ⟨"CMP_LYR_ADDR", 0x101008, 0x100, 16, 0x0, 1, .rw, true, true, false, false, 0x0,
      0x3ffffff, 0x0, 0x0, 0x0, 0x0, 0x0, []⟩,
    ⟨"CMP_LYR_STRIDE", 0x10100c, 0x100, 16, 0x0, 1, .rw, true, true, false, false, 0x0,
      0xfffff, 0x0, 0x0, 0x0, 0x0, 0x0, []⟩,
    ⟨"CMP_LYR_SRC_SIZE", 0x101010, 0x100, 16, 0x0, 1, .rw, true, true, false, false, 0x0,
      0x3fff7fff, 0x0, 0x0, 0x0, 0x0, 0x0, [.range 14 0 1 16384, .range 29 16 1 8192]⟩,
    ⟨"CMP_LYR_CROP_XY", 0x101014, 0x100, 16, 0x0, 1, .rw, true, true, false, false, 0x0,
      0x3fff7fff, 0x0, 0x0, 0x0, 0x0, 0x0, []⟩,
    ⟨"CMP_LYR_CROP_WH", 0x101018, 0x100, 16, 0x0, 1, .rw, true, true, false, false, 0x0,
      0x3fff7fff, 0x0, 0x0, 0x0, 0x0, 0x0, [.range 14 0 1 16384, .range 29 16 1 8192]⟩,
    ⟨"CMP_LYR_DST_XY", 0x10101c, 0x100, 16, 0x0, 1, .rw, true, true, false, false, 0x0,
      0xffffffff, 0x0, 0x0, 0x0, 0x0, 0x0, []⟩,
    ⟨"CMP_LYR_DST_WH", 0x101020, 0x100, 16, 0x0, 1, .rw, true, true, false, false, 0x0,
      0xffffffff, 0x0, 0x0, 0x0, 0x0, 0x0, [.range 15 0 1 65535, .range 31 16 1 65535]⟩,
    ⟨"CMP_LYR_OPACITY", 0x101024, 0x100, 16, 0x0, 1, .rw, true, true, false, false, 0xffff,
      0xffff, 0x0, 0x0, 0x0, 0x0, 0x0, []⟩,
    ⟨"CMP_LYR_FILL_RG", 0x101028, 0x100, 16, 0x0, 1, .rw, true, true, false, false, 0x0,
      0xffffffff, 0x0, 0x0, 0x0, 0x0, 0x0, []⟩,
    ⟨"CMP_LYR_FILL_BA", 0x10102c, 0x100, 16, 0x0, 1, .rw, true, true, false, false, 0xffff0000,
      0xffffffff, 0x0, 0x0, 0x0, 0x0, 0x0, []⟩,
    ⟨"CMP_LYR_STATUS", 0x101030, 0x100, 16, 0x0, 1, .ro, false, false, false, false, 0x0,
      0x0, 0x0, 0x0, 0x0, 0xffff3f07, 0x0, []⟩,
    ⟨"CMP_LYR_SRC_RTP", 0x101034, 0x100, 16, 0x0, 1, .ro, false, false, false, false, 0x0,
      0x0, 0x0, 0x0, 0x0, 0xffffffff, 0x0, []⟩,
    ⟨"CMP_LYR_HSTEP", 0x101038, 0x100, 16, 0x0, 1, .ro, false, false, false, false, 0x0,
      0x0, 0x0, 0x0, 0x0, 0xffffffff, 0x0, []⟩,
    ⟨"CMP_LYR_VSTEP", 0x10103c, 0x100, 16, 0x0, 1, .ro, false, false, false, false, 0x0,
      0x0, 0x0, 0x0, 0x0, 0xffffffff, 0x0, []⟩ ]

/-- The CHK block's registers. -/
def specsCHK : List RegSpec :=
  [ ⟨"CHK_CTRL", 0x120000, 0x40, 64, 0x0, 1, .rw, true, true, false, false, 0x0,
      0x7, 0x0, 0x0, 0x0, 0x0, 0x0, []⟩,
    ⟨"CHK_REGION", 0x120004, 0x40, 64, 0x0, 1, .rw, true, true, false, false, 0x0,
      0xffff, 0x0, 0x0, 0x0, 0x0, 0x0, []⟩,
    ⟨"CHK_XY", 0x120008, 0x40, 64, 0x0, 1, .rw, true, true, false, false, 0x0,
      0x3fff7fff, 0x0, 0x0, 0x0, 0x0, 0x0, []⟩,
    ⟨"CHK_WH", 0x12000c, 0x40, 64, 0x0, 1, .rw, true, true, false, false, 0x10001,
      0x3fff7fff, 0x0, 0x0, 0x0, 0x0, 0x0, [.range 14 0 1 16384, .range 29 16 1 8192]⟩,
    ⟨"CHK_RESULT", 0x120010, 0x40, 64, 0x0, 1, .ro, false, false, false, false, 0x0,
      0x0, 0x0, 0x0, 0x0, 0xffffffff, 0x0, []⟩,
    ⟨"CHK_RESULT_PREV", 0x120014, 0x40, 64, 0x0, 1, .ro, false, false, false, false, 0x0,
      0x0, 0x0, 0x0, 0x0, 0xffffffff, 0x0, []⟩,
    ⟨"CHK_RESULT_FRAME_LO", 0x120018, 0x40, 64, 0x0, 1, .ro, false, false, false, false, 0x0,
      0x0, 0x0, 0x0, 0x0, 0xffffffff, 0x0, []⟩,
    ⟨"CHK_RESULT_FRAME_HI", 0x12001c, 0x40, 64, 0x0, 1, .ro, false, false, false, false, 0x0,
      0x0, 0x0, 0x0, 0x0, 0xffff, 0x0, []⟩,
    ⟨"CHK_EXPECT", 0x120020, 0x40, 64, 0x0, 1, .rw, false, true, false, false, 0x0,
      0xffffffff, 0x0, 0x0, 0x0, 0x0, 0x0, []⟩,
    ⟨"CHK_EXPECT_FRAME_LO", 0x120024, 0x40, 64, 0x0, 1, .rw, false, true, false, false, 0x0,
      0xffffffff, 0x0, 0x0, 0x0, 0x0, 0x0, []⟩,
    ⟨"CHK_EXPECT_FRAME_HI", 0x120028, 0x40, 64, 0x0, 1, .rw, false, true, false, false, 0x0,
      0xffff, 0x0, 0x0, 0x0, 0x0, 0x0, []⟩,
    ⟨"CHK_STATUS", 0x12002c, 0x40, 64, 0x0, 1, .rw, false, false, false, false, 0x0,
      0x0, 0x9, 0x0, 0x0, 0x6, 0x0, []⟩,
    ⟨"CHK_MISMATCHES", 0x120030, 0x40, 64, 0x0, 1, .rc, false, false, false, false, 0x0,
      0x0, 0x0, 0x0, 0x0, 0xffffffff, 0x0, []⟩ ]

/-- The PHO block's registers. -/
def specsPHO : List RegSpec :=
  [ ⟨"PHO_CTRL", 0x140000, 0x0, 1, 0x0, 1, .rw, true, true, false, false, 0x0,
      0x1f, 0x0, 0x0, 0x0, 0x0, 0x0, []⟩,
    ⟨"PHO_MAP_BASE", 0x140004, 0x0, 1, 0x0, 1, .lk, false, false, false, false, 0x0,
      0x0, 0x0, 0x0, 0x3fffff, 0x0, 0x0, []⟩,
    ⟨"PHO_MAP_COUNT0", 0x140008, 0x0, 1, 0x0, 1, .rw, false, true, false, false, 0x0,
      0xffffff, 0x0, 0x0, 0x0, 0x0, 0x0, [.range 23 0 0 8388608]⟩,
    ⟨"PHO_MAP_COUNT1", 0x14000c, 0x0, 1, 0x0, 1, .rw, false, true, false, false, 0x0,
      0xffffff, 0x0, 0x0, 0x0, 0x0, 0x0, [.range 23 0 0 8388608]⟩,
    ⟨"PHO_MAP_CTRL", 0x140010, 0x0, 1, 0x0, 1, .rw, false, true, false, false, 0x0,
      0x0, 0x0, 0x2, 0x0, 0x30, 0x0, []⟩,
    ⟨"PHO_TBL_STATUS", 0x140014, 0x0, 1, 0x0, 1, .ro, false, false, false, false, 0x0,
      0x0, 0x0, 0x0, 0x0, 0xffffffff, 0x0, []⟩,
    ⟨"PHO_PROF_BASE", 0x140018, 0x0, 1, 0x0, 1, .lk, false, false, false, false, 0x0,
      0x0, 0x0, 0x0, 0x3fffff, 0x0, 0x0, []⟩,
    ⟨"PHO_PROF_CTRL", 0x14001c, 0x0, 1, 0x0, 1, .rw, true, true, false, false, 0x0,
      0x1, 0x0, 0x0, 0x0, 0x0, 0x0, []⟩,
    ⟨"PHO_LAT_BASE", 0x140020, 0x0, 1, 0x0, 1, .lk, false, false, false, false, 0x0,
      0x0, 0x0, 0x0, 0x3fffff, 0x0, 0x0, []⟩,
    ⟨"PHO_GAIN_BASE", 0x140024, 0x0, 1, 0x0, 1, .lk, false, false, false, false, 0x0,
      0x0, 0x0, 0x0, 0x3fffff, 0x0, 0x0, []⟩,
    ⟨"PHO_GAIN_CTRL", 0x140028, 0x0, 1, 0x0, 1, .rw, true, true, false, false, 0x0,
      0x3, 0x0, 0x0, 0x0, 0x0, 0x0, []⟩,
    ⟨"PHO_TRIM_BASE", 0x14002c, 0x0, 1, 0x0, 1, .lk, false, false, false, false, 0x0,
      0x0, 0x0, 0x0, 0x3fffff, 0x0, 0x0, []⟩,
    ⟨"PHO_SENS_BASE", 0x140030, 0x0, 1, 0x0, 1, .lk, false, false, false, false, 0x0,
      0x0, 0x0, 0x0, 0x3fffff, 0x0, 0x0, []⟩,
    ⟨"PHO_AGE_BASE", 0x140034, 0x0, 1, 0x0, 1, .lk, false, false, false, false, 0x0,
      0x0, 0x0, 0x0, 0x3fffff, 0x0, 0x0, []⟩,
    ⟨"PHO_REF_WHITE", 0x140038, 0x0, 1, 0x0, 1, .rw, true, true, false, false, 0x3e8,
      0x3fff, 0x0, 0x0, 0x0, 0x0, 0x0, [.range 13 0 100 10000]⟩,
    ⟨"PHO_DONE_FRAME_LO", 0x14003c, 0x0, 1, 0x0, 1, .ro, false, false, false, false, 0x0,
      0x0, 0x0, 0x0, 0x0, 0xffffffff, 0x0, []⟩,
    ⟨"PHO_DONE_FRAME_HI", 0x140040, 0x0, 1, 0x0, 1, .ro, false, false, false, false, 0x0,
      0x0, 0x0, 0x0, 0x0, 0xffff, 0x0, []⟩,
    ⟨"PHO_EST_TIME", 0x140044, 0x0, 1, 0x0, 1, .ro, false, false, false, false, 0x0,
      0x0, 0x0, 0x0, 0x0, 0xfffff, 0x0, []⟩,
    ⟨"PHO_LAST_TIME", 0x140048, 0x0, 1, 0x0, 1, .ro, false, false, false, false, 0x0,
      0x0, 0x0, 0x0, 0x0, 0xfffff, 0x0, []⟩,
    ⟨"PHO_REPLAN_CFG", 0x14004c, 0x0, 1, 0x0, 1, .rw, false, true, false, false, 0x14003c,
      0xff07ff, 0x0, 0x1000000, 0x0, 0x0, 0x0, [.range 10 0 1 1440, .range 23 16 1 100]⟩,
    ⟨"PHO_REPLAN_FRAME_LO", 0x140050, 0x0, 1, 0x0, 1, .ro, false, false, false, false, 0x0,
      0x0, 0x0, 0x0, 0x0, 0xffffffff, 0x0, []⟩,
    ⟨"PHO_REPLAN_FRAME_HI", 0x140054, 0x0, 1, 0x0, 1, .ro, false, false, false, false, 0x0,
      0x0, 0x0, 0x0, 0x0, 0xffff, 0x0, []⟩,
    ⟨"PHO_TRIM_FRAME_LO", 0x140058, 0x0, 1, 0x0, 1, .ro, false, false, false, false, 0x0,
      0x0, 0x0, 0x0, 0x0, 0xffffffff, 0x0, []⟩,
    ⟨"PHO_TRIM_FRAME_HI", 0x14005c, 0x0, 1, 0x0, 1, .ro, false, false, false, false, 0x0,
      0x0, 0x0, 0x0, 0x0, 0xffff, 0x0, []⟩ ] ++
  [ ⟨"PHO_AGE_STATUS", 0x140060, 0x0, 1, 0x0, 1, .rw, false, false, false, false, 0x0,
      0x0, 0x3, 0x0, 0x0, 0xffff0000, 0x0, []⟩,
    ⟨"PHO_GAIN_CLIP", 0x140070, 0x0, 1, 0x0, 1, .rc, false, false, false, false, 0x0,
      0x0, 0x0, 0x0, 0x0, 0xffffffff, 0x0, []⟩,
    ⟨"PHO_GAMUT_CLIP", 0x140074, 0x0, 1, 0x0, 1, .rc, false, false, false, false, 0x0,
      0x0, 0x0, 0x0, 0x0, 0xffffffff, 0x0, []⟩,
    ⟨"PHO_TEMP_STALE", 0x140078, 0x0, 1, 0x0, 1, .rc, false, false, false, false, 0x0,
      0x0, 0x0, 0x0, 0x0, 0xffffffff, 0x0, []⟩,
    ⟨"PHO_LATE", 0x14007c, 0x0, 1, 0x0, 1, .rc, false, false, false, false, 0x0,
      0x0, 0x0, 0x0, 0x0, 0xffffffff, 0x0, []⟩,
    ⟨"PHO_READ_ERR", 0x140080, 0x0, 1, 0x0, 1, .rc, false, false, false, false, 0x0,
      0x0, 0x0, 0x0, 0x0, 0xffffffff, 0x0, []⟩,
    ⟨"PHO_DERATED", 0x140084, 0x0, 1, 0x0, 1, .ro, false, false, false, false, 0x0,
      0x0, 0x0, 0x0, 0x0, 0x3ffff, 0x0, []⟩,
    ⟨"PHO_TRIM_REJECTED", 0x140088, 0x0, 1, 0x0, 1, .rc, false, false, false, false, 0x0,
      0x0, 0x0, 0x0, 0x0, 0xffffffff, 0x0, []⟩,
    ⟨"PHO_ZONE_PRED_z", 0x140100, 0x8, 64, 0x0, 1, .ro, false, false, false, false, 0x0,
      0x0, 0x0, 0x0, 0x0, 0xffffffff, 0x0, []⟩,
    ⟨"PHO_ZONE_SAFE_z", 0x140104, 0x8, 64, 0x0, 1, .ro, false, false, false, false, 0x0,
      0x0, 0x0, 0x0, 0x0, 0xffffffff, 0x0, []⟩,
    ⟨"PHO_ZONE_FRAME_LO", 0x140300, 0x0, 1, 0x0, 1, .ro, false, false, false, false, 0x0,
      0x0, 0x0, 0x0, 0x0, 0xffffffff, 0x0, []⟩,
    ⟨"PHO_ZONE_FRAME_HI", 0x140304, 0x0, 1, 0x0, 1, .ro, false, false, false, false, 0x0,
      0x0, 0x0, 0x0, 0x0, 0xffff, 0x0, []⟩,
    ⟨"PHO_LAT_SELj", 0x140400, 0x4, 32, 0x0, 1, .rw, true, true, false, false, 0x0,
      0xffffffff, 0x0, 0x0, 0x0, 0x0, 0x0, []⟩ ]

/-- The BAT block's registers. -/
def specsBAT : List RegSpec :=
  [ ⟨"BAT_CHn_CFG", 0x180000, 0x80, 512, 0x0, 1, .rw, true, true, false, false, 0x10,
      0x1ff, 0x0, 0x0, 0x0, 0x0, 0x0, []⟩,
    ⟨"BAT_CHn_MODECFG", 0x180004, 0x80, 512, 0x0, 1, .rw, true, true, false, false, 0x0,
      0xffffffff, 0x0, 0x0, 0x0, 0x0, 0x0, []⟩,
    ⟨"BAT_CHn_STATUS", 0x180008, 0x80, 512, 0x0, 1, .ro, false, false, false, false, 0x0,
      0x0, 0x0, 0x0, 0x0, 0xffff00ff, 0x0, []⟩,
    ⟨"BAT_CHn_COMP", 0x18000c, 0x80, 512, 0x0, 1, .ro, false, false, false, false, 0x0,
      0x0, 0x0, 0x0, 0x0, 0x3fffff, 0x0, []⟩,
    ⟨"BAT_CHn_HOP", 0x180010, 0x80, 512, 0x0, 1, .ro, false, false, false, false, 0x0,
      0x0, 0x0, 0x0, 0x0, 0x1ffffff, 0x0, []⟩,
    ⟨"BAT_CHn_EYE", 0x180014, 0x80, 512, 0x0, 1, .ro, false, false, false, false, 0x0,
      0x0, 0x0, 0x0, 0x0, 0xffff1f1f, 0x0, []⟩,
    ⟨"BAT_CHn_ERR", 0x180018, 0x80, 512, 0x0, 1, .rc, false, false, false, false, 0x0,
      0x0, 0x0, 0x0, 0x0, 0xffffffff, 0x0, []⟩,
    ⟨"BAT_CHn_CMD", 0x18001c, 0x80, 512, 0x0, 1, .rw, false, true, false, false, 0x0,
      0x0, 0x0, 0x7, 0x0, 0x0, 0x0, []⟩,
    ⟨"BAT_CTRL", 0x190000, 0x0, 1, 0x0, 1, .rw, false, true, false, false, 0x7,
      0x7, 0x0, 0x0, 0x0, 0x0, 0x0, []⟩,
    ⟨"BAT_SS", 0x190004, 0x0, 1, 0x0, 1, .rw, false, true, false, false, 0x0,
      0x7, 0x0, 0x0, 0x0, 0x0, 0x0, []⟩,
    ⟨"BAT_LATCH_ADJ", 0x190008, 0x0, 1, 0x0, 1, .rw, true, true, false, false, 0x0,
      0xffffffff, 0x0, 0x0, 0x0, 0x0, 0x0, [.signed 31 0 (-100000) (100000)]⟩,
    ⟨"BAT_RB_CFG", 0x19000c, 0x0, 1, 0x0, 1, .rw, true, true, false, false, 0xa08,
      0x3f7f, 0x0, 0x0, 0x0, 0x0, 0x0, [.range 6 0 1 64, .range 13 8 2 40]⟩,
    ⟨"BAT_ENUM_PERIOD", 0x190010, 0x0, 1, 0x0, 1, .rw, false, true, false, false, 0x3c,
      0xfff, 0x0, 0x0, 0x0, 0x0, 0x0, [.zeroOr 11 0 10 3600]⟩,
    ⟨"BAT_RANGE_PERIOD", 0x190014, 0x0, 1, 0x0, 1, .rw, false, true, false, false, 0x3c,
      0xfff, 0x0, 0x0, 0x0, 0x0, 0x0, [.zeroOr 11 0 10 3600]⟩,
    ⟨"BAT_PATCH_BASE", 0x190018, 0x0, 1, 0x0, 1, .lk, false, false, false, false, 0x0,
      0x0, 0x0, 0x0, 0x3fffff, 0x0, 0x0, []⟩,
    ⟨"BAT_PLACE_BASE", 0x19001c, 0x0, 1, 0x0, 1, .lk, false, false, false, false, 0x0,
      0x0, 0x0, 0x0, 0x3fffff, 0x0, 0x0, []⟩,
    ⟨"BAT_STAT_BASE", 0x190020, 0x0, 1, 0x0, 1, .lk, false, false, false, false, 0x0,
      0x0, 0x0, 0x0, 0x3fffff, 0x0, 0x0, []⟩,
    ⟨"BAT_OUT_BASE", 0x190024, 0x0, 1, 0x0, 1, .lk, false, false, false, false, 0x0,
      0x0, 0x0, 0x0, 0x3fffff, 0x0, 0x0, []⟩,
    ⟨"BAT_CFG_BASE", 0x190028, 0x0, 1, 0x0, 1, .lk, false, false, false, false, 0x0,
      0x0, 0x0, 0x0, 0x3fffff, 0x0, 0x0, []⟩,
    ⟨"BAT_EYE_MIN", 0x19002c, 0x0, 1, 0x0, 1, .rw, false, true, false, false, 0x6,
      0x1f, 0x0, 0x0, 0x0, 0x0, 0x0, [.range 4 0 1 16]⟩,
    ⟨"BAT_MOTION_HOLD", 0x190030, 0x0, 1, 0x0, 1, .rw, false, true, false, false, 0x7d0,
      0xffff, 0x0, 0x0, 0x0, 0x0, 0x0, [.range 15 0 100 60000]⟩,
    ⟨"BAT_UNDERRUN", 0x190040, 0x0, 1, 0x0, 1, .rc, false, false, false, false, 0x0,
      0x0, 0x0, 0x0, 0x0, 0xffffffff, 0x0, []⟩,
    ⟨"BAT_RB_CRC", 0x190044, 0x0, 1, 0x0, 1, .rc, false, false, false, false, 0x0,
      0x0, 0x0, 0x0, 0x0, 0xffffffff, 0x0, []⟩,
    ⟨"BAT_MOVED", 0x190048, 0x0, 1, 0x0, 1, .rc, false, false, false, false, 0x0,
      0x0, 0x0, 0x0, 0x0, 0xffffffff, 0x0, []⟩ ] ++
  [ ⟨"BAT_NOT_FOUND", 0x19004c, 0x0, 1, 0x0, 1, .ro, false, false, false, false, 0x0,
      0x0, 0x0, 0x0, 0x0, 0x3ffff, 0x0, []⟩,
    ⟨"BAT_UNPATCHED", 0x190050, 0x0, 1, 0x0, 1, .ro, false, false, false, false, 0x0,
      0x0, 0x0, 0x0, 0x0, 0x3ffff, 0x0, []⟩,
    ⟨"BAT_RDM_CTRL", 0x190060, 0x0, 1, 0x0, 1, .rw, false, true, false, false, 0x0,
      0x1ff, 0x0, 0x10000, 0x0, 0x320000, 0x0, []⟩,
    ⟨"BAT_RDM_BUF", 0x190064, 0x0, 1, 0x0, 1, .rw, false, true, false, false, 0x0,
      0x3fffff, 0x0, 0x0, 0x0, 0x0, 0x0, []⟩,
    ⟨"BAT_BANKb_CFG", 0x190100, 0x10, 16, 0x0, 1, .rw, false, true, false, false, 0x1,
      0x3, 0x0, 0x0, 0x0, 0x0, 0x0, []⟩,
    ⟨"BAT_BANKb_STATUS", 0x190104, 0x10, 16, 0x0, 1, .ro, false, false, false, false, 0x0,
      0x0, 0x0, 0x0, 0x0, 0x3, 0x0, []⟩,
    ⟨"BAT_BANKb_EXT", 0x190108, 0x10, 16, 0x0, 1, .rw, false, true, false, false, 0x0,
      0xffffffff, 0x0, 0x0, 0x0, 0x0, 0x0, []⟩,
    ⟨"BAT_BANKb_PWN", 0x19010c, 0x10, 16, 0x0, 1, .rw, true, true, false, false, 0x15e259f4,
      0x7fffffff, 0x0, 0x0, 0x0, 0x0, 0x0, [.range 9 0 320 1000]⟩ ]

/-- The PVW block's registers. -/
def specsPVW : List RegSpec :=
  [ ⟨"PVW_CTRL", 0x1c0000, 0x0, 1, 0x0, 1, .rw, false, true, false, false, 0xc10,
      0xfff, 0x0, 0x0, 0x0, 0x0, 0x0, [.code 3 2 2]⟩,
    ⟨"PVW_LANE_RATE", 0x1c0004, 0x0, 1, 0x0, 1, .rw, false, true, false, false, 0x5dc,
      0xfff, 0x0, 0x0, 0x0, 0x0, 0x0, [.range 11 0 80 2500]⟩,
    ⟨"PVW_PCLK", 0x1c0008, 0x0, 1, 0x0, 1, .rw, false, true, false, false, 0x24414,
      0x7ffff, 0x0, 0x0, 0x0, 0x0, 0x0, [.range 18 0 10000 300000]⟩,
    ⟨"PVW_H_TIMING1", 0x1c000c, 0x0, 1, 0x0, 1, .rw, false, true, false, false, 0x580780,
      0x3fff3fff, 0x0, 0x0, 0x0, 0x0, 0x0, [.range 13 0 16 1920, .range 29 16 1 4095]⟩,
    ⟨"PVW_H_TIMING2", 0x1c0010, 0x0, 1, 0x0, 1, .rw, false, true, false, false, 0x94002c,
      0x3fff3fff, 0x0, 0x0, 0x0, 0x0, 0x0, [.range 13 0 1 255, .range 29 16 1 4095]⟩,
    ⟨"PVW_V_TIMING1", 0x1c0014, 0x0, 1, 0x0, 1, .rw, false, true, false, false, 0x40438,
      0x3fff3fff, 0x0, 0x0, 0x0, 0x0, 0x0, [.range 13 0 16 1200, .range 29 16 1 255]⟩,
    ⟨"PVW_V_TIMING2", 0x1c0018, 0x0, 1, 0x0, 1, .rw, false, true, false, false, 0x240005,
      0x3fff3fff, 0x0, 0x0, 0x0, 0x0, 0x0, [.range 13 0 1 63, .range 29 16 1 255]⟩,
    ⟨"PVW_CROP_XY", 0x1c001c, 0x0, 1, 0x0, 1, .rw, false, true, false, false, 0x0,
      0x3fff7fff, 0x0, 0x0, 0x0, 0x0, 0x0, []⟩,
    ⟨"PVW_CROP_WH", 0x1c0020, 0x0, 1, 0x0, 1, .rw, false, true, false, false, 0x4380780,
      0x3fff7fff, 0x0, 0x0, 0x0, 0x0, 0x0, [.range 14 0 1 16384, .range 29 16 1 8192]⟩,
    ⟨"PVW_OUT_XY", 0x1c0024, 0x0, 1, 0x0, 1, .rw, false, true, false, false, 0x0,
      0x7ff07ff, 0x0, 0x0, 0x0, 0x0, 0x0, []⟩,
    ⟨"PVW_OUT_WH", 0x1c0028, 0x0, 1, 0x0, 1, .rw, false, true, false, false, 0x4380780,
      0x7ff07ff, 0x0, 0x0, 0x0, 0x0, 0x0, [.range 10 0 1 1920, .range 26 16 1 1200]⟩,
    ⟨"PVW_BORDER", 0x1c002c, 0x0, 1, 0x0, 1, .rw, false, true, false, false, 0x0,
      0xffffff, 0x0, 0x0, 0x0, 0x0, 0x0, []⟩,
    ⟨"PVW_APPLY", 0x1c0030, 0x0, 1, 0x0, 1, .rw, false, true, false, false, 0x0,
      0x0, 0x0, 0x1, 0x0, 0x0, 0x0, []⟩,
    ⟨"PVW_TE_CFG", 0x1c0034, 0x0, 1, 0x0, 1, .rw, false, true, false, false, 0x640000,
      0x3ffffff, 0x0, 0x0, 0x0, 0x0, 0x0, [.range 25 16 1 1000]⟩,
    ⟨"PVW_CMD_RATE", 0x1c0038, 0x0, 1, 0x0, 1, .rw, false, true, false, false, 0x1e,
      0x3f, 0x0, 0x0, 0x0, 0x0, 0x0, [.range 5 0 1 60]⟩,
    ⟨"PVW_STATUS", 0x1c0040, 0x0, 1, 0x0, 1, .ro, false, false, false, false, 0x0,
      0x0, 0x0, 0x0, 0x0, 0x1f, 0x0, []⟩,
    ⟨"PVW_LINE_NS", 0x1c0044, 0x0, 1, 0x0, 1, .ro, false, false, false, false, 0x0,
      0x0, 0x0, 0x0, 0x0, 0xfffff, 0x0, []⟩,
    ⟨"PVW_HSTEP", 0x1c0048, 0x0, 1, 0x0, 1, .ro, false, false, false, false, 0x0,
      0x0, 0x0, 0x0, 0x0, 0xffffffff, 0x0, []⟩,
    ⟨"PVW_VSTEP", 0x1c004c, 0x0, 1, 0x0, 1, .ro, false, false, false, false, 0x0,
      0x0, 0x0, 0x0, 0x0, 0xffffffff, 0x0, []⟩,
    ⟨"PVW_CANVAS_FRAME_LO", 0x1c0050, 0x0, 1, 0x0, 1, .ro, false, false, false, false, 0x0,
      0x0, 0x0, 0x0, 0x0, 0xffffffff, 0x0, []⟩,
    ⟨"PVW_CANVAS_FRAME_HI", 0x1c0054, 0x0, 1, 0x0, 1, .ro, false, false, false, false, 0x0,
      0x0, 0x0, 0x0, 0x0, 0xffff, 0x0, []⟩,
    ⟨"PVW_UNDERRUN", 0x1c0058, 0x0, 1, 0x0, 1, .rc, false, false, false, false, 0x0,
      0x0, 0x0, 0x0, 0x0, 0xffffffff, 0x0, []⟩,
    ⟨"PVW_TE_SKIP", 0x1c005c, 0x0, 1, 0x0, 1, .rc, false, false, false, false, 0x0,
      0x0, 0x0, 0x0, 0x0, 0xffffffff, 0x0, []⟩,
    ⟨"PVW_FRAMES", 0x1c0060, 0x0, 1, 0x0, 1, .rc, false, false, false, false, 0x0,
      0x0, 0x0, 0x0, 0x0, 0xffffffff, 0x0, []⟩ ] ++
  [ ⟨"PVW_CMD_CTRL", 0x1c0070, 0x0, 1, 0x0, 1, .rw, false, true, false, false, 0x0,
      0x13f, 0x0, 0x10000, 0x0, 0xff020000, 0x0, []⟩,
    ⟨"PVW_CMD_LEN", 0x1c0074, 0x0, 1, 0x0, 1, .rw, false, true, false, false, 0x0,
      0x7ff, 0x0, 0x0, 0x0, 0x0, 0x0, [.range 10 0 0 1024]⟩,
    ⟨"PVW_CMD_BUF", 0x1c0078, 0x0, 1, 0x0, 1, .rw, false, true, false, false, 0x0,
      0x3ffffff, 0x0, 0x0, 0x0, 0x0, 0x0, []⟩,
    ⟨"PVW_CMD_RESP", 0x1c007c, 0x0, 1, 0x0, 1, .ro, false, false, false, false, 0x0,
      0x0, 0x0, 0x0, 0x0, 0xffffffff, 0x0, []⟩ ]

/-- The HDR block's registers. -/
def specsHDR : List RegSpec :=
  [ ⟨"HDR_CTRL", 0x1d0000, 0x0, 1, 0x0, 1, .rw, true, true, false, false, 0x0,
      0x1f, 0x0, 0x0, 0x0, 0x0, 0x0, []⟩,
    ⟨"HDR_RAIL_LEAD", 0x1d0004, 0x0, 1, 0x0, 1, .rw, true, true, false, false, 0x14,
      0xff, 0x0, 0x0, 0x0, 0x0, 0x0, []⟩,
    ⟨"HDR_HR_MIN", 0x1d0008, 0x0, 1, 0x0, 1, .rw, true, true, false, false, 0x15e,
      0xfff, 0x0, 0x0, 0x0, 0x0, 0x0, [.range 11 0 100 2000]⟩,
    ⟨"HDR_HR_BASE", 0x1d000c, 0x0, 1, 0x0, 1, .lk, false, false, false, false, 0x0,
      0x0, 0x0, 0x0, 0xfff, 0x0, 0x0, []⟩,
    ⟨"HDR_GRP_BASE", 0x1d0010, 0x0, 1, 0x0, 1, .lk, false, false, false, false, 0x0,
      0x0, 0x0, 0x0, 0x3fffff, 0x0, 0x0, []⟩,
    ⟨"HDR_CORR_BASE", 0x1d0014, 0x0, 1, 0x0, 1, .lk, false, false, false, false, 0x0,
      0x0, 0x0, 0x0, 0x3fffff, 0x0, 0x0, []⟩,
    ⟨"HDR_FB_CFG", 0x1d0018, 0x0, 1, 0x0, 1, .rw, false, true, false, false, 0xc80004,
      0xfff00ff, 0x0, 0x0, 0x0, 0x0, 0x0, [.range 7 0 1 255, .range 27 16 0 1000]⟩,
    ⟨"HDR_CORR_WIN", 0x1d001c, 0x0, 1, 0x0, 1, .rw, false, true, false, false, 0x78,
      0x3ff, 0x0, 0x0, 0x0, 0x0, 0x0, [.range 9 0 16 1023]⟩,
    ⟨"HDR_RELEASE", 0x1d0020, 0x0, 1, 0x0, 1, .rw, true, true, false, false, 0xa,
      0x3ff, 0x0, 0x0, 0x0, 0x0, 0x0, [.range 9 0 1 1023]⟩,
    ⟨"HDR_STATUS", 0x1d0024, 0x0, 1, 0x0, 1, .ro, false, false, false, false, 0x0,
      0x0, 0x0, 0x0, 0x0, 0xfffff01, 0x0, []⟩,
    ⟨"HDR_FRAME_LO", 0x1d0028, 0x0, 1, 0x0, 1, .ro, false, false, false, false, 0x0,
      0x0, 0x0, 0x0, 0x0, 0xffffffff, 0x0, []⟩,
    ⟨"HDR_FRAME_HI", 0x1d002c, 0x0, 1, 0x0, 1, .ro, false, false, false, false, 0x0,
      0x0, 0x0, 0x0, 0x0, 0xffff, 0x0, []⟩,
    ⟨"HDR_RAIL_CLIP", 0x1d0030, 0x0, 1, 0x0, 1, .rc, false, false, false, false, 0x0,
      0x0, 0x0, 0x0, 0x0, 0xffffffff, 0x0, []⟩,
    ⟨"HDR_HR_LOW", 0x1d0034, 0x0, 1, 0x0, 1, .rc, false, false, false, false, 0x0,
      0x0, 0x0, 0x0, 0x0, 0xffffffff, 0x0, []⟩,
    ⟨"HDR_GUARD_HOLDS", 0x1d0038, 0x0, 1, 0x0, 1, .rc, false, false, false, false, 0x0,
      0x0, 0x0, 0x0, 0x0, 0xffffffff, 0x0, []⟩,
    ⟨"HDR_RAIL_SLOW", 0x1d003c, 0x0, 1, 0x0, 1, .rc, false, false, false, false, 0x0,
      0x0, 0x0, 0x0, 0x0, 0xffffffff, 0x0, []⟩,
    ⟨"HDR_GRP_SEL", 0x1d0040, 0x0, 1, 0x0, 1, .rw, false, false, true, false, 0x0,
      0xfff, 0x0, 0x0, 0x0, 0x0, 0x0, []⟩,
    ⟨"HDR_GRP_INFO", 0x1d0044, 0x0, 1, 0x0, 1, .ro, false, false, false, false, 0x0,
      0x0, 0x0, 0x0, 0x0, 0xffff00ff, 0x0, []⟩,
    ⟨"HDR_GRP_HR", 0x1d0048, 0x0, 1, 0x0, 1, .ro, false, false, false, false, 0x0,
      0x0, 0x0, 0x0, 0x0, 0xffffffff, 0x0, []⟩,
    ⟨"HDR_Zz_BUDGET", 0x1d1000, 0x40, 64, 0x0, 1, .rw, true, true, false, false, 0xffffffff,
      0xffffffff, 0x0, 0x0, 0x0, 0x0, 0x0, []⟩,
    ⟨"HDR_Zz_CFG", 0x1d1004, 0x40, 64, 0x0, 1, .rw, true, true, false, false, 0x0,
      0xff0103ff, 0x0, 0x0, 0x0, 0x0, 0x0, []⟩,
    ⟨"HDR_Zz_EFF", 0x1d1008, 0x40, 64, 0x0, 1, .rw, true, true, false, false, 0xe666,
      0x1ffff, 0x0, 0x0, 0x0, 0x0, 0x0, [.range 16 0 32768 65536]⟩,
    ⟨"HDR_Zz_QUIES", 0x1d100c, 0x40, 64, 0x0, 1, .rw, true, true, false, false, 0x0,
      0xffffffff, 0x0, 0x0, 0x0, 0x0, 0x0, []⟩,
    ⟨"HDR_Zz_VNOM", 0x1d1010, 0x40, 64, 0x0, 1, .rw, true, true, false, false, 0x1388,
      0xffff, 0x0, 0x0, 0x0, 0x0, 0x0, []⟩ ] ++
  [ ⟨"HDR_Zz_METER_LO", 0x1d1014, 0x40, 64, 0x0, 1, .rw, false, true, false, false, 0x0,
      0xffffffff, 0x0, 0x0, 0x0, 0x0, 0x0, []⟩,
    ⟨"HDR_Zz_METER_HI", 0x1d1018, 0x40, 64, 0x0, 1, .rw, false, true, false, false, 0x0,
      0xffff, 0x0, 0x0, 0x0, 0x0, 0x0, []⟩,
    ⟨"HDR_Zz_K", 0x1d101c, 0x40, 64, 0x0, 1, .ro, false, false, false, false, 0x10000,
      0x0, 0x0, 0x0, 0x0, 0x3ffff, 0x0, []⟩,
    ⟨"HDR_Zz_SCALE", 0x1d1020, 0x40, 64, 0x0, 1, .ro, false, false, false, false, 0x10000,
      0x0, 0x0, 0x0, 0x0, 0x1ffff, 0x0, []⟩,
    ⟨"HDR_Zz_PRED", 0x1d1024, 0x40, 64, 0x0, 1, .ro, false, false, false, false, 0x0,
      0x0, 0x0, 0x0, 0x0, 0xffffffff, 0x0, []⟩,
    ⟨"HDR_Zz_BEFF", 0x1d1028, 0x40, 64, 0x0, 1, .ro, false, false, false, false, 0xffffffff,
      0x0, 0x0, 0x0, 0x0, 0xffffffff, 0x0, []⟩,
    ⟨"HDR_Zz_LED", 0x1d102c, 0x40, 64, 0x0, 1, .ro, false, false, false, false, 0x0,
      0x0, 0x0, 0x0, 0x0, 0xffffffff, 0x0, []⟩,
    ⟨"HDR_Zz_HLOSS", 0x1d1030, 0x40, 64, 0x0, 1, .ro, false, false, false, false, 0x0,
      0x0, 0x0, 0x0, 0x0, 0xffffffff, 0x0, []⟩,
    ⟨"HDR_Zz_MEAS", 0x1d1034, 0x40, 64, 0x0, 1, .ro, false, false, false, false, 0x0,
      0x0, 0x0, 0x0, 0x0, 0xffffffff, 0x0, []⟩,
    ⟨"HDR_Zz_STATUS", 0x1d1038, 0x40, 64, 0x0, 1, .rw, false, false, false, false, 0x0,
      0x0, 0x28, 0x0, 0x0, 0x17, 0x0, []⟩,
    ⟨"HDR_Bc_CTRL", 0x1d2000, 0x40, 16, 0x0, 1, .rw, false, true, false, false, 0x0,
      0x1, 0x0, 0x0, 0x0, 0x0, 0x0, []⟩,
    ⟨"HDR_Bc_PWM", 0x1d2004, 0x40, 16, 0x0, 1, .rw, false, true, false, false, 0x80803e8,
      0x3f3f0fff, 0x0, 0x0, 0x0, 0x0, 0x0, [.range 11 0 500 2000]⟩,
    ⟨"HDR_Bc_SENSE", 0x1d2008, 0x40, 16, 0x0, 1, .rw, false, true, false, false, 0x10001000,
      0xffffffff, 0x0, 0x0, 0x0, 0x0, 0x0, []⟩,
    ⟨"HDR_Bc_LOOP", 0x1d200c, 0x40, 16, 0x0, 1, .rw, false, true, false, false, 0x100100,
      0xffffffff, 0x0, 0x0, 0x0, 0x0, 0x0, []⟩,
    ⟨"HDR_Bc_LIMIT", 0x1d2010, 0x40, 16, 0x0, 1, .rw, false, true, false, false, 0x640400,
      0xfff0fff, 0x0, 0x0, 0x0, 0x0, 0x0, [.range 11 0 1 1200, .range 27 16 10 2000]⟩,
    ⟨"HDR_Bc_RAMP", 0x1d2014, 0x40, 16, 0x0, 1, .rw, false, true, false, false, 0xa,
      0x3ff, 0x0, 0x0, 0x0, 0x0, 0x0, [.range 9 0 1 1000]⟩,
    ⟨"HDR_Bc_STATUS", 0x1d2018, 0x40, 16, 0x0, 1, .rw, false, false, false, false, 0x0,
      0x0, 0x2, 0x0, 0x0, 0xffff001d, 0x0, []⟩,
    ⟨"HDR_Bc_IOUT", 0x1d201c, 0x40, 16, 0x0, 1, .ro, false, false, false, false, 0x0,
      0x0, 0x0, 0x0, 0x0, 0xffff, 0x0, []⟩,
    ⟨"HDR_Bc_REF", 0x1d2020, 0x40, 16, 0x0, 1, .ro, false, false, false, false, 0x0,
      0x0, 0x0, 0x0, 0x0, 0xffff, 0x0, []⟩ ]

/-- The MTR block's registers. -/
def specsMTR : List RegSpec :=
  [ ⟨"MTR_CTRL", 0x1e0000, 0x0, 1, 0x0, 1, .rw, false, true, false, false, 0x0,
      0x3, 0x0, 0x0, 0x0, 0x0, 0x0, []⟩,
    ⟨"MTR_MEAS", 0x1e0004, 0x0, 1, 0x0, 1, .rw, false, true, false, false, 0xc8,
      0x3ff, 0x0, 0x0, 0x0, 0x0, 0x0, [.range 9 0 20 1000]⟩,
    ⟨"MTR_SAVE_PERIOD", 0x1e0008, 0x0, 1, 0x0, 1, .rw, false, true, false, false, 0x3c,
      0xfff, 0x0, 0x0, 0x0, 0x0, 0x0, [.range 11 0 10 3600]⟩,
    ⟨"MTR_SAVE_STATUS", 0x1e000c, 0x0, 1, 0x0, 1, .ro, false, false, false, false, 0x0,
      0x0, 0x0, 0x0, 0x0, 0xffff0007, 0x0, []⟩,
    ⟨"MTR_SAVE_SEQ", 0x1e0010, 0x0, 1, 0x0, 1, .ro, false, false, false, false, 0x0,
      0x0, 0x0, 0x0, 0x0, 0xffffffff, 0x0, []⟩,
    ⟨"MTR_CMD", 0x1e0014, 0x0, 1, 0x0, 1, .rw, false, true, false, false, 0x0,
      0x0, 0x0, 0x1, 0x0, 0x0, 0x0, []⟩,
    ⟨"MTR_SAVE_FAIL", 0x1e0018, 0x0, 1, 0x0, 1, .rc, false, false, false, false, 0x0,
      0x0, 0x0, 0x0, 0x0, 0xffffffff, 0x0, []⟩,
    ⟨"MTR_GAP_STATUS", 0x1e0020, 0x0, 1, 0x0, 1, .ro, false, false, false, false, 0x0,
      0x0, 0x0, 0x0, 0x0, 0xffff000f, 0x0, []⟩,
    ⟨"MTR_GAP_START_LO", 0x1e0024, 0x0, 1, 0x0, 1, .ro, false, false, false, false, 0x0,
      0x0, 0x0, 0x0, 0x0, 0xffffffff, 0x0, []⟩,
    ⟨"MTR_GAP_START_HI", 0x1e0028, 0x0, 1, 0x0, 1, .ro, false, false, false, false, 0x0,
      0x0, 0x0, 0x0, 0x0, 0xffffffff, 0x0, []⟩,
    ⟨"MTR_GAP_END_LO", 0x1e002c, 0x0, 1, 0x0, 1, .rw, false, true, false, false, 0x0,
      0xffffffff, 0x0, 0x0, 0x0, 0x0, 0x0, []⟩,
    ⟨"MTR_GAP_END_HI", 0x1e0030, 0x0, 1, 0x0, 1, .rw, false, true, false, false, 0x0,
      0xffffffff, 0x0, 0x0, 0x0, 0x0, 0x0, []⟩,
    ⟨"MTR_GAP_SEL", 0x1e0034, 0x0, 1, 0x0, 1, .rw, false, false, true, false, 0x0,
      0x3f, 0x0, 0x0, 0x0, 0x0, 0x0, [.range 5 0 0 47]⟩,
    ⟨"MTR_GAP_EST", 0x1e0038, 0x0, 1, 0x0, 1, .ro, false, false, false, false, 0x0,
      0x0, 0x0, 0x0, 0x0, 0xffffffff, 0x0, []⟩,
    ⟨"MTR_Pp_CFG", 0x1e0100, 0x20, 8, 0x0, 1, .rw, false, true, false, false, 0x0,
      0x3f0f, 0x0, 0x0, 0x0, 0x0, 0x0, []⟩,
    ⟨"MTR_Pp_EPP", 0x1e0104, 0x20, 8, 0x0, 1, .rw, false, true, false, false, 0x36ee80,
      0xffffffff, 0x0, 0x0, 0x0, 0x0, 0x0, [.range 31 0 1000 4294967295]⟩,
    ⟨"MTR_Pp_WIDTH", 0x1e0108, 0x20, 8, 0x0, 1, .rw, false, true, false, false, 0x32,
      0xff, 0x0, 0x0, 0x0, 0x0, 0x0, [.range 7 0 1 255]⟩,
    ⟨"MTR_Pp_COUNT", 0x1e010c, 0x20, 8, 0x0, 1, .ro, false, false, false, false, 0x0,
      0x0, 0x0, 0x0, 0x0, 0xffffffff, 0x0, []⟩,
    ⟨"MTR_Pp_BACKLOG", 0x1e0110, 0x20, 8, 0x0, 1, .ro, false, false, false, false, 0x0,
      0x0, 0x0, 0x0, 0x0, 0xffff, 0x0, []⟩,
    ⟨"MTR_Pp_RESID", 0x1e0114, 0x20, 8, 0x0, 1, .ro, false, false, false, false, 0x0,
      0x0, 0x0, 0x0, 0x0, 0xffffffff, 0x0, []⟩,
    ⟨"MTR_Pp_LOST", 0x1e0118, 0x20, 8, 0x0, 1, .rc, false, false, false, false, 0x0,
      0x0, 0x0, 0x0, 0x0, 0xffffffff, 0x0, []⟩,
    ⟨"MTR_Cn_CFG", 0x1e1000, 0x40, 64, 0x0, 1, .rw, false, true, false, false, 0x0,
      0xffff0f77, 0x0, 0x0, 0x0, 0x0, 0x0, [.code 6 4 5, .code 2 1 2]⟩,
    ⟨"MTR_Cn_STATUS", 0x1e1004, 0x40, 64, 0x0, 1, .rw, false, false, false, false, 0x0,
      0x0, 0xc, 0x0, 0x0, 0x73, 0x0, []⟩,
    ⟨"MTR_Cn_RMS", 0x1e1008, 0x40, 64, 0x0, 1, .ro, false, false, false, false, 0x0,
      0x0, 0x0, 0x0, 0x0, 0xffffffff, 0x0, []⟩ ] ++
  [ ⟨"MTR_Cn_P", 0x1e100c, 0x40, 64, 0x0, 1, .ro, false, false, false, false, 0x0,
      0x0, 0x0, 0x0, 0x0, 0xffffffff, 0x0, []⟩,
    ⟨"MTR_Cn_Q", 0x1e1410, 0x40, 48, 0x0, 1, .ro, false, false, false, false, 0x0,
      0x0, 0x0, 0x0, 0x0, 0xffffffff, 0x0, []⟩,
    ⟨"MTR_Cn_S", 0x1e1414, 0x40, 48, 0x0, 1, .ro, false, false, false, false, 0x0,
      0x0, 0x0, 0x0, 0x0, 0xffffffff, 0x0, []⟩,
    ⟨"MTR_Cn_IMP_LO", 0x1e1418, 0x40, 48, 0x0, 1, .ro, false, false, false, false, 0x0,
      0x0, 0x0, 0x0, 0x0, 0xffffffff, 0x0, []⟩,
    ⟨"MTR_Cn_IMP_HI", 0x1e141c, 0x40, 48, 0x0, 1, .ro, false, false, false, false, 0x0,
      0x0, 0x0, 0x0, 0x0, 0xffffffff, 0x0, []⟩,
    ⟨"MTR_Cn_EXP_LO", 0x1e1420, 0x40, 48, 0x0, 1, .ro, false, false, false, false, 0x0,
      0x0, 0x0, 0x0, 0x0, 0xffffffff, 0x0, []⟩,
    ⟨"MTR_Cn_EXP_HI", 0x1e1424, 0x40, 48, 0x0, 1, .ro, false, false, false, false, 0x0,
      0x0, 0x0, 0x0, 0x0, 0xffffffff, 0x0, []⟩,
    ⟨"MTR_Cn_WIN_IMP", 0x1e1428, 0x40, 48, 0x0, 1, .ro, false, false, false, false, 0x0,
      0x0, 0x0, 0x0, 0x0, 0xffffffff, 0x0, []⟩,
    ⟨"MTR_Cn_WIN_EXP", 0x1e142c, 0x40, 48, 0x0, 1, .ro, false, false, false, false, 0x0,
      0x0, 0x0, 0x0, 0x0, 0xffffffff, 0x0, []⟩,
    ⟨"MTR_Cn_WRAP", 0x1e1430, 0x40, 48, 0x0, 1, .ro, false, false, false, false, 0x0,
      0x0, 0x0, 0x0, 0x0, 0xffff, 0x0, []⟩,
    ⟨"MTR_Cn_EST", 0x1e1434, 0x40, 48, 0x0, 1, .ro, false, false, false, false, 0x0,
      0x0, 0x0, 0x0, 0x0, 0xffffffff, 0x0, []⟩,
    ⟨"MTR_Cn_CAL_INFO", 0x1e1038, 0x40, 64, 0x0, 1, .ro, false, false, false, false, 0x0,
      0x0, 0x0, 0x0, 0x0, 0xff03ffff, 0x0, []⟩,
    ⟨"MTR_Cn_CAL_CMD", 0x1e103c, 0x40, 64, 0x0, 1, .rw, false, false, false, false, 0x0,
      0x0, 0x0, 0x1, 0x0, 0x0, 0x0, []⟩,
    ⟨"MTR_Kn_FS", 0x1e3000, 0x40, 64, 0x0, 1, .rw, false, true, false, false, 0x1f4,
      0xffffffff, 0x0, 0x0, 0x0, 0x0, 0x0, [.range 31 0 1 4294967295]⟩,
    ⟨"MTR_Kn_GAIN_RMS", 0x1e3004, 0x40, 64, 0x0, 1, .rw, false, true, false, false, 0x400000,
      0xffffff, 0x0, 0x0, 0x0, 0x0, 0x0, [.range 23 0 2097152 8388607]⟩,
    ⟨"MTR_Kn_GAIN_P", 0x1e3408, 0x40, 48, 0x0, 1, .rw, false, true, false, false, 0x400000,
      0xffffff, 0x0, 0x0, 0x0, 0x0, 0x0, [.range 23 0 2097152 8388607]⟩,
    ⟨"MTR_Kn_GAIN_Q", 0x1e340c, 0x40, 48, 0x0, 1, .rw, false, true, false, false, 0x400000,
      0xffffff, 0x0, 0x0, 0x0, 0x0, 0x0, [.range 23 0 2097152 8388607]⟩,
    ⟨"MTR_Kn_OFS_RMS", 0x1e3010, 0x40, 64, 0x0, 1, .rw, false, true, false, false, 0x0,
      0xffff, 0x0, 0x0, 0x0, 0x0, 0x0, []⟩,
    ⟨"MTR_Kn_OFS_PQ", 0x1e3414, 0x40, 48, 0x0, 1, .rw, false, true, false, false, 0x0,
      0xffffffff, 0x0, 0x0, 0x0, 0x0, 0x0, []⟩,
    ⟨"MTR_Kn_PHASE", 0x1e3418, 0x40, 48, 0x0, 1, .rw, false, true, false, false, 0x0,
      0xfff, 0x0, 0x0, 0x0, 0x0, 0x0, [.signed 11 0 (-1136) (1136)]⟩,
    ⟨"MTR_Kn_CAL_TIME_LO", 0x1e301c, 0x40, 64, 0x0, 1, .ro, false, false, false, false, 0x0,
      0x0, 0x0, 0x0, 0x0, 0xffffffff, 0x0, []⟩,
    ⟨"MTR_Kn_CAL_TIME_HI", 0x1e3020, 0x40, 64, 0x0, 1, .ro, false, false, false, false, 0x0,
      0x0, 0x0, 0x0, 0x0, 0xffffffff, 0x0, []⟩ ]

/-- The MEM block's registers. -/
def specsMEM : List RegSpec :=
  [ ⟨"MEM_CTRL", 0x200000, 0x0, 1, 0x0, 1, .rw, false, true, false, false, 0x1,
      0x1, 0x0, 0x0, 0x0, 0x0, 0x0, []⟩,
    ⟨"MEM_CARVE_BASE", 0x200004, 0x0, 1, 0x0, 1, .lk, false, false, false, false, 0x0,
      0x0, 0x0, 0x0, 0x3fffff, 0x0, 0x0, []⟩,
    ⟨"MEM_SCRUB_PERIOD", 0x200008, 0x0, 1, 0x0, 1, .rw, false, true, false, false, 0x18,
      0xff, 0x0, 0x0, 0x0, 0x0, 0x0, [.range 7 0 1 168]⟩,
    ⟨"MEM_SCRUB_POS", 0x20000c, 0x0, 1, 0x0, 1, .ro, false, false, false, false, 0x0,
      0x0, 0x0, 0x0, 0x0, 0x1f3fffff, 0x0, []⟩,
    ⟨"MEM_SCRUB_PASSES", 0x200010, 0x0, 1, 0x0, 1, .rc, false, false, false, false, 0x0,
      0x0, 0x0, 0x0, 0x0, 0xffffffff, 0x0, []⟩,
    ⟨"MEM_STATUS", 0x200014, 0x0, 1, 0x0, 1, .ro, false, false, false, false, 0x0,
      0x0, 0x0, 0x0, 0x0, 0x1fff07, 0x0, []⟩,
    ⟨"MEM_TRACKED", 0x200018, 0x0, 1, 0x0, 1, .ro, false, false, false, false, 0x0,
      0x0, 0x0, 0x0, 0x0, 0x1fffff, 0x0, []⟩,
    ⟨"MEM_NOTIFY", 0x20001c, 0x0, 1, 0x0, 1, .rw, false, true, false, false, 0x0,
      0x11f, 0x0, 0x0, 0x0, 0x0, 0x0, []⟩,
    ⟨"MEM_ERR_ADDR_LO", 0x200020, 0x0, 1, 0x0, 1, .ro, false, false, false, false, 0x0,
      0x0, 0x0, 0x0, 0x0, 0xffffffff, 0x0, []⟩,
    ⟨"MEM_ERR_ADDR_HI", 0x200024, 0x0, 1, 0x0, 1, .ro, false, false, false, false, 0x0,
      0x0, 0x0, 0x0, 0x0, 0x3, 0x0, []⟩,
    ⟨"MEM_ERR_INFO", 0x200028, 0x0, 1, 0x0, 1, .ro, false, false, false, false, 0x0,
      0x0, 0x0, 0x0, 0x0, 0xfff, 0x0, []⟩,
    ⟨"MEM_CORR_TOTAL", 0x200030, 0x0, 1, 0x0, 1, .rc, false, false, false, false, 0x0,
      0x0, 0x0, 0x0, 0x0, 0xffffffff, 0x0, []⟩,
    ⟨"MEM_UNCORR_TOTAL", 0x200034, 0x0, 1, 0x0, 1, .rc, false, false, false, false, 0x0,
      0x0, 0x0, 0x0, 0x0, 0xffffffff, 0x0, []⟩,
    ⟨"MEM_POISON_READS", 0x200038, 0x0, 1, 0x0, 1, .rc, false, false, false, false, 0x0,
      0x0, 0x0, 0x0, 0x0, 0xffffffff, 0x0, []⟩,
    ⟨"MEM_SRAM_CORR", 0x20003c, 0x0, 1, 0x0, 1, .rc, false, false, false, false, 0x0,
      0x0, 0x0, 0x0, 0x0, 0xffffffff, 0x0, []⟩,
    ⟨"MEM_SRAM_UNCORR", 0x200040, 0x0, 1, 0x0, 1, .rc, false, false, false, false, 0x0,
      0x0, 0x0, 0x0, 0x0, 0xffffffff, 0x0, []⟩,
    ⟨"MEM_SRAM_LAST", 0x200044, 0x0, 1, 0x0, 1, .ro, false, false, false, false, 0x0,
      0x0, 0x0, 0x0, 0x0, 0x7, 0x0, []⟩,
    ⟨"MEM_ZF_BASE", 0x200050, 0x0, 1, 0x0, 1, .rw, false, true, false, false, 0x0,
      0x3fffff, 0x0, 0x0, 0x0, 0x0, 0x0, []⟩,
    ⟨"MEM_ZF_SIZE", 0x200054, 0x0, 1, 0x0, 1, .rw, false, true, false, false, 0x0,
      0x7fffff, 0x0, 0x0, 0x0, 0x0, 0x0, [.range 22 0 1 4194304]⟩,
    ⟨"MEM_ZF_CTRL", 0x200058, 0x0, 1, 0x0, 1, .rw, false, true, false, false, 0x0,
      0x0, 0x0, 0x1, 0x0, 0xff02, 0x0, []⟩,
    ⟨"MEM_ZF_POS", 0x20005c, 0x0, 1, 0x0, 1, .ro, false, false, false, false, 0x0,
      0x0, 0x0, 0x0, 0x0, 0x7fffff, 0x0, []⟩,
    ⟨"MEM_SHARE_SHORT_CNT", 0x200060, 0x0, 1, 0x0, 1, .rc, false, false, false, false, 0x0,
      0x0, 0x0, 0x0, 0x0, 0xffffffff, 0x0, []⟩,
    ⟨"MEM_BWa", 0x200080, 0x4, 8, 0x0, 1, .ro, false, false, false, false, 0x0,
      0x0, 0x0, 0x0, 0x0, 0xfffff, 0x0, []⟩,
    ⟨"MEM_TEST_CTRL", 0x200100, 0x0, 1, 0x0, 1, .rw, false, true, false, false, 0x0,
      0x1f01, 0x0, 0x0, 0x0, 0x0, 0x0, []⟩ ] ++
  [ ⟨"MEM_TEST_ADDR", 0x200104, 0x0, 1, 0x0, 1, .rw, false, true, false, false, 0x0,
      0x1fffffff, 0x0, 0x0, 0x0, 0x0, 0x0, []⟩,
    ⟨"MEM_TEST_DATAj", 0x200110, 0x4, 8, 0x0, 1, .rw, false, true, false, false, 0x0,
      0xffffffff, 0x0, 0x0, 0x0, 0x0, 0x0, []⟩,
    ⟨"MEM_TEST_CHECK", 0x200130, 0x0, 1, 0x0, 1, .rw, false, true, false, false, 0x0,
      0xffffffff, 0x0, 0x0, 0x0, 0x0, 0x0, []⟩,
    ⟨"MEM_TEST_CMD", 0x200134, 0x0, 1, 0x0, 1, .rw, false, true, false, false, 0x0,
      0x0, 0x0, 0x3, 0x0, 0x0, 0x0, []⟩,
    ⟨"MEM_Rr_BASE", 0x200400, 0x20, 32, 0x0, 1, .lk, false, false, false, false, 0x0,
      0x0, 0x0, 0x0, 0x3fffff, 0x0, 0x0, []⟩,
    ⟨"MEM_Rr_SIZE", 0x200404, 0x20, 32, 0x0, 1, .lk, false, false, false, false, 0x0,
      0x0, 0x0, 0x0, 0x7fffff, 0x0, 0x0, []⟩,
    ⟨"MEM_Rr_CFG", 0x200408, 0x20, 32, 0x0, 1, .lk, false, false, false, false, 0x0,
      0x0, 0x0, 0x0, 0x3f7f, 0x0, 0x0, []⟩,
    ⟨"MEM_Rr_CHK", 0x20040c, 0x20, 32, 0x0, 1, .ro, false, false, false, false, 0x0,
      0x0, 0x0, 0x0, 0x0, 0xfffffff, 0x0, []⟩,
    ⟨"MEM_Rr_CMD", 0x200410, 0x20, 32, 0x0, 1, .rw, false, true, false, false, 0x0,
      0x0, 0x0, 0x1, 0x0, 0x0, 0x0, []⟩,
    ⟨"MEM_Rr_CORR", 0x200414, 0x20, 32, 0x0, 1, .rc, false, false, false, false, 0x0,
      0x0, 0x0, 0x0, 0x0, 0xffffffff, 0x0, []⟩,
    ⟨"MEM_Rr_UNCORR", 0x200418, 0x20, 32, 0x0, 1, .rc, false, false, false, false, 0x0,
      0x0, 0x0, 0x0, 0x0, 0xffffffff, 0x0, []⟩,
    ⟨"MEM_Rr_POISON", 0x20041c, 0x20, 32, 0x0, 1, .rc, false, false, false, false, 0x0,
      0x0, 0x0, 0x0, 0x0, 0xffffffff, 0x0, []⟩ ]

/-- The RDG block's registers. -/
def specsRDG : List RegSpec :=
  [ ⟨"RDG_CTRL", 0x210000, 0x0, 1, 0x0, 1, .rw, false, true, false, false, 0x6,
      0x7, 0x0, 0x0, 0x0, 0x0, 0x0, []⟩,
    ⟨"RDG_POLICY", 0x210004, 0x0, 1, 0x0, 1, .rw, false, true, false, false, 0x7,
      0x7, 0x0, 0x0, 0x0, 0x0, 0x0, []⟩,
    ⟨"RDG_CMD", 0x210008, 0x0, 1, 0x0, 1, .rw, false, true, false, false, 0x0,
      0x0, 0x0, 0x7, 0x0, 0x0, 0x0, []⟩,
    ⟨"RDG_UNIT", 0x21000c, 0x0, 1, 0x0, 1, .ro, false, false, false, false, 0x0,
      0x0, 0x0, 0x0, 0x0, 0x3, 0x0, []⟩,
    ⟨"RDG_TIMING", 0x210010, 0x0, 1, 0x0, 1, .rw, false, true, false, false, 0x3232,
      0xffff, 0x0, 0x0, 0x0, 0x0, 0x0, [.range 7 0 10 200, .range 15 8 10 200]⟩,
    ⟨"RDG_PEER_ADDR", 0x210014, 0x0, 1, 0x0, 1, .lk, false, false, false, false, 0x0,
      0x0, 0x0, 0x0, 0xffffffff, 0x0, 0x0, []⟩,
    ⟨"RDG_ROLE_ADDR", 0x210018, 0x0, 1, 0x0, 1, .lk, false, false, false, false, 0x0,
      0x0, 0x0, 0x0, 0xffffffff, 0x0, 0x0, []⟩,
    ⟨"RDG_MIRROR", 0x21001c, 0x0, 1, 0x0, 1, .lk, false, false, false, false, 0x0,
      0x0, 0x0, 0x0, 0xffffffff, 0x0, 0x0, []⟩,
    ⟨"RDG_CACHE_BASE", 0x210020, 0x0, 1, 0x0, 1, .lk, false, false, false, false, 0x0,
      0x0, 0x0, 0x0, 0x3fffff, 0x0, 0x0, []⟩,
    ⟨"RDG_CKPT_BASE", 0x210024, 0x0, 1, 0x0, 1, .lk, false, false, false, false, 0x0,
      0x0, 0x0, 0x0, 0x3fffff, 0x0, 0x0, []⟩,
    ⟨"RDG_STATUS", 0x210030, 0x0, 1, 0x0, 1, .ro, false, false, false, false, 0x0,
      0x0, 0x0, 0x0, 0x0, 0xfff, 0x0, []⟩,
    ⟨"RDG_LINK", 0x210034, 0x0, 1, 0x0, 1, .ro, false, false, false, false, 0x0,
      0x0, 0x0, 0x0, 0x0, 0xffffff03, 0x0, []⟩,
    ⟨"RDG_PEER", 0x210038, 0x0, 1, 0x0, 1, .ro, false, false, false, false, 0x0,
      0x0, 0x0, 0x0, 0x0, 0xffff003f, 0x0, []⟩,
    ⟨"RDG_WITNESS_STATUS", 0x21003c, 0x0, 1, 0x0, 1, .ro, false, false, false, false, 0x0,
      0x0, 0x0, 0x0, 0x0, 0x3ff03ff, 0x0, []⟩,
    ⟨"RDG_STATE_TIME", 0x210040, 0x0, 1, 0x0, 1, .ro, false, false, false, false, 0x0,
      0x0, 0x0, 0x0, 0x0, 0xffffffff, 0x0, []⟩,
    ⟨"RDG_LAST_HB_RIDGE", 0x210044, 0x0, 1, 0x0, 1, .ro, false, false, false, false, 0x0,
      0x0, 0x0, 0x0, 0x0, 0xffffffff, 0x0, []⟩,
    ⟨"RDG_LAST_HB_NET", 0x210048, 0x0, 1, 0x0, 1, .ro, false, false, false, false, 0x0,
      0x0, 0x0, 0x0, 0x0, 0xffffffff, 0x0, []⟩,
    ⟨"RDG_LATCH_SEEN_LO", 0x21004c, 0x0, 1, 0x0, 1, .ro, false, false, false, false, 0x0,
      0x0, 0x0, 0x0, 0x0, 0xffffffff, 0x0, []⟩,
    ⟨"RDG_LATCH_SEEN_HI", 0x210050, 0x0, 1, 0x0, 1, .ro, false, false, false, false, 0x0,
      0x0, 0x0, 0x0, 0x0, 0xffff, 0x0, []⟩,
    ⟨"RDG_INSTEP_FRAME_LO", 0x210054, 0x0, 1, 0x0, 1, .ro, false, false, false, false, 0x0,
      0x0, 0x0, 0x0, 0x0, 0xffffffff, 0x0, []⟩,
    ⟨"RDG_INSTEP_FRAME_HI", 0x210058, 0x0, 1, 0x0, 1, .ro, false, false, false, false, 0x0,
      0x0, 0x0, 0x0, 0x0, 0xffff, 0x0, []⟩,
    ⟨"RDG_DIVERGE_FRAME_LO", 0x21005c, 0x0, 1, 0x0, 1, .ro, false, false, false, false, 0x0,
      0x0, 0x0, 0x0, 0x0, 0xffffffff, 0x0, []⟩,
    ⟨"RDG_DIVERGE_FRAME_HI", 0x210060, 0x0, 1, 0x0, 1, .ro, false, false, false, false, 0x0,
      0x0, 0x0, 0x0, 0x0, 0xffff, 0x0, []⟩,
    ⟨"RDG_DIVERGE_INFO", 0x210064, 0x0, 1, 0x0, 1, .ro, false, false, false, false, 0x0,
      0x0, 0x0, 0x0, 0x0, 0xffff000f, 0x0, []⟩ ] ++
  [ ⟨"RDG_TAKEOVER_FRAME_LO", 0x210068, 0x0, 1, 0x0, 1, .ro, false, false, false, false, 0x0,
      0x0, 0x0, 0x0, 0x0, 0xffffffff, 0x0, []⟩,
    ⟨"RDG_TAKEOVER_FRAME_HI", 0x21006c, 0x0, 1, 0x0, 1, .ro, false, false, false, false, 0x0,
      0x0, 0x0, 0x0, 0x0, 0xffff, 0x0, []⟩,
    ⟨"RDG_TAKEOVER_INFO", 0x210070, 0x0, 1, 0x0, 1, .ro, false, false, false, false, 0x0,
      0x0, 0x0, 0x0, 0x0, 0x1f7, 0x0, []⟩,
    ⟨"RDG_SYNC_STATUS", 0x210074, 0x0, 1, 0x0, 1, .ro, false, false, false, false, 0x0,
      0x0, 0x0, 0x0, 0x0, 0xffff03, 0x0, []⟩,
    ⟨"RDG_BACKLOG", 0x210078, 0x0, 1, 0x0, 1, .ro, false, false, false, false, 0x0,
      0x0, 0x0, 0x0, 0x0, 0x1fff, 0x0, []⟩,
    ⟨"RDG_DIRTY_PAGES", 0x21007c, 0x0, 1, 0x0, 1, .ro, false, false, false, false, 0x0,
      0x0, 0x0, 0x0, 0x0, 0x1ffff, 0x0, []⟩,
    ⟨"RDG_DELTA_SEQ", 0x210080, 0x0, 1, 0x0, 1, .ro, false, false, false, false, 0x0,
      0x0, 0x0, 0x0, 0x0, 0xffffffff, 0x0, []⟩,
    ⟨"RDG_SWEEP_COUNT", 0x210084, 0x0, 1, 0x0, 1, .ro, false, false, false, false, 0x0,
      0x0, 0x0, 0x0, 0x0, 0xffffffff, 0x0, []⟩,
    ⟨"RDG_DIG_FRAME_LO", 0x21008c, 0x0, 1, 0x0, 1, .ro, false, false, false, false, 0x0,
      0x0, 0x0, 0x0, 0x0, 0xffffffff, 0x0, []⟩,
    ⟨"RDG_DIG_FRAME_HI", 0x210090, 0x0, 1, 0x0, 1, .ro, false, false, false, false, 0x0,
      0x0, 0x0, 0x0, 0x0, 0xffff, 0x0, []⟩,
    ⟨"RDG_DIG_IN_LOCAL", 0x210094, 0x0, 1, 0x0, 1, .ro, false, false, false, false, 0x0,
      0x0, 0x0, 0x0, 0x0, 0xffffffff, 0x0, []⟩,
    ⟨"RDG_DIG_OUT_LOCAL", 0x210098, 0x0, 1, 0x0, 1, .ro, false, false, false, false, 0x0,
      0x0, 0x0, 0x0, 0x0, 0xffffffff, 0x0, []⟩,
    ⟨"RDG_DIG_OUT_PEER", 0x21009c, 0x0, 1, 0x0, 1, .ro, false, false, false, false, 0x0,
      0x0, 0x0, 0x0, 0x0, 0xffffffff, 0x0, []⟩,
    ⟨"RDG_RIDGE_MISS", 0x2100a0, 0x0, 1, 0x0, 1, .rc, false, false, false, false, 0x0,
      0x0, 0x0, 0x0, 0x0, 0xffffffff, 0x0, []⟩,
    ⟨"RDG_NET_MISS", 0x2100a4, 0x0, 1, 0x0, 1, .rc, false, false, false, false, 0x0,
      0x0, 0x0, 0x0, 0x0, 0xffffffff, 0x0, []⟩,
    ⟨"RDG_LINK_ERR", 0x2100a8, 0x0, 1, 0x0, 1, .rc, false, false, false, false, 0x0,
      0x0, 0x0, 0x0, 0x0, 0xffffffff, 0x0, []⟩,
    ⟨"RDG_DIVERGES", 0x2100ac, 0x0, 1, 0x0, 1, .rc, false, false, false, false, 0x0,
      0x0, 0x0, 0x0, 0x0, 0xffffffff, 0x0, []⟩,
    ⟨"RDG_REPAIR_REQ", 0x2100b0, 0x0, 1, 0x0, 1, .rc, false, false, false, false, 0x0,
      0x0, 0x0, 0x0, 0x0, 0xffffffff, 0x0, []⟩,
    ⟨"RDG_REPAIR_OK", 0x2100b4, 0x0, 1, 0x0, 1, .rc, false, false, false, false, 0x0,
      0x0, 0x0, 0x0, 0x0, 0xffffffff, 0x0, []⟩,
    ⟨"RDG_REPAIR_LATE", 0x2100b8, 0x0, 1, 0x0, 1, .rc, false, false, false, false, 0x0,
      0x0, 0x0, 0x0, 0x0, 0xffffffff, 0x0, []⟩,
    ⟨"RDG_CAP_LATE", 0x2100bc, 0x0, 1, 0x0, 1, .rc, false, false, false, false, 0x0,
      0x0, 0x0, 0x0, 0x0, 0xffffffff, 0x0, []⟩,
    ⟨"RDG_RESYNCS", 0x2100c0, 0x0, 1, 0x0, 1, .rc, false, false, false, false, 0x0,
      0x0, 0x0, 0x0, 0x0, 0xffffffff, 0x0, []⟩,
    ⟨"RDG_TAKEOVERS", 0x2100c4, 0x0, 1, 0x0, 1, .rc, false, false, false, false, 0x0,
      0x0, 0x0, 0x0, 0x0, 0xffffffff, 0x0, []⟩,
    ⟨"RDG_DUAL_ACTIVE", 0x2100c8, 0x0, 1, 0x0, 1, .rc, false, false, false, false, 0x0,
      0x0, 0x0, 0x0, 0x0, 0xffffffff, 0x0, []⟩ ] ++
  [ ⟨"RDG_WITNESSj", 0x210100, 0x4, 16, 0x0, 1, .rw, false, true, false, false, 0x0,
      0xffffffff, 0x0, 0x0, 0x0, 0x0, 0x0, []⟩,
    ⟨"RDG_HEALTH_LOCALj", 0x210140, 0x4, 16, 0x0, 1, .ro, false, false, false, false, 0x0,
      0x0, 0x0, 0x0, 0x0, 0xffffffff, 0x0, []⟩,
    ⟨"RDG_HEALTH_PEERj", 0x210180, 0x4, 16, 0x0, 1, .ro, false, false, false, false, 0x0,
      0x0, 0x0, 0x0, 0x0, 0xffffffff, 0x0, []⟩ ]

/-- The UPD block's registers. -/
def specsUPD : List RegSpec :=
  [ ⟨"UPD_CTRL", 0x220000, 0x0, 1, 0x0, 1, .rw, false, true, false, false, 0x0,
      0x7, 0x0, 0x0, 0x0, 0x0, 0x0, []⟩,
    ⟨"UPD_STATE", 0x220004, 0x0, 1, 0x0, 1, .ro, false, false, false, false, 0x0,
      0x0, 0x0, 0x0, 0x0, 0x7ff0f, 0x0, []⟩,
    ⟨"UPD_CMD", 0x220008, 0x0, 1, 0x0, 1, .rw, false, true, false, false, 0x0,
      0x0, 0x0, 0x7, 0x0, 0x0, 0x0, []⟩,
    ⟨"UPD_RATE", 0x22000c, 0x0, 1, 0x0, 1, .rw, false, true, false, false, 0x100,
      0x7fff, 0x0, 0x0, 0x0, 0x0, 0x0, [.range 14 0 16 16384]⟩,
    ⟨"UPD_WIN_BASE", 0x220010, 0x0, 1, 0x0, 1, .lk, false, false, false, false, 0x0,
      0x0, 0x0, 0x0, 0x3fffff, 0x0, 0x0, []⟩,
    ⟨"UPD_BLK_INDEX", 0x220014, 0x0, 1, 0x0, 1, .rw, false, true, false, false, 0x0,
      0x3ffff, 0x0, 0x0, 0x0, 0x0, 0x0, []⟩,
    ⟨"UPD_BLK_RESULT", 0x220018, 0x0, 1, 0x0, 1, .ro, false, false, false, false, 0x0,
      0x0, 0x0, 0x0, 0x0, 0x1ff, 0x0, []⟩,
    ⟨"UPD_PKG_ID", 0x22001c, 0x0, 1, 0x0, 1, .ro, false, false, false, false, 0x0,
      0x0, 0x0, 0x0, 0x0, 0xffffffff, 0x0, []⟩,
    ⟨"UPD_BLOCKS", 0x220020, 0x0, 1, 0x0, 1, .ro, false, false, false, false, 0x0,
      0x0, 0x0, 0x0, 0x0, 0x7ffff, 0x0, []⟩,
    ⟨"UPD_MISSING", 0x220024, 0x0, 1, 0x0, 1, .ro, false, false, false, false, 0x0,
      0x0, 0x0, 0x0, 0x0, 0x7ffff, 0x0, []⟩,
    ⟨"UPD_NEXT_MISSING", 0x220028, 0x0, 1, 0x0, 1, .ro, false, false, false, false, 0x7ffff,
      0x0, 0x0, 0x0, 0x0, 0x7ffff, 0x0, []⟩,
    ⟨"UPD_CAPACITY", 0x22002c, 0x0, 1, 0x0, 1, .ro, false, false, false, false, 0x0,
      0x0, 0x0, 0x0, 0x0, 0x7ffff, 0x0, []⟩,
    ⟨"UPD_ORDER", 0x220030, 0x0, 1, 0x0, 1, .ro, false, false, false, false, 0xffffffff,
      0x0, 0x0, 0x0, 0x0, 0xffffffff, 0x0, []⟩,
    ⟨"UPD_DONE_MASK", 0x220034, 0x0, 1, 0x0, 1, .ro, false, false, false, false, 0x0,
      0x0, 0x0, 0x0, 0x0, 0xff, 0x0, []⟩,
    ⟨"UPD_REFUSE", 0x220038, 0x0, 1, 0x0, 1, .ro, false, false, false, false, 0x0,
      0x0, 0x0, 0x0, 0x0, 0x1ff00ff, 0x0, []⟩,
    ⟨"UPD_HANDOVER_FRAME_LO", 0x22003c, 0x0, 1, 0x0, 1, .ro, false, false, false, false, 0x0,
      0x0, 0x0, 0x0, 0x0, 0xffffffff, 0x0, []⟩,
    ⟨"UPD_HANDOVER_FRAME_HI", 0x220040, 0x0, 1, 0x0, 1, .ro, false, false, false, false, 0x0,
      0x0, 0x0, 0x0, 0x0, 0xffff, 0x0, []⟩,
    ⟨"UPD_RUN_FW", 0x220044, 0x0, 1, 0x0, 1, .ro, false, false, false, false, 0x0,
      0x0, 0x0, 0x0, 0x0, 0xffffffff, 0x0, []⟩,
    ⟨"UPD_RUN_UCODE", 0x220048, 0x0, 1, 0x0, 1, .ro, false, false, false, false, 0x0,
      0x0, 0x0, 0x0, 0x0, 0xffffffff, 0x0, []⟩,
    ⟨"UPD_RUN_SAFETY", 0x22004c, 0x0, 1, 0x0, 1, .ro, false, false, false, false, 0x0,
      0x0, 0x0, 0x0, 0x0, 0xffffffff, 0x0, []⟩,
    ⟨"UPD_PEER_FW", 0x220050, 0x0, 1, 0x0, 1, .ro, false, false, false, false, 0x0,
      0x0, 0x0, 0x0, 0x0, 0xffffffff, 0x0, []⟩,
    ⟨"UPD_FUSE_MIN_VER", 0x220054, 0x0, 1, 0x0, 1, .ro, false, false, false, false, 0x0,
      0x0, 0x0, 0x0, 0x0, 0xffffffff, 0x0, []⟩,
    ⟨"UPD_BLK_CRC_ERR", 0x220058, 0x0, 1, 0x0, 1, .rc, false, false, false, false, 0x0,
      0x0, 0x0, 0x0, 0x0, 0xffffffff, 0x0, []⟩,
    ⟨"UPD_BLK_DUP", 0x22005c, 0x0, 1, 0x0, 1, .rc, false, false, false, false, 0x0,
      0x0, 0x0, 0x0, 0x0, 0xffffffff, 0x0, []⟩ ] ++
  [ ⟨"UPD_BLK_BUSY", 0x220060, 0x0, 1, 0x0, 1, .rc, false, false, false, false, 0x0,
      0x0, 0x0, 0x0, 0x0, 0xffffffff, 0x0, []⟩,
    ⟨"UPD_DRV_PENDING", 0x220064, 0x0, 1, 0x0, 1, .ro, false, false, false, false, 0x0,
      0x0, 0x0, 0x0, 0x0, 0x3ffff, 0x0, []⟩,
    ⟨"UPD_DRV_SEL", 0x220068, 0x0, 1, 0x0, 1, .rw, false, false, true, false, 0x0,
      0x1ffff, 0x0, 0x0, 0x0, 0x0, 0x0, []⟩,
    ⟨"UPD_DRV_VER", 0x22006c, 0x0, 1, 0x0, 1, .ro, false, false, false, false, 0x0,
      0x0, 0x0, 0x0, 0x0, 0xffffffff, 0x0, []⟩,
    ⟨"UPD_DRV_TYPE", 0x220070, 0x0, 1, 0x0, 1, .ro, false, false, false, false, 0x0,
      0x0, 0x0, 0x0, 0x0, 0xffff, 0x0, []⟩,
    ⟨"UPD_SETTINGS_FMT", 0x220074, 0x0, 1, 0x0, 1, .ro, false, false, false, false, 0x0,
      0x0, 0x0, 0x0, 0x0, 0xffffffff, 0x0, []⟩,
    ⟨"UPD_ACTIVATIONS", 0x220078, 0x0, 1, 0x0, 1, .rc, false, false, false, false, 0x0,
      0x0, 0x0, 0x0, 0x0, 0xffffffff, 0x0, []⟩,
    ⟨"UPD_FAILURES", 0x22007c, 0x0, 1, 0x0, 1, .rc, false, false, false, false, 0x0,
      0x0, 0x0, 0x0, 0x0, 0xffffffff, 0x0, []⟩,
    ⟨"UPD_PARTk_INFO", 0x220100, 0x8, 8, 0x0, 1, .ro, false, false, false, false, 0x0,
      0x0, 0x0, 0x0, 0x0, 0xffff07ff, 0x0, []⟩,
    ⟨"UPD_PARTk_VER", 0x220104, 0x8, 8, 0x0, 1, .ro, false, false, false, false, 0x0,
      0x0, 0x0, 0x0, 0x0, 0xffffffff, 0x0, []⟩ ]

/-- The HKP block's registers. -/
def specsHKP : List RegSpec :=
  [ ⟨"HKP_THERM_CFG", 0x240000, 0x0, 1, 0x0, 1, .rw, false, true, false, false, 0x17869,
      0x1ffff, 0x0, 0x0, 0x0, 0x0, 0x0, [.range 7 0 70 110, .range 15 8 110 125]⟩,
    ⟨"HKP_THERM_STATUS", 0x240004, 0x0, 1, 0x0, 1, .rw, false, false, false, false, 0x0,
      0x0, 0x4, 0x0, 0x0, 0xfff00f3, 0x0, []⟩,
    ⟨"HKP_TJ_MAX", 0x240008, 0x0, 1, 0x0, 1, .ro, false, false, false, false, 0x0,
      0x0, 0x0, 0x0, 0x0, 0xffff, 0x0, []⟩,
    ⟨"HKP_TJ_PEAK", 0x24000c, 0x0, 1, 0x0, 1, .rc, false, false, false, false, 0x0,
      0x0, 0x0, 0x0, 0x0, 0xffffffff, 0x0, []⟩,
    ⟨"HKP_HOT_COUNT", 0x240010, 0x0, 1, 0x0, 1, .rc, false, false, false, false, 0x0,
      0x0, 0x0, 0x0, 0x0, 0xffffffff, 0x0, []⟩,
    ⟨"HKP_SHUT_COUNT", 0x240014, 0x0, 1, 0x0, 1, .rc, false, false, false, true, 0x0,
      0x0, 0x0, 0x0, 0x0, 0xffffffff, 0x0, []⟩,
    ⟨"HKP_Ts", 0x240040, 0x4, 12, 0x0, 1, .ro, false, false, false, false, 0x0,
      0x0, 0x0, 0x0, 0x0, 0xffff, 0x0, []⟩,
    ⟨"HKP_Ts_PEAK", 0x240080, 0x4, 12, 0x0, 1, .rc, false, false, false, false, 0x0,
      0x0, 0x0, 0x0, 0x0, 0xffffffff, 0x0, []⟩,
    ⟨"HKP_Ts_MIN", 0x2400c0, 0x4, 12, 0x0, 1, .rc, false, false, false, false, 0x0,
      0x0, 0x0, 0x0, 0x0, 0xffffffff, 0x0, []⟩,
    ⟨"HKP_Ts_CFG", 0x240100, 0x4, 12, 0x0, 1, .rw, false, true, false, false, 0x100,
      0x1ff, 0x0, 0x0, 0x0, 0x0, 0x0, []⟩,
    ⟨"HKP_AVS_CFG", 0x240140, 0x0, 1, 0x0, 1, .rw, false, true, false, false, 0x50a00,
      0xffff01, 0x0, 0x0, 0x0, 0x0, 0x0, [.range 15 8 1 60, .range 23 16 1 10]⟩,
    ⟨"HKP_AVS_LIMITS", 0x240144, 0x0, 1, 0x0, 1, .rw, false, true, false, false, 0x352028a,
      0x3ff03ff, 0x0, 0x0, 0x0, 0x0, 0x0, [.range 9 0 650 850, .range 25 16 650 850]⟩,
    ⟨"HKP_AVS_STATUS", 0x240148, 0x0, 1, 0x0, 1, .rw, false, false, false, false, 0x0,
      0x0, 0x4, 0x0, 0x0, 0xf3, 0x0, []⟩,
    ⟨"HKP_VCORE_REQ", 0x24014c, 0x0, 1, 0x0, 1, .ro, false, false, false, false, 0x2ee,
      0x0, 0x0, 0x0, 0x0, 0x3ff, 0x0, []⟩,
    ⟨"HKP_VCORE_READ", 0x240150, 0x0, 1, 0x0, 1, .ro, false, false, false, false, 0x0,
      0x0, 0x0, 0x0, 0x0, 0x3ff, 0x0, []⟩,
    ⟨"HKP_AVS_ERR", 0x240154, 0x0, 1, 0x0, 1, .rc, false, false, false, false, 0x0,
      0x0, 0x0, 0x0, 0x0, 0xffffffff, 0x0, []⟩,
    ⟨"HKP_AVS_STEPS", 0x240158, 0x0, 1, 0x0, 1, .rc, false, false, false, false, 0x0,
      0x0, 0x0, 0x0, 0x0, 0xffffffff, 0x0, []⟩,
    ⟨"HKP_MARGIN_CFG", 0x24015c, 0x0, 1, 0x0, 1, .rw, false, true, false, false, 0x145032,
      0xffffff, 0x0, 0x0, 0x0, 0x0, 0x0, [.range 7 0 20 200]⟩,
    ⟨"HKP_MARGIN", 0x240160, 0x0, 1, 0x0, 1, .ro, false, false, false, false, 0x0,
      0x0, 0x0, 0x0, 0x0, 0xffffffff, 0x0, []⟩,
    ⟨"HKP_REPLAN_TIME_LO", 0x240164, 0x0, 1, 0x0, 1, .ro, false, false, false, false, 0x0,
      0x0, 0x0, 0x0, 0x0, 0xffffffff, 0x0, []⟩,
    ⟨"HKP_REPLAN_TIME_HI", 0x240168, 0x0, 1, 0x0, 1, .ro, false, false, false, false, 0x0,
      0x0, 0x0, 0x0, 0x0, 0xffffffff, 0x0, []⟩,
    ⟨"HKP_RXSHIFT", 0x24016c, 0x0, 1, 0x0, 1, .ro, false, false, false, false, 0x0,
      0x0, 0x0, 0x0, 0x0, 0xffff, 0x0, []⟩,
    ⟨"HKP_SENS_DV", 0x240170, 0x0, 1, 0x0, 1, .ro, false, false, false, false, 0x0,
      0x0, 0x0, 0x0, 0x0, 0xffff, 0x0, []⟩,
    ⟨"HKP_PMB_CFG", 0x240174, 0x0, 1, 0x0, 1, .rw, false, true, false, false, 0xa80,
      0xffff, 0x0, 0x0, 0x0, 0x0, 0x0, [.range 15 8 1 50]⟩ ] ++
  [ ⟨"HKP_PMB_VOUT", 0x240178, 0x0, 1, 0x0, 1, .ro, false, false, false, false, 0x0,
      0x0, 0x0, 0x0, 0x0, 0xffff, 0x0, []⟩,
    ⟨"HKP_PMB_IOUT", 0x24017c, 0x0, 1, 0x0, 1, .ro, false, false, false, false, 0x0,
      0x0, 0x0, 0x0, 0x0, 0xffff, 0x0, []⟩,
    ⟨"HKP_PMB_TEMP", 0x240180, 0x0, 1, 0x0, 1, .ro, false, false, false, false, 0x0,
      0x0, 0x0, 0x0, 0x0, 0xffff, 0x0, []⟩,
    ⟨"HKP_PMB_STATUS", 0x240184, 0x0, 1, 0x0, 1, .ro, false, false, false, false, 0x0,
      0x0, 0x0, 0x0, 0x0, 0xffff, 0x0, []⟩,
    ⟨"HKP_PDMm", 0x240200, 0x4, 24, 0x0, 1, .ro, false, false, false, false, 0x0,
      0x0, 0x0, 0x0, 0x0, 0xffff, 0x0, []⟩,
    ⟨"HKP_PDMm_MIN", 0x240280, 0x4, 24, 0x0, 1, .rc, false, false, false, false, 0x0,
      0x0, 0x0, 0x0, 0x0, 0xffffffff, 0x0, []⟩,
    ⟨"HKP_PDMm_BASE", 0x240300, 0x4, 24, 0x0, 1, .ro, false, false, false, false, 0x0,
      0x0, 0x0, 0x0, 0x0, 0xffffffff, 0x0, []⟩,
    ⟨"HKP_FOG_CFG", 0x240380, 0x0, 1, 0x0, 1, .lk, false, false, false, false, 0x0,
      0x0, 0x0, 0x0, 0x3ff0007, 0x0, 0x0, [.range 25 16 1 1000]⟩,
    ⟨"HKP_FOG_STATUS", 0x240384, 0x0, 1, 0x0, 1, .ro, false, false, false, false, 0x0,
      0x0, 0x0, 0x0, 0x0, 0x7f, 0x0, []⟩,
    ⟨"HKP_FOG_COUNT", 0x240388, 0x0, 1, 0x0, 1, .rc, false, false, false, false, 0x0,
      0x0, 0x0, 0x0, 0x0, 0xffffffff, 0x0, []⟩,
    ⟨"HKP_FOG_LAST", 0x24038c, 0x0, 1, 0x0, 1, .ro, false, false, false, false, 0x0,
      0x0, 0x0, 0x0, 0x0, 0xff, 0x0, []⟩,
    ⟨"HKP_SS_CPX", 0x240390, 0x0, 1, 0x0, 1, .rw, false, true, false, false, 0x0,
      0x3, 0x0, 0x0, 0x0, 0x0, 0x0, []⟩,
    ⟨"HKP_SLEW", 0x240394, 0x0, 1, 0x0, 1, .rw, false, true, false, false, 0x5,
      0xf, 0x0, 0x0, 0x0, 0x0, 0x0, []⟩,
    ⟨"HKP_FILT_SAFE", 0x240398, 0x0, 1, 0x0, 1, .lk, false, false, false, false, 0x0,
      0x0, 0x0, 0x0, 0xff, 0x0, 0x0, [.range 7 0 5 250]⟩,
    ⟨"HKP_FILT_GLK", 0x24039c, 0x0, 1, 0x0, 1, .rw, false, true, false, false, 0x505,
      0xffff, 0x0, 0x0, 0x0, 0x0, 0x0, [.range 7 0 5 250, .range 15 8 5 250]⟩,
    ⟨"HKP_FILT_MISC", 0x2403a0, 0x0, 1, 0x0, 1, .rw, false, true, false, false, 0x191919,
      0xffffff, 0x0, 0x0, 0x0, 0x0, 0x0, [.range 7 0 5 250, .range 15 8 5 250, .range 23 16 5 250]⟩,
    ⟨"HKP_FILT_GPIO", 0x2403a4, 0x0, 1, 0x0, 1, .rw, false, true, false, false, 0x5,
      0xff, 0x0, 0x0, 0x0, 0x0, 0x0, [.range 7 0 5 250]⟩,
    ⟨"HKP_GPIO_IN", 0x240400, 0x0, 1, 0x0, 1, .ro, false, false, false, false, 0x0,
      0x0, 0x0, 0x0, 0x0, 0xffffffff, 0x0, []⟩,
    ⟨"HKP_GPIO_OUT", 0x240404, 0x0, 1, 0x0, 1, .rw, false, true, false, false, 0x0,
      0xffffffff, 0x0, 0x0, 0x0, 0x0, 0x0, []⟩,
    ⟨"HKP_GPIO_SET", 0x240408, 0x0, 1, 0x0, 1, .rw, false, true, false, false, 0x0,
      0x0, 0x0, 0x0, 0x0, 0x0, 0xffffffff, []⟩,
    ⟨"HKP_GPIO_CLR", 0x24040c, 0x0, 1, 0x0, 1, .rw, false, true, false, false, 0x0,
      0x0, 0x0, 0x0, 0x0, 0x0, 0xffffffff, []⟩,
    ⟨"HKP_GPIO_EDGE", 0x240410, 0x0, 1, 0x0, 1, .rw, false, false, false, false, 0x0,
      0x0, 0xffffffff, 0x0, 0x0, 0x0, 0x0, []⟩,
    ⟨"HKP_GPIO_LL", 0x240414, 0x0, 1, 0x0, 1, .ro, false, false, false, false, 0x0,
      0x0, 0x0, 0x0, 0x0, 0xffffffff, 0x0, []⟩,
    ⟨"HKP_GPIOp_CFG", 0x240500, 0x4, 32, 0x0, 1, .rw, false, true, false, false, 0x0,
      0x1ff, 0x0, 0x0, 0x0, 0x0, 0x0, [.code 2 0 3, .code 5 4 2]⟩ ]

/-- The rows of the block that holds the offset (R379). -/
def blockSpecs (off : Nat) : List RegSpec :=
  if off < 0x10000 then specsSYS else
  if off < 0x20000 then specsBOOT else
  if off < 0x30000 then specsKPR else
  if off < 0x40000 then specsEVT else
  if off < 0x60000 then specsNET else
  if off < 0x70000 then specsSHOW else
  if off < 0x80000 then specsQUE else
  if off < 0x100000 then specsSCH else
  if off < 0x120000 then specsCMP else
  if off < 0x140000 then specsCHK else
  if off < 0x180000 then specsPHO else
  if off < 0x1c0000 then specsBAT else
  if off < 0x1d0000 then specsPVW else
  if off < 0x1e0000 then specsHDR else
  if off < 0x200000 then specsMTR else
  if off < 0x210000 then specsMEM else
  if off < 0x220000 then specsRDG else
  if off < 0x240000 then specsUPD else
  if off < 0x250000 then specsHKP else
  []

/-- The end of the block address map: an offset here or above is no register (R379). -/
def mapEnd : Nat := 0x250000

/-- The register at an offset, if its block's tables list one. -/
def specAt (off : Nat) : Option RegSpec := (blockSpecs off).find? (fun r => r.covers off)

end Sys2Proof.Machine

namespace Sys2Proof.Machine.R

def SHOW_CTRL : Nat := 0x60000
def SHOW_SRC_ORDER : Nat := 0x60004
def SHOW_SRC_STATUS : Nat := 0x60008
def SHOW_HOLD_CFG : Nat := 0x6000c
def SHOW_SLEW : Nat := 0x60010
def SHOW_OFFSET : Nat := 0x60014
def SHOW_RATE_ADJ : Nat := 0x60018
def SHOW_TIME_LO : Nat := 0x60020
def SHOW_TIME_HI : Nat := 0x60024
def SHOW_FRAME_LO : Nat := 0x60028
def SHOW_FRAME_HI : Nat := 0x6002c
def SHOW_POS : Nat := 0x60030
def SHOW_V_TOTAL : Nat := 0x60040
def SHOW_V_ACTIVE : Nat := 0x60044
def SHOW_LATCH_LINE : Nat := 0x60048
def SHOW_RATE_NUM : Nat := 0x6004c
def SHOW_RATE_DEN : Nat := 0x60050
def SHOW_MODE_STATE : Nat := 0x60054
def SHOW_GLK_DELAY : Nat := 0x60058
def SHOW_LTC_CFG : Nat := 0x6005c
def SHOW_WCLK_CFG : Nat := 0x60060
def SHOW_PTP_CFG : Nat := 0x60064
def SHOW_PTP_PHASE_OFFSET : Nat := 0x60070
def SHOW_FRAME_BASE_LO : Nat := 0x60074
def SHOW_FRAME_BASE_HI : Nat := 0x60078
def SHOW_FRAME_SET_LO : Nat := 0x60080
def SHOW_FRAME_SET_HI : Nat := 0x60084
def SHOW_FRAME_SET_CTRL : Nat := 0x60088
def SHOW_COMMIT_STATE : Nat := 0x60090
def SHOW_COMMIT_FRAME_LO : Nat := 0x60094
def SHOW_COMMIT_FRAME_HI : Nat := 0x60098
def SHOW_LL_CTRL : Nat := 0x600a0
def SHOW_LL_BASE : Nat := 0x600a4
def SHOW_LL_COUNT0 : Nat := 0x600a8
def SHOW_LL_COUNT1 : Nat := 0x600ac
def SHOW_LL_STATUS : Nat := 0x600b0
def SHOW_LL_NEXT : Nat := 0x600b4
def SHOW_LL_MISSED : Nat := 0x600b8
def SHOW_LL_LAST_MISSED : Nat := 0x600bc
def SHOW_SNAP_BASE : Nat := 0x600c0
def SHOW_SNAP_STATUS : Nat := 0x600c4
def NET_CTRL (n : Nat) : Nat := 0x40000 + n * 0x2000
def NET_STATUS (n : Nat) : Nat := 0x40004 + n * 0x2000
def NET_MAX_FRAME (n : Nat) : Nat := 0x40008 + n * 0x2000
def NET_MAC_LO (n : Nat) : Nat := 0x4000c + n * 0x2000
def NET_MAC_HI (n : Nat) : Nat := 0x40010 + n * 0x2000
def NET_TS_EXT (n : Nat) : Nat := 0x40014 + n * 0x2000
def NET_RXRk_BASE (n k : Nat) : Nat := 0x40100 + n * 0x2000 + k * 0x10
def NET_RXRk_SIZE (n k : Nat) : Nat := 0x40104 + n * 0x2000 + k * 0x10
def NET_RXRk_HEAD (n k : Nat) : Nat := 0x40108 + n * 0x2000 + k * 0x10
def NET_RXRk_TAIL (n k : Nat) : Nat := 0x4010c + n * 0x2000 + k * 0x10
def NET_TXQq_BASE (n k : Nat) : Nat := 0x40200 + n * 0x2000 + k * 0x20
def NET_TXQq_SIZE (n k : Nat) : Nat := 0x40204 + n * 0x2000 + k * 0x20
def NET_TXQq_HEAD (n k : Nat) : Nat := 0x40208 + n * 0x2000 + k * 0x20
def NET_TXQq_TAIL (n k : Nat) : Nat := 0x4020c + n * 0x2000 + k * 0x20
def NET_TXQq_CBS (n k : Nat) : Nat := 0x40210 + n * 0x2000 + k * 0x20
def NET_TXQq_IDLE_SLOPE (n k : Nat) : Nat := 0x40214 + n * 0x2000 + k * 0x20
def NET_TXQq_CREDIT (n k : Nat) : Nat := 0x40218 + n * 0x2000 + k * 0x20
def NET_RXRk_QUEUE (n k : Nat) : Nat := 0x40340 + n * 0x2000 + k * 0x4
def NET_TXTS_STATUS (n : Nat) : Nat := 0x40300 + n * 0x2000
def NET_TXTS_TAG (n : Nat) : Nat := 0x40304 + n * 0x2000
def NET_TXTS_LO (n : Nat) : Nat := 0x40308 + n * 0x2000
def NET_TXTS_HI (n : Nat) : Nat := 0x4030c + n * 0x2000
def NET_TXTS_FRAC (n : Nat) : Nat := 0x40310 + n * 0x2000
def NET_RX_FRAMES (n : Nat) : Nat := 0x40400 + n * 0x2000
def NET_RX_OCTETS_LO (n : Nat) : Nat := 0x40404 + n * 0x2000
def NET_RX_OCTETS_HI (n : Nat) : Nat := 0x40408 + n * 0x2000
def NET_RX_RUNT (n : Nat) : Nat := 0x4040c + n * 0x2000
def NET_RX_OVERSIZE (n : Nat) : Nat := 0x40410 + n * 0x2000
def NET_RX_FCS (n : Nat) : Nat := 0x40414 + n * 0x2000
def NET_RX_NOBUF (n : Nat) : Nat := 0x40418 + n * 0x2000
def NET_RX_PAUSE (n : Nat) : Nat := 0x4041c + n * 0x2000
def NET_RX_FILTERED (n : Nat) : Nat := 0x40420 + n * 0x2000
def NET_RX_CODE_ERR (n : Nat) : Nat := 0x40424 + n * 0x2000
def NET_TX_FRAMES (n : Nat) : Nat := 0x40428 + n * 0x2000
def NET_TX_OCTETS_LO (n : Nat) : Nat := 0x4042c + n * 0x2000
def NET_TX_OCTETS_HI (n : Nat) : Nat := 0x40430 + n * 0x2000
def NET_CASCADE_FWD (n : Nat) : Nat := 0x40434 + n * 0x2000
def NET_CASCADE_DROP (n : Nat) : Nat := 0x40438 + n * 0x2000
def NET_CASCADE_STOMPED (n : Nat) : Nat := 0x4043c + n * 0x2000
def NET_TC_CORRECTED (n : Nat) : Nat := 0x40440 + n * 0x2000
def NET_CASCADE_CTRL : Nat := 0x4c000
def NET_STRM_TIMEOUT : Nat := 0x4c004
def NET_PATH_SKEW : Nat := 0x4c008
def NET_SACN_BASE : Nat := 0x4c00c
def NET_SACN_COUNT : Nat := 0x4c010
def NET_SACN_TIMEOUT : Nat := 0x4c014
def NET_SACN_DISCARD : Nat := 0x4c018
def NET_STEER_r (n : Nat) : Nat := 0x4c020 + n * 0x4
def STRM_CTRL (n : Nat) : Nat := 0x4c400 + n * 0x40
def STRM_GROUP (n : Nat) : Nat := 0x4c404 + n * 0x40
def STRM_SOURCE (n : Nat) : Nat := 0x4c408 + n * 0x40
def STRM_UDP (n : Nat) : Nat := 0x4c40c + n * 0x40
def STRM_SIZE (n : Nat) : Nat := 0x4c410 + n * 0x40
def STRM_BUF (n : Nat) : Nat := 0x4c414 + n * 0x40
def STRM_STATUS (n : Nat) : Nat := 0x4c418 + n * 0x40
def STRM_LAST_RTP (n : Nat) : Nat := 0x4c41c + n * 0x40
def STRM_PKTS_A (n : Nat) : Nat := 0x4c420 + n * 0x40
def STRM_PKTS_B (n : Nat) : Nat := 0x4c424 + n * 0x40
def STRM_RECOVERED (n : Nat) : Nat := 0x4c428 + n * 0x40
def STRM_LOST (n : Nat) : Nat := 0x4c42c + n * 0x40
def STRM_FRAMES (n : Nat) : Nat := 0x4c430 + n * 0x40
def STRM_INCOMPLETE (n : Nat) : Nat := 0x4c434 + n * 0x40
def STRM_LATE (n : Nat) : Nat := 0x4c438 + n * 0x40
def STRM_FORMAT (n : Nat) : Nat := 0x4c43c + n * 0x40
def QUE_CTRL (n : Nat) : Nat := 0x70000 + n * 0x80
def QUE_BASE (n : Nat) : Nat := 0x70004 + n * 0x80
def QUE_SIZE (n : Nat) : Nat := 0x70008 + n * 0x80
def QUE_HIGH_WM (n : Nat) : Nat := 0x7000c + n * 0x80
def QUE_LOW_WM (n : Nat) : Nat := 0x70010 + n * 0x80
def QUE_STALE_TIME (n : Nat) : Nat := 0x70014 + n * 0x80
def QUE_LEVEL (n : Nat) : Nat := 0x70018 + n * 0x80
def QUE_ITEMS (n : Nat) : Nat := 0x7001c + n * 0x80
def QUE_STATUS (n : Nat) : Nat := 0x70020 + n * 0x80
def QUE_HI_COUNT (n : Nat) : Nat := 0x70024 + n * 0x80
def QUE_LO_COUNT (n : Nat) : Nat := 0x70028 + n * 0x80
def QUE_STALE_COUNT (n : Nat) : Nat := 0x7002c + n * 0x80
def QUE_FLUSH_PARTIAL (n : Nat) : Nat := 0x70030 + n * 0x80
def QUE_REFUSED (n : Nat) : Nat := 0x70034 + n * 0x80
def QUE_PUSH_ERR (n : Nat) : Nat := 0x70038 + n * 0x80
def QUE_PUSH (n : Nat) : Nat := 0x70040 + n * 0x80
def QUE_POP (n : Nat) : Nat := 0x70044 + n * 0x80
def QUE_DATA (n : Nat) : Nat := 0x70048 + n * 0x80
def QUE_CMD (n : Nat) : Nat := 0x7004c + n * 0x80
def QUE_DB_ENTRY (n : Nat) : Nat := 0x70050 + n * 0x80
def QUE_DB_CFG (n : Nat) : Nat := 0x70054 + n * 0x80
def QUE_DB_AFF (n : Nat) : Nat := 0x70058 + n * 0x80
def SCH_CTRL : Nat := 0x80000
def SCH_CORE_EN : Nat := 0x80004
def SCH_AFFINITY_WAIT : Nat := 0x80008
def SCH_FREE : Nat := 0x8000c
def SCH_LOW_SLOTS : Nat := 0x80010
def SCH_ROB_USED : Nat := 0x80014
def SCH_DISPATCHED : Nat := 0x80020
def SCH_REFUSED : Nat := 0x80024
def SCH_CANCELLED : Nat := 0x80028
def SCH_AFF_HIT : Nat := 0x8002c
def SCH_AFF_MISS : Nat := 0x80030
def SCH_DLY_CFGd (n : Nat) : Nat := 0x80040 + n * 0x4
def SCH_PORT_STALLED_LO : Nat := 0x80060
def SCH_PORT_STALLED_HI : Nat := 0x80064
def SCH_PORT_RESERVEp (n : Nat) : Nat := 0x80100 + n * 0x4
def SCH_SUB_W0 : Nat := 0x80200
def SCH_SUB_W1 : Nat := 0x80204
def SCH_SUB_W2 : Nat := 0x80208
def SCH_SUB_W3 : Nat := 0x8020c
def SCH_SUB_RESULT : Nat := 0x80210
def SCH_CANCEL : Nat := 0x80220
def SCH_CANCEL_RESULT : Nat := 0x80224
def SCH_FLOW_SEL : Nat := 0x80230
def SCH_FLOW_INFO : Nat := 0x80234
def SCH_Cc_HANDLE (n : Nat) : Nat := 0x80400 + n * 0x20
def SCH_Cc_ENTRY (n : Nat) : Nat := 0x80404 + n * 0x20
def SCH_Cc_ARG (n : Nat) : Nat := 0x80408 + n * 0x20
def SCH_Cc_DONE (n : Nat) : Nat := 0x8040c + n * 0x20
def SCH_Cc_STATE (n : Nat) : Nat := 0x80410 + n * 0x20
def CMP_CTRL : Nat := 0x100000
def CMP_CANVAS_SIZE : Nat := 0x100004
def CMP_CANVAS_MAX : Nat := 0x100008
def CMP_CANVAS_BASE : Nat := 0x10000c
def CMP_CACHE_BASE : Nat := 0x100010
def CMP_BG_RG : Nat := 0x100014
def CMP_BG_B : Nat := 0x100018
def CMP_DONE_LINE : Nat := 0x10001c
def CMP_PQ_PEAK : Nat := 0x100020
def CMP_CACHE_SPLIT01 : Nat := 0x100024
def CMP_CACHE_SPLIT2 : Nat := 0x100028
def CMP_SAFE_RESERVE : Nat := 0x10002c
def CMP_COEF_BASE : Nat := 0x100030
def CMP_COEF_CTRL : Nat := 0x100034
def CMP_STATUS : Nat := 0x100040
def CMP_ROW_DONE : Nat := 0x100044
def CMP_EST_TIME : Nat := 0x100048
def CMP_LAST_TIME : Nat := 0x10004c
def CMP_DONE_FRAME_LO : Nat := 0x100050
def CMP_DONE_FRAME_HI : Nat := 0x100054
def CMP_LATE : Nat := 0x100058
def CMP_PARITY : Nat := 0x10005c
def CMP_PARITY_LAST : Nat := 0x100060
def CMP_CACHE_BUILDS : Nat := 0x100064
def CMP_SRC_MISSING : Nat := 0x100068
def CMP_LYR_CTRL (n : Nat) : Nat := 0x101000 + n * 0x100
def CMP_LYR_SRC (n : Nat) : Nat := 0x101004 + n * 0x100
def CMP_LYR_ADDR (n : Nat) : Nat := 0x101008 + n * 0x100
def CMP_LYR_STRIDE (n : Nat) : Nat := 0x10100c + n * 0x100
def CMP_LYR_SRC_SIZE (n : Nat) : Nat := 0x101010 + n * 0x100
def CMP_LYR_CROP_XY (n : Nat) : Nat := 0x101014 + n * 0x100
def CMP_LYR_CROP_WH (n : Nat) : Nat := 0x101018 + n * 0x100
def CMP_LYR_DST_XY (n : Nat) : Nat := 0x10101c + n * 0x100
def CMP_LYR_DST_WH (n : Nat) : Nat := 0x101020 + n * 0x100
def CMP_LYR_OPACITY (n : Nat) : Nat := 0x101024 + n * 0x100
def CMP_LYR_FILL_RG (n : Nat) : Nat := 0x101028 + n * 0x100
def CMP_LYR_FILL_BA (n : Nat) : Nat := 0x10102c + n * 0x100
def CMP_LYR_STATUS (n : Nat) : Nat := 0x101030 + n * 0x100
def CMP_LYR_SRC_RTP (n : Nat) : Nat := 0x101034 + n * 0x100
def CMP_LYR_HSTEP (n : Nat) : Nat := 0x101038 + n * 0x100
def CMP_LYR_VSTEP (n : Nat) : Nat := 0x10103c + n * 0x100
def CHK_CTRL (n : Nat) : Nat := 0x120000 + n * 0x40
def CHK_REGION (n : Nat) : Nat := 0x120004 + n * 0x40
def CHK_XY (n : Nat) : Nat := 0x120008 + n * 0x40
def CHK_WH (n : Nat) : Nat := 0x12000c + n * 0x40
def CHK_RESULT (n : Nat) : Nat := 0x120010 + n * 0x40
def CHK_RESULT_PREV (n : Nat) : Nat := 0x120014 + n * 0x40
def CHK_RESULT_FRAME_LO (n : Nat) : Nat := 0x120018 + n * 0x40
def CHK_RESULT_FRAME_HI (n : Nat) : Nat := 0x12001c + n * 0x40
def CHK_EXPECT (n : Nat) : Nat := 0x120020 + n * 0x40
def CHK_EXPECT_FRAME_LO (n : Nat) : Nat := 0x120024 + n * 0x40
def CHK_EXPECT_FRAME_HI (n : Nat) : Nat := 0x120028 + n * 0x40
def CHK_STATUS (n : Nat) : Nat := 0x12002c + n * 0x40
def CHK_MISMATCHES (n : Nat) : Nat := 0x120030 + n * 0x40
def PHO_CTRL : Nat := 0x140000
def PHO_MAP_BASE : Nat := 0x140004
def PHO_MAP_COUNT0 : Nat := 0x140008
def PHO_MAP_COUNT1 : Nat := 0x14000c
def PHO_MAP_CTRL : Nat := 0x140010
def PHO_TBL_STATUS : Nat := 0x140014
def PHO_PROF_BASE : Nat := 0x140018
def PHO_PROF_CTRL : Nat := 0x14001c
def PHO_LAT_BASE : Nat := 0x140020
def PHO_GAIN_BASE : Nat := 0x140024
def PHO_GAIN_CTRL : Nat := 0x140028
def PHO_TRIM_BASE : Nat := 0x14002c
def PHO_SENS_BASE : Nat := 0x140030
def PHO_AGE_BASE : Nat := 0x140034
def PHO_REF_WHITE : Nat := 0x140038
def PHO_DONE_FRAME_LO : Nat := 0x14003c
def PHO_DONE_FRAME_HI : Nat := 0x140040
def PHO_EST_TIME : Nat := 0x140044
def PHO_LAST_TIME : Nat := 0x140048
def PHO_REPLAN_CFG : Nat := 0x14004c
def PHO_REPLAN_FRAME_LO : Nat := 0x140050
def PHO_REPLAN_FRAME_HI : Nat := 0x140054
def PHO_TRIM_FRAME_LO : Nat := 0x140058
def PHO_TRIM_FRAME_HI : Nat := 0x14005c
def PHO_AGE_STATUS : Nat := 0x140060
def PHO_GAIN_CLIP : Nat := 0x140070
def PHO_GAMUT_CLIP : Nat := 0x140074
def PHO_TEMP_STALE : Nat := 0x140078
def PHO_LATE : Nat := 0x14007c
def PHO_READ_ERR : Nat := 0x140080
def PHO_DERATED : Nat := 0x140084
def PHO_TRIM_REJECTED : Nat := 0x140088
def PHO_ZONE_PRED_z (n : Nat) : Nat := 0x140100 + n * 0x8
def PHO_ZONE_SAFE_z (n : Nat) : Nat := 0x140104 + n * 0x8
def PHO_ZONE_FRAME_LO : Nat := 0x140300
def PHO_ZONE_FRAME_HI : Nat := 0x140304
def PHO_LAT_SELj (n : Nat) : Nat := 0x140400 + n * 0x4
def BAT_CHn_CFG (n : Nat) : Nat := 0x180000 + n * 0x80
def BAT_CHn_MODECFG (n : Nat) : Nat := 0x180004 + n * 0x80
def BAT_CHn_STATUS (n : Nat) : Nat := 0x180008 + n * 0x80
def BAT_CHn_COMP (n : Nat) : Nat := 0x18000c + n * 0x80
def BAT_CHn_HOP (n : Nat) : Nat := 0x180010 + n * 0x80
def BAT_CHn_EYE (n : Nat) : Nat := 0x180014 + n * 0x80
def BAT_CHn_ERR (n : Nat) : Nat := 0x180018 + n * 0x80
def BAT_CHn_CMD (n : Nat) : Nat := 0x18001c + n * 0x80
def BAT_CTRL : Nat := 0x190000
def BAT_SS : Nat := 0x190004
def BAT_LATCH_ADJ : Nat := 0x190008
def BAT_RB_CFG : Nat := 0x19000c
def BAT_ENUM_PERIOD : Nat := 0x190010
def BAT_RANGE_PERIOD : Nat := 0x190014
def BAT_PATCH_BASE : Nat := 0x190018
def BAT_PLACE_BASE : Nat := 0x19001c
def BAT_STAT_BASE : Nat := 0x190020
def BAT_OUT_BASE : Nat := 0x190024
def BAT_CFG_BASE : Nat := 0x190028
def BAT_EYE_MIN : Nat := 0x19002c
def BAT_MOTION_HOLD : Nat := 0x190030
def BAT_UNDERRUN : Nat := 0x190040
def BAT_RB_CRC : Nat := 0x190044
def BAT_MOVED : Nat := 0x190048
def BAT_NOT_FOUND : Nat := 0x19004c
def BAT_UNPATCHED : Nat := 0x190050
def BAT_RDM_CTRL : Nat := 0x190060
def BAT_RDM_BUF : Nat := 0x190064
def BAT_BANKb_CFG (n : Nat) : Nat := 0x190100 + n * 0x10
def BAT_BANKb_STATUS (n : Nat) : Nat := 0x190104 + n * 0x10
def BAT_BANKb_EXT (n : Nat) : Nat := 0x190108 + n * 0x10
def BAT_BANKb_PWN (n : Nat) : Nat := 0x19010c + n * 0x10
def HDR_CTRL : Nat := 0x1d0000
def HDR_RAIL_LEAD : Nat := 0x1d0004
def HDR_HR_MIN : Nat := 0x1d0008
def HDR_HR_BASE : Nat := 0x1d000c
def HDR_GRP_BASE : Nat := 0x1d0010
def HDR_CORR_BASE : Nat := 0x1d0014
def HDR_FB_CFG : Nat := 0x1d0018
def HDR_CORR_WIN : Nat := 0x1d001c
def HDR_RELEASE : Nat := 0x1d0020
def HDR_STATUS : Nat := 0x1d0024
def HDR_FRAME_LO : Nat := 0x1d0028
def HDR_FRAME_HI : Nat := 0x1d002c
def HDR_RAIL_CLIP : Nat := 0x1d0030
def HDR_HR_LOW : Nat := 0x1d0034
def HDR_GUARD_HOLDS : Nat := 0x1d0038
def HDR_RAIL_SLOW : Nat := 0x1d003c
def HDR_GRP_SEL : Nat := 0x1d0040
def HDR_GRP_INFO : Nat := 0x1d0044
def HDR_GRP_HR : Nat := 0x1d0048
def HDR_Zz_BUDGET (n : Nat) : Nat := 0x1d1000 + n * 0x40
def HDR_Zz_CFG (n : Nat) : Nat := 0x1d1004 + n * 0x40
def HDR_Zz_EFF (n : Nat) : Nat := 0x1d1008 + n * 0x40
def HDR_Zz_QUIES (n : Nat) : Nat := 0x1d100c + n * 0x40
def HDR_Zz_VNOM (n : Nat) : Nat := 0x1d1010 + n * 0x40
def HDR_Zz_METER_LO (n : Nat) : Nat := 0x1d1014 + n * 0x40
def HDR_Zz_METER_HI (n : Nat) : Nat := 0x1d1018 + n * 0x40
def HDR_Zz_K (n : Nat) : Nat := 0x1d101c + n * 0x40
def HDR_Zz_SCALE (n : Nat) : Nat := 0x1d1020 + n * 0x40
def HDR_Zz_PRED (n : Nat) : Nat := 0x1d1024 + n * 0x40
def HDR_Zz_BEFF (n : Nat) : Nat := 0x1d1028 + n * 0x40
def HDR_Zz_LED (n : Nat) : Nat := 0x1d102c + n * 0x40
def HDR_Zz_HLOSS (n : Nat) : Nat := 0x1d1030 + n * 0x40
def HDR_Zz_MEAS (n : Nat) : Nat := 0x1d1034 + n * 0x40
def HDR_Zz_STATUS (n : Nat) : Nat := 0x1d1038 + n * 0x40
def HDR_Bc_CTRL (n : Nat) : Nat := 0x1d2000 + n * 0x40
def HDR_Bc_PWM (n : Nat) : Nat := 0x1d2004 + n * 0x40
def HDR_Bc_SENSE (n : Nat) : Nat := 0x1d2008 + n * 0x40
def HDR_Bc_LOOP (n : Nat) : Nat := 0x1d200c + n * 0x40
def HDR_Bc_LIMIT (n : Nat) : Nat := 0x1d2010 + n * 0x40
def HDR_Bc_RAMP (n : Nat) : Nat := 0x1d2014 + n * 0x40
def HDR_Bc_STATUS (n : Nat) : Nat := 0x1d2018 + n * 0x40
def HDR_Bc_IOUT (n : Nat) : Nat := 0x1d201c + n * 0x40
def HDR_Bc_REF (n : Nat) : Nat := 0x1d2020 + n * 0x40
def MTR_CTRL : Nat := 0x1e0000
def MTR_MEAS : Nat := 0x1e0004
def MTR_SAVE_PERIOD : Nat := 0x1e0008
def MTR_SAVE_STATUS : Nat := 0x1e000c
def MTR_SAVE_SEQ : Nat := 0x1e0010
def MTR_CMD : Nat := 0x1e0014
def MTR_SAVE_FAIL : Nat := 0x1e0018
def MTR_GAP_STATUS : Nat := 0x1e0020
def MTR_GAP_START_LO : Nat := 0x1e0024
def MTR_GAP_START_HI : Nat := 0x1e0028
def MTR_GAP_END_LO : Nat := 0x1e002c
def MTR_GAP_END_HI : Nat := 0x1e0030
def MTR_GAP_SEL : Nat := 0x1e0034
def MTR_GAP_EST : Nat := 0x1e0038
def MTR_Pp_CFG (n : Nat) : Nat := 0x1e0100 + n * 0x20
def MTR_Pp_EPP (n : Nat) : Nat := 0x1e0104 + n * 0x20
def MTR_Pp_WIDTH (n : Nat) : Nat := 0x1e0108 + n * 0x20
def MTR_Pp_COUNT (n : Nat) : Nat := 0x1e010c + n * 0x20
def MTR_Pp_BACKLOG (n : Nat) : Nat := 0x1e0110 + n * 0x20
def MTR_Pp_RESID (n : Nat) : Nat := 0x1e0114 + n * 0x20
def MTR_Pp_LOST (n : Nat) : Nat := 0x1e0118 + n * 0x20
def MTR_Cn_CFG (n : Nat) : Nat := 0x1e1000 + n * 0x40
def MTR_Cn_STATUS (n : Nat) : Nat := 0x1e1004 + n * 0x40
def MTR_Cn_RMS (n : Nat) : Nat := 0x1e1008 + n * 0x40
def MTR_Cn_P (n : Nat) : Nat := 0x1e100c + n * 0x40
def MTR_Cn_Q (n : Nat) : Nat := 0x1e1010 + n * 0x40
def MTR_Cn_S (n : Nat) : Nat := 0x1e1014 + n * 0x40
def MTR_Cn_IMP_LO (n : Nat) : Nat := 0x1e1018 + n * 0x40
def MTR_Cn_IMP_HI (n : Nat) : Nat := 0x1e101c + n * 0x40
def MTR_Cn_EXP_LO (n : Nat) : Nat := 0x1e1020 + n * 0x40
def MTR_Cn_EXP_HI (n : Nat) : Nat := 0x1e1024 + n * 0x40
def MTR_Cn_WIN_IMP (n : Nat) : Nat := 0x1e1028 + n * 0x40
def MTR_Cn_WIN_EXP (n : Nat) : Nat := 0x1e102c + n * 0x40
def MTR_Cn_WRAP (n : Nat) : Nat := 0x1e1030 + n * 0x40
def MTR_Cn_EST (n : Nat) : Nat := 0x1e1034 + n * 0x40
def MTR_Cn_CAL_INFO (n : Nat) : Nat := 0x1e1038 + n * 0x40
def MTR_Cn_CAL_CMD (n : Nat) : Nat := 0x1e103c + n * 0x40
def MTR_Kn_FS (n : Nat) : Nat := 0x1e3000 + n * 0x40
def MTR_Kn_GAIN_RMS (n : Nat) : Nat := 0x1e3004 + n * 0x40
def MTR_Kn_GAIN_P (n : Nat) : Nat := 0x1e3008 + n * 0x40
def MTR_Kn_GAIN_Q (n : Nat) : Nat := 0x1e300c + n * 0x40
def MTR_Kn_OFS_RMS (n : Nat) : Nat := 0x1e3010 + n * 0x40
def MTR_Kn_OFS_PQ (n : Nat) : Nat := 0x1e3014 + n * 0x40
def MTR_Kn_PHASE (n : Nat) : Nat := 0x1e3018 + n * 0x40
def MTR_Kn_CAL_TIME_LO (n : Nat) : Nat := 0x1e301c + n * 0x40
def MTR_Kn_CAL_TIME_HI (n : Nat) : Nat := 0x1e3020 + n * 0x40
def PVW_CTRL : Nat := 0x1c0000
def PVW_LANE_RATE : Nat := 0x1c0004
def PVW_PCLK : Nat := 0x1c0008
def PVW_H_TIMING1 : Nat := 0x1c000c
def PVW_H_TIMING2 : Nat := 0x1c0010
def PVW_V_TIMING1 : Nat := 0x1c0014
def PVW_V_TIMING2 : Nat := 0x1c0018
def PVW_CROP_XY : Nat := 0x1c001c
def PVW_CROP_WH : Nat := 0x1c0020
def PVW_OUT_XY : Nat := 0x1c0024
def PVW_OUT_WH : Nat := 0x1c0028
def PVW_BORDER : Nat := 0x1c002c
def PVW_APPLY : Nat := 0x1c0030
def PVW_TE_CFG : Nat := 0x1c0034
def PVW_CMD_RATE : Nat := 0x1c0038
def PVW_STATUS : Nat := 0x1c0040
def PVW_LINE_NS : Nat := 0x1c0044
def PVW_HSTEP : Nat := 0x1c0048
def PVW_VSTEP : Nat := 0x1c004c
def PVW_CANVAS_FRAME_LO : Nat := 0x1c0050
def PVW_CANVAS_FRAME_HI : Nat := 0x1c0054
def PVW_UNDERRUN : Nat := 0x1c0058
def PVW_TE_SKIP : Nat := 0x1c005c
def PVW_FRAMES : Nat := 0x1c0060
def PVW_CMD_CTRL : Nat := 0x1c0070
def PVW_CMD_LEN : Nat := 0x1c0074
def PVW_CMD_BUF : Nat := 0x1c0078
def PVW_CMD_RESP : Nat := 0x1c007c
def MEM_CTRL : Nat := 0x200000
def MEM_CARVE_BASE : Nat := 0x200004
def MEM_SCRUB_PERIOD : Nat := 0x200008
def MEM_SCRUB_POS : Nat := 0x20000c
def MEM_SCRUB_PASSES : Nat := 0x200010
def MEM_STATUS : Nat := 0x200014
def MEM_TRACKED : Nat := 0x200018
def MEM_NOTIFY : Nat := 0x20001c
def MEM_ERR_ADDR_LO : Nat := 0x200020
def MEM_ERR_ADDR_HI : Nat := 0x200024
def MEM_ERR_INFO : Nat := 0x200028
def MEM_CORR_TOTAL : Nat := 0x200030
def MEM_UNCORR_TOTAL : Nat := 0x200034
def MEM_POISON_READS : Nat := 0x200038
def MEM_SRAM_CORR : Nat := 0x20003c
def MEM_SRAM_UNCORR : Nat := 0x200040
def MEM_SRAM_LAST : Nat := 0x200044
def MEM_ZF_BASE : Nat := 0x200050
def MEM_ZF_SIZE : Nat := 0x200054
def MEM_ZF_CTRL : Nat := 0x200058
def MEM_ZF_POS : Nat := 0x20005c
def MEM_SHARE_SHORT_CNT : Nat := 0x200060
def MEM_BWa (n : Nat) : Nat := 0x200080 + n * 0x4
def MEM_TEST_CTRL : Nat := 0x200100
def MEM_TEST_ADDR : Nat := 0x200104
def MEM_TEST_DATAj (n : Nat) : Nat := 0x200110 + n * 0x4
def MEM_TEST_CHECK : Nat := 0x200130
def MEM_TEST_CMD : Nat := 0x200134
def MEM_Rr_BASE (n : Nat) : Nat := 0x200400 + n * 0x20
def MEM_Rr_SIZE (n : Nat) : Nat := 0x200404 + n * 0x20
def MEM_Rr_CFG (n : Nat) : Nat := 0x200408 + n * 0x20
def MEM_Rr_CHK (n : Nat) : Nat := 0x20040c + n * 0x20
def MEM_Rr_CMD (n : Nat) : Nat := 0x200410 + n * 0x20
def MEM_Rr_CORR (n : Nat) : Nat := 0x200414 + n * 0x20
def MEM_Rr_UNCORR (n : Nat) : Nat := 0x200418 + n * 0x20
def MEM_Rr_POISON (n : Nat) : Nat := 0x20041c + n * 0x20
def KPR_CFG : Nat := 0x20000
def KPR_STATUS : Nat := 0x20004
def KPR_EPOCH : Nat := 0x20008
def KPR_LEASE_LEFT : Nat := 0x2000c
def KPR_UPDATE_LOCK : Nat := 0x20010
def KPR_SESSIONS : Nat := 0x20014
def KPR_AUTH_FAIL : Nat := 0x20018
def KPR_REPLAY : Nat := 0x2001c
def KPR_MSG_DROPPED : Nat := 0x20020
def KPR_EVT_LOST : Nat := 0x20024
def KPR_GRP_BASE : Nat := 0x20028
def KPR_KEY_COUNT : Nat := 0x2002c
def KPR_SESS_SEL : Nat := 0x20030
def KPR_SESS_INFO : Nat := 0x20034
def KPR_SESS_ADDR : Nat := 0x20038
def KPR_SESS_PORT : Nat := 0x2003c
def KPR_GRP_SEL : Nat := 0x20040
def KPR_GRP_CMD : Nat := 0x20044
def KPR_GRP_OFS : Nat := 0x20048
def KPR_GRP_VAL : Nat := 0x2004c
def KPR_GRP_COUNT : Nat := 0x20050
def KPR_COMMIT : Nat := 0x20054
def KPR_COMMIT_FRAME_LO : Nat := 0x20058
def KPR_COMMIT_FRAME_HI : Nat := 0x2005c
def KPR_COMMIT_LINE : Nat := 0x20060
def KPR_COMMIT_RESULT : Nat := 0x20064
def KPR_COMMIT_ERR_ADDR : Nat := 0x20068
def KPR_PENDING : Nat := 0x2006c
def EVT_SESS_RATE : Nat := 0x30000
def EVT_LOG_BASE : Nat := 0x30004
def EVT_LOG_SIZE : Nat := 0x30008
def EVT_LOG_HEAD : Nat := 0x3000c
def EVT_LOG_SEQ : Nat := 0x30010
def EVT_PENDj (n : Nat) : Nat := 0x30020 + n * 0x4
def EVT_Cc_PENDj (n k : Nat) : Nat := 0x30100 + n * 0x40 + k * 0x4
def EVT_Cc_NEXT (n : Nat) : Nat := 0x30120 + n * 0x40
def EVT_ROUTEe (n : Nat) : Nat := 0x30400 + n * 0x4
def RDG_CTRL : Nat := 0x210000
def RDG_POLICY : Nat := 0x210004
def RDG_CMD : Nat := 0x210008
def RDG_UNIT : Nat := 0x21000c
def RDG_TIMING : Nat := 0x210010
def RDG_PEER_ADDR : Nat := 0x210014
def RDG_ROLE_ADDR : Nat := 0x210018
def RDG_MIRROR : Nat := 0x21001c
def RDG_CACHE_BASE : Nat := 0x210020
def RDG_CKPT_BASE : Nat := 0x210024
def RDG_STATUS : Nat := 0x210030
def RDG_LINK : Nat := 0x210034
def RDG_PEER : Nat := 0x210038
def RDG_WITNESS_STATUS : Nat := 0x21003c
def RDG_STATE_TIME : Nat := 0x210040
def RDG_LAST_HB_RIDGE : Nat := 0x210044
def RDG_LAST_HB_NET : Nat := 0x210048
def RDG_LATCH_SEEN_LO : Nat := 0x21004c
def RDG_LATCH_SEEN_HI : Nat := 0x210050
def RDG_INSTEP_FRAME_LO : Nat := 0x210054
def RDG_INSTEP_FRAME_HI : Nat := 0x210058
def RDG_DIVERGE_FRAME_LO : Nat := 0x21005c
def RDG_DIVERGE_FRAME_HI : Nat := 0x210060
def RDG_DIVERGE_INFO : Nat := 0x210064
def RDG_TAKEOVER_FRAME_LO : Nat := 0x210068
def RDG_TAKEOVER_FRAME_HI : Nat := 0x21006c
def RDG_TAKEOVER_INFO : Nat := 0x210070
def RDG_SYNC_STATUS : Nat := 0x210074
def RDG_BACKLOG : Nat := 0x210078
def RDG_DIRTY_PAGES : Nat := 0x21007c
def RDG_DELTA_SEQ : Nat := 0x210080
def RDG_SWEEP_COUNT : Nat := 0x210084
def RDG_DIG_FRAME_LO : Nat := 0x21008c
def RDG_DIG_FRAME_HI : Nat := 0x210090
def RDG_DIG_IN_LOCAL : Nat := 0x210094
def RDG_DIG_OUT_LOCAL : Nat := 0x210098
def RDG_DIG_OUT_PEER : Nat := 0x21009c
def RDG_RIDGE_MISS : Nat := 0x2100a0
def RDG_NET_MISS : Nat := 0x2100a4
def RDG_LINK_ERR : Nat := 0x2100a8
def RDG_DIVERGES : Nat := 0x2100ac
def RDG_REPAIR_REQ : Nat := 0x2100b0
def RDG_REPAIR_OK : Nat := 0x2100b4
def RDG_REPAIR_LATE : Nat := 0x2100b8
def RDG_CAP_LATE : Nat := 0x2100bc
def RDG_RESYNCS : Nat := 0x2100c0
def RDG_TAKEOVERS : Nat := 0x2100c4
def RDG_DUAL_ACTIVE : Nat := 0x2100c8
def RDG_WITNESSj (n : Nat) : Nat := 0x210100 + n * 0x4
def RDG_HEALTH_LOCALj (n : Nat) : Nat := 0x210140 + n * 0x4
def RDG_HEALTH_PEERj (n : Nat) : Nat := 0x210180 + n * 0x4
def SYS_REV : Nat := 0x0
def SYS_ID_LO : Nat := 0x4
def SYS_ID_HI : Nat := 0x8
def SYS_STATUS : Nat := 0xc
def SYS_RESET_CAUSE : Nat := 0x10
def SYS_CMD : Nat := 0x14
def SYS_VMON_CFG : Nat := 0x18
def SYS_VMON : Nat := 0x1c
def SYS_BRACE_CFG : Nat := 0x20
def SYS_BROWNOUTS : Nat := 0x24
def SYS_BRACE_TIME : Nat := 0x28
def SYS_LAST_BRACE_LO : Nat := 0x2c
def SYS_LAST_BRACE_HI : Nat := 0x30
def SYS_HU_CFG1 : Nat := 0x34
def SYS_HU_CFG2 : Nat := 0x38
def SYS_HU_PERIOD : Nat := 0x3c
def SYS_HU_RESULT : Nat := 0x40
def SYS_HU_SENSE : Nat := 0x44
def SYS_PWR_SAVE_STATUS : Nat := 0x48
def SYS_SAVE_SLOTS : Nat := 0x4c
def SYS_WDT_CFG : Nat := 0x50
def SYS_WDT_KICK : Nat := 0x54
def SYS_UPTIME : Nat := 0x58
def SYS_RAIL_STATUS : Nat := 0x5c
def SYS_SETTINGS_STATUS : Nat := 0x60
def SYS_FLASH_STATUS : Nat := 0x64
def SYS_RESETS : Nat := 0x68
def SYS_PWREVT_TIME_LO : Nat := 0x6c
def SYS_PWREVT_TIME_HI : Nat := 0x70
def SYS_PWREVT_FRAME_LO : Nat := 0x74
def SYS_SCRATCH0 : Nat := 0x78
def SYS_SCRATCH1 : Nat := 0x7c
def SYS_PWREVT_FRAME_HI : Nat := 0x80
def BOOT_STATUS : Nat := 0x10000
def BOOT_STRAPS : Nat := 0x10004
def BOOT_FW_VER_A : Nat := 0x10008
def BOOT_FW_VER_B : Nat := 0x1000c
def BOOT_FW_STATE : Nat := 0x10010
def BOOT_FUSE_MIN_VER : Nat := 0x10014
def BOOT_ROOT_HASH_ID : Nat := 0x10018
def BOOT_IMAGE_VER : Nat := 0x1001c
def BOOT_IMAGE_ID : Nat := 0x10020
def BOOT_SECTIONS : Nat := 0x10024
def BOOT_SECTION_DEFAULTED_LO : Nat := 0x10028
def BOOT_SECTION_DEFAULTED_HI : Nat := 0x1002c
def BOOT_SECTION_CASCADE_LO : Nat := 0x10030
def BOOT_SECTION_CASCADE_HI : Nat := 0x10034
def BOOT_SECTION_SEL : Nat := 0x10038
def BOOT_SECTION_INFO : Nat := 0x1003c
def BOOT_SECTION_LEN : Nat := 0x10040
def BOOT_T_ROM : Nat := 0x10044
def BOOT_T_IMAGE : Nat := 0x10048
def BOOT_T_RASTER : Nat := 0x1004c
def BOOT_T_LATCH : Nat := 0x10050
def BOOT_SRC_WAIT : Nat := 0x10054
def BOOT_DIR_STATUS : Nat := 0x10058
def BOOT_TRIAL : Nat := 0x1005c
def UPD_CTRL : Nat := 0x220000
def UPD_STATE : Nat := 0x220004
def UPD_CMD : Nat := 0x220008
def UPD_RATE : Nat := 0x22000c
def UPD_WIN_BASE : Nat := 0x220010
def UPD_BLK_INDEX : Nat := 0x220014
def UPD_BLK_RESULT : Nat := 0x220018
def UPD_PKG_ID : Nat := 0x22001c
def UPD_BLOCKS : Nat := 0x220020
def UPD_MISSING : Nat := 0x220024
def UPD_NEXT_MISSING : Nat := 0x220028
def UPD_CAPACITY : Nat := 0x22002c
def UPD_ORDER : Nat := 0x220030
def UPD_DONE_MASK : Nat := 0x220034
def UPD_REFUSE : Nat := 0x220038
def UPD_HANDOVER_FRAME_LO : Nat := 0x22003c
def UPD_HANDOVER_FRAME_HI : Nat := 0x220040
def UPD_RUN_FW : Nat := 0x220044
def UPD_RUN_UCODE : Nat := 0x220048
def UPD_RUN_SAFETY : Nat := 0x22004c
def UPD_PEER_FW : Nat := 0x220050
def UPD_FUSE_MIN_VER : Nat := 0x220054
def UPD_BLK_CRC_ERR : Nat := 0x220058
def UPD_BLK_DUP : Nat := 0x22005c
def UPD_BLK_BUSY : Nat := 0x220060
def UPD_DRV_PENDING : Nat := 0x220064
def UPD_DRV_SEL : Nat := 0x220068
def UPD_DRV_VER : Nat := 0x22006c
def UPD_DRV_TYPE : Nat := 0x220070
def UPD_SETTINGS_FMT : Nat := 0x220074
def UPD_ACTIVATIONS : Nat := 0x220078
def UPD_FAILURES : Nat := 0x22007c
def UPD_PARTk_INFO (n : Nat) : Nat := 0x220100 + n * 0x8
def UPD_PARTk_VER (n : Nat) : Nat := 0x220104 + n * 0x8
def HKP_THERM_CFG : Nat := 0x240000
def HKP_THERM_STATUS : Nat := 0x240004
def HKP_TJ_MAX : Nat := 0x240008
def HKP_TJ_PEAK : Nat := 0x24000c
def HKP_HOT_COUNT : Nat := 0x240010
def HKP_SHUT_COUNT : Nat := 0x240014
def HKP_Ts (n : Nat) : Nat := 0x240040 + n * 0x4
def HKP_Ts_PEAK (n : Nat) : Nat := 0x240080 + n * 0x4
def HKP_Ts_MIN (n : Nat) : Nat := 0x2400c0 + n * 0x4
def HKP_Ts_CFG (n : Nat) : Nat := 0x240100 + n * 0x4
def HKP_AVS_CFG : Nat := 0x240140
def HKP_AVS_LIMITS : Nat := 0x240144
def HKP_AVS_STATUS : Nat := 0x240148
def HKP_VCORE_REQ : Nat := 0x24014c
def HKP_VCORE_READ : Nat := 0x240150
def HKP_AVS_ERR : Nat := 0x240154
def HKP_AVS_STEPS : Nat := 0x240158
def HKP_MARGIN_CFG : Nat := 0x24015c
def HKP_MARGIN : Nat := 0x240160
def HKP_REPLAN_TIME_LO : Nat := 0x240164
def HKP_REPLAN_TIME_HI : Nat := 0x240168
def HKP_RXSHIFT : Nat := 0x24016c
def HKP_SENS_DV : Nat := 0x240170
def HKP_PMB_CFG : Nat := 0x240174
def HKP_PMB_VOUT : Nat := 0x240178
def HKP_PMB_IOUT : Nat := 0x24017c
def HKP_PMB_TEMP : Nat := 0x240180
def HKP_PMB_STATUS : Nat := 0x240184
def HKP_PDMm (n : Nat) : Nat := 0x240200 + n * 0x4
def HKP_PDMm_MIN (n : Nat) : Nat := 0x240280 + n * 0x4
def HKP_PDMm_BASE (n : Nat) : Nat := 0x240300 + n * 0x4
def HKP_FOG_CFG : Nat := 0x240380
def HKP_FOG_STATUS : Nat := 0x240384
def HKP_FOG_COUNT : Nat := 0x240388
def HKP_FOG_LAST : Nat := 0x24038c
def HKP_SS_CPX : Nat := 0x240390
def HKP_SLEW : Nat := 0x240394
def HKP_FILT_SAFE : Nat := 0x240398
def HKP_FILT_GLK : Nat := 0x24039c
def HKP_FILT_MISC : Nat := 0x2403a0
def HKP_FILT_GPIO : Nat := 0x2403a4
def HKP_GPIO_IN : Nat := 0x240400
def HKP_GPIO_OUT : Nat := 0x240404
def HKP_GPIO_SET : Nat := 0x240408
def HKP_GPIO_CLR : Nat := 0x24040c
def HKP_GPIO_EDGE : Nat := 0x240410
def HKP_GPIO_LL : Nat := 0x240414
def HKP_GPIOp_CFG (n : Nat) : Nat := 0x240500 + n * 0x4

end Sys2Proof.Machine.R
end

