-- ==== Sys2Proof/Machine/Sparse.lean ====
section
/-! DEFINITION. Sparse tables: lists of (key, value) pairs in one canonical form, keys strictly rising and
no value equal to what an unlisted key holds. Registers, memory and every per-instance table use them. -/

namespace Sys2Proof.Machine

/-- A sparse table. -/
abbrev Table (α : Type) := List (Nat × α)

/-- The entry of a key, if one is listed. -/
def Table.find {α : Type} : Table α → Nat → Option α
  | [], _ => none
  | (a, x) :: m, k => if k = a then some x else Table.find m k

/-- The value of a key, `d` where it is not listed. -/
def Table.getD {α : Type} (m : Table α) (d : α) (k : Nat) : α := (m.find k).getD d

/-- The table with the key listed with this value, in its place. -/
def Table.put {α : Type} : Table α → Nat → α → Table α
  | [], k, v => [(k, v)]
  | (a, x) :: m, k, v =>
    if k < a then (k, v) :: (a, x) :: m
    else if k = a then (a, v) :: m
    else (a, x) :: Table.put m k v

/-- The table without the key. -/
def Table.del {α : Type} (m : Table α) (k : Nat) : Table α := m.filter (fun p => p.1 ≠ k)

/-- Writes a value in canonical form: the value an unlisted key holds removes the entry. -/
def Table.setD {α : Type} [DecidableEq α] (m : Table α) (d : α) (k : Nat) (v : α) : Table α :=
  if v = d then m.del k else m.put k v

/-- Replaces the entries of the keys from `lo` up to `hi` by others of that range. -/
def Table.splice {α : Type} (m : Table α) (lo hi : Nat) (new : Table α) : Table α :=
  m.filter (fun p => p.1 < lo) ++ new ++ m.filter (fun p => hi ≤ p.1)

/-- Whether every listed key is at least `lo` and the keys rise strictly. -/
def Table.sortedFrom {α : Type} : Nat → Table α → Bool
  | _, [] => true
  | lo, (a, _) :: m => lo ≤ a && Table.sortedFrom (a + 1) m

/-- The canonical form: strictly rising keys and no entry equal to the default of its key. -/
def Table.canon {α : Type} [DecidableEq α] (d : Nat → α) (m : Table α) : Bool :=
  Table.sortedFrom 0 m && m.all (fun p => decide (p.2 ≠ d p.1))

/-- Applies a change to the value of a key. -/
def Table.modD {α : Type} [DecidableEq α] (m : Table α) (d : α) (k : Nat) (f : α → α) : Table α :=
  m.setD d k (f (m.getD d k))

end Sys2Proof.Machine
end

