-- ==== Sys2Proof/Machine/State.lean ====
section
/-! DEFINITION. The state of the PN-8512 as plain data, one structure per block, the reasons a step can stop, and the
state after reset. Register values lie in one canonical sparse table; everything the rules hold beside the registers lies
in the block structures. Times named `clock`, `since` or `due` are local nanoseconds since reset, which no step of show time
moves. -/

namespace Sys2Proof.Machine

/-- The error codes of R14. -/
inductive Code where
  | ok | range | reserved | align | notKeeper | state | busy | locked | capacity | conflict | check
  | signature | version | refusedShow | refusedHoldup | refusedLock | timeout | noSuch
deriving DecidableEq, Repr

/-- The 8-bit number of a code (R14). -/
def Code.num : Code → Nat
  | .ok => 0x00 | .range => 0x01 | .reserved => 0x02 | .align => 0x03 | .notKeeper => 0x04 | .state => 0x05
  | .busy => 0x06 | .locked => 0x07 | .capacity => 0x08 | .conflict => 0x09 | .check => 0x0A | .signature => 0x0B
  | .version => 0x0C | .refusedShow => 0x0D | .refusedHoldup => 0x0E | .refusedLock => 0x0F | .timeout => 0x10
  | .noSuch => 0x11

/-- What the last access or command was answered: the code, the offset of the first failing register where one
is reported, and the data returned. The model's own field, not the spec's. -/
structure Resp where
  code : Code := .ok
  off  : Nat := 0
  data : List Word := []
deriving DecidableEq, Repr

/-- Where the device sends something out of itself. -/
inductive Out where
  | port (n : Nat) | session (slot : Nat) | service | chain (c : Nat) | pin (name : Nat) | ridge | peerNet
  | safety | core (c : Nat) | flash | panel | i2c (bus : Nat) | avs | buck (c : Nat)
deriving DecidableEq, Repr

/-- One thing the device has sent: the outlet and what went out, as numbers. The list of them is the model's own record. -/
structure Sent where
  out  : Out
  data : List Nat
deriving DecidableEq, Repr

/-- An event as its block raised it (R375): number, raise clock, show time, frame, line and payload. -/
structure Raised where
  ev      : Nat
  clock   : Nat
  time    : Nat
  frame   : Nat
  line    : Nat
  payload : Nat
deriving DecidableEq, Repr

/-- Where a commit came from (R372 to R374). -/
inductive Origin where
  | group (g : Nat)
  | direct
  | runtime
  | standby (g : Nat)
  | lightList (index : Nat) (g : Option Nat)
deriving DecidableEq, Repr

/-- A pending commit: its origin, its target F:L when scheduled, and its entries as offset, mask of the bits it
sets, and value (R35, R149, R372, R522). -/
structure Commit where
  origin  : Origin
  target  : Option (Nat × Nat)
  entries : List (Nat × Word × Word)
deriving DecidableEq, Repr

/-- What the device holds about one outside time source (R21): measurements good and bad in a row, whether it is
qualified and since when, and the instant of its last edge. -/
structure SrcState where
  qualified : Bool := false
  good      : Nat := 0
  bad       : Nat := 0
  since     : Nat := 0
  lastEdge  : Option Nat := none
deriving DecidableEq, Repr

/-- The timing mode that governs a frame (R31). -/
structure Mode where
  vTotal  : Nat := 1125
  vActive : Nat := 1080
  latch   : Nat := 0
  num     : Nat := 60
  den     : Nat := 1
deriving DecidableEq, Repr

/-- The timebase states of R22. -/
inductive SrcPhase where
  | freerun | acquire | slewing | locked | holdover
deriving DecidableEq, Repr

/-- The phases of a bank swap (R45, R171). -/
inductive SwapPhase where
  | idle | validating | pending
deriving DecidableEq, Repr

/-- A snapshot frozen and not yet written (R49). -/
structure SnapJob where
  slot  : Nat
  tag   : Nat
  bytes : List Byte
deriving DecidableEq, Repr

/-- The PTP ordinary clock (R21, R77): a two-step Sync that waits for its Follow_Up, as sequence number and receipt; the mean path delay; the
time from the master to this clock by the last Sync; and the offset that the servo expects, all in 1/256 ns. -/
structure PtpState where
  waits : Option (Nat × Int) := none
  delay : Int := 0
  ms    : Option Int := none
  last  : Option Int := none
deriving DecidableEq, Repr

/-- What is held of the PTP clock after show time has moved by nanoseconds. -/
def PtpState.moved (p : PtpState) (ns : Int) : PtpState :=
  { p with waits := p.waits.map (fun x => (x.1, x.2 + 256 * ns)), ms := p.ms.map (· + 256 * ns), last := p.last.map (· + 256 * ns) }

/-- The show-phase timebase and the light list (R16 to R52): show time, frame, line and sub-line; whether the raster runs, the show time at which
frame `rasterFrame` started, the mode that governs the present frame, whether a mode without a new period waits for its frame; in a raster restart its
limit and the end of the old frame as show times; the selected source, the timebase state, what is held of each source, the PTP clock, the rate of CLK_SHOW
against REFCLK in 0.1 ppb with the clock from which it counts and the rates since lock with their clocks, newest first; the last phase offset, measurements
inside the accuracy in a row, whether a step is due, when holdover began, whether the offset at selection was measured; an
armed FRAME_SET since when, whether its PPS edge came, whether PPS_OUT is high; the commits pending, the frame of the last commit point, the light-list
swap, the snapshots being written and the number taken. -/
structure ShowState where
  time        : Nat := 0
  frame       : Nat := 0
  line        : Nat := 0
  sub         : Nat := 0
  running     : Bool := false
  rasterStart : Nat := 0
  rasterFrame : Nat := 0
  mode        : Mode := {}
  modeApplied : Bool := false
  restarting  : Option Nat := none
  restartFrom : Nat := 0
  sel         : Nat := 5
  phase       : SrcPhase := .freerun
  srcs        : Table SrcState := []
  ptp         : PtpState := {}
  rate        : Int := 0
  rateAt      : Nat := 0
  rates       : List (Nat × Int) := []
  offset      : Int := 0
  locks       : Nat := 0
  stepDue     : Bool := false
  holdSince   : Option Nat := none
  measured    : Bool := false
  ppsSeen     : Bool := false
  armedAt     : Option Nat := none
  ppsOut      : Bool := false
  commits     : List Commit := []
  lastPoint   : Option Nat := none
  llSwap      : SwapPhase := .idle
  snaps       : List SnapJob := []
  snapSeq     : Nat := 0
deriving DecidableEq, Repr

/-- A transmit time-stamp in a port's FIFO (R73). -/
structure TxStamp where
  tag  : Nat
  ts256 : Nat
deriving DecidableEq, Repr

/-- The video intake of one stream (R78 to R81): the frame being received, its RTP timestamp, the pixels received,
the packets seen and from which paths, the last sequence number and the timestamp of the frame closed last, a timestamp to
pass over after a reconfiguration and whether no frame has started since, the close wait and the packets of later frames that arrived in it
as path and packet, the buffers, the CTRL, SIZE and BUF words under which the newest frame was received where others have been applied since,
the frame digest so far and the RTP timestamp and digest of the
frame each buffer holds (R395), the clock from which the stream has been received, and the last packet of each path. -/
structure StreamState where
  rtp       : Option (BitVec 32) := none
  pixels    : Table Bool := []
  seen      : Table Nat := []
  prevLast  : Option Nat := none
  lastRtp   : Option (BitVec 32) := none
  skip      : Option (BitVec 32) := none
  fresh     : Bool := true
  waitUntil : Option Nat := none
  early     : List (Nat × List Byte) := []
  recvBuf   : Nat := 0
  newest    : Option (Nat × BitVec 32) := none
  inUse     : Option Nat := none
  cfg       : Option (Word × Word × Word) := none
  since     : Nat := 0
  lastPkt   : Option Nat := none
  pathPkt   : Table Nat := []
  pathLost  : Table Bool := []
  digest    : BitVec 32 := 0
  held      : Table (BitVec 32 × BitVec 32) := []
  fmtRaised : Bool := false
  lost      : Bool := false
deriving DecidableEq, Repr

/-- One source of a universe (R82 to R84): CID, priority, last sequence number, when it joined, its last packet's clock,
its slot values (none before the first are taken), the priority and values held for synchronisation, and the synchronisation address of its
last packet. -/
structure SacnSource where
  cid    : List Byte
  prio   : Nat
  seq    : Nat
  since  : Nat
  last   : Nat
  values : List Byte
  pend   : Option (Nat × List Byte) := none
  sync   : Nat := 0
deriving DecidableEq, Repr

/-- One universe entry (R83, R84): its sources, the clock of the first values held since a synchronisation packet, and whether it has
fallen out of synchronised operation. -/
structure UniverseState where
  sources  : List SacnSource := []
  syncFrom : Option Nat := none
  syncLost : Bool := false
deriving DecidableEq, Repr

/-- A frame in a forwarding buffer (R75): its bytes, the port it came from, its raw receive time-stamp, and whether it came with a coding error. -/
structure Forwarded where
  frame : List Byte
  from_ : Nat
  rx    : Nat
  bad   : Bool
deriving DecidableEq, Repr

/-- The network block beside its registers: transmit time-stamp FIFOs, shaper credits in millionths of a bit with the clock at which they stood,
streams, universes, the frames each ring has completed, the forwarding buffers by output port, the clock at which each port has sent what it
began, the link delay of the cascade ports in 1/256 ns (R77),
and the repair cache: stream, sequence number, clock and packet (R396). -/
structure NetState where
  txts      : Table (List TxStamp) := []
  credit    : Table Int := []
  creditAt  : Table Nat := []
  streams   : Table StreamState := []
  universes : Table UniverseState := []
  completed : Table (List (List Nat)) := []
  fwd       : Table (List Forwarded) := []
  lineFree  : Table Nat := []
  linkDelay : Table Int := []
  kept      : List (Nat × Nat × Nat × List Byte) := []
deriving DecidableEq, Repr

/-- The states of a queue item (R98). -/
inductive ItemState where
  | pending | before | since
deriving DecidableEq, Repr

/-- An item of a queue: its words, header first with SRC written, its arrival number and its state. -/
structure Item where
  words   : List Word
  arrival : Nat
  state   : ItemState
deriving DecidableEq, Repr

/-- An item that an agent is assembling: its words so far, its length, whether it is held for release order (R96, R112), and whether a
hardware producer waits with it, so that no block is allocated yet (R97). -/
structure Assembly where
  words : List Word
  len   : Nat
  held  : Option Nat
  waits : Bool := false
deriving DecidableEq, Repr

/-- One queue (R94 to R103): items in arrival order, what each agent assembles, the words each agent still has to
discard, each agent's current item and next word, hardware producers' items that wait, and doorbell tasks held by a stall. -/
structure QueueState where
  items    : List Item := []
  asm      : Table Assembly := []
  discard  : Table Nat := []
  current  : Table (Nat × Nat) := []
  mark     : Bool := false
  waiting  : List (Nat × List Word) := []
  bells    : Nat := 0
  staleFrom : Option Nat := none
  staleDone : Bool := false
deriving DecidableEq, Repr

/-- The states of a task (R105); a free slot is not listed. -/
inductive TaskState where
  | delayed (ticks : Nat)
  | ready (order : Nat) (eligible : Bool)
  | running (core : Nat)
  | doneHeld
deriving DecidableEq, Repr

/-- A task in its slot: the descriptor words, its port, its submission number, its state, the affinity wait it
is in, and the pushes held for its release as queue and words (R104 to R112). -/
structure Task where
  handle : Nat
  w0     : Word
  w1     : Word
  w2     : Word
  w3     : Word
  port   : Nat
  order  : Nat
  state  : TaskState
  wait   : Option Nat := none
  missed : Bool := false
  held   : List (Nat × List Word) := []
deriving DecidableEq, Repr

/-- The queues and the scheduler: queues, items arrived, tasks by slot, generations, submissions counted, the affinity table, stalled ports as
last told, and the clock of each delay list's next tick of its local counter (R109). -/
structure QueState where
  queues   : Table QueueState := []
  arrivals : Nat := 0
  tasks    : Table Task := []
  gens     : Table Nat := []
  order    : Nat := 0
  aff      : Table Nat := []
  stalled  : Table Bool := []
  ticks    : Table Nat := []
deriving DecidableEq, Repr

/-- What a STREAM layer shows of its stream in a content frame (R141). -/
inductive Take where
  | hide
  | fill
  | frame (buf : Nat) (rtp : BitVec 32)
deriving DecidableEq, Repr

/-- A fixture's entry of the status table (R255): the last good STATUS record, the show frame of its receipt, and whether the fixture's driver
reports a temperature (R188). -/
structure StatusRec where
  record : List Byte
  frame  : Nat
  temp   : Bool := true
deriving DecidableEq, Repr

/-- The power results of a zone for one content frame (R190, R271): the sums of the unlimited frame in mW, and of the limited one. -/
structure ZoneResult where
  pred  : Nat := 0
  safe  : Nat := 0
  led   : Nat := 0
  ledS  : Nat := 0
  loss  : Int := 0
  model : Int := 0
  phat  : Int := 0
  part  : Nat := 0
  beff  : Nat := 0
  chains : List Nat := []
deriving DecidableEq, Repr

/-- One content frame in the pipeline (R33, R145, R202, R228), from its capture to its latch: the settings that govern it, what was
taken at its capture instant, and what composition and the pass have made of it. `regs` is the register file, `coef` the
loaded filter sets, `valid` and `epochs` the thatch-cache bands, `takes` the stream frames by layer, `temps`, `scales`, `corr` the
status table, zone scales and group corrections taken; then the canvas buffer and digest, and by fixture the output blocks
(whether of 16-bit words, and the bytes), the bytes of its last pixel, the levels of its entries after step 7 and the largest forward voltages, by group the rail codes, the
zone results, the values of the enabled universes in the capture cycle (R32), the chains a guard withholds, the chain frames as built and the marks of each chain: 1 latch issued, 2 RAIL issued, 4
filled (R401), 8 dealt with, 16 sent in spite of a job; for the pair the chains excluded, whether an input was missed or no record came,
the digest of the inputs and whether the output record was sent (R395, R401). -/
structure FrameCtx where
  content  : Nat
  regs     : Table Word
  start    : Nat
  coef     : Option (List Int) := none
  valid    : Table Bool := []
  epochs   : Table Nat := []
  takes    : Table Take := []
  temps    : Table StatusRec := []
  scales   : Table Nat := []
  corr     : Table Int := []
  composed : Bool := false
  buf      : Nat := 0
  canvas   : Nat := 0
  passed   : Bool := false
  blocks   : Table (Bool × List Byte) := []
  pixels   : Table (List Byte) := []
  levels   : Table (List (List Nat)) := []
  maxVf    : Table Int := []
  codes    : Table Nat := []
  rails    : Table Nat := []
  volts    : Table Nat := []
  zones    : Table ZoneResult := []
  unis     : List (List Byte) := []
  withheld : List Nat := []
  chains   : Table (List Byte) := []
  marks    : Table Nat := []
  excluded : List Nat := []
  missed   : Bool := false
  noRecord : Bool := false
  digest   : Nat := 0
  recorded : Bool := false
deriving DecidableEq, Repr

/-- What a layer has captured of its stream since it was enabled (R141). -/
structure LayerState where
  started : Bool := false
  last    : Option (Nat × BitVec 32) := none
  missed  : Nat := 0
  missing : Bool := false
deriving DecidableEq, Repr

/-- Composition beside its registers: the front buffer and the size of its canvas, the scaler's copies of sets 2 and 3 in effect, before
the last commit point and loaded for the next, the thatch cache's valid bands and their epochs in effect and before the last commit
point, the layers' captures, the safety pair's staged writes and pending commits, the settings of the composition started last, and the line-buffer pixels (layer,
row, column) found uncorrectable (R346). -/
structure CmpState where
  front      : Nat := 0
  frontW     : Nat := 0
  frontH     : Nat := 0
  coef       : Option (List Int) := none
  coefBefore : Option (List Int) := none
  coefNext   : Option (List Int) := none
  valid      : Table Bool := []
  epochs     : Table Nat := []
  validBefore : Table Bool := []
  epochsBefore : Table Nat := []
  cacheLow   : Table (List Nat) := []
  layers     : Table LayerState := []
  safeStage  : List (Nat × Word) := []
  safePending : List (List (Nat × Word)) := []
  safeDigest : Nat := 0
  lastRegs   : Option (Table Word) := none
  lineBad    : List (Nat × Nat × Nat) := []
deriving DecidableEq, Repr

/-- Photometry beside its registers: derating temperatures by fixture, fixtures whose temperature is replaced, ageing working sums
and the values last added by fixture × 6 + emitter, I2C failures and readings by sensor point, the map swap, the show time of the last
trim bank change, the newest and the older ageing copy in flash with the one being written, when the last save ended and the last
re-plan started, whether a re-plan's commit is pending and another was asked for meanwhile, and lattice nodes found uncorrectable on chip (profile × 4,913 +
node). For the runtime's lattices and trims (R185, R200): by profile the temperature sums of the last 10 s (local time, sum in 1/16 K,
fixtures), the ageing estimate by emitter and the local time of the last swap; by slot × 1,024 + profile the efficacies it was built with; by
fixture the levels latched and the content frame since which they have not changed. -/
structure PhoState where
  td        : Table Int := []
  stale     : Table Bool := []
  ageW      : Table Nat := []
  lastAdd   : Table Nat := []
  fails     : Table Nat := []
  readings  : Table (List Byte) := []
  mapSwap   : SwapPhase := .idle
  trimAt    : Option Nat := none
  ageNewest : Option (Table Nat) := none
  ageOlder  : Option (Table Nat) := none
  ageSaving : Option (Table Nat) := none
  ageFrom   : Nat := 0
  planFrom  : Nat := 0
  planning  : Bool := false
  planAgain : Bool := false
  badNodes  : Table Bool := []
  warmth    : Table (List (Nat × Int × Nat)) := []
  aged      : Table (List Int) := []
  swapped   : Table Nat := []
  built     : Table (List Rat) := []
  levels    : Table (List (List Nat) × Nat) := []
deriving DecidableEq, Repr

/-- Where a fixture is placed (R216). -/
structure Place where
  chain : Nat
  pos   : Nat
  moved : Bool
deriving DecidableEq, Repr

/-- A position of a chain in the position table (R216): the fixture, or none for an unpatched driver, whether it is dark, the
driver's UID and its latch trim in 1/16 ns. -/
structure Position where
  fixture : Option Nat
  dark    : Bool := false
  uid     : Nat := 0
  trim    : Int := 0
deriving DecidableEq, Repr

/-- A step of an RDM discovery (R246): DISC_UN_MUTE and DISC_UNIQUE_BRANCH to all, then for a UID DISC_MUTE, GET and SET of the start address. -/
inductive RdmStep where
  | unmute
  | branch
  | mute (uid : Nat)
  | getAddr (uid : Nat)
  | setAddr (uid addr : Nat)
deriving DecidableEq, Repr

/-- What a chain is doing besides sending frames: a bring-up with its next cycle (4 awaits the eye sweep, 5 the commit point) and the
ranging attempts so far, a full ranging with its attempts, an eye calibration. -/
inductive ChainJob where
  | bringup (cycle tries : Nat)
  | ranging (tries : Nat)
  | eyecal
deriving DecidableEq, Repr

/-- The outcome of a ranging (R236, R237): HOP and C_c in 1/16 ns, the t_p of the positions, the trims where they change, and whether
the chain counts as ranged; none leaves that as it is. -/
structure RangeResult where
  hop    : Nat
  comp   : Nat
  delays : List Nat
  trims  : Option (List Int)
  ranged : Option Bool
deriving DecidableEq, Repr

/-- What a chain applies at its next commit point (R33, R236, R237, R240, R243): new positions of a bring-up, with whether the position
limit was met, a ranging, an eye phase. -/
structure ChainStage where
  positions : Option (List Position × Bool) := none
  ranging   : Option RangeResult := none
  eye       : Option Nat := none
deriving DecidableEq, Repr

/-- A chain beside its registers (R211 to R248): positions in effect, t_p in 1/16 ns, C_c of the last full ranging, the sequence
number of the next frame, its job, the mark it puts on the next content frame captured (8 passed over, 16 still sent in spite of the
job), what waits for the commit point, the content frame built last and whether it was filled, the last pixel sent, the content last
latched and whether that latch was withheld, the readback slice with whether it is read again, the turn under way
as FIRST, LAST and REQ, misses by position, readbacks with CRC failures in a row, the DMX slots sent last, the end of motion, whether a
discovery runs with the steps that remain and the UIDs found, whether the latest bring-up still owes ENUM_DONE, the content frame whose readback window was
used last, the slice that an identity check reads next, and the round trips of a drift ranging so far (R229, R237, R239). -/
structure ChainState where
  positions : List Position := []
  delays    : List Nat := []
  fullComp  : Nat := 0
  seq       : Nat := 0
  job       : Option ChainJob := none
  nextMark  : Nat := 0
  stage     : Option ChainStage := none
  built     : Option (Nat × Bool) := none
  lastPixel : List Byte := []
  latched   : Option Nat := none
  heldNow   : Bool := false
  slice     : Nat := 0
  turned    : Option (Nat × Nat × Nat) := none
  misses    : Table Nat := []
  crcRun    : Nat := 0
  slots     : List Byte := []
  motionEnd : Option Nat := none
  discover  : Bool := false
  rdmSteps  : List RdmStep := []
  rdmSeen   : List Nat := []
  owesEnum  : Bool := false
  window    : Option Nat := none
  checkNext : Nat := 0
  pings     : List (Nat × Nat) := []
deriving DecidableEq, Repr

/-- The batten outputs beside their registers: the fixture placements, the status table, the chains, the fixtures reported as not
found, the capabilities and TYPE codes that drivers reported by fixture, the pass-through RDM request that waits as chain and request, and the
edge rates by bank and the spreading in effect, which follow their registers at a commit point (R249). -/
structure BatState where
  places   : Table Place := []
  status   : Table StatusRec := []
  chains   : Table ChainState := []
  notFound : Table Bool := []
  caps     : Table Nat := []
  types    : Table Nat := []
  rdm      : Option (Nat × List Byte) := none
  slew     : Table Nat := []
  spread   : Nat := 0
deriving DecidableEq, Repr

/-- A supply group's feedback (R264, R265): C_g, the last H_meas and H_mod, the code sent last, and the content frame of the
last usable record. -/
structure GroupState where
  corr  : Int := 0
  meas  : Nat := 0
  hmod  : Int := 0
  code  : Nat := 0
  since : Option Nat := none
  stale : Bool := false
deriving DecidableEq, Repr

/-- What HDR keeps of a content frame that has been latched, for R264 and R269: by group its rail voltage and the voltage its code stands for,
in mV, and by fixture the largest forward voltage. -/
structure ShownFrame where
  content : Nat
  rails   : Table Nat
  volts   : Table Nat
  maxVf   : Table Int
deriving DecidableEq, Repr

/-- A zone beside its registers: its last budget changes, newest first (from, to, first content frame, ramp frames), the energy the
correction window predicts and that of the frame latched last (mW · ns), whether the window is spoilt, the measured energy at its start in mJ, and
the content frame that its light shows with its prediction. -/
structure ZoneState where
  ramp   : List (Nat × Nat × Nat × Nat) := []
  model  : Int := 0
  last   : Int := 0
  spoilt : Bool := false
  meas   : Int := 0
  shown  : Option (Nat × Int) := none
deriving DecidableEq, Repr

/-- A buck channel beside its registers (R268 to R270): the present reference in µV, its target in mV, the integrator, the on-time, the
periods over current in a row, whether the reference rises towards its target, and the content frame
after whose latch it changed last. -/
structure BuckState where
  ref    : Nat := 0
  target : Nat := 0
  accI   : Nat := 0
  onTime : Nat := 0
  ocRun  : Nat := 0
  rising : Bool := false
  followed : Option Nat := none
deriving DecidableEq, Repr

/-- Supply headroom and budgets beside their registers: groups, demand histories by group (newest first), zones, buck
channels, the two frames latched last (newest first), and the correction window's latches and the clock of its start. -/
structure HdrState where
  groups  : Table GroupState := []
  demands : Table (List Nat) := []
  zones   : Table ZoneState := []
  bucks   : Table BuckState := []
  shown   : List ShownFrame := []
  window  : Nat := 0
  opened  : Nat := 0
deriving DecidableEq, Repr

/-- A calibration in progress (R299): when it began, and the mean power in mW before it by interrupted current channel. -/
structure CalJob where
  since : Nat
  power : Table Int
  phase : Nat
deriving DecidableEq, Repr

/-- A metering channel beside its registers (R284 to R301): the latest samples, newest first; the coil integrator; the sums of the present
measurement interval and of the present cycle over samples: of its own square, with its own voltage and with the voltage shifted by a
quarter period; the import and export accumulators in mJ with their remainders; the accumulators at past instants for means, newest
first; the estimate added; the tally since a capture; the converter trims in effect by the free index of their calibration; the
calibration; the instant of its last zero crossing and the events raised once. -/
structure MeterChan where
  past     : List Int := []
  coil     : Int := 0
  n        : Nat := 0
  sq       : Nat := 0
  vsq      : Nat := 0
  vi       : Int := 0
  qi       : Int := 0
  cycN     : Nat := 0
  cycSq    : Nat := 0
  cycVi    : Int := 0
  imp      : Nat := 0
  exp      : Nat := 0
  remImp   : Nat := 0
  remExp   : Nat := 0
  hist     : List (Nat × Nat × Nat) := []
  est      : Nat := 0
  tallyImp : Nat := 0
  tallyExp : Nat := 0
  trims    : Option Nat := none
  cal      : Option CalJob := none
  lastZero : Nat := 0
  zcOut    : Bool := false
  freqOut  : Bool := false
deriving DecidableEq, Repr

/-- A pulse output beside its registers (R302, R303): a pulse due at once, when the pulse ends and when the next may start, whether the pin is
active. -/
structure PulseState where
  due    : Bool := false
  ends   : Nat := 0
  free   : Nat := 0
  active : Bool := false
deriving DecidableEq, Repr

/-- The metering block beside its registers: channels, staged calibration constants by offset, pulse outputs; the metering area of the flash:
the periodic records whose CRC is good, oldest first, the warning records likewise, the erased warning slots and the stored calibration
registers; the periodic record being written, the clock of the last one with the exports it holds, a capture of the accumulators whose
tally runs with its warning record, the clock at which metering resumed, the gap's P_MIN1 and estimates, and whether its start was taken
locked. -/
structure MtrState where
  chans    : Table MeterChan := []
  staged   : Table Word := []
  pulses   : Table PulseState := []
  records  : List (List Byte) := []
  warns    : List (List Byte) := []
  erased   : Nat := 0
  calStore : Table Word := []
  saving   : Option (List Byte) := none
  savedAt  : Nat := 0
  savedExp : Table Nat := []
  savedImp : Table Nat := []
  capture  : Option (List Byte) := none
  tally    : Bool := false
  resumed  : Nat := 0
  gapPower : Table Nat := []
  gapEst   : Table Nat := []
  gapLocked : Bool := false
deriving DecidableEq, Repr

/-- The preview port beside its registers (R317 to R324): the crop, output and border registers in use and those that wait for the next
preview frame, as tables by offset; the clock at which the frame in progress ends, of the last TE edge and of the last internally
paced frame; and the mailbox packet that waits to be sent. -/
structure PvwState where
  used     : Table Word := []
  pending  : Option (Table Word) := none
  frameEnd : Nat := 0
  teLast   : Nat := 0
  paced    : Nat := 0
  packet   : Option (List Nat) := none
deriving DecidableEq, Repr

/-- The condition of a codeword as the memory holds it (R334 to R336): good, poisoned, a class L word whose parity does not fit, or
check bits written raw by R347. An unlisted codeword is good. -/
inductive CwState where
  | good | poison | parity | raw (check : Nat)
deriving DecidableEq, Repr

/-- A zero-fill under way (R339): its first byte, its size, the bytes behind its front, and the instant it started. -/
structure ZeroFill where
  base  : Nat
  size  : Nat
  front : Nat
  start : Nat
deriving DecidableEq, Repr

/-- The in-package memory: bytes, valid bits by 256-byte granule, the 8-byte words and the
ranges written since power-up, codeword
conditions by offset, the notified set (oldest first), scrub, zero-fill and discard progress, and rate limits. -/
structure MemState where
  cells     : Table Byte := []
  valid     : Table Bool := []
  known     : Table Bool := []
  filled    : List (Nat × Nat) := []
  cond      : Table CwState := []
  notified  : List Nat := []
  scrubPos  : Nat := 0
  scrubFrom : Nat := 0
  scrubHours : Nat := 24
  zeroFill  : Option ZeroFill := none
  lostLines : List Nat := []
  discards  : Table (Nat × Nat) := []
  lastCorr  : Table Nat := []
  lastShort : Option Nat := none
deriving DecidableEq, Repr

/-- A management session (R353 to R360, R378): the client's address, key, keys and sequence state, its rights, its subscription,
its standing Keeper request as priority and receipt number, and the records it gathers. -/
structure Session where
  port     : Nat
  ip       : BitVec 32
  udp      : BitVec 16
  key      : Nat
  keyBytes : List Byte
  highest  : Nat
  window   : List Nat
  devSeq   : Nat
  keeperRight : Bool
  calRight : Bool
  prioMin  : Nat
  mask     : List Nat
  request  : Option (Nat × Nat)
  lastMsg  : Nat
  lost     : Nat
  gathered : List (List Byte)
  gatherFrom : Option Nat
  sentAt   : List Nat
deriving DecidableEq, Repr

/-- A client key record of the show image (R359). -/
structure ClientKey where
  key     : List Byte
  rights  : Nat
  prioMin : Nat
deriving DecidableEq, Repr

/-- The Keeper and the sessions (R359 to R371): open sessions (slot 15 while the USB interface is configured), client keys, receipts counted
for the order of requests, the Keeper's slot and priority, the clocks at which the lease and the election window end, the clock of the last AUTH_FAIL,
and the entries in each commit group. -/
structure KprState where
  sessions : Table Session := []
  keys     : Table ClientKey := []
  receipts : Nat := 0
  keeper   : Option Nat := none
  prio     : Nat := 0xFF
  lease    : Option Nat := none
  window   : Option Nat := none
  authAt   : Option Nat := none
  counts   : Table Nat := []
deriving DecidableEq, Repr

/-- The event router (R375 to R377): events raised and not yet received, and the number and raise clock of the event received last. -/
structure EvtState where
  raised : List Raised := []
  last   : Option (Nat × Nat) := none
deriving DecidableEq, Repr

/-- Housekeeping beside its registers (R477 to R493): samples in a row that differ from the median by sensor, sensors out of use, samples in
a row at T_SHUT; the lowest worst slack of the re-plan period, whether the fast loop is raising, the re-planned voltage moved towards, the
request and worst slack before the last step and the latest sensitivities (newest first), the clock of the last re-plan and of the last
request sent, the absolute receive delays of the four monitors, and by chain the phase and the delay of the last eye calibration; the
peak and lowest registers (by offset) that have taken a sample since they were last cleared; the fog requests of the light
list, of SAFE_N, of the safety pair and of the boot ROM, and the clock of the last assertion. -/
structure HkpState where
  differ   : Table Nat := []
  outOfUse : Table Bool := []
  shutRun  : Nat := 0
  lowSlack : Option Int := none
  fast     : Bool := false
  plan     : Option Nat := none
  stepFrom : Option (Nat × Int) := none
  sens     : List Int := []
  planAt   : Nat := 0
  sentAt   : Nat := 0
  tries    : Nat := 0
  delays   : List Int := []
  eyes     : Table (Nat × Int) := []
  seen     : Table Bool := []
  fogLight : Bool := false
  safeLow  : Bool := false
  fogPair  : Bool := false
  fogBoot  : Bool := false
  fogSince : Nat := 0
deriving DecidableEq, Repr

/-- A slot of the power-event area (R442, R443): erased, with a CRC that fails, or a record with its sequence number, show time, frame count,
content frame last latched, redundancy state and minutes since the last ageing save. -/
inductive PwrSlot where
  | erased
  | broken
  | record (seq time frame latched role minutes : Nat)
deriving DecidableEq, Repr

/-- A section of the show image as its table entry and its load give it (R434 to R437): KIND, whether its UNIT is this unit's or both, UNIT, DEFLATE,
LEN, DEPENDS, whether it is loaded, its error code, whether it is defaulted and whether by cascade. -/
structure Section where
  kind    : Nat
  mine    : Bool
  unit    : Nat
  deflate : Bool
  len     : Nat
  depends : Nat
  loaded  : Bool := false
  code    : Code := .ok
  failed  : Bool := false
  cascade : Bool := false
deriving DecidableEq, Repr

/-- Reset, boot and supply beside their registers (R424 to R447): whether reset waits for the die to cool, and whether it was a full reset; the
configuration flash by byte (an erased byte reads 0xFF), its power-event slots and its settings as FORMAT and register values, the fuse
MIN_VER; the slot chosen at boot and the sections of the show image; the clocks of the reset release, of the last watchdog kick and of the
last holdup test; in brace state the clock of the warning, whether the power-event record is still being written and whether it could be;
whether a holdup test runs; the chains that have latched since the raster started; the clock from which the 60 s of a trial slot count. -/
structure SysState where
  hot      : Bool := false
  full     : Bool := true
  flash    : Table Byte := []
  pwr      : Table PwrSlot := []
  pwrErase : Bool := false
  settings : Option (Nat × Table Word) := none
  minVer   : Nat := 0
  slot     : Option Nat := none
  sections : List Section := []
  released : Option Nat := none
  kicked   : Nat := 0
  tested   : Nat := 0
  warned   : Nat := 0
  saving   : Bool := false
  saveOk   : Bool := false
  holdup   : Bool := false
  latched  : Table Bool := []
  trialFrom : Option Nat := none
deriving DecidableEq, Repr

/-- A witness chain (R408, R417): stated latches missed in a row, seen in a row, whether it is disqualified, and whether the active
unit misses the echo of its own latches there. -/
structure WitnessState where
  missRun : Nat := 0
  seenRun : Nat := 0
  bad     : Bool := false
  flagged : Bool := false
deriving DecidableEq, Repr

/-- Active and standby operation beside its registers (R383 to R418). The show time at which the unit entered its role and the clock at
which it entered its state; the peer's last heartbeat and the clocks of the last one over the ridge, over the network, from a peer that
drives and with HOLDING; ridge heartbeats missed in a row; in LISTEN, once the decision was put off, the frame periods since. The witness
chains that are not as at reset, those seen since the last latch instant, whether a latch was seen since the last ridge heartbeat, the
silent latch instants since it, whether the network path was lost when the ridge was, and the rule whose evidence is complete, with when.
Whether the unit was in step at the last frame boundary, whether the last comparison matched, whether a sweep is owed, the output records not yet compared, the digests of safety-pair commits by frame. In the standby role: the content frame that
awaits its capture record, a capture record that came early, the stream frames found at the capture, the active unit's path delays by
bank. Dirty 64 KiB pages; responses held for an acknowledgement as slot and message; the latch
instants missed in a takeover and the content frame after whose latch the role is handed over. The carried state as last sent, the
counters the health record starts from, its sequence number and the clocks of entries to DIVERGED. Resends by lane and the clock of each
lane's failure; the pair key of the show image. -/
structure RdgState where
  roleAt    : Nat := 0
  stateAt   : Nat := 0
  peer      : Option Heartbeat := none
  ridgeAt   : Option Nat := none
  netAt     : Option Nat := none
  driveAt   : Option Nat := none
  holdAt    : Option Nat := none
  ridgeMiss : Nat := 0
  listenRun : Option Nat := none
  witness   : Table WitnessState := []
  seenNow   : List Nat := []
  sawLatch  : Bool := false
  silent    : Nat := 0
  netGone   : Bool := false
  evidence  : Option (Nat × Nat) := none
  wasInStep : Bool := false
  matched   : Bool := false
  sweepDue  : Bool := false
  records   : List OutputRecord := []
  safeties  : Table (BitVec 32) := []
  awaiting  : Option Nat := none
  capRecord : Option CaptureRecord := none
  own       : Table (Nat × BitVec 32) := []
  peerExt   : Table Word := []
  dirty     : Table Bool := []
  held      : List (Nat × List Byte) := []
  missed    : Nat := 0
  yieldAt   : Option Nat := none
  carried   : List Carried := []
  corrAt    : Nat := 0
  uncorrAt  : Nat := 0
  repairAt  : Nat := 0
  healthSeq : Nat := 0
  diverged  : List Nat := []
  resends   : Table Nat := []
  downAt    : Table Nat := []
  pairKey   : List Byte := []
deriving DecidableEq, Repr

/-- Field update beside its registers and the staging area of the flash (R452 to R474). The block being written with its data and the blocks
accepted in the last second as clock and bytes (R458); the parts still to activate in their order, whether the checks wait for their holdup test
(R462 to R464), the clock at which the FW handover began (R465), the part that the next commit point swaps (R467), the SAFETY swap that may
still revert as old version, part and clock (R467), whether a core reset follows at the next commit point (R469), the bytes delivered by
DRV part and fixture as part · 2^17 + fixture, with the chains on which delivery goes on (R470); the chains a DRV activation has still to bring up and the one it waits for (R471),
whether the parts wait for the role to be handed over (R472); and the ranges declared by running parts that were activated from a package, by
KIND, or 5 · 65,536 + TYPE for DRV (R453). -/
structure UpdState where
  writing   : Option (Nat × List Byte) := none
  rate      : List (Nat × Nat) := []
  order     : List Nat := []
  checking  : Bool := false
  handover  : Option Nat := none
  swap      : Option Nat := none
  safetyOld : Option (Nat × Nat × Nat) := none
  imageReset : Bool := false
  delivered : Table Nat := []
  delivering : List Nat := []
  drvChains : List Nat := []
  drvNow    : Option Nat := none
  yielding  : Bool := false
  ranges    : Table (List (Nat × Nat)) := []
deriving DecidableEq, Repr

/-- The device. `regs` holds the registers in effect, `before` the registers as they stood before the last commit
point (R33), `pipe` the content frames from capture to latch, oldest first, `banked` the per-reader registers and `latches` the
per-reader latched values of R369. `resp` and `sent` are the model's record of what the device answered and sent, `free` the counter that the free
values of Config are applied to. -/
structure Device where
  regs    : Table Word := []
  before  : Table Word := []
  pipe    : List FrameCtx := []
  banked  : Table Word := []
  latches : Table Word := []
  clock   : Nat := 0
  shw     : ShowState := {}
  net     : NetState := {}
  cmp     : CmpState := {}
  pho     : PhoState := {}
  bat     : BatState := {}
  hdr     : HdrState := {}
  mtr     : MtrState := {}
  pvw     : PvwState := {}
  que     : QueState := {}
  mem     : MemState := {}
  kpr     : KprState := {}
  evt     : EvtState := {}
  hkp     : HkpState := {}
  sys     : SysState := {}
  rdg     : RdgState := {}
  upd     : UpdState := {}
  resp    : Resp := {}
  sent    : List Sent := []
  free    : Nat := 0
deriving DecidableEq, Repr

/-- The state of the block: the device, and the commands that wait, first in, first out. -/
structure State where
  dev     : Device := {}
  pending : List Instr := []
deriving DecidableEq, Repr

/-- Why a step stops without a next state. -/
inductive Fault where
  /-- Raised by a command that names a port, chain, queue or other unit the device does not have: no such event can
  occur on the hardware. Safe. -/
  | noSuchUnit
deriving DecidableEq, Repr

/-- Why a command has no meaning. -/
inductive Refusal where
  /-- Raised by a dispatch arm whose command has no meaning yet. Safe. -/
  | notModelled (mnemonic : String)
deriving DecidableEq, Repr

/-- The state right after power-on reset: every register at its reset value (unlisted), memory never written, the show phase
at 0:0 with the raster not running, no session open, no command waiting. -/
def State.reset : State := {}

/-- A command's effect on the device, with the queue left as it is. -/
def State.onDevice (s : State) (f : Device → Host.Outcome Device Fault Refusal) : Host.Outcome State Fault Refusal :=
  match f s.dev with
  | .next d => .next { s with dev := d }
  | .fault r => .fault r
  | .refused r => .refused r

end Sys2Proof.Machine
end

