-- ==== Sys2Proof/Machine/Ops.lean ====
section
/-! DEFINITION. The named operations over registers, time, events and answers that every block uses. -/

namespace Sys2Proof.Machine

/-- The value a register has at reset: its table row's, with the registers whose reset differs by instance (R87, R115) and the station
addresses, which come from the fuses (R87). -/
def resetOf (off : Nat) : Word :=
  if 0x40000 ≤ off && off < 0x4C000 && off % 0x2000 = 0x0C then Config.macLo ((off - 0x40000) / 0x2000)
  else if 0x40000 ≤ off && off < 0x4C000 && off % 0x2000 = 0x10 then (Config.macHi ((off - 0x40000) / 0x2000)).setWidth 32
  else
  if off = R.NET_CTRL 4 || off = R.NET_CTRL 5 then 0x24
  else if R.SCH_PORT_RESERVEp 0 ≤ off && off ≤ R.SCH_PORT_RESERVEp 40 && off % 4 = 0 then
    let p := (off - R.SCH_PORT_RESERVEp 0) / 4
    if p < 32 then 512 else if p < 40 then 64 else 0
  else match specAt off with
    | some r => BitVec.ofNat 32 r.reset
    | none => 0

/-- Reads a register file: a canonical table over the reset values. -/
def readFile (m : Table Word) (off : Nat) : Word := (m.find off).getD (resetOf off)

/-- Writes a register file, keeping its canonical form. -/
def writeFile (m : Table Word) (off : Nat) (v : Word) : Table Word := m.setD (resetOf off) off v

/-- The register's stored value in effect. -/
def Device.reg (s : Device) (off : Nat) : Word := readFile s.regs off

/-- The register's stored value as a number. -/
def Device.rn (s : Device) (off : Nat) : Nat := (s.reg off).toNat

/-- The field [hi:lo] of a register. -/
def Device.rf (s : Device) (off hi lo : Nat) : Nat := fld (s.rn off) hi lo

/-- One bit of a register. -/
def Device.rb (s : Device) (off i : Nat) : Bool := (s.rn off).testBit i

/-- Stores a register. -/
def Device.setReg (s : Device) (off : Nat) (v : Word) : Device := { s with regs := writeFile s.regs off v }

/-- Stores a number in a register, modulo 2^32. -/
def Device.setN (s : Device) (off v : Nat) : Device := s.setReg off (BitVec.ofNat 32 v)

/-- Replaces the field [hi:lo] of a register. -/
def Device.setF (s : Device) (off hi lo v : Nat) : Device := s.setReg off (setFld (s.reg off) hi lo v)

/-- Sets one bit of a register to a truth value. -/
def Device.setB (s : Device) (off i : Nat) (b : Bool) : Device := s.setReg off (setBit (s.reg off) i b)

/-- Stores a 64-bit value in a LO and HI register pair. -/
def Device.set64 (s : Device) (lo hi v : Nat) : Device := (s.setN lo v).setN hi (v / 2 ^ 32)

/-- The 64-bit value of a LO and HI register pair. -/
def Device.get64 (s : Device) (lo hi : Nat) : Nat := s.rn lo + 2 ^ 32 * s.rn hi

/-- Adds to a 32-bit counter, which saturates. -/
def Device.count (s : Device) (off n : Nat) : Device := s.setReg off (satInc (s.reg off) n)

/-- The number of a reader for per-reader latches and banked registers (R369): sessions 0 to 15, cores from 16, the
safety pair 24, the repair access 25. -/
def readerNo : Who → Nat
  | .session k => k % 16
  | .core c _ => 16 + c % 8
  | .safety => 24
  | .repair => 25

/-- The key of a per-reader value. -/
def bankKey (r off : Nat) : Nat := r * 0x400000 + off

/-- A per-reader register of R369. -/
def Device.bankReg (s : Device) (w : Who) (off : Nat) : Word :=
  (s.banked.find (bankKey (readerNo w) off)).getD (resetOf off)

/-- Stores a per-reader register. -/
def Device.setBank (s : Device) (w : Who) (off : Nat) (v : Word) : Device :=
  { s with banked := s.banked.setD (resetOf off) (bankKey (readerNo w) off) v }

/-- Latches a value for one reader (R19, R86, R369). -/
def Device.latch (s : Device) (w : Who) (off : Nat) (v : Word) : Device :=
  { s with latches := s.latches.put (bankKey (readerNo w) off) v }

/-- The value latched for a reader, if one is held. -/
def Device.latched (s : Device) (w : Who) (off : Nat) : Option Word := s.latches.find (bankKey (readerNo w) off)

/-- Drops a reader's latched value. -/
def Device.unlatch (s : Device) (w : Who) (off : Nat) : Device :=
  { s with latches := s.latches.del (bankKey (readerNo w) off) }

/-- The device's answer to the access or command. -/
def Device.answer (s : Device) (c : Code) : Device := { s with resp := { code := c } }

/-- The device's answer with data. -/
def Device.answerD (s : Device) (c : Code) (data : List Word) : Device := { s with resp := { code := c, data := data } }

/-- The device's answer naming the first failing register. -/
def Device.answerAt (s : Device) (c : Code) (off : Nat) : Device := { s with resp := { code := c, off := off } }

/-- Sends something out of the device. -/
def Device.send (s : Device) (o : Out) (d : List Nat) : Device := { s with sent := s.sent ++ [⟨o, d⟩] }

/-- Sends bytes out of the device. -/
def Device.sendBytes (s : Device) (o : Out) (d : List Byte) : Device := s.send o (d.map (·.toNat))

/-- Raises an event with the show phase of the raise (R375). -/
def Device.raise (s : Device) (ev payload : Nat) : Device :=
  { s with evt := { s.evt with raised := s.evt.raised ++
      [⟨ev, s.clock, s.shw.time, s.shw.frame, s.shw.line, payload % 2 ^ 64⟩] } }

/-- A payload of two values, the first in the low word. DESIGN CHOICE (log 6): the chapters name the values of a payload, not their
places. -/
def pay2 (a b : Nat) : Nat := a % 2 ^ 32 + 2 ^ 32 * (b % 2 ^ 32)

/-- A payload of a number in [15:0] and a frame count in [63:16] (log 6). -/
def payF (a f : Nat) : Nat := a % 2 ^ 16 + 2 ^ 16 * (f % 2 ^ 48)

/-- A payload of a map entry's index in [23:0] and the low 40 bits of a frame count (log 6): the two do not fit whole. -/
def payEntry (i f : Nat) : Nat := i % 2 ^ 24 + 2 ^ 24 * (f % 2 ^ 40)

/-- Raises an event when a condition holds. -/
def Device.raiseIf (s : Device) (b : Bool) (ev payload : Nat) : Device := if b then s.raise ev payload else s

/-- Time passes: local time and show time advance together, and with the raster the sub-line (R16, R109). -/
def Device.elapse (s : Device) (ns : Nat) : Device :=
  { s with clock := s.clock + ns,
           shw := { s.shw with time := (s.shw.time + ns) % 2 ^ 64, sub := s.shw.sub + ns / 4 } }

/-- Time passes up to a local instant, if it lies ahead. -/
def Device.elapseTo (s : Device) (t : Nat) : Device := if s.clock < t then s.elapse (t - s.clock) else s

/-- A fresh index for a free value of Config: the state's counter, which advances. -/
def Device.takeFree (s : Device) : Nat × Device := (s.free, { s with free := s.free + 1 })

/-- Folds a state change over a list. -/
def Device.each {α : Type} (s : Device) (l : List α) (f : Device → α → Device) : Device := l.foldl f s

/-- Applies a change when a condition holds. -/
def Device.when (s : Device) (b : Bool) (f : Device → Device) : Device := if b then f s else s

/-- The difference of two frame counts (R18). -/
def frameDiff (a b : Nat) : Int := wrapDiff 48 a b

/-- A frame count a number of frames later. -/
def frameAdd (f : Nat) (d : Int) : Nat := (((f : Int) + d) % (2 ^ 48 : Nat)).toNat

end Sys2Proof.Machine
end

