-- ==== Sys2Proof/Machine/Flags.lean ====
section
/-! DEFINITION. Event numbers by name (R15 and each chapter's event table), sticky status bits and saturating counters. -/

namespace Sys2Proof.Machine.Ev

def BOOT_DONE : Nat := 0
def CFG_DEFAULTED : Nat := 1
def SLOT_FALLBACK : Nat := 2
def SUPPLY_WARN : Nat := 3
def BROWNOUT : Nat := 4
def POWER_SAVE_DONE : Nat := 5
def POWER_SAVE_FAIL : Nat := 6
def HOLDUP_DONE : Nat := 7
def HOLDUP_FAIL : Nat := 8
def AGE_SAVE_DONE : Nat := 9
def AGE_SAVE_FAIL : Nat := 10
def SETTINGS_SAVED : Nat := 11
def SETTINGS_RESET : Nat := 12
def RESET_REPORT : Nat := 13
def WDT_WARN : Nat := 14
def SRC_WAIT_EXPIRED : Nat := 15
def RAIL_WARN : Nat := 16
def SRC_CHANGE : Nat := 32
def LOCK_ACQUIRED : Nat := 33
def LOCK_LOST : Nat := 34
def HOLDOVER_EXPIRED : Nat := 35
def PHASE_ALIGNED : Nat := 36
def FRAME_JUMP : Nat := 37
def MODE_APPLIED : Nat := 38
def COMMIT_APPLIED : Nat := 39
def COMMIT_REJECTED : Nat := 40
def LATE_SCHEDULE : Nat := 41
def LL_SWAPPED : Nat := 42
def LL_MISSED : Nat := 43
def LL_MESSAGE : Nat := 44
def SNAPSHOT_TAKEN : Nat := 45
def PPS_IN_MISSING : Nat := 46
def FRAME_START : Nat := 47
def LINK_CHANGE : Nat := 48
def RX_NOBUF : Nat := 49
def TX_TS_READY : Nat := 50
def TX_TS_OVERFLOW : Nat := 51
def STREAM_LOST : Nat := 52
def STREAM_INCOMPLETE : Nat := 53
def STREAM_FORMAT_ERR : Nat := 54
def PATH_LOST : Nat := 55
def PATH_RESTORED : Nat := 56
def SACN_SOURCE_ADDED : Nat := 57
def SACN_SOURCE_LOST : Nat := 58
def SACN_MERGE_OVERFLOW : Nat := 59
def SACN_SYNC_LOST : Nat := 60
def CASCADE_DROP : Nat := 61
def QUE_HIGH_WM : Nat := 80
def QUE_LOW_WM : Nat := 81
def QUE_STALE : Nat := 82
def QUE_FLUSH_PARTIAL : Nat := 83
def QUE_REFUSED : Nat := 84
def SCH_PORT_STALL : Nat := 85
def SCH_SLOTS_LOW : Nat := 86
def SCH_ROB_FULL : Nat := 87
def SCH_DONE_ERR : Nat := 88
def CMP_DONE : Nat := 96
def CMP_LATE : Nat := 97
def CMP_PARITY : Nat := 98
def CMP_CACHE_BUILT : Nat := 99
def CMP_CACHE_INVALID : Nat := 100
def LAYER_SRC_MISSING : Nat := 101
def LAYER_SRC_RESTORED : Nat := 102
def COEF_LOADED : Nat := 103
def SAFE_LAYER_CHANGE : Nat := 104
def CHK_DONE : Nat := 108
def CHK_MISMATCH : Nat := 109
def PVW_UNDERRUN : Nat := 112
def PVW_TE_TIMEOUT : Nat := 113
def PVW_TE_RESTORED : Nat := 114
def PVW_CMD_DONE : Nat := 115
def PVW_APPLIED : Nat := 116
def PHO_DONE : Nat := 128
def PHO_LATE : Nat := 129
def MAP_SWAPPED : Nat := 130
def MAP_REJECTED : Nat := 131
def REPLAN_APPLIED : Nat := 132
def REPLAN_DUE : Nat := 133
def GAIN_CLIP : Nat := 134
def AGED_OUT : Nat := 135
def DERATE_CHANGE : Nat := 136
def TEMP_STALE : Nat := 137
def SENSOR_FAULT : Nat := 138
def TRIM_LIMIT : Nat := 139
def AGE_RESTORED : Nat := 140
def PHO_READ_ERR : Nat := 141
def RAIL_CLIP : Nat := 144
def HEADROOM_LOW : Nat := 145
def HEADROOM_STALE : Nat := 146
def CORR_LIMIT : Nat := 147
def RAIL_SLOW : Nat := 148
def BUCK_FAULT : Nat := 149
def ZONE_OVER : Nat := 150
def ZONE_UNDER : Nat := 151
def ZONE_FLOOR : Nat := 152
def GUARD_HOLD : Nat := 153
def METER_MODEL : Nat := 154
def LIMIT_CHANGE : Nat := 155
def CHAIN_LINK : Nat := 160
def ENUM_DONE : Nat := 161
def FIXTURE_MOVED : Nat := 162
def FIXTURE_NOT_FOUND : Nat := 163
def DRIVER_UNPATCHED : Nat := 164
def DRIVER_MISSING : Nat := 165
def FIXTURE_DARK : Nat := 166
def CHAIN_AT_LIMIT : Nat := 167
def RANGE_DONE : Nat := 168
def RANGE_FAIL : Nat := 169
def RANGE_DRIFT : Nat := 170
def EYE_CAL_DONE : Nat := 171
def EYE_LOW : Nat := 172
def CHAIN_UNDERRUN : Nat := 173
def LATCH_HELD : Nat := 174
def RB_CRC_ERR : Nat := 175
def DRIVER_FAULT : Nat := 176
def MOTION_CHANGE : Nat := 177
def RDM_DONE : Nat := 178
def BANK_SUPPLY : Nat := 179
def SAVE_FAIL : Nat := 192
def WARN_SAVE_DONE : Nat := 193
def ENERGY_GAP : Nat := 194
def CAL_DONE : Nat := 195
def CAL_FAIL : Nat := 196
def CH_CLIP : Nat := 197
def NO_ZERO_CROSS : Nat := 198
def PULSE_BACKLOG : Nat := 199
def PULSE_OVERFLOW : Nat := 200
def LINE_FREQ_RANGE : Nat := 201
def SAVE_FORCED : Nat := 202
def MEM_CORRECTED : Nat := 208
def MEM_UNCORRECTABLE : Nat := 209
def MEM_POISON_READ : Nat := 210
def SCRUB_POISONED : Nat := 211
def SCRUB_PASS_DONE : Nat := 212
def SRAM_UNCORRECTABLE : Nat := 213
def VALID_TABLE_ERR : Nat := 214
def ZERO_FILL_DONE : Nat := 215
def REGION_RECOVERED : Nat := 216
def MEM_ACCESS_FAULT : Nat := 217
def MEM_SHARE_SHORT : Nat := 218
def MEM_TEST_MODE : Nat := 219
def ROLE_CHANGE : Nat := 224
def RIDGE_LOST : Nat := 225
def RIDGE_RESTORED : Nat := 226
def RIDGE_DEGRADED : Nat := 227
def NET_PATH_LOST : Nat := 228
def STANDBY_LOST : Nat := 229
def DIVERGED : Nat := 230
def IN_STEP : Nat := 231
def WITNESS_FAULT : Nat := 232
def DUAL_ACTIVE : Nat := 233
def HEALTH_RECORD : Nat := 234
def UPD_VERIFIED : Nat := 235
def UPD_PART_ACTIVATED : Nat := 236
def UPD_REFUSED : Nat := 237
def UPD_DONE : Nat := 238
def UPD_FAILED : Nat := 239
def THERM_HOT : Nat := 240
def THERM_NORMAL : Nat := 241
def THERM_SENSOR_FAULT : Nat := 242
def AVS_FAULT : Nat := 243
def MARGIN_REPLAN : Nat := 244
def MARGIN_LOW : Nat := 245
def FOG_CHANGE : Nat := 246
def GPIO_EDGE : Nat := 247
def KEEPER_CHANGE : Nat := 248
def LEASE_EXPIRED : Nat := 249
def SESSION_OPEN : Nat := 250
def SESSION_CLOSE : Nat := 251
def AUTH_FAIL : Nat := 252
def UPDATE_LOCK_CHANGE : Nat := 253
def GROUP_REJECTED : Nat := 254
def MSG_DROPPED : Nat := 255

end Sys2Proof.Machine.Ev

namespace Sys2Proof.Machine

/-- The block group of an event number (R15), for the order of delivery. -/
def eventBlock (e : Nat) : Nat :=
  if e < 32 then 0 else if e < 48 then 1 else if e < 80 then 2 else if e < 96 then 3 else if e < 112 then 4
  else if e < 128 then 5 else if e < 144 then 6 else if e < 160 then 7 else if e < 192 then 8 else if e < 208 then 9
  else if e < 224 then 10 else if e < 235 then 11 else if e < 240 then 12 else if e < 248 then 13 else 14

/-- Counts in a saturating counter and raises an event when the counter leaves 0. -/
def Device.countLeave (s : Device) (off ev payload : Nat) : Device :=
  (s.count off 1).raiseIf (s.rn off = 0) ev payload

end Sys2Proof.Machine
end

