-- ==== Sys2Proof/Machine/Operands.lean ====
section
/-! DEFINITION. The forms of a register access: who may write what, and the checks of a written value, in the order of
R520 (R8 to R12, R93, R361, R369, R398). -/

namespace Sys2Proof.Machine

/-- Whether the writer is the Keeper session (R361). -/
def isKeeper (s : Device) : Who → Bool
  | .session k => s.kpr.keeper = some k
  | _ => false

/-- Whether the offset is a selector that is RW without KP and kept per reader (R369). -/
def isSelector (off : Nat) : Bool :=
  match specAt off with
  | some r => r.banked && !r.kp
  | none => false

/-- Whether the offset is kept per reader (R369, R380). -/
def isBanked (off : Nat) : Bool :=
  match specAt off with
  | some r => r.banked
  | none => false

/-- The registers that belong to the agents (R93). -/
def agentsOnly (off : Nat) : Bool :=
  (0x70000 ≤ off && off < 0x71000 && (off % 0x80 = 0x40 || off % 0x80 = 0x44 || off % 0x80 = 0x48 || off % 0x80 = 0x4C)) ||
  (R.SCH_SUB_W0 ≤ off && off ≤ R.SCH_SUB_RESULT) ||
  (R.SCH_Cc_HANDLE 0 ≤ off && off < R.SCH_Cc_HANDLE 8)

/-- The layer 15 registers (R142). -/
def isLayer15 (off : Nat) : Bool := 0x101F00 ≤ off && off < 0x102000

/-- The calibration registers of R295. -/
def isCalReg (off : Nat) : Bool :=
  (0x1E3000 ≤ off && off < 0x1E4000) || (0x1E1000 ≤ off && off < 0x1E2000 && off % 0x40 = 0x3C)

/-- The registers whose writes the active unit forwards (R398). -/
def forwarded (off : Nat) : Bool :=
  (0x60000 ≤ off && off < 0x70000) || (0x100000 ≤ off && off < 0x180000) ||
  (0x180000 ≤ off && off < 0x1C0000 && !(0x190100 ≤ off && off < 0x190200)) ||
  (0x1D0000 ≤ off && off < 0x1E0000 && !(0x1D2000 ≤ off && off < 0x1D2400)) ||
  (0x4C000 ≤ off && off < 0x4D000) || off = R.KPR_UPDATE_LOCK

/-- The unit's redundancy state as RDG_STATUS.STATE numbers it (R422). -/
def rdgState (s : Device) : Nat := s.rf R.RDG_STATUS 3 0

/-- Whether the unit drives as one of a pair: ACTIVE or TAKING (R387). -/
def pairActive (s : Device) : Bool := rdgState s = 2 || rdgState s = 7

/-- Whether the ridge is up (R391, R422). -/
def ridgeUp (s : Device) : Bool := s.rb R.RDG_STATUS 5

/-- The kinds of ridge message (R393), numbered in the order of the table (PRESUMED, log 9). -/
def ridgeHeartbeat : Nat := 1
def ridgeCapture : Nat := 2
def ridgeOutput : Nat := 3
def ridgeCommit : Nat := 4
def ridgeWrite : Nat := 5
def ridgeMirror : Nat := 6
def ridgeDelta : Nat := 7
def ridgeSweep : Nat := 8
def ridgeRepairReq : Nat := 9
def ridgeRepairData : Nat := 10
def ridgeHealth : Nat := 11

/-- Sends a message to the peer when the ridge is up. -/
def ridgeSend (kind : Nat) (data : List Nat) (s : Device) : Device := s.when (ridgeUp s) (fun s => s.send .ridge (kind :: data))

/-- Sends what the active unit tells its standby. -/
def ridgeTell (kind : Nat) (data : List Nat) (s : Device) : Device := if pairActive s then ridgeSend kind data s else s

/-- The frame of the next commit point (R34): once line V_ACTIVE has begun, that of the next frame. -/
def nextPoint (s : Device) : Nat :=
  if s.shw.lastPoint = some s.shw.frame || s.shw.mode.vActive ≤ s.shw.line then frameAdd s.shw.frame 1 else s.shw.frame

/-- Whether the unit has the standby role (R385, R398): SYNCING, IN_STEP, DIVERGED or ADRIFT. -/
def inStandby (s : Device) : Bool := 3 ≤ rdgState s && rdgState s ≤ 6

/-- The commands that change the commit-group table or submit a group, which the active unit carries over (R398). -/
def groupCommand (off : Nat) : Bool := off = R.KPR_GRP_CMD || off = R.KPR_COMMIT

/-- The standby rule for a register write, kind 2 of R520 (R398); in LISTEN only the service port and the runtime write (R387). -/
def standbyCheck (s : Device) (w : Who) (off : Nat) : Code :=
  let pair := forwarded off || groupCommand off
  if isSelector off then .ok
  else if rdgState s = 1 then
    match w with
    | .session k => if k = 15 then .ok else .state
    | _ => .ok
  else if !inStandby s then .ok
  else match w with
    | .session k => if k = 15 && !pair then .ok else .state
    | .core _ true => if pair then .state else .ok
    | _ => .ok

/-- Whether the client holds the calibration right (R359, R295). -/
def hasCal (s : Device) : Who → Bool
  | .session k => match s.kpr.sessions.find k with
    | some e => e.calRight
    | none => false
  | _ => false

/-- The rights of a writer to a register, kind 3 of R520 (R10, R11, R93, R116, R142, R295, R361). DESIGN CHOICE (log 59): a write to a register that mixes
LK and other fields is rejected only when it would change the LK bits. -/
def rightCheck (s : Device) (w : Who) (off : Nat) (r : RegSpec) (v : Word) : Code :=
  let kind : Code :=
    if r.access = .ro || r.access = .rc || r.access = .lk then .locked
    else if (v ^^^ s.reg off).toNat &&& r.lk ≠ 0 then .locked
    else .ok
  match w with
  | .session k =>
    if !isKeeper s (.session k) && !(r.banked && !r.kp) then .notKeeper
    else if agentsOnly off || isLayer15 off || off = R.BOOT_TRIAL then .locked
    else if isCalReg off && !hasCal s (.session k) then .locked
    else kind
  | .core _ machine =>
    if isLayer15 off || isCalReg off then .locked
    else if !machine && (r.kp || r.lk ≠ 0 || off = R.BOOT_TRIAL) then .locked
    else kind
  | .safety =>
    if isLayer15 off then (if r.access = .ro then .locked else .ok)
    else if r.kp || r.lk ≠ 0 || off = R.BOOT_TRIAL || isCalReg off then .locked
    else kind
  | .repair => .locked

/-- The field of a check, as the written word holds it. -/
def FieldCheck.holds (v : Word) : FieldCheck → Bool
  | .range hi lo a b => a ≤ wfld v hi lo && wfld v hi lo ≤ b
  | .zeroOr hi lo a b => wfld v hi lo = 0 || (a ≤ wfld v hi lo && wfld v hi lo ≤ b)
  | .signed hi lo a b =>
    let x := sext (hi - lo + 1) (wfld v hi lo)
    a ≤ x && x ≤ b
  | .mult hi lo k => wfld v hi lo % k = 0
  | .code hi lo m => wfld v hi lo ≤ m

/-- Whether a check is of the encoding (kind 5) or of the range (kind 6). -/
def FieldCheck.isCode : FieldCheck → Bool
  | .code _ _ _ => true
  | _ => false

/-- Encoding and own range of a value, kinds 5 and 6 of R520 (R9, R12). -/
def valueCheck (r : RegSpec) (v : Word) : Code :=
  if v.toNat &&& (0xFFFFFFFF - r.defined) ≠ 0 then .reserved
  else if (r.checks.filter (·.isCode)).any (fun c => !c.holds v) then .reserved
  else if (r.checks.filter (fun c => !c.isCode)).any (fun c => !c.holds v) then .range
  else .ok

/-- Alignment and existence, kind 1 of R520 (R8, R9). -/
def addressCheck (off : Nat) : Code :=
  if off % 4 ≠ 0 then .align else if mapEnd ≤ off then .noSuch else .ok

/-- A word with its plain bits taken from the write, W1C bits cleared, W1S bits set, and every other bit kept (R10). -/
def mergeWrite (r : RegSpec) (old v : Word) : Word :=
  let m (n : Nat) : Word := BitVec.ofNat 32 n
  ((old &&& ~~~ m r.rw &&& ~~~ (m r.w1c &&& v)) ||| (v &&& m r.rw)) ||| (v &&& m r.w1s)

/-- The first code of a list that is not OK. -/
def firstCode : List Code → Code
  | [] => .ok
  | c :: cs => if c = .ok then firstCode cs else c

/-- What a register adds to the common checks and to the plain store: its state check (kind 4), its checks of stored data,
consistency and capacity (kinds 7 to 9), its effect, and what a rejection leaves in the registers that report it. -/
structure Handler where
  state  : Device → Code
  check  : Device → Code
  effect : Device → Device
  reject : Code → Device → Device := fun _ s => s

/-- The alignment a register asks of its value: CMP_LYR_STRIDE is a multiple of 256 (R127, R164), an entry point a multiple of 4 (R104,
R117). -/
def valueAlign (off : Nat) (v : Word) : Code :=
  if 0x101000 ≤ off && off < 0x102000 && off % 0x100 = 0x0C && v.toNat % 256 ≠ 0 then .align
  else if 0x70000 ≤ off && off < 0x71000 && off % 0x80 = 0x50 && v.toNat % 4 ≠ 0 then .align
  else .ok

/-- The common checks of a write before the register's own state check: kinds 1 to 3 of R520. -/
def accessCode (s : Device) (w : Who) (off : Nat) (v : Word) : Code :=
  firstCode [valueAlign off v, addressCheck off, standbyCheck s w off,
    match specAt off with
    | some r => rightCheck s w off r v
    | none => match w with
      | .session k => if isKeeper s (.session k) then .ok else .notKeeper
      | _ => .ok]

/-- Encoding and range of a value at an offset; a reserved offset takes only 0 (R9). -/
def offsetValueCode (off : Nat) (v : Word) : Code :=
  match specAt off with
  | some r => valueCheck r v
  | none => if v = 0 then .ok else .reserved

/-- The code a write would be answered, in the order of R520. -/
def writeCode (s : Device) (w : Who) (off : Nat) (v : Word) (h : Handler) : Code :=
  firstCode [accessCode s w off v, h.state s, offsetValueCode off v, h.check s]

/-- The active unit forwards an accepted write, naming the commit point at which it is applied; never a selector (R398). -/
def forwardWrite (off : Nat) (v : Word) (point : Nat) (s : Device) : Device :=
  if forwarded off && !isSelector off then ridgeTell ridgeWrite [off, v.toNat, point] s else s

/-- A register write: checked in order and answered OK, then its effect, which may answer otherwise (a refused push, R97; a refused task, R115)
and which the active unit forwards; a rejected write changes nothing but the registers that report a rejection (R12, R37, R371). -/
def regWrite (s : Device) (w : Who) (off : Nat) (v : Word) (h : Handler) : Device :=
  if writeCode s w off v h = .ok then forwardWrite off v (nextPoint s) (h.effect (s.answer .ok))
  else (h.reject (writeCode s w off v h) s).answerAt (writeCode s w off v h) off

/-- The plain store of a register, merged by its masks; per reader where R369 says so. -/
def storeWrite (w : Who) (off : Nat) (v : Word) (s : Device) : Device :=
  match specAt off with
  | none => s
  | some r =>
    if r.banked then s.setBank w off (mergeWrite r (s.bankReg w off) v)
    else s.setReg off (mergeWrite r (s.reg off) v)

/-- The handler of a register with no rule of its own. -/
def plainHandler (w : Who) (off : Nat) (v : Word) : Handler :=
  { state := fun _ => .ok, check := fun _ => .ok, effect := storeWrite w off v }

end Sys2Proof.Machine
end

