-- ==== Sys2Proof/Machine/Queue.lean ====
section
/-! DEFINITION. The priority queues and the hardware scheduler (R93 to R120): items, marks, watermarks, doorbells, task slots,
dispatch, delay lists, cancels and ordered flows. -/

namespace Sys2Proof.Machine

/-! ### Queue geometry -/

/-- A queue's state. -/
def Device.queue (s : Device) (q : Nat) : QueueState := s.que.queues.getD {} q

/-- Stores a queue's state. -/
def Device.setQueue (s : Device) (q : Nat) (x : QueueState) : Device :=
  { s with que := { s.que with queues := s.que.queues.setD {} q x } }

/-- The words an item of a length occupies: whole blocks of 4 words (R95). -/
def blockWords (len : Nat) : Nat := 4 * cdiv len 4

/-- The level of a queue: the words in allocated blocks, complete items and those being assembled in it (R95, R96). -/
def QueueState.level (x : QueueState) : Nat :=
  sumL (x.items.map (fun i => blockWords i.words.length)) +
    sumL (x.asm.map (fun p => if p.2.held.isSome || p.2.waits then 0 else blockWords p.2.len))

/-- The pending items. -/
def QueueState.pendings (x : QueueState) : List Item := x.items.filter (fun i => i.state = .pending)

/-- The priority field of an item's header (R94). -/
def Item.prio (i : Item) : Nat := wfld (i.words.getD 0 0) 10 8

/-- Compares the level with the watermarks after a change (R101). -/
def crossWatermarks (q old : Nat) (s : Device) : Device :=
  let new := (s.queue q).level
  let hi := s.rn (R.QUE_HIGH_WM q)
  let lo := s.rn (R.QUE_LOW_WM q)
  let s := s.when (hi ≠ 0 && old < hi && hi ≤ new) fun s =>
    ((s.setB (R.QUE_STATUS q) 0 true).count (R.QUE_HI_COUNT q) 1).raise Ev.QUE_HIGH_WM q
  s.when (lo ≠ 0 && lo < old && new ≤ lo) fun s =>
    ((s.setB (R.QUE_STATUS q) 1 true).count (R.QUE_LO_COUNT q) 1).raise Ev.QUE_LOW_WM q

/-- Stores a queue after a change, with the watermark rule and the stale timer's rule that no pending item stops it, nor does it run while
QUE_STALE_TIME is 0 (R101, R102). -/
def Device.updQueue (s : Device) (q : Nat) (x : QueueState) : Device :=
  let old := s.queue q
  let x := if x.pendings.isEmpty then { x with staleFrom := none, staleDone := false }
    else if old.pendings.isEmpty then { x with staleFrom := some s.clock, staleDone := false }
    else x
  let x := if s.rn (R.QUE_STALE_TIME q) = 0 then { x with staleFrom := none } else x
  crossWatermarks q old.level (s.setQueue q x)

/-! ### Tasks: slots, ports and selection -/

/-- Free task slots (R104). -/
def schFree (s : Device) : Nat := 4096 - s.que.tasks.length

/-- Whether a port is stalled (R115). -/
def portStalled (s : Device) (p : Nat) : Bool := schFree s < max (s.rn (R.SCH_PORT_RESERVEp p)) 1

/-- Brings the stalled bits of the 41 ports up to date and raises SCH_PORT_STALL for each bit that becomes 1 (R115). -/
def refreshStalls (s : Device) : Device :=
  s.each (upto 41) fun s p =>
    let was := s.que.stalled.getD false p
    let now := portStalled s p
    let s := { s with que := { s.que with stalled := s.que.stalled.setD false p now } }
    s.raiseIf (now && !was) Ev.SCH_PORT_STALL p

/-- The lowest free slot. -/
def freeSlot (t : Table Task) : Nat := ((upto 4096).find? (fun k => (t.find k).isNone)).getD 4096

/-- The checks of a task descriptor in the order of R520 (R104, R106, R115). -/
def taskCode (s : Device) (port : Nat) (w0 w2 w3 : Word) : Code :=
  if w0.toNat % 4 ≠ 0 then .align
  else if portStalled s port then .busy
  else if wbit w2 7 || wfld w2 23 18 ≠ 0 || wfld w3 15 12 ≠ 0 then .reserved
  else if wfld w2 31 24 = 0 || (wbit w3 11 && wfld w3 31 16 = 0) then .range
  else if wfld w2 31 24 &&& s.rf R.SCH_CORE_EN 7 0 = 0 then .conflict
  else .ok

/-- Enters a task in the lowest free slot: its handle carries the slot's generation, and it is DELAYED or READY (R104, R105). -/
def enterTask (s : Device) (port : Nat) (w0 w1 w2 w3 : Word) : Nat × Device :=
  let slot := freeSlot s.que.tasks
  let gen := s.que.gens.getD 0 slot
  let h := slot + 4096 * (gen % 16)
  let t : Task :=
    { handle := h, w0 := w0, w1 := w1, w2 := w2, w3 := w3, port := port, order := s.que.order,
      state := if wbit w3 11 then .delayed (wfld w3 31 16) else .ready s.que.order false }
  let low := s.rn R.SCH_LOW_SLOTS
  let before := schFree s
  let s := { s with que := { s.que with tasks := s.que.tasks.put slot t, order := s.que.order + 1,
                                         gens := s.que.gens.put slot (gen + 1) } }
  (h, refreshStalls (s.raiseIf (low ≤ before && schFree s < low) Ev.SCH_SLOTS_LOW port))

/-- Submits the tasks a doorbell holds while its port accepts them (R114, R115). -/
def ringBells (q : Nat) (s : Device) : Device :=
  let go := fun (s : Device) (_ : Nat) =>
    if portStalled s q || (s.queue q).bells = 0 then s
    else
      let s := s.setQueue q { s.queue q with bells := (s.queue q).bells - 1 }
      let w0 := s.reg (R.QUE_DB_ENTRY q)
      let w2 := s.reg (R.QUE_DB_CFG q)
      let w3 := s.reg (R.QUE_DB_AFF q)
      if taskCode s q w0 w2 w3 = .ok then (enterTask s q w0 (BitVec.ofNat 32 q) w2 w3).2
      else s.count R.SCH_REFUSED 1
  s.each (upto (s.queue q).bells) go

/-- An item becomes pending in its queue, which but for it is left as `x` (R96), starts the stale timer when none was pending, and rings the
doorbell (R114). -/
def itemArrives (q : Nat) (words : List Word) (x : QueueState) (s : Device) : Device :=
  let s := { s with que := { s.que with arrivals := s.que.arrivals + 1 } }
  let s := s.updQueue q { x with items := x.items ++ [⟨words, s.que.arrivals, .pending⟩] }
  if s.rb (R.QUE_CTRL q) 1 then
    ringBells q (s.setQueue q { s.queue q with bells := (s.queue q).bells + 1 })
  else s

/-- An item becomes pending in its queue (R96). -/
def itemPending (q : Nat) (words : List Word) (s : Device) : Device := itemArrives q words (s.queue q) s

/-- An item's words with SRC in the header set to the producing agent (R94). -/
def withSrc (agent : Nat) (ws : List Word) : List Word :=
  match ws with
  | h :: t => setFld h 19 16 agent :: t
  | [] => []

/-- Whether the queue takes a hardware producer's item now: enabled, room for its blocks, doorbell port not stalled (R97). -/
def hwRoom (s : Device) (q len : Nat) : Bool :=
  s.rb (R.QUE_CTRL q) 0 && (s.queue q).level + blockWords len ≤ s.rn (R.QUE_SIZE q) &&
    !(s.rb (R.QUE_CTRL q) 1 && (portStalled s q || (s.queue q).bells ≠ 0))

/-- A hardware producer pushes an item: never refused for room or a stalled doorbell, it waits with the item (R97). An item for a
disabled queue is refused and lost. -/
def hwPush (agent q : Nat) (words : List Word) (s : Device) : Device :=
  if !s.rb (R.QUE_CTRL q) 0 then s
  else if (s.queue q).waiting.isEmpty && hwRoom s q words.length then itemPending q (withSrc agent words) s
  else s.setQueue q { s.queue q with waiting := (s.queue q).waiting ++ [(agent, words)] }

/-- Delivers the waiting hardware items, oldest first, while there is room (R97). -/
def drainWaiting (q : Nat) (s : Device) : Device :=
  s.each (upto (s.queue q).waiting.length) fun s _ =>
    match (s.queue q).waiting with
    | (a, ws) :: rest =>
      if hwRoom s q ws.length then itemPending q (withSrc a ws) (s.setQueue q { s.queue q with waiting := rest }) else s
    | [] => s

/-- An item held for release order enters its queue (R111, R112), or waits there for a room it does not have. -/
def deliverHeld (q : Nat) (words : List Word) (s : Device) : Device :=
  if (s.queue q).waiting.isEmpty && hwRoom s q words.length then itemPending q words s
  else s.setQueue q { s.queue q with waiting := (s.queue q).waiting ++ [(wfld (words.getD 0 0) 19 16, words)] }

/-- After task slots are freed: stalls end, held doorbells submit and waiting producers go on (R115). -/
def afterFree (s : Device) : Device :=
  (refreshStalls s).each (s.que.queues.map (·.1)) fun s q => drainWaiting q (ringBells q s)

/-- The flow of a task, if it belongs to one (R104). -/
def Task.flow (t : Task) : Option Nat := if wbit t.w2 6 then some (wfld t.w2 17 8) else none

/-- The unreleased tasks of a flow. -/
def flowTasks (s : Device) (f : Nat) : List Task := (s.que.tasks.map (·.2)).filter (fun t => t.flow = some f)

/-- Whether a task is the oldest unreleased task of its flow (R111). -/
def isOldest (s : Device) (t : Task) : Bool :=
  match t.flow with
  | none => true
  | some f => (flowTasks s f).all (fun u => t.order ≤ u.order)

/-- The task that runs on a core. -/
def runningOn (s : Device) (c : Nat) : Option Task :=
  (s.que.tasks.map (·.2)).find? (fun t => t.state = .running c)

/-- Words held in the release-order buffer (R112). -/
def robUsed (s : Device) : Nat :=
  sumL (s.que.tasks.map (fun p => sumL (p.2.held.map (fun h => h.2.length)))) +
    sumL (s.que.queues.map (fun p => sumL (p.2.asm.map (fun a => if a.2.held.isSome then a.2.len else 0))))

/-! ### Pushing and reading -/

/-- The flow task whose release an agent's pushes wait for, if any (R112). -/
def holdFor (s : Device) (agent : Nat) : Option Nat :=
  match if agent < 8 then runningOn s agent else none with
  | some t => if isOldest s t then none else some t.handle
  | none => none

/-- Why a header is refused, in the order of R520 (R97, R112). -/
def headerCode (s : Device) (agent q : Nat) (v : Word) : Code :=
  let len := wfld v 6 0
  let x := s.queue q
  if !s.rb (R.QUE_CTRL q) 0 then .state
  else if s.rb (R.QUE_CTRL q) 1 && (portStalled s q || x.bells ≠ 0) then .busy
  else if (holdFor s agent).isSome && 16384 < robUsed s + len then .busy
  else if wbit v 7 || wfld v 15 11 ≠ 0 || wfld v 23 20 ≠ 0 then .reserved
  else if len = 0 || 64 < len then .range
  else if (holdFor s agent).isNone && s.rn (R.QUE_SIZE q) < x.level + blockWords len then .capacity
  else .ok

/-- The last word of an item has been written: it becomes pending, joins the hardware items that wait, or is held for its task's release
(R96, R97, R112). -/
def finishItem (agent q : Nat) (a : Assembly) (s : Device) : Device :=
  let x := { s.queue q with asm := (s.queue q).asm.del agent }
  if a.waits then drainWaiting q (s.setQueue q { x with waiting := x.waiting ++ [(agent, a.words)] })
  else match a.held with
  | none => itemArrives q (withSrc agent a.words) x s
  | some h =>
    let s := s.setQueue q x
    match s.que.tasks.find (h % 4096) with
    | some t =>
      if t.handle = h && !isOldest s t then
        { s with que := { s.que with tasks := s.que.tasks.put (h % 4096) { t with held := t.held ++ [(q, withSrc agent a.words)] } } }
      else deliverHeld q (withSrc agent a.words) s
    | none => deliverHeld q (withSrc agent a.words) s

/-- A word written to QUE_PUSH: discarded, taken into the item being assembled, or taken as a header (R96, R97). -/
def pushWord (agent q : Nat) (v : Word) (s : Device) : Device :=
  let x := s.queue q
  let skip := x.discard.getD 0 agent
  if skip ≠ 0 then (s.setQueue q { x with discard := x.discard.setD 0 agent (skip - 1) }).answer .ok
  else match x.asm.find agent with
    | some a =>
      let a := { a with words := a.words ++ [v] }
      (if a.words.length < a.len then s.setQueue q { x with asm := x.asm.put agent a } else finishItem agent q a s).answer .ok
    | none =>
      let c := headerCode s agent q v
      let waits : Bool := 9 ≤ agent && (c = .capacity || c = .busy || (c = .ok && !x.waiting.isEmpty))
      if c = .ok || waits then
        let a : Assembly := { words := [v], len := wfld v 6 0, held := holdFor s agent, waits := waits }
        (if a.len ≤ 1 then finishItem agent q a s else s.updQueue q { x with asm := x.asm.put agent a }).answer .ok
      else
        let s := if c = .range then s
          else s.setQueue q { x with discard := x.discard.setD 0 agent (wfld v 6 0 - 1) }
        let s := s.raiseIf (c = .busy && (holdFor s agent).isSome && 16384 < robUsed s + wfld v 6 0) Ev.SCH_ROB_FULL q
        if agent < 9 then
          (((s.count (R.QUE_REFUSED q) 1).setN (R.QUE_PUSH_ERR q) (c.num + 256 * agent)).raise Ev.QUE_REFUSED q).answer c
        else s.answer c

/-- The pending item a POP takes: lowest PRIO, then earliest arrival (R98). -/
def bestItem (l : List Item) : Option Item :=
  l.foldl (fun b i => match b with
    | none => some i
    | some j => if i.prio < j.prio || (i.prio = j.prio && i.arrival < j.arrival) then some i else some j) none

/-- A read of QUE_POP (R98): the chosen item's header, the item read since mark and the agent's current item, the stale timer
restarted (R102); 0 when none is pending. -/
def popItem (agent q : Nat) (s : Device) : Device :=
  let x := s.queue q
  match bestItem x.pendings with
  | none => s.answerD .ok [0]
  | some i =>
    let items := x.items.map (fun j => if j.arrival = i.arrival then { j with state := .since } else j)
    (s.updQueue q { x with items := items, current := x.current.put agent (i.arrival, 1), staleFrom := some s.clock,
                           staleDone := false }).answerD .ok [i.words.getD 0 0]

/-- A read of QUE_DATA (R98): the next word of the agent's current item, 0 past its end or with no current item. -/
def dataItem (agent q : Nat) (s : Device) : Device :=
  let x := s.queue q
  match x.current.find agent with
  | none => s.answerD .ok [0]
  | some (a, k) =>
    match x.items.find? (fun i => i.arrival = a) with
    | none => s.answerD .ok [0]
    | some i =>
      (s.setQueue q { x with current := x.current.put agent (a, k + 1) }).answerD .ok [i.words.getD k 0]

/-- MARK (R99). -/
def markQueue (q : Nat) (s : Device) : Device :=
  let x := s.queue q
  (s.setQueue q { x with mark := true, items := x.items.map (fun i =>
    if i.state = .since then { i with state := .before } else i) }).answer .ok

/-- REWIND (R99): items read since mark are pending again. -/
def rewindQueue (q : Nat) (s : Device) : Device :=
  let x := s.queue q
  (s.updQueue q { x with items := x.items.map (fun i =>
    if i.state = .since then { i with state := .pending } else i) }).answer .ok

/-- Whether RELEASE with a scope frees an item: 0 the agent's current item, 1 those read before mark, 2 all read (R99). -/
def releases (x : QueueState) (agent scope : Nat) (i : Item) : Bool :=
  match scope with
  | 0 => match x.current.find agent with
    | some (a, _) => i.arrival = a
    | none => false
  | 1 => i.state = .before
  | _ => i.state = .before || i.state = .since

/-- RELEASE (R99): frees the blocks of the items in scope; waiting producers then go on. -/
def releaseQueue (agent q scope : Nat) (s : Device) : Device :=
  let x := s.queue q
  let items := x.items.filter (fun i => !releases x agent scope i)
  let current := if scope = 0 then x.current.del agent else x.current
  (drainWaiting q (s.updQueue q { x with items := items, current := current })).answer .ok

/-- FLUSH (R103): every item freed, the mark and every current item dropped, items being assembled discarded with their
remaining words, each counted and reported. -/
def flushQueue (q : Nat) (s : Device) : Device :=
  let x := s.queue q
  let part := x.asm.filter (fun p => p.2.held.isNone)
  let discard := part.foldl (fun (d : Table Nat) p => d.setD 0 p.1 (p.2.len - p.2.words.length)) x.discard
  let s := s.updQueue q { x with items := [], mark := false, current := [], discard := discard,
                                 asm := x.asm.filter (fun p => p.2.held.isSome) }
  let s := s.each part fun s _ => (s.count (R.QUE_FLUSH_PARTIAL q) 1).raise Ev.QUE_FLUSH_PARTIAL q
  drainWaiting q s

/-! ### Dispatch, release and cancel -/

/-- The cores a task may run on: its mask and the enabled cores (R106). -/
def eligibleCores (s : Device) (t : Task) : List Nat :=
  (upto 8).filter (fun c => wbit t.w2 (24 + c) && s.rb R.SCH_CORE_EN c)

/-- The idle cores among them. -/
def idleCores (s : Device) (t : Task) : List Nat := (eligibleCores s t).filter (fun c => (runningOn s c).isNone)

/-- Whether a task is READY and eligible, and the order in which it became READY. -/
def Task.readyOrder (t : Task) : Option Nat :=
  match t.state with
  | .ready k true => some k
  | _ => none

/-- The selection order: a task that ended its affinity wait with no core idle takes the first eligible core that becomes idle (R107); else the
lower PRIO first, then the earlier READY (R106). -/
def selectsBefore (t u : Task) : Bool :=
  let p (x : Task) := wfld x.w2 5 0
  if t.missed = u.missed then p t < p u || (p t = p u && t.readyOrder.getD 0 ≤ u.readyOrder.getD 0) else t.missed

/-- Inserts a task in selection order. -/
def insertTask (t : Task) : List Task → List Task
  | [] => [t]
  | u :: l => if selectsBefore t u then t :: u :: l else u :: insertTask t l

/-- The READY and eligible tasks in selection order. -/
def selection (s : Device) : List Task :=
  ((s.que.tasks.map (·.2)).filter (fun t => t.readyOrder.isSome)).foldr insertTask []

/-- What placement does with a selected task (R107): runs it on a core, lets it wait for its recorded core until an
instant, or passes it over for want of an idle core. -/
inductive Placement where
  | run (core : Nat) (hit : Bool)
  | wait (until_ : Nat)
  | pass
deriving DecidableEq, Repr

/-- Placement of a task (R107). -/
def placeTask (s : Device) (t : Task) : Placement :=
  let idle := idleCores s t
  let key := wfld t.w3 7 0
  let limit := s.rn R.SCH_AFFINITY_WAIT
  let plain : Placement := match idle with
    | c :: _ => .run c false
    | [] => .pass
  if key = 0 || limit = 0 || t.missed then plain
  else match s.que.aff.find key with
    | none => plain
    | some rc =>
      if idle.contains rc then .run rc t.wait.isSome
      else if (eligibleCores s t).contains rc then
        (if t.wait.isSome then .pass else if idle.isEmpty then .pass else .wait (s.clock + 1000 * limit))
      else plain

/-- Stores a task in its slot. -/
def Device.setTask (s : Device) (t : Task) : Device :=
  { s with que := { s.que with tasks := s.que.tasks.put (t.handle % 4096) t } }

/-- Dispatches a task to a core (R108): handle, ENTRY and ARG in the core's registers, its dispatch interrupt raised, the
affinity table brought up to date (R107). -/
def dispatchTo (c : Nat) (t : Task) (hit : Bool) (s : Device) : Device :=
  let s := s.setTask { t with state := .running c, wait := none }
  let key := wfld t.w3 7 0
  let s := { s with que := { s.que with aff := if key = 0 then s.que.aff else s.que.aff.put key c } }
  let s := ((s.setN (R.SCH_Cc_HANDLE c) t.handle).setReg (R.SCH_Cc_ENTRY c) t.w0).setReg (R.SCH_Cc_ARG c) t.w1
  let s := (s.count R.SCH_DISPATCHED 1).send (.core c) [t.handle, t.w0.toNat, t.w1.toNat]
  s.when hit fun s => s.count R.SCH_AFF_HIT 1

/-- One dispatch: the first task in selection order that can run now; those before it that must wait for their
recorded core enter affinity wait (R106, R107). -/
def dispatchFrom : List Task → Device → Device
  | [], s => s
  | t :: l, s =>
    match placeTask s t with
    | .run c hit => dispatchTo c t hit s
    | .wait d => dispatchFrom l (s.setTask { t with wait := some d })
    | .pass => dispatchFrom l s

/-- Frees a task's slot and delivers its held pushes (R111, R112). -/
def releaseTask (t : Task) (s : Device) : Device :=
  let s := { s with que := { s.que with tasks := s.que.tasks.del (t.handle % 4096) } }
  s.each t.held fun s p => deliverHeld p.1 p.2 s

/-- Releases the DONE_HELD tasks of a flow that have become the oldest, in submission order (R111). -/
def releaseFollowing : Nat → Nat → Device → Device
  | 0, _, s => s
  | n + 1, f, s =>
    match (flowTasks s f).find? (fun t => isOldest s t && t.state = .doneHeld) with
    | some t => releaseFollowing n f (releaseTask t s)
    | none => s

/-- A task leaves its flow's order: the tasks after it that are DONE_HELD follow (R110, R111). -/
def leaveTask (t : Task) (s : Device) : Device :=
  let s := releaseTask t s
  match t.flow with
  | some f => releaseFollowing (flowTasks s f).length f s
  | none => s

/-- A core writes DONE (R108, R111). -/
def doneTask (c : Nat) (v : Word) (s : Device) : Device :=
  match runningOn s c with
  | some t =>
    if t.handle = wfld v 15 0 then
      if wfld v 31 16 ≠ 0 then s.answer .reserved
      else
      let s := if isOldest s t then leaveTask t s else s.setTask { t with state := .doneHeld }
      (afterFree s).answer .ok
    else (s.raise Ev.SCH_DONE_ERR c).answer .state
  | none => (s.raise Ev.SCH_DONE_ERR c).answer .state

/-- A handle written to SCH_CANCEL (R110). -/
def cancelTask (v : Word) (s : Device) : Device :=
  if wfld v 31 16 ≠ 0 then s.answer .reserved
  else
  let h := wfld v 15 0
  let res (n : Nat) (s : Device) : Device := (s.setN R.SCH_CANCEL_RESULT n).answer .ok
  match s.que.tasks.find (h % 4096) with
  | some t =>
    if t.handle ≠ h then res 3 s
    else match t.state with
      | .running _ => res 1 s
      | .doneHeld => res 2 s
      | _ => res 0 ((afterFree (leaveTask { t with held := [] } s)).count R.SCH_CANCELLED 1)
  | none => res 3 s

/-- The agent that stands behind a number (R93): its registers are banked under it. -/
def agentWho (a : Nat) : Who := if a = 8 then .safety else .core a true

/-- The agent number of a writer; sessions have none (R93). -/
def whoAgent : Who → Option Nat
  | .core c _ => some (c % 8)
  | .safety => some 8
  | _ => none

/-- The write of SCH_SUB_W3 submits the task of an agent's window (R113, R115). -/
def submitTask (agent : Nat) (w3 : Word) (s : Device) : Device :=
  let w := agentWho agent
  let w0 := s.bankReg w R.SCH_SUB_W0
  let w1 := s.bankReg w R.SCH_SUB_W1
  let w2 := s.bankReg w R.SCH_SUB_W2
  let port := if agent = 8 then 40 else 32 + agent
  let c := taskCode s port w0 w2 w3
  if c = .ok then
    let r := enterTask s port w0 w1 w2 w3
    (r.2.setBank w R.SCH_SUB_RESULT (BitVec.ofNat 32 r.1)).answer .ok
  else
    ((s.count R.SCH_REFUSED 1).setBank w R.SCH_SUB_RESULT (BitVec.ofNat 32 (c.num * 65536))).answer c

/-! ### Registers of the two blocks -/

/-- The span of a queue in the SRAM, empty when disabled (R95). -/
def queueSpan (s : Device) (q : Nat) : Nat × Nat := (s.rn (R.QUE_BASE q), s.rn (R.QUE_BASE q) + s.rn (R.QUE_SIZE q))

/-- Whether enabling a queue agrees with the other enabled queues and the SRAM's end (R95). -/
def queueFits (s : Device) (q : Nat) : Bool :=
  let (a, b) := queueSpan s q
  b ≤ 131072 && (upto 32).all (fun p => p = q || !s.rb (R.QUE_CTRL p) 0 ||
    (let (c, d) := queueSpan s p
     b ≤ c || d ≤ a || a = b || c = d))

/-- QUE_CMD's operations as a register write (R99). -/
def queueCommand (agent q : Nat) (v : Word) (s : Device) : Device :=
  match wfld v 1 0 with
  | 1 => markQueue q s
  | 2 => rewindQueue q s
  | 3 => releaseQueue agent q (wfld v 3 2) s
  | _ => s

/-- R102: the stale timer after QUE_STALE_TIME is written with `v` over `was`: stopped by zero, started
by the first non-zero value, otherwise running on. -/
def setStale (q : Nat) (v : Word) (s : Device) (was : Nat) : Device :=
  s.setQueue q { s.queue q with
    staleFrom :=
      if v = 0 || (s.queue q).pendings.isEmpty then none
      else if was = 0 then some s.clock else (s.queue q).staleFrom }

/-- The queue registers' own rules (R95, R101, R117). -/
def queHandler (w : Who) (off : Nat) (v : Word) : Handler :=
  let h := plainHandler w off v
  let q := (off - 0x70000) / 0x80
  let agent := (whoAgent w).getD 0
  match off % 0x80 with
  | 0x00 => { h with
      check := fun s => if wbit v 0 && !queueFits s q then .conflict else .ok
      effect := fun s =>
        let s := s.setN off (v.toNat % 4)
        let s := if wbit v 2 then flushQueue q s else s
        drainWaiting q (if wbit v 1 then ringBells q s else s) }
  | 0x04 => { h with state := fun s => if s.rb (R.QUE_CTRL q) 0 then .state else .ok }
  | 0x08 => { h with state := fun s => if s.rb (R.QUE_CTRL q) 0 then .state else .ok }
  | 0x0C => { h with
      check := fun s =>
        if s.rn (R.QUE_SIZE q) < v.toNat then .range
        else if v ≠ 0 && s.rn (R.QUE_LOW_WM q) ≠ 0 && v.toNat ≤ s.rn (R.QUE_LOW_WM q) then .conflict else .ok }
  | 0x10 => { h with
      check := fun s =>
        if s.rn (R.QUE_SIZE q) < v.toNat then .range
        else if v ≠ 0 && s.rn (R.QUE_HIGH_WM q) ≠ 0 && s.rn (R.QUE_HIGH_WM q) ≤ v.toNat then .conflict else .ok }
  | 0x14 => { h with effect := fun s => setStale q v (storeWrite w off v s) (s.rn (R.QUE_STALE_TIME q)) }
  | 0x40 => { h with effect := pushWord agent q v }
  | 0x4C => { h with effect := queueCommand agent q v }
  | 0x50 => { h with state := fun s => if s.rb (R.QUE_CTRL q) 1 then .state else .ok }
  | 0x54 => { h with
      state := fun s => if s.rb (R.QUE_CTRL q) 1 then .state else .ok
      check := fun _ => if wbit v 7 || wfld v 23 18 ≠ 0 then .reserved else if wfld v 31 24 = 0 then .range else .ok }
  | 0x58 => { h with state := fun s => if s.rb (R.QUE_CTRL q) 1 then .state else .ok }
  | _ => h

/-! ### Delay lists -/

/-- The clock of a list's next tick of its local counter (R109); the counter has counted from reset. -/
def nextTick (s : Device) (d : Nat) : Nat := s.que.ticks.getD 1000 d

/-- The period of a list's local counter in ns. -/
def tickNs (s : Device) (d : Nat) : Nat := 1000 * s.rf (R.SCH_DLY_CFGd d) 9 0

/-- The first tick of a list's local counter that is not past (R109). -/
def dueTick (s : Device) (d : Nat) : Nat := nextTick s d + tickNs s d * cdiv (s.clock - nextTick s d) (tickNs s d)

/-- One tick of a delay list (R109): each of its tasks counts down, and those that reach 0 become READY in submission order. -/
def tickList (d : Nat) (s : Device) : Device :=
  let mine := sortBy (fun (t u : Task) => t.order ≤ u.order)
    ((s.que.tasks.map (·.2)).filter (fun t => wbit t.w3 11 && wfld t.w3 10 8 = d))
  s.each mine fun s t =>
    match t.state with
    | .delayed (n + 2) => s.setTask { t with state := .delayed (n + 1) }
    | .delayed _ =>
      let s := s.setTask { t with state := .ready s.que.order false }
      { s with que := { s.que with order := s.que.order + 1 } }
    | _ => s

/-- A list of the local counter ticks: its tick after this one lies a period later (R109). A list of the frame boundaries ticks there. -/
def localTick (d : Nat) (s : Device) : Device :=
  if s.rb (R.SCH_DLY_CFGd d) 31 then s
  else
    let due := dueTick s d
    let s := s.elapseTo due
    tickList d { s with que := { s.que with ticks := s.que.ticks.put d (due + tickNs s d) } }

/-- The lists that tick at a frame boundary (R109), in ascending number (R106). -/
def frameTicks (s : Device) : Device :=
  s.each ((upto 8).filter (fun d => s.rb (R.SCH_DLY_CFGd d) 31)) fun s d => tickList d s

/-- The scheduler registers' own rules (R108 to R110, R113, R115). -/
def schHandler (w : Who) (off : Nat) (v : Word) : Handler :=
  let h := plainHandler w off v
  let agent := (whoAgent w).getD 0
  if R.SCH_PORT_RESERVEp 0 ≤ off && off ≤ R.SCH_PORT_RESERVEp 40 then
    { h with effect := fun s => afterFree (storeWrite w off v s) }
  else if off = R.SCH_SUB_W3 then { h with effect := submitTask agent v }
  else if R.SCH_SUB_W0 ≤ off && off ≤ R.SCH_SUB_W2 then { h with effect := fun s => s.setBank w off v }
  else if R.SCH_DLY_CFGd 0 ≤ off && off ≤ R.SCH_DLY_CFGd 7 then
    { h with effect := fun s =>
        let d := (off - R.SCH_DLY_CFGd 0) / 4
        storeWrite w off v { s with que := { s.que with ticks := s.que.ticks.put d (dueTick s d) } } }
  else if off = R.SCH_CANCEL then { h with effect := cancelTask v }
  else if 0x80400 ≤ off && off < 0x80500 && off % 0x20 = 0x0C then
    { h with effect := doneTask ((off - 0x80400) / 0x20) v }
  else h

/-- Whether the firmware has started the cores (R447): stages 1 to 4 of the boot. DEDUCED (log 57): SCH_Cc_STATE reads 0 at reset although
SCH_CORE_EN enables every core. -/
def coresUp (s : Device) : Bool := 1 ≤ s.rf R.BOOT_STATUS 3 0 && s.rf R.BOOT_STATUS 3 0 ≤ 4

/-- What the QUE and SCH registers read as where they show live state (R117 to R119). -/
def queView (s : Device) (w : Who) (off : Nat) : Option Word :=
  let q := (off - 0x70000) / 0x80
  let x := s.queue q
  let n (k : Nat) : Option Word := some (BitVec.ofNat 32 k)
  if off < 0x71000 then
    match off % 0x80 with
    | 0x18 => n x.level
    | 0x1C => n (x.pendings.length + 65536 * (x.items.length - x.pendings.length))
    | 0x20 => n (s.rn off % 8 + 256 * b2n (s.rn (R.QUE_SIZE q) ≠ 0 && s.rn (R.QUE_SIZE q) < x.level + 16) + 512 * b2n x.mark +
        1024 * b2n (portStalled s q))
    | _ => none
  else if off = R.SCH_FREE then n (schFree s)
  else if off = R.SCH_ROB_USED then n (robUsed s)
  else if off = R.SCH_PORT_STALLED_LO then n (sumL ((upto 32).map (fun p => if portStalled s p then 2 ^ p else 0)))
  else if off = R.SCH_PORT_STALLED_HI then n (sumL ((upto 9).map (fun p => if portStalled s (32 + p) then 2 ^ p else 0)))
  else if off = R.SCH_SUB_RESULT then some (s.bankReg w off)
  else if off = R.SCH_FLOW_INFO then
    let t := flowTasks s (s.bankReg w R.SCH_FLOW_SEL).toNat
    n (t.length + 65536 * (t.filter (fun u => u.state = .doneHeld)).length)
  else if 0x80400 ≤ off && off < 0x80500 && off % 0x20 = 0x10 then
    let c := (off - 0x80400) / 0x20
    n (b2n (runningOn s c).isSome + 2 * b2n (s.rb R.SCH_CORE_EN c && coresUp s))
  else none

/-! ### The commands -/

/-- Answers a command of a unit that exists, and faults on one that does not. -/
def onUnit (b : Bool) (s : Device) : Host.Outcome Device Fault Refusal := if b then .next s else .fault .noSuchUnit

/-- QUE_PUSH (R96, R97). -/
def execQuePush (agent q : Nat) (v : Word) (st : State) : Host.Outcome State Fault Refusal :=
  st.onDevice fun s =>
  onUnit (agent < 14 && q < 32) (pushWord agent q v s)

/-- QUE_POP (R98). -/
def execQuePop (agent q : Nat) (st : State) : Host.Outcome State Fault Refusal :=
  st.onDevice fun s =>
  onUnit (agent < 14 && q < 32) (popItem agent q s)

/-- QUE_DATA (R98). -/
def execQueDataRead (agent q : Nat) (st : State) : Host.Outcome State Fault Refusal :=
  st.onDevice fun s =>
  onUnit (agent < 14 && q < 32) (dataItem agent q s)

/-- QUE_CMD with MARK (R99). -/
def execQueMark (agent q : Nat) (st : State) : Host.Outcome State Fault Refusal :=
  st.onDevice fun s =>
  onUnit (agent < 14 && q < 32) (markQueue q s)

/-- QUE_CMD with REWIND (R99). -/
def execQueRewind (agent q : Nat) (st : State) : Host.Outcome State Fault Refusal :=
  st.onDevice fun s =>
  onUnit (agent < 14 && q < 32) (rewindQueue q s)

/-- QUE_CMD with RELEASE (R99, R100); scope 3 is reserved (R117). -/
def execQueRelease (agent q scope : Nat) (st : State) : Host.Outcome State Fault Refusal :=
  st.onDevice fun s =>
  onUnit (agent < 14 && q < 32) (if scope < 3 then releaseQueue agent q scope s else s.answer .reserved)

/-- QUE_CTRL written with FLUSH (R103, R117). -/
def execQueFlush (w : Who) (q : Nat) (v : Word) (st : State) : Host.Outcome State Fault Refusal :=
  st.onDevice fun s =>
  onUnit (q < 32) (regWrite s w (R.QUE_CTRL q) v (queHandler w (R.QUE_CTRL q) v))

/-- The stale timer of a queue reaches QUE_STALE_TIME (R102). -/
def execQueStale (q : Nat) (st : State) : Host.Outcome State Fault Refusal :=
  st.onDevice fun s =>
  onUnit (q < 32)
    (match (s.queue q).staleFrom with
     | some t =>
       if s.rn (R.QUE_STALE_TIME q) = 0 || (s.queue q).staleDone || (s.queue q).pendings.isEmpty then s
       else
         let s := (s.elapseTo (t + 1000 * s.rn (R.QUE_STALE_TIME q))).setQueue q { s.queue q with staleDone := true }
         ((s.setB (R.QUE_STATUS q) 2 true).count (R.QUE_STALE_COUNT q) 1).raise Ev.QUE_STALE q
     | none => s)

/-- A doorbell submits the task it holds (R114, R115). -/
def execDoorbellSubmit (q : Nat) (st : State) : Host.Outcome State Fault Refusal :=
  st.onDevice fun s =>
  onUnit (q < 32) (drainWaiting q (ringBells q s))

/-- SCH_SUB_W3 written: the task is submitted (R104, R113, R115). -/
def execTaskSubmit (agent : Nat) (w3 : Word) (st : State) : Host.Outcome State Fault Refusal :=
  st.onDevice fun s =>
  onUnit (agent < 9) (submitTask agent w3 s)

/-- A READY task becomes eligible for dispatch, 8 CLK_CPX cycles after it became READY (R105). -/
def execTaskEligible (slot : Nat) (st : State) : Host.Outcome State Fault Refusal :=
  st.onDevice fun s =>
  onUnit (slot < 4096)
    (match s.que.tasks.find slot with
     | some t => match t.state with
       | .ready k false => s.setTask { t with state := .ready k true }
       | _ => s
     | none => s)

/-- The scheduler selects and places a task (R106, R107, R108); SCH_CTRL.EN = 0 stops it (R119). -/
def execTaskDispatch (st : State) : Host.Outcome State Fault Refusal :=
  st.onDevice fun s =>
  .next (if s.rb R.SCH_CTRL 0 then dispatchFrom (selection s) s else s)

/-- A task's affinity wait ends (R107): it is counted and runs on the lowest-numbered idle eligible core, if one is idle. -/
def execAffinityWaitExpiry (slot : Nat) (st : State) : Host.Outcome State Fault Refusal :=
  st.onDevice fun s =>
  onUnit (slot < 4096)
    (match s.que.tasks.find slot with
     | some t => match t.wait with
       | some d =>
         let s := (s.elapseTo d).count R.SCH_AFF_MISS 1
         let t := { t with wait := none, missed := true }
         let s := s.setTask t
         match idleCores s t with
         | c :: _ => if s.rb R.SCH_CTRL 0 then dispatchTo c t false s else s
         | [] => s
       | none => s
     | none => s)

/-- SCH_Cc_DONE written (R108, R111); an agent other than the core itself is not the core's running task's owner, and the check of the
handle alone decides. -/
def execTaskDone (agent core : Nat) (v : Word) (st : State) : Host.Outcome State Fault Refusal :=
  st.onDevice fun s =>
  onUnit (agent < 9 && core < 8) (doneTask core v s)

/-- A delay list ticks (R109). -/
def execDelayListTick (d : Nat) (st : State) : Host.Outcome State Fault Refusal :=
  st.onDevice fun s => onUnit (d < 8) (localTick d s)

/-- SCH_CANCEL written (R110). -/
def execTaskCancel (agent : Nat) (v : Word) (st : State) : Host.Outcome State Fault Refusal :=
  st.onDevice fun s =>
  onUnit (agent < 9) (cancelTask v s)

end Sys2Proof.Machine
end

