-- ==== Sys2Proof/Machine/Sha256.lean ====
section
/-! DEFINITION. SHA-256 and HMAC-SHA-256, which R354 and R356 name for the tags and the session keys, and R431 and R466 for image digests.
PRESUMED (log 19): the algorithm and the padding are those of FIPS 180-4 and RFC 2104, which the spec names without printing them. The
constants are given by what that standard says they are, the leading fraction bits of roots of the first primes. -/

namespace Sys2Proof.Machine

/-- The first primes, up to a bound. -/
def primesTo (bound : Nat) : List Nat :=
  (upto bound).filter (fun n => 2 ≤ n && ((upto n).drop 2).all (fun d => n % d ≠ 0))

/-- The first 32 fraction bits of the cube root of a number below 512. -/
def cubeBits (p : Nat) : BitVec 32 := BitVec.ofNat 32 (bisect (fun r => r ^ 3 ≤ p * 2 ^ 96) 40 0 (2 ^ 36))

/-- The first 32 fraction bits of the square root of a number. -/
def squareBits (p : Nat) : BitVec 32 := BitVec.ofNat 32 (Nat.sqrt (p * 2 ^ 64))

/-- The exclusive or of a word turned right by two counts and a third word. -/
def turns (x : BitVec 32) (i j : Nat) (y : BitVec 32) : BitVec 32 := x.rotateRight i ^^^ (x.rotateRight j ^^^ y)

/-- The eight chaining words of the compression. -/
structure Chain8 where
  lo : BitVec 32 × BitVec 32 × BitVec 32 × BitVec 32
  hi : BitVec 32 × BitVec 32 × BitVec 32 × BitVec 32
deriving DecidableEq, Repr

/-- The chaining words at the start, the square roots of the first eight primes. -/
def Chain8.start : Chain8 :=
  let q := (primesTo 20).map squareBits
  let at_ (i : Nat) : BitVec 32 := q.getD i 0
  { lo := (at_ 0, at_ 1, at_ 2, at_ 3), hi := (at_ 4, at_ 5, at_ 6, at_ 7) }

/-- The words in order. -/
def Chain8.words (v : Chain8) : List (BitVec 32) :=
  [v.lo.1, v.lo.2.1, v.lo.2.2.1, v.lo.2.2.2, v.hi.1, v.hi.2.1, v.hi.2.2.1, v.hi.2.2.2]

/-- The sum of two sets of chaining words. -/
def Chain8.plus (u v : Chain8) : Chain8 :=
  { lo := (u.lo.1 + v.lo.1, u.lo.2.1 + v.lo.2.1, u.lo.2.2.1 + v.lo.2.2.1, u.lo.2.2.2 + v.lo.2.2.2),
    hi := (u.hi.1 + v.hi.1, u.hi.2.1 + v.hi.2.1, u.hi.2.2.1 + v.hi.2.2.1, u.hi.2.2.2 + v.hi.2.2.2) }

/-- One step of the compression with the sum of its schedule word and constant. -/
def Chain8.step (v : Chain8) (input : BitVec 32) : Chain8 :=
  let (x, y, z, d) := v.lo
  let (p, q, r, last) := v.hi
  let chosen := r ^^^ (p &&& (q ^^^ r))
  let majority := (x &&& (y ||| z)) ||| (y &&& z)
  let fed := last + input + chosen + turns p 6 11 (p.rotateRight 25)
  { lo := (fed + majority + turns x 2 13 (x.rotateRight 22), x, y, z), hi := (d + fed, p, q, r) }

/-- Word t of the message schedule of a block, the words already made given newest first. -/
def scheduleNext (made : List (BitVec 32)) : BitVec 32 :=
  let back (i : Nat) : BitVec 32 := (made.drop (i - 1)).headD 0
  back 7 + back 16 + turns (back 15) 7 18 (back 15 >>> 3) + turns (back 2) 17 19 (back 2 >>> 10)

/-- The 64 schedule words of a block, in order. -/
def schedule (block : List Byte) : List (BitVec 32) :=
  let first := ((upto 16).map (fun i => BitVec.ofNat 32 (ofBe ((block.drop (4 * i)).take 4)))).reverse
  ((upto 48).foldl (fun made _ => scheduleNext made :: made) first).reverse

/-- The compression of one block. -/
def compress (v : Chain8) (block : List Byte) : Chain8 :=
  let inputs := (schedule block).zip ((primesTo 312).map cubeBits)
  v.plus (inputs.foldl (fun u p => u.step (p.1 + p.2)) v)

/-- A message with the padding of the standard: a one bit, zeros, and the bit count in 8 bytes. -/
def padded (m : List Byte) : List Byte :=
  m ++ 0x80 :: List.replicate (63 - (m.length + 8) % 64) 0 ++ beBytes 8 (8 * m.length)

/-- SHA-256 of a byte string, 32 bytes. -/
def sha256 (m : List Byte) : List Byte :=
  let p := padded m
  ((upto (p.length / 64)).foldl (fun v i => compress v ((p.drop (64 * i)).take 64)) Chain8.start).words.flatMap
    (fun w => beBytes 4 w.toNat)

/-- HMAC-SHA-256 with a key of at most 64 bytes. -/
def hmac256 (key msg : List Byte) : List Byte :=
  let mixed (pad : Byte) : List Byte := (upto 64).map (fun i => key.getD i 0 ^^^ pad)
  sha256 (mixed 0x5c ++ sha256 (mixed 0x36 ++ msg))

end Sys2Proof.Machine
end

