-- ==== Sys2Proof/Machine/Ridge.lean ====
section
/-! DEFINITION. The unit's role in a pair and the messages it sends to its peer (R387, R390 to R393, R411). -/

namespace Sys2Proof.Machine

/-! ### Heartbeats -/

/-- The registers of the timing mode, as a heartbeat carries them (R31, R394). -/
def rasterRegs : List Nat := [R.SHOW_V_TOTAL, R.SHOW_V_ACTIVE, R.SHOW_LATCH_LINE, R.SHOW_RATE_NUM, R.SHOW_RATE_DEN]

/-- The content frame latched last on any chain. -/
def lastLatched (s : Device) : Nat :=
  ((s.bat.chains.filterMap (fun p => p.2.latched)).foldl (fun (a : Option Nat) f =>
    match a with
    | none => some f
    | some g => if frameDiff g f < 0 then some f else some g) none).getD 0

/-- The heartbeat that the unit sends (R391). -/
def ownHeartbeat (s : Device) : Heartbeat :=
  { unitB := s.rb R.RDG_STATUS 4, state := rdgState s, roleTime := s.rdg.roleAt, holding := s.rb R.RDG_STATUS 9, lastLatch := lastLatched s,
    deltaSeq := s.rn R.RDG_DELTA_SEQ, sweepSeq := s.rn R.RDG_SWEEP_COUNT, frame := s.shw.frame, source := s.shw.sel,
    raster := rasterRegs.map s.reg, stamp := s.shw.time }

/-- A heartbeat as bytes (PRESUMED, log 9). -/
def hbBytes (h : Heartbeat) : List Byte :=
  leBytes 1 (b2n h.unitB) ++ leBytes 1 h.state ++ leBytes 1 (b2n h.holding) ++ leBytes 1 h.source ++ leBytes 8 h.roleTime ++
  leBytes 6 h.lastLatch ++ leBytes 4 h.deltaSeq ++ leBytes 4 h.sweepSeq ++ leBytes 6 h.frame ++
  h.raster.flatMap (fun v => leBytes 4 v.toNat) ++ leBytes 8 h.stamp

/-- The tag of a network heartbeat: HMAC-SHA-256 with the pair key, cut to 16 bytes (R392). -/
def hbTag (s : Device) (h : Heartbeat) : List Byte := (hmac256 s.rdg.pairKey (hbBytes h)).take 16

/-- Sends the ridge heartbeat on every lane that is up (R391). -/
def sendRidgeHeartbeat (s : Device) : Device :=
  s.each ((upto 2).filter (fun k => s.rb R.RDG_LINK k)) fun s _ => s.send .ridge (ridgeHeartbeat :: (hbBytes (ownHeartbeat s)).map (·.toNat))

/-- Sends the network heartbeat on NET4 and NET5, on each that is linked (R392). -/
def sendNetHeartbeat (s : Device) : Device :=
  if !s.rb R.RDG_CTRL 2 || rdgState s = 0 then s
  else s.each ([4, 5].filter (fun p => s.rb (R.NET_STATUS p) 0)) fun s p =>
    let h := ownHeartbeat s
    s.send .peerNet (p :: s.rn R.RDG_PEER_ADDR :: (hbBytes h ++ hbTag s h).map (·.toNat))

/-- HOLDING (R411): on its start an extra heartbeat goes out at once on both paths. -/
def setHolding (b : Bool) (s : Device) : Device :=
  let b := b && pairActive s
  let was := s.rb R.RDG_STATUS 9
  let s := s.setB R.RDG_STATUS 9 b
  if b && !was then sendNetHeartbeat (sendRidgeHeartbeat s) else s

end Sys2Proof.Machine
end

