-- ==== Sys2Proof/Machine/Memory.lean ====
section
/-! DEFINITION. The in-package memory (R328 to R352, R523): regions, coded reads and writes, poison, valid bits, the scrubber,
zero-fill, discard and the test mode. -/

namespace Sys2Proof.Machine

/-! ### Regions -/

/-- A region's first byte (R329). -/
def regionBase (s : Device) (r : Nat) : Nat := 4096 * s.rf (R.MEM_Rr_BASE r) 21 0

/-- A region's size in bytes. -/
def regionSize (s : Device) (r : Nat) : Nat := 4096 * s.rf (R.MEM_Rr_SIZE r) 22 0

/-- Whether a region is defined (R351). -/
def regionOn (s : Device) (r : Nat) : Bool := s.rb (R.MEM_Rr_CFG r) 0

/-- A region's code class: 0 S, 1 M, 2 L (R331). -/
def regionClass (s : Device) (r : Nat) : Nat := s.rf (R.MEM_Rr_CFG r) 2 1

/-- Whether a region is tracked by valid bits (R337). -/
def regionTracked (s : Device) (r : Nat) : Bool := s.rb (R.MEM_Rr_CFG r) 3

/-- The first byte of the carve-out (R329). -/
def carveBase (s : Device) : Nat := 4096 * s.rf R.MEM_CARVE_BASE 21 0

/-- The region that holds a byte, outside the carve-out (R329). -/
def regionOf (s : Device) (off : Nat) : Option Nat :=
  if carveBase s ≤ off then none
  else (upto 32).find? (fun r => regionOn s r && regionBase s r ≤ off && off < regionBase s r + regionSize s r)

/-- Whether a range lies in one region (R370). -/
def inOneRegion (s : Device) (off n : Nat) : Bool :=
  match regionOf s off with
  | some r => off + n ≤ regionBase s r + regionSize s r && off + n ≤ carveBase s
  | none => false

/-- Whether a range of class `cls` lies in one region of that class (R330). -/
def inClass (s : Device) (cls off n : Nat) : Bool :=
  inOneRegion s off n && (match regionOf s off with
    | some r => regionClass s r = cls
    | none => false)

/-- The bytes of a codeword: 32 in class S, 8 in M and L (R331). -/
def cwBytes (cls : Nat) : Nat := if cls = 0 then 32 else 8

/-! ### Raw content -/

/-- Whether an 8-byte word has been written since power-up (R338). -/
def MemState.isKnown (m : MemState) (off : Nat) : Bool :=
  m.known.getD false (off / 8) || m.filled.any (fun p => p.1 ≤ off && off < p.1 + p.2)

/-- Whether a byte lies in an unwritten granule of a tracked region (R337). -/
def unwritten (s : Device) (off : Nat) : Bool :=
  match regionOf s off with
  | some r => regionTracked s r && !s.mem.valid.getD false (off / 256)
  | none => false

/-- The byte that a word of a written granule, or of an untracked region, holds: a free value where nothing was ever written (R338). -/
def heldByte (s : Device) (off : Nat) : Byte :=
  if s.mem.isKnown off then s.mem.cells.getD 0 off else Config.undefMem off s.free

/-- The byte a read returns: zero in an unwritten granule, else what is held (R337). -/
def readByte (s : Device) (off : Nat) : Byte := if unwritten s off then 0 else heldByte s off

/-- The bytes of a range as a read returns them, with no check and no count; those of one granule are unwritten together. -/
def peek (s : Device) (off n : Nat) : List Byte :=
  if off / 256 = (off + n - 1) / 256 then
    if unwritten s off then (upto n).map (fun _ => 0) else (upto n).map (fun i => heldByte s (off + i))
  else (upto n).map (fun i => readByte s (off + i))

/-- Notes the words from `lo` up to `hi` as written. -/
def MemState.note (m : MemState) (lo hi : Nat) : MemState :=
  { m with known := m.known.splice lo hi ((upto (hi - lo)).map (fun i => (lo + i, true))) }

/-- Stores bytes and notes their words as written. -/
def MemState.store (m : MemState) (off : Nat) (data : List Byte) : MemState :=
  let m := if data.isEmpty then m else m.note (off / 8) ((off + data.length + 7) / 8)
  let new := (data.zipIdx off).filterMap (fun p => if p.1 = 0 then none else some (p.2, p.1))
  { m with cells := m.cells.splice off (off + data.length) new }

/-- Removes a range from the byte and condition tables: it reads as zeros, good. -/
def MemState.clear (m : MemState) (off n : Nat) : MemState :=
  let keep (k : Nat) : Bool := k < off || off + n ≤ k
  { m with cells := m.cells.filter (fun p => keep p.1), cond := m.cond.filter (fun p => keep p.1) }

/-- Opens an unwritten granule for a write: its rest holds zeros with valid codes and its bit is set (R337). -/
def openGranule (off : Nat) (s : Device) : Device :=
  if unwritten s off then
    let g := off / 256
    let m := (s.mem.clear (g * 256) 256).note (g * 32) (g * 32 + 32)
    { s with mem := { m with valid := m.valid.setD false g true } }
  else s

/-- The bytes behind the front of a zero-fill by now: whole granules at 40 GB/s (R339; log 41). -/
def fillReached (s : Device) (z : ZeroFill) : Nat := max z.front (min z.size ((s.clock - z.start) * 40 / 256 * 256))

/-- Zero-fills up to the front of now: zeros with valid codes replace what stood there, a write at or above the front among it (R339). -/
def fillFront (s : Device) : Device :=
  match s.mem.zeroFill with
  | none => s
  | some z =>
    let lo := z.base + z.front
    let n := fillReached s z - z.front
    if n = 0 then s
    else
      let m := s.mem.clear lo n
      { s with mem := { m with zeroFill := some { z with front := fillReached s z }, filled := (lo, n) :: m.filled,
                               notified := m.notified.filter (fun o => o < lo || lo + n ≤ o) } }

/-- Clears the valid bits that a DISCARD in progress has reached by now: 64 granules per CLK_MEM cycle of 1,066.6 MHz (R340). -/
def discardFronts (s : Device) : Device :=
  s.each s.mem.discards fun s p =>
    let (r, (front, from_)) := p
    let total := regionSize s r / 256
    let now := min total (64 * ((s.clock - from_) * 10666 / 10000))
    if now ≤ front then s
    else
      let g0 := regionBase s r / 256 + front
      let n := now - front
      let m := s.mem.clear (g0 * 256) (n * 256)
      { s with mem := { m with valid := m.valid.filter (fun q => q.1 < g0 || g0 + n ≤ q.1),
                               discards := m.discards.put r (now, from_) } }

/-- Brings the fronts of a zero-fill and of every discard to now (R339, R340). -/
def syncFronts (s : Device) : Device := discardFronts (fillFront s)

/-! ### Reports -/

/-- The agent class of R345 for MEM_ERR_INFO; the control complex where R345 names none (log 7). -/
def agentClass : MemAgent → Nat
  | .cmp => 0 | .pho => 1 | .net => 2 | .bat => 3 | .pvw => 4 | .rdg => 6 | .upd => 6 | .scrub => 7
  | .who _ => 5 | .hdr => 5 | .show => 5 | .mtr => 5

/-- The payload of a memory event: the offset in [33:0], the region in [44:40] (log 6). -/
def memPayload (r off : Nat) : Nat := off + 2 ^ 40 * r

/-- Records the last uncorrectable or poison event (R349). -/
def noteErr (a : MemAgent) (r off cause : Nat) (s : Device) : Device :=
  (s.set64 R.MEM_ERR_ADDR_LO R.MEM_ERR_ADDR_HI off).setN R.MEM_ERR_INFO (r + 32 * agentClass a + 256 * cause)

/-- The notify item and the notified set (R343): pushed when enabled; the set holds 1,024 offsets, the oldest replaced. -/
def notify (r off cause : Nat) (s : Device) : Device :=
  let owner := s.rf (R.MEM_Rr_CFG r) 11 8
  let s := s.when (owner = 1) fun s => s.send .safety [off, cause]
  let q := s.rf R.MEM_NOTIFY 4 0
  if !s.rb R.MEM_NOTIFY 8 || !s.rb (R.QUE_CTRL q) 0 then s
  else
    let w (n : Nat) : Word := BitVec.ofNat 32 n
    let s := hwPush 12 q [w (4 + 2 ^ 24 * 0x20), w off, w (off / 2 ^ 32 % 4 + 256 * r + 65536 * owner + 2 ^ 20 * cause),
      w s.shw.frame] s
    { s with mem := { s.mem with notified := (s.mem.notified ++ [off]).drop (s.mem.notified.length + 1 - 1024) } }

/-- A correctable error (R334): counted, reported at most once per second per region. -/
def noteCorrected (r off : Nat) (s : Device) : Device :=
  let s := (s.count (R.MEM_Rr_CORR r) 1).count R.MEM_CORR_TOTAL 1
  let due : Bool := match s.mem.lastCorr.find r with
    | some t => decide (t + 1000000000 ≤ s.clock)
    | none => true
  if due then
    ({ s with mem := { s.mem with lastCorr := s.mem.lastCorr.put r s.clock } }).raise Ev.MEM_CORRECTED (memPayload r off)
  else s

/-- Sets the condition of a codeword. -/
def setCond (off : Nat) (c : CwState) (s : Device) : Device :=
  { s with mem := { s.mem with cond := s.mem.cond.setD .good off c } }

/-- An uncorrectable error of class S or M (R334, R336, R341, R343): the codeword is poisoned, counted, reported and its owner told.
Cause 0 is the scrubber, 1 a read, 2 a partial write. -/
def poisonCw (a : MemAgent) (r off cause : Nat) (s : Device) : Device :=
  let s := setCond off .poison s
  let s := ((s.count (R.MEM_Rr_UNCORR r) 1).count (R.MEM_Rr_POISON r) 1).count R.MEM_UNCORR_TOTAL 1
  let s := noteErr a r off cause s
  let s := s.raise (if cause = 0 then Ev.SCRUB_POISONED else Ev.MEM_UNCORRECTABLE) (memPayload r off)
  notify r off cause s

/-- A read that finds a codeword poisoned (R335, R336, R343). -/
def notePoisonRead (a : MemAgent) (r off : Nat) (s : Device) : Device :=
  let s := (noteErr a r off 3 (s.count R.MEM_POISON_READS 1)).raise Ev.MEM_POISON_READ (memPayload r off)
  if s.mem.notified.contains off then s else notify r off 3 s

/-- A class L parity error (R334). -/
def noteParity (a : MemAgent) (r off : Nat) (s : Device) : Device :=
  noteErr a r off 1 ((s.count (R.MEM_Rr_UNCORR r) 1).count R.MEM_UNCORR_TOTAL 1)

/-! ### Reads -/

/-- The even parity bit of bytes: 1 when they hold an odd number of ones (R331). -/
def parityBit (bs : List Byte) : Nat :=
  (bs.foldl (fun a b => a + sumL ((upto 8).map (fun i => b2n (b.toNat.testBit i)))) 0) % 2

/-- What decoding a codeword finds (R334, R336). -/
inductive Decoded where
  | good | correctable | uncorrectable | poison | parity
deriving DecidableEq, Repr

/-- Decodes a codeword as it is stored, with the upset the world hands in (R331, R334). -/
def decodeCw (cls : Nat) (c : CwState) (data : List Byte) (u : Upset) : Decoded :=
  match c with
  | .poison => .poison
  | .parity => .parity
  | .raw k =>
    if cls = 2 then (if k % 2 = parityBit data then .good else .parity)
    else match Config.decode cls data k with
      | 0 => match u with
        | .none => .good
        | .correctable => .correctable
        | .uncorrectable => .uncorrectable
      | 1 => .correctable
      | 2 => .uncorrectable
      | _ => .poison
  | .good => match u with
    | .none => .good
    | .correctable => if cls = 2 then .parity else .correctable
    | .uncorrectable => if cls = 2 then .parity else .uncorrectable

/-- The outcome of a read: its data, and whether a poison error, a parity error or a hole was met. -/
structure Rd where
  data   : List Byte
  poison : Bool := false
  parity : Bool := false
  hole   : Bool := false
deriving DecidableEq, Repr

/-- Whether a read is free of every error. -/
def Rd.good (r : Rd) : Bool := !r.poison && !r.parity && !r.hole

/-- One codeword is read and decoded (R334, R336, R337): corrected and written back, poisoned, or flagged. -/
def readCw (a : MemAgent) (r off : Nat) (u : Upset) (s : Device) : Device × Rd :=
  let cls := regionClass s r
  let n := cwBytes cls
  let data := peek s off n
  if unwritten s off then (s, { data := data })
  else
    let c := s.mem.cond.getD .good off
    match decodeCw cls c data u with
    | .good => (s, { data := data })
    | .correctable =>
      let fixed := match c with
        | .raw k => Config.corrected cls data k
        | _ => data
      let s := setCond off .good (noteCorrected r off s)
      ({ s with mem := s.mem.store off (fixed.take n) }, { data := fixed.take n })
    | .uncorrectable => (poisonCw a r off 1 s, { data := data, poison := true })
    | .poison => (notePoisonRead a r off (setCond off .poison s), { data := data, poison := true })
    | .parity => (noteParity a r off (setCond off .parity s), { data := data, parity := true })

/-- An access outside every region or in the carve-out (R329). -/
def accessFault (off : Nat) (s : Device) : Device := s.raise Ev.MEM_ACCESS_FAULT off

/-- The codeword that holds a byte. -/
def cwOf (s : Device) (r off : Nat) : Nat := off - off % cwBytes (regionClass s r)

/-- The codewords of a range that lies in one region. -/
def cwsOf (s : Device) (r off n : Nat) : List Nat :=
  let k := cwBytes (regionClass s r)
  if n = 0 then [] else (upto ((off + n - 1) / k - off / k + 1)).map (fun i => (off / k + i) * k)

/-- An agent reads a range: every codeword of it is decoded (R329, R334). `u` is the upset met in the first codeword. -/
def memReadU (a : MemAgent) (off n : Nat) (u : Upset) (s : Device) : Device × Rd :=
  let s := syncFronts s
  match regionOf s off with
  | none => (accessFault off s, { data := [], hole := true })
  | some r =>
    if !inOneRegion s off n then (accessFault (off + n) s, { data := [], hole := true })
    else
      let go := fun (acc : Device × Rd × Upset) (cw : Nat) =>
        let (s, rd, u) := acc
        let (s, x) := readCw a r cw u s
        (s, { data := rd.data ++ x.data, poison := rd.poison || x.poison, parity := rd.parity || x.parity }, Upset.none)
      let out := (cwsOf s r off n).foldl go (s, ({ data := [] } : Rd), u)
      (out.1, { out.2.1 with data := (out.2.1.data.drop (off - cwOf s r off)).take n })

/-- An agent reads a range with no new upset. -/
def memRead (a : MemAgent) (off n : Nat) (s : Device) : Device × Rd := memReadU a off n .none s

/-- Whether the codeword of a byte reads with an error that cannot be corrected, with no new upset. -/
def badByte (s : Device) (off : Nat) : Bool :=
  match regionOf s off with
  | none => true
  | some r =>
    let cls := regionClass s r
    let cw := cwOf s r off
    !unwritten s cw && (match decodeCw cls (s.mem.cond.getD .good cw) (peek s cw (cwBytes cls)) .none with
      | .good => false
      | .correctable => false
      | _ => true)

/-- Whether a range reads with an error that cannot be corrected (R523). -/
def badRange (s : Device) (off n : Nat) : Bool :=
  match regionOf s off with
  | none => true
  | some r => !inOneRegion s off n || (cwsOf s r off n).any (badByte s)

/-- The numbers 0 … n − 1 whose table entry of `size` bytes reads with an error. -/
def badEntry (s : Device) (base size i : Nat) : Bool := badRange s (base + size * i) size

/-! ### Writes -/

/-- The banks and slots that no write may reach now, as first byte and length: the light-list bank in effect, and the other while a swap is under way
(R41); from the raster start on the map bank in effect, and the one validated and waiting (R171); the profile, gain, trim and group banks in effect
(R179, R186, R200, R257). -/
def lockedBanks (s : Device) : List (Nat × Nat) :=
  let u (reg : Nat) : Nat := 4096 * s.rf reg 21 0
  let bank (reg step len b : Nat) : Nat × Nat := (u reg + b * step, len)
  let ll (b : Nat) : Nat × Nat := bank R.SHOW_LL_BASE 0x80000 0x80000 b
  let map (b : Nat) : Nat × Nat := bank R.PHO_MAP_BASE 0x8000000 0x8000000 b
  let act := s.rf R.SHOW_LL_CTRL 4 4
  let mact := s.rf R.PHO_MAP_CTRL 4 4
  [ll act, bank R.PHO_PROF_BASE 0x40000 0x40000 (s.rf R.PHO_PROF_CTRL 0 0), bank R.PHO_GAIN_BASE 0x400000 0x400000 (s.rf R.PHO_GAIN_CTRL 0 0),
    bank R.PHO_TRIM_BASE 0x4000 0x4000 (s.rf R.PHO_GAIN_CTRL 1 1), bank R.HDR_GRP_BASE 0x10000 65520 (s.rf R.HDR_CTRL 4 4)] ++
  (if s.shw.llSwap ≠ .idle then [ll (1 - act)] else []) ++
  (if s.shw.running then [map mact] else []) ++ (if s.pho.mapSwap = .pending then [map (1 - mact)] else [])

/-- Whether two byte ranges meet. -/
def meets (a b : Nat × Nat) : Bool := a.1 < b.1 + b.2 && b.1 < a.1 + a.2

/-- Whether a write would reach a lattice slot in effect (R182). -/
def latticeLocked (s : Device) (off n : Nat) : Bool :=
  let slot (p : Nat) : Nat × Nat :=
    (4096 * s.rf R.PHO_LAT_BASE 21 0 + (b2n (s.rb (R.PHO_LAT_SELj (p / 32)) (p % 32)) * 1024 + p) * 81920, 81920)
  meets (4096 * s.rf R.PHO_LAT_BASE 21 0, 2048 * 81920) (off, n) &&
    (upto 1024).any (fun p => meets (slot p) (off, n) && inClass s 0 (slot p).1 (slot p).2)

/-- A byte range that no write may reach now: a bank or a lattice slot in effect, where its table lies in a class S region. -/
def bankLocked (s : Device) (off n : Nat) : Bool :=
  (lockedBanks s).any (fun b => meets b (off, n) && inClass s 0 b.1 b.2) || latticeLocked s off n

/-- A byte range of a table that the device alone writes, in its class M region: the placement tables (R216), the group correction table (R265). -/
def deviceTable (s : Device) (off n : Nat) : Bool :=
  [(4096 * s.rf R.BAT_PLACE_BASE 21 0, 0x180000), (4096 * s.rf R.HDR_CORR_BASE 21 0, 32760)].any (fun b =>
    meets b (off, n) && inClass s 1 b.1 b.2)

/-- Whether an agent's write to a range is refused: a region of the show image and a bank in effect but for the repair access (R342, R370), a table
of the device alone (R216, R265), and in the standby role a mirrored region, written by the unit's own cores or sessions (R398, R399). -/
def writeRefused (s : Device) (a : MemAgent) (off n : Nat) : Bool :=
  let own : Bool := match a with
    | .who _ => true
    | _ => false
  a ≠ .who .repair &&
    ((match regionOf s off with
      | some r => s.rb (R.MEM_Rr_CFG r) 6 || (own && inStandby s && s.rb R.RDG_MIRROR r)
      | none => false) || bankLocked s off n || (own && deviceTable s off n))

/-- Raises REGION_RECOVERED when a page has no poisoned codeword left (R342). -/
def recovered (r cw : Nat) (s : Device) : Device :=
  let page := cw / 4096
  if s.mem.cond.any (fun p => p.1 / 4096 = page && p.2 = .poison) then s
  else s.raise Ev.REGION_RECOVERED (memPayload r (page * 4096))

/-- A whole codeword is written (R336, R343): data and code stored, poison cleared, its offset dropped from the notified set. -/
def writeWhole (r cw : Nat) (data : List Byte) (s : Device) : Device :=
  let was := s.mem.cond.getD .good cw
  let s := openGranule cw s
  let s := setCond cw .good { s with mem := s.mem.store cw data }
  if was = .poison then
    recovered r cw { s with mem := { s.mem with notified := s.mem.notified.filter (fun o => o ≠ cw) } }
  else s

/-- Part of a codeword is written as read-modify-write (R335): the codeword read and merged is stored, its rest undefined where it was never written
(R338); dropped on poison or an uncorrectable error, the parity error kept in class L. Answers whether the writer receives a poison error. -/
def writePart (a : MemAgent) (r cw off : Nat) (data : List Byte) (u : Upset) (s : Device) : Device × Bool :=
  if unwritten s cw then
    let s := openGranule cw s
    ({ s with mem := s.mem.store off data }, false)
  else
    let cls := regionClass s r
    let c := s.mem.cond.getD .good cw
    let old := peek s cw (cwBytes cls)
    let merged := { s with mem := (s.mem.store cw old).store off data }
    match decodeCw cls c old u with
    | .good => (setCond cw .good merged, false)
    | .correctable =>
      let fixed := match c with
        | .raw k => (Config.corrected cls old k).take (cwBytes cls)
        | _ => old
      let s := noteCorrected r cw s
      (setCond cw .good { s with mem := (s.mem.store cw fixed).store off data }, false)
    | .uncorrectable => ((poisonCw a r cw 2 s).count R.MEM_POISON_READS 1, true)
    | .poison => ((setCond cw .poison s).count R.MEM_POISON_READS 1, true)
    | .parity => (setCond cw .parity (noteParity a r cw merged), false)

/-- A write of the active unit to a mirrored region goes to the standby, or marks its 64 KiB pages dirty while the ridge is lost (R399). -/
def mirrorNote (r off : Nat) (data : List Byte) (s : Device) : Device :=
  if !pairActive s || !s.rb R.RDG_MIRROR r then s
  else if ridgeUp s then s.send .ridge (ridgeMirror :: off :: data.map (·.toNat))
  else
    let pages := (upto ((off + data.length - 1) / 65536 - off / 65536 + 1)).map (fun k => off / 65536 + k)
    { s with rdg := { s.rdg with dirty := pages.foldl (fun (t : Table Bool) p => t.put p true) s.rdg.dirty } }

/-- An agent writes a range of one region: whole codewords and parts of codewords (R335, R336). The result says whether a poison
error was met. -/
def memWriteU (a : MemAgent) (off : Nat) (data : List Byte) (u : Upset) (s : Device) : Device × Bool :=
  let s := syncFronts s
  let n := data.length
  match regionOf s off with
  | none => (s, false)
  | some r =>
    let k := cwBytes (regionClass s r)
    let go := fun (acc : Device × Bool × Upset) (cw : Nat) =>
      let (s, bad, u) := acc
      let lo := max cw off
      let hi := min (cw + k) (off + n)
      let part := (data.drop (lo - off)).take (hi - lo)
      if hi - lo = k then (writeWhole r cw part s, bad, Upset.none)
      else
        let (s, b) := writePart a r cw lo part u s
        (s, bad || b, Upset.none)
    let out := (cwsOf s r off n).foldl go (s, false, u)
    (mirrorNote r off data out.1, out.2.1)

/-- The device writes a range for itself, into one region; a hole takes nothing and is reported (R329). -/
def memStore (a : MemAgent) (off : Nat) (data : List Byte) (s : Device) : Device :=
  if inOneRegion s off data.length then (memWriteU a off data .none s).1
  else if data.isEmpty then s else accessFault off s

/-- An access outside every region is answered (R329): with E_LOCKED where an application core reaches for the private memory of the safety pair (R116),
else with a fault and E_NO_SUCH. -/
def accessOutside (a : MemAgent) (off : Nat) (s : Device) : Device :=
  let core : Bool := match a with
    | .who (.core _ _) => true
    | _ => false
  if core && Config.safetyPrivate off then s.answer .locked else (accessFault off s).answer .noSuch

/-- Whether a core's access meets an L2 line of 64 bytes that was lost while dirty (R346). -/
def lineLost (s : Device) (a : MemAgent) (off : Nat) : Bool :=
  match a with
  | .who (.core _ _) => s.mem.lostLines.contains (off / 64)
  | _ => false

/-- The access fault that the next access by any core to a lost line takes (R346). -/
def lineFault (off : Nat) (s : Device) : Device :=
  Device.answer { s with mem := { s.mem with lostLines := s.mem.lostLines.filter (fun l => l ≠ off / 64) } } .check

/-- An agent's write with its rejections (R329, R342, R346, R370, R398): E_NO_SUCH outside every region, E_LOCKED where refused, E_CHECK
on a poison error and on a lost line. -/
def memWriteBy (a : MemAgent) (off : Nat) (data : List Byte) (u : Upset) (s : Device) : Device :=
  if !inOneRegion s off data.length then accessOutside a off s
  else if lineLost s a off then lineFault off s
  else if writeRefused s a off data.length then s.answer .locked
  else
    let (s, bad) := memWriteU a off data u s
    s.answer (if bad then .check else .ok)

/-! ### Scrubber, zero-fill, discard, test mode -/

/-- The regions the scrubber visits, with the place of each in its sequence (R341). -/
def scrubRegions (s : Device) : List Nat := (upto 32).filter (fun r => regionOn s r && regionClass s r < 2)

/-- The total size of the scrubbed regions. -/
def scrubTotal (s : Device) : Nat := sumL ((scrubRegions s).map (regionSize s))

/-- The region and offset at a position of the scrub sequence (R341). -/
def scrubAt (s : Device) : List Nat → Nat → Option (Nat × Nat)
  | [], _ => none
  | r :: rs, b => if b < regionSize s r then some (r, regionBase s r + b) else scrubAt s rs (b - regionSize s r)

/-- The scrubber handles one codeword (R341): an unwritten granule and a poisoned codeword are passed over, errors are corrected or
poisoned unless another agent's write raced the write-back. -/
def scrubOne (r off : Nat) (u : Upset) (raced : Bool) (s : Device) : Device :=
  if unwritten s off then s
  else
    let cls := regionClass s r
    let c := s.mem.cond.getD .good off
    let data := peek s off (cwBytes cls)
    match decodeCw cls c data u with
    | .correctable =>
      if raced then noteCorrected r off s
      else (readCw .scrub r off u s).1
    | .uncorrectable => if raced then s else poisonCw .scrub r off 0 s
    | _ => s

/-- SCRUB_CODEWORD (R341): the codeword at the scrub position, at its due time; at the end of the sequence the pass ends and the next
one takes the period in force. -/
def scrubStep (u : Upset) (raced : Bool) (s : Device) : Device :=
  if !s.rb R.MEM_CTRL 0 then s
  else match scrubAt s (scrubRegions s) s.mem.scrubPos with
    | none => s
    | some (r, off) =>
      let total := scrubTotal s
      let due := s.mem.scrubFrom + s.mem.scrubHours * 3600000000000 * s.mem.scrubPos / max total 1
      let s := scrubOne r off u raced (syncFronts (s.elapseTo due))
      let next := s.mem.scrubPos + cwBytes (regionClass s r)
      let s := s.setN R.MEM_SCRUB_POS (off / 4096 + 2 ^ 24 * r)
      if next < total then { s with mem := { s.mem with scrubPos := next } }
      else
        let s := { s with mem := { s.mem with scrubPos := 0, scrubFrom := s.clock, scrubHours := s.rn R.MEM_SCRUB_PERIOD } }
        (s.count R.MEM_SCRUB_PASSES 1).raise Ev.SCRUB_PASS_DONE (memPayload r off)

/-- The range MEM_ZF_BASE and MEM_ZF_SIZE name. -/
def zfRange (s : Device) : Nat × Nat := (4096 * s.rn R.MEM_ZF_BASE, 4096 * s.rn R.MEM_ZF_SIZE)

/-- MEM_ZF_CTRL (R339): GO starts a fill of a range in one untracked region. -/
def zfHandler (w : Who) (v : Word) : Handler :=
  { state := fun s => if wbit v 0 && s.mem.zeroFill.isSome then .busy else .ok
    check := fun s =>
      let (b, n) := zfRange s
      if wbit v 0 && !(0 < n && inOneRegion s b n && (match regionOf s b with
        | some r => !regionTracked s r
        | none => false)) then .range else .ok
    effect := fun s =>
      if wbit v 0 then
        let s := ((s.setN R.MEM_ZF_CTRL 3).setN R.MEM_ZF_POS 0).setB R.MEM_STATUS 1 true
        { s with mem := { s.mem with zeroFill := some { base := (zfRange s).1, size := (zfRange s).2, front := 0, start := s.clock } } }
      else storeWrite w R.MEM_ZF_CTRL v s
    reject := fun c s => if wbit v 0 then s.setF R.MEM_ZF_CTRL 15 8 c.num else s }

/-- The end of a zero-fill (R339): its front passes the rest of the range, and what was written behind the front stands. -/
def zfDone (s : Device) : Device :=
  match s.mem.zeroFill with
  | none => s
  | some z =>
    let s := fillFront (s.elapseTo (z.start + cdiv z.size 40))
    let s := { s with mem := { s.mem with zeroFill := none } }
    let s := ((s.setN R.MEM_ZF_CTRL 0).setN R.MEM_ZF_POS (z.size / 4096)).setB R.MEM_STATUS 1 false
    s.raise Ev.ZERO_FILL_DONE (memPayload ((regionOf s z.base).getD 0) z.base)

/-- MEM_Rr_CMD (R340): DISCARD of a tracked region starts at the region's first granule. -/
def discardHandler (r : Nat) (v : Word) : Handler :=
  { state := fun s => if wbit v 0 && (s.mem.discards.find r).isSome then .busy else .ok
    check := fun s => if wbit v 0 && !(regionOn s r && regionTracked s r) then .conflict else .ok
    effect := fun s =>
      if wbit v 0 then
        { (s.setN (R.MEM_Rr_CMD r) 1) with mem := { s.mem with discards := s.mem.discards.put r (0, s.clock) } }
      else s }

/-- The last valid bit of a discarded region clears (R340). -/
def discardEnd (r : Nat) (s : Device) : Device :=
  match s.mem.discards.find r with
  | none => s
  | some (front, from_) =>
    let total := regionSize s r / 256
    let s := syncFronts (s.elapseTo (from_ + cdiv (cdiv total 64 * 10000) 10666))
    let front := ((s.mem.discards.find r).getD (front, from_)).1
    let g0 := regionBase s r / 256 + front
    let m := s.mem.clear (g0 * 256) ((total - front) * 256)
    let valid := m.valid.filter (fun q => q.1 < g0 || g0 + (total - front) ≤ q.1)
    { (s.setN (R.MEM_Rr_CMD r) 0) with mem := { m with valid := valid, discards := m.discards.del r } }

/-- The test unit's first byte (R347). -/
def testUnit (s : Device) : Nat := regionBase s (s.rf R.MEM_TEST_CTRL 12 8) + 32 * s.rf R.MEM_TEST_ADDR 28 0

/-- The data bytes of the test registers. -/
def testData (s : Device) : List Byte := (upto 8).flatMap (fun j => leBytes 4 (s.rn (R.MEM_TEST_DATAj j)))

/-- WRITE_RAW (R347): data and check bits stored as given, the valid bit set, nothing corrected or poisoned. -/
def rawWrite (s : Device) : Device :=
  let r := s.rf R.MEM_TEST_CTRL 12 8
  let off := testUnit s
  let data := testData s
  let chk := s.rn R.MEM_TEST_CHECK
  let s := openGranule off s
  let s := { s with mem := s.mem.store off data }
  match regionClass s r with
  | 0 => setCond off (.raw chk) s
  | 1 => s.each (upto 4) fun s i => setCond (off + 8 * i) (.raw (chk / 256 ^ i % 256)) s
  | _ => s.each (upto 4) fun s i =>
      setCond (off + 8 * i) (if chk / 2 ^ i % 2 = parityBit ((data.drop (8 * i)).take 8) then .good else .parity) s

/-- The check bits stored with a codeword of `n` check bits: its code, inverted when poisoned, or as written raw (R336, R347). -/
def storedCheck (s : Device) (cls off : Nat) : Nat :=
  let data := peek s off (cwBytes cls)
  let full := if cls = 0 then 2 ^ 32 else if cls = 1 then 256 else 2
  let code := if cls = 2 then parityBit data else Config.checkBits cls data % full
  match s.mem.cond.getD .good off with
  | .good => code
  | .poison => full - 1 - code
  | .parity => full - 1 - code
  | .raw k => k

/-- READ_RAW (R347): data and check bits as stored, without decoding. -/
def rawRead (s : Device) : Device :=
  let r := s.rf R.MEM_TEST_CTRL 12 8
  let off := testUnit s
  let data := peek s off 32
  let cls := regionClass s r
  let chk := if cls = 0 then storedCheck s 0 off
    else sumL ((upto 4).map (fun i => storedCheck s cls (off + 8 * i) * (if cls = 1 then 256 else 2) ^ i))
  let s := s.each (upto 8) fun s j => s.setN (R.MEM_TEST_DATAj j) (leAt data (4 * j) 4)
  s.setN R.MEM_TEST_CHECK chk

/-- MEM_TEST_CMD (R347, R349): E_STATE with the test mode off; a unit outside the region is out of range. -/
def testHandler (v : Word) : Handler :=
  { state := fun s => if s.rb R.MEM_TEST_CTRL 0 then .ok else .state
    check := fun s => if v ≠ 0 && !(32 * s.rf R.MEM_TEST_ADDR 28 0 + 32 ≤ regionSize s (s.rf R.MEM_TEST_CTRL 12 8)) then .range
      else .ok
    effect := fun s =>
      let s := syncFronts s
      let s := if wbit v 0 then rawWrite s else s
      if wbit v 1 then rawRead s else s }

/-- What a MEM register reads as where it shows live state (R349): the fill front, and from the start on the measured bandwidths, which the spec
gives no value for. -/
def memView (s : Device) (off : Nat) : Option Word :=
  if off = R.MEM_ZF_POS then s.mem.zeroFill.map (fun z => BitVec.ofNat 32 (fillReached s z / 4096))
  else if R.MEM_BWa 0 ≤ off && off < R.MEM_BWa 8 && s.clock ≠ 0 then
    some ((Config.bandwidth ((off - R.MEM_BWa 0) / 4) s.clock).zeroExtend 32)
  else none

/-- The MEM registers' own rules. -/
def memHandler (w : Who) (off : Nat) (v : Word) : Handler :=
  let h := plainHandler w off v
  if off = R.MEM_ZF_CTRL then zfHandler w v
  else if off = R.MEM_TEST_CMD then testHandler v
  else if off = R.MEM_TEST_CTRL then
    { h with
      state := fun s => if wbit v 0 && !(s.rb (R.MEM_Rr_CFG (wfld v 12 8)) 0 && s.rb (R.MEM_Rr_CFG (wfld v 12 8)) 5) then .locked
        else .ok
      effect := fun s =>
        let was := s.rb R.MEM_TEST_CTRL 0
        let s := (storeWrite w off v s).setB R.MEM_STATUS 2 (wbit v 0)
        s.raiseIf (wbit v 0 && !was) Ev.MEM_TEST_MODE (memPayload (wfld v 12 8) (testUnit s)) }
  else if R.MEM_Rr_BASE 0 ≤ off && off < R.MEM_Rr_BASE 32 && off % 0x20 = 0x10 then
    discardHandler ((off - R.MEM_Rr_BASE 0) / 0x20) v
  else h

/-! ### Validation of the region table (R330, R333) -/

/-- The check area a region takes (R333). -/
def checkArea (s : Device) (r : Nat) : Nat := if regionClass s r = 2 then regionSize s r / 64 else regionSize s r / 8

/-- The first failure of the region table: its code and region (R330), in the order of R520. BASE and SIZE are held in 4 KiB units, so
no misalignment can be written. A capacity fails at the region that first exceeds it. -/
def regionTableCheck (s : Device) : Option (Code × Nat) :=
  let on := (upto 32).filter (regionOn s)
  let clash (r : Nat) : Bool :=
    let b := regionBase s r
    let e := b + regionSize s r
    (on.filter (fun q => q < r)).any (fun q => b < regionBase s q + regionSize s q && regionBase s q < e) ||
      carveBase s < e || (regionTracked s r && s.rb (R.MEM_Rr_CFG r) 6)
  let upTo (r : Nat) : List Nat := on.filter (fun q => q ≤ r)
  let full (r : Nat) : Bool :=
    2 ^ 32 < sumL (((upTo r).filter (regionTracked s)).map (regionSize s)) || 2 ^ 34 < carveBase s + sumL ((upTo r).map (checkArea s))
  match on.find? (fun r => regionClass s r = 3 || 8 < s.rf (R.MEM_Rr_CFG r) 11 8), on.find? clash, on.find? full with
  | some r, _, _ => some (.reserved, r)
  | none, some r, _ => some (.conflict, r)
  | none, none, some r => some (.capacity, r)
  | none, none, none => none

/-- Assigns the check areas in ascending region number and reports the tracked size (R333, R349). -/
def assignCheckAreas (s : Device) : Device :=
  let go := fun (acc : Device × Nat) (r : Nat) =>
    let (s, at_) := acc
    if regionOn s r then (s.setN (R.MEM_Rr_CHK r) (at_ / 64), at_ + checkArea s r) else (s, at_)
  let s := ((upto 32).foldl go (s, carveBase s)).1
  s.setN R.MEM_TRACKED (sumL (((upto 32).filter (fun r => regionOn s r && regionTracked s r)).map (regionSize s)) / 4096)

/-! ### The commands that touch no other block -/

/-- MEM_FULL_WRITE (R336): a whole-codeword write by an agent. -/
def execMemFullWrite (a : MemAgent) (off : Nat) (data : List Byte) (st : State) : Host.Outcome State Fault Refusal :=
  st.onDevice fun s =>
  .next (memWriteBy a off data .none s)

/-- GO written to MEM_ZF_CTRL (R339). -/
def execZeroFill (w : Who) (v : Word) (st : State) : Host.Outcome State Fault Refusal :=
  st.onDevice fun s =>
  .next (regWrite s w R.MEM_ZF_CTRL v (memHandler w R.MEM_ZF_CTRL v))

/-- ZERO_FILL_DONE (R339). -/
def execZeroFillDone (st : State) : Host.Outcome State Fault Refusal :=
  st.onDevice fun s => .next (zfDone s)

/-- DISCARD written to MEM_Rr_CMD (R340). -/
def execDiscard (w : Who) (region : Nat) (v : Word) (st : State) : Host.Outcome State Fault Refusal :=
  st.onDevice fun s =>
  onUnit (region < 32) (regWrite s w (R.MEM_Rr_CMD region) v (memHandler w (R.MEM_Rr_CMD region) v))

/-- The discard of a region ends (R340). -/
def execDiscardDone (region : Nat) (st : State) : Host.Outcome State Fault Refusal :=
  st.onDevice fun s =>
  onUnit (region < 32) (discardEnd region s)

/-- WRITE_RAW written to MEM_TEST_CMD (R347). -/
def execWriteRaw (w : Who) (v : Word) (st : State) : Host.Outcome State Fault Refusal :=
  st.onDevice fun s =>
  .next (regWrite s w R.MEM_TEST_CMD v (memHandler w R.MEM_TEST_CMD v))

/-- READ_RAW written to MEM_TEST_CMD (R347). -/
def execReadRaw (w : Who) (v : Word) (st : State) : Host.Outcome State Fault Refusal :=
  st.onDevice fun s =>
  .next (regWrite s w R.MEM_TEST_CMD v (memHandler w R.MEM_TEST_CMD v))

/-- A window in which an agent got less than its share (R345): counted, reported once per second. -/
def execMemShareShort (st : State) : Host.Outcome State Fault Refusal :=
  st.onDevice fun s =>
  let s := s.count R.MEM_SHARE_SHORT_CNT 1
  let due : Bool := match s.mem.lastShort with
    | some t => decide (t + 1000000000 ≤ s.clock)
    | none => true
  .next (if due then ({ s with mem := { s.mem with lastShort := some s.clock } }).raise Ev.MEM_SHARE_SHORT 0 else s)

end Sys2Proof.Machine
end

