-- ==== Sys2Proof/Machine/Net.lean ====
section
/-! DEFINITION. Network ports, receive and transmit rings, time-stamps, the cascade, and the two intake parsers (R62 to R92). The byte
layouts of Ethernet, IPv4, UDP, RTP, ST 2110-20 and E1.31, which the spec names by reference, are those of the standards
(PRESUMED, log 9). -/

namespace Sys2Proof.Machine

/-! ### Frames -/

/-- What the parsers need of an accepted frame: destination, tag, EtherType, and for an IPv4 UDP datagram its addresses, ports and
payload. -/
structure Parsed where
  dst    : Nat
  tagged : Bool
  vlan   : Nat
  etype  : Nat
  ipv4   : Bool
  proto  : Nat
  src    : Nat
  dip    : Nat
  udp    : Bool
  dport  : Nat
  pay    : List Byte
deriving DecidableEq, Repr

/-- Whether the bytes at 12 are an 802.1Q tag (R63). -/
def isTagged (f : List Byte) : Bool := beAt f 12 2 = 0x8100

/-- Parses a frame without its FCS. -/
def parseFrame (f : List Byte) : Parsed :=
  let tagged := isTagged f
  let o := if tagged then 16 else 12
  let etype := beAt f o 2
  let ip := f.drop (o + 2)
  let v := (ip.getD 0 0).toNat
  let ihl := 4 * (v % 16)
  let ipv4 := etype = 0x0800 && v / 16 = 4
  let proto := (ip.getD 9 0).toNat
  let udp := ip.drop ihl
  { dst := beAt f 0 6, tagged := tagged, vlan := if tagged then beAt f 14 2 else 0, etype := etype, ipv4 := ipv4,
    proto := proto, src := beAt ip 12 4, dip := beAt ip 16 4, udp := ipv4 && proto = 17, dport := beAt udp 2 2,
    pay := (udp.drop 8).take (beAt udp 4 2 - 8) }

/-- Whether a destination address is a group address. -/
def isGroupMac (d : Nat) : Bool := (d / 2 ^ 40) % 2 = 1

/-- The port's own station address: bytes 0 and 1 in MAC_HI, bytes 2 to 5 in MAC_LO (R87), first byte in the low bits. -/
def stationMac (s : Device) (p : Nat) : Nat :=
  ofBe (leBytes 2 (s.rf (R.NET_MAC_HI p) 15 0) ++ leBytes 4 (s.rn (R.NET_MAC_LO p)))

/-- The port rate in kbit/s (R88). -/
def portRate (s : Device) (p : Nat) : Nat :=
  match s.rf (R.NET_CTRL p) 2 1 with
  | 0 => 25000000
  | 1 => 10000000
  | _ => 1000000

/-- The RX and TX corrections of R72 in 0.1 ns, with the external ones. -/
def tsCorrOn (s : Device) (p : Nat) : Nat × Nat :=
  let (a, b) := match s.rf (R.NET_CTRL p) 2 1 with
    | 0 => (416, 333)
    | 1 => (864, 710)
    | _ => (2120, 1040)
  (a + s.rf (R.NET_TS_EXT p) 15 0, b + s.rf (R.NET_TS_EXT p) 31 16)

/-- The corrections of a port's time-stamps: 0 with corrections off (R72). -/
def tsCorr (s : Device) (p : Nat) : Nat × Nat := if s.rb (R.NET_CTRL p) 5 then tsCorrOn s p else (0, 0)

/-- A receive time-stamp at the pins, in 1/256 ns (R72). -/
def rxStamp (s : Device) (p raw : Nat) : Nat := raw - rdiv ((tsCorr s p).1 * 256) 10

/-- A transmit time-stamp at the pins, in 1/256 ns (R72). -/
def txStamp (s : Device) (p raw : Nat) : Nat := raw + rdiv ((tsCorr s p).2 * 256) 10

/-! ### Receive rings -/

/-- Reads a descriptor's buffer address (R67). -/
def descAddr (s : Device) (base i : Nat) : Nat := leAt (peek s (base + 32 * i) 8) 0 8 % 2 ^ 34

/-- Writes the fields the device owns of a receive descriptor, and the part of the frame into its buffer (R67). -/
def fillDesc (base i : Nat) (part : List Byte) (flags info : Nat) (ts256 : Nat) (sof : Bool) (s : Device) : Device :=
  let s := memStore .net (descAddr s base i) part s
  let own := leBytes 2 part.length ++ leBytes 2 flags ++ leBytes 4 info
  let stamp := if sof then leBytes 8 (ts256 / 256) ++ leBytes 1 (ts256 % 256) else List.replicate 9 0
  memStore .net (base + 32 * i + 8) (own ++ stamp) s

/-- The free descriptors of a receive ring (R67). -/
def ringFree (s : Device) (p k : Nat) : Nat :=
  let size := s.rn (R.NET_RXRk_SIZE p k)
  if size = 0 then 0 else (s.rn (R.NET_RXRk_TAIL p k) + size - s.rn (R.NET_RXRk_HEAD p k) % size) % size

/-- An oversize frame is written to its ring up to the limit, and the buffers stay free (R64). -/
def oversizeWrite (p k limit : Nat) (f : List Byte) (s : Device) : Device :=
  let size := s.rn (R.NET_RXRk_SIZE p k)
  let base := 64 * s.rn (R.NET_RXRk_BASE p k)
  s.each (upto (min (ringFree s p k) (cdiv limit 2048))) fun s i =>
    memStore .net (descAddr s base ((s.rn (R.NET_RXRk_HEAD p k) + i) % size)) (((f.take limit).drop (2048 * i)).take 2048) s

/-- Places an accepted frame into a ring (R67, R68): consecutive descriptors, SOF and EOF; truncated and marked PARTIAL_ERR when the ring
runs out; dropped and counted when it has none. -/
def toRing (p k : Nat) (f : List Byte) (q : Parsed) (rule : Option Nat) (ts256 : Nat) (s : Device) : Device :=
  let size := s.rn (R.NET_RXRk_SIZE p k)
  let head := s.rn (R.NET_RXRk_HEAD p k)
  let free := ringFree s p k
  let need := cdiv f.length 2048
  if free = 0 then s.countLeave (R.NET_RX_NOBUF p) Ev.RX_NOBUF p
  else
    let n := min free need
    let partial_ := free < need
    let base := 64 * s.rn (R.NET_RXRk_BASE p k)
    let info := q.vlan + (match rule with
      | some r => 65536 * r + 2 ^ 20
      | none => 0)
    let one := fun (s : Device) (i : Nat) =>
      let sof := i = 0
      let flags := b2n sof + 2 * b2n (i + 1 = need) + 4 * b2n partial_ + 8 * b2n q.tagged + 16 * b2n sof
      fillDesc base ((head + i) % size) ((f.drop (2048 * i)).take 2048) flags info ts256 sof s
    let s := s.each (upto n) one
    let s := s.setN (R.NET_RXRk_HEAD p k) ((head + n) % size)
    let key := 16 * p + k
    let done := s.net.completed.getD [] key ++ [[head, n, min f.length (2048 * n)]]
    let s := { s with net := { s.net with completed := s.net.completed.put key done } }
    if partial_ then s.countLeave (R.NET_RX_NOBUF p) Ev.RX_NOBUF p else s.count (R.NET_RX_FRAMES p) 1

/-- The steering rule that a frame matches first on its port (R66, R89). -/
def steerRule (s : Device) (p : Nat) (q : Parsed) : Option Nat :=
  (upto 16).find? (fun r =>
    let v := s.rn (R.NET_STEER_r r)
    fld v 29 24 / 2 ^ p % 2 = 1 &&
      (match fld v 17 16 with
       | 1 => q.etype = fld v 15 0
       | 2 => q.udp && q.dport = fld v 15 0
       | 3 => q.ipv4 && q.proto = fld v 15 0
       | _ => false))

/-! ### Stream intake -/

/-- A stream's state. -/
def Device.stream (s : Device) (n : Nat) : StreamState := s.net.streams.getD {} n

/-- Stores a stream's state. -/
def Device.setStream (s : Device) (n : Nat) (x : StreamState) : Device :=
  { s with net := { s.net with streams := s.net.streams.setD {} n x } }

/-- The stride and the bytes of one buffer of a stream (R130). -/
def strideOf (width : Nat) : Nat := 256 * cdiv (width * 4) 256

/-- The bytes one buffer occupies (R130). -/
def bufBytes (width height : Nat) : Nat := 4096 * cdiv (strideOf width * height) 4096

/-- A stream's width and height. -/
def streamSize (s : Device) (n : Nat) : Nat × Nat := (s.rf (R.STRM_SIZE n) 13 0, s.rf (R.STRM_SIZE n) 29 16)

/-- The first byte of a buffer of a stream (R130). -/
def streamBuf (s : Device) (n k : Nat) : Nat :=
  let (w, h) := streamSize s n
  4096 * s.rf (R.STRM_BUF n) 21 0 + k * bufBytes w h

/-- One sample row data header: octets, field bit, line, offset (R78). -/
structure Segment where
  octets : Nat
  field  : Bool
  line   : Nat
  offset : Nat
deriving DecidableEq, Repr

/-- Up to three sample row data headers and the bytes after them (R78). -/
def segments : Nat → List Byte → List Segment × List Byte
  | 0, bs => ([], bs)
  | n + 1, bs =>
    let row := beAt bs 2 2
    let off := beAt bs 4 2
    let seg : Segment := ⟨beAt bs 0 2, decide (0x8000 ≤ row), row % 0x8000, off % 0x8000⟩
    let rest := bs.drop 6
    if 0x8000 ≤ off then
      let (l, t) := segments n rest
      (seg :: l, t)
    else ([seg], rest)

/-- The pixels of a run of octets, as words of the unpacked format (R78, R129). -/
def unpack8 : Nat → List Byte → List Nat
  | 0, _ => []
  | n + 1, bs => (beAt bs 0 1 + 256 * beAt bs 1 1 + 65536 * beAt bs 2 1 + 0xFF000000) :: unpack8 n (bs.drop 3)

/-- The pixels of 10-bit pgroups, four to 15 octets (R78, R129). -/
def unpack10 : Nat → List Byte → List Nat
  | 0, _ => []
  | n + 1, bs =>
    let v := beAt bs 0 15
    let c (i : Nat) : Nat := v / 2 ^ (110 - 10 * i) % 1024
    let px (i : Nat) : Nat := c (3 * i) + 1024 * c (3 * i + 1) + 2 ^ 20 * c (3 * i + 2) + 0xC0000000
    px 0 :: px 1 :: px 2 :: px 3 :: unpack10 n (bs.drop 15)

/-- The pixels that a segment of a depth carries. -/
def segPixels (ten : Bool) (n : Nat) : Nat := if ten then n / 15 * 4 else n / 3

/-- Whether every pixel of the frame has been received (R79). -/
def frameComplete (s : Device) (n : Nat) : Bool :=
  let (w, h) := streamSize s n
  (s.stream n).pixels.length = w * h && 0 < w * h

/-- The buffer received next: neither the newest complete frame nor the one composition uses (R78). -/
def nextBuf (x : StreamState) : Nat :=
  ((upto 3).find? (fun k => x.newest.map (·.1) ≠ some k && x.inUse ≠ some k)).getD 0

/-- Closes the frame being received (R79, R80): complete, it is the newest; incomplete, it is discarded and counted. Packets kept only from
path B count as recovered, sequence numbers seen on no path as lost. -/
def closeFrame (n : Nat) (s : Device) : Device :=
  let x := s.stream n
  match x.rtp with
  | none => s
  | some rtp =>
    let seqs := x.seen.map (·.1)
    let hi := maxL seqs
    let lo := match x.prevLast with
      | some l => l + 1
      | none => seqs.headD hi
    let lost := (hi + 1 - lo) - (seqs.filter (fun q => lo ≤ q)).length
    let rec_ := (x.seen.filter (fun p => p.2 = 2)).length
    let seamless := s.rb (R.STRM_CTRL n) 2
    let ok := frameComplete s n
    let y := { x with rtp := none, pixels := [], seen := [], waitUntil := none, prevLast := some hi, lastRtp := some rtp,
                      fresh := false, fmtRaised := false }
    let s := s.when seamless fun s => (s.count (R.STRM_RECOVERED n) rec_).count (R.STRM_LOST n) lost
    if ok then
      let y := { y with newest := some (x.recvBuf, rtp), cfg := none, held := x.held.put x.recvBuf (rtp, x.digest) }
      ((s.setStream n { y with recvBuf := nextBuf y }).setReg (R.STRM_LAST_RTP n) rtp).count (R.STRM_FRAMES n) 1
    else ((s.setStream n y).count (R.STRM_INCOMPLETE n) 1).raise Ev.STREAM_INCOMPLETE n

/-- Writes the pixels of a packet into the buffer being received (R130). -/
def writeSegments (n : Nat) (ten : Bool) : List Segment → List Byte → Device → Device
  | [], _, s => s
  | g :: gs, bs, s =>
    let (w, _) := streamSize s n
    let px := if ten then unpack10 (g.octets / 15) bs else unpack8 (g.octets / 3) bs
    let x := s.stream n
    let base := streamBuf s n x.recvBuf + g.line * strideOf w + 4 * g.offset
    let s := memStore .net base (px.flatMap (leBytes 4)) s
    let got := (upto px.length).foldl (fun (t : Table Bool) i => t.put (g.line * w + g.offset + i) true) x.pixels
    writeSegments n ten gs (bs.drop g.octets) (s.setStream n { s.stream n with pixels := got })

/-- The path of a port for a stream: 1 for A, 2 for B (R80, R90). -/
def pathOf (s : Device) (n p : Nat) : Nat := if s.rb (R.STRM_CTRL n) 2 && p = 1 then 2 else 1

/-- A packet counted and discarded for its format, reported once per frame (R79). -/
def badFormat (n : Nat) (s : Device) : Device :=
  let x := s.stream n
  let s := s.count (R.STRM_FORMAT n) 1
  if x.fmtRaised then s else (s.setStream n { x with fmtRaised := true }).raise Ev.STREAM_FORMAT_ERR n

/-- A packet's part of the frame digest (R395): the stream number and the extended sequence number as four bytes each, least
significant first (PRESUMED, log 9), then the packet's payload. -/
def packetDigest (n seq : Nat) (pkt : List Byte) : BitVec 32 :=
  BitVec.ofNat 32 (crc32c (leBytes 4 n ++ leBytes 4 seq ++ pkt))

/-- The time a frame stays open after its marker packet: the path skew of a seamless stream, the repair wait in the standby role
(R80, R396), in ns. -/
def closeWait (s : Device) (n : Nat) : Nat :=
  max (if s.rb (R.STRM_CTRL n) 2 then 1000 * s.rn R.NET_PATH_SKEW else 0)
    (if inStandby s then 10000 * s.rf R.RDG_TIMING 15 8 else 0)

/-- Takes a packet of the frame being received: first copy kept, pixels written, the frame closed on the marker (R79, R80). -/
def keepPacket (n path seq : Nat) (marker ten : Bool) (segs : List Segment) (data pkt raw : List Byte) (s : Device) : Device :=
  let x := s.stream n
  match x.seen.find seq with
  | some m => s.setStream n { x with seen := x.seen.put seq (m ||| path) }
  | none =>
    let top := maxL (x.seen.map (·.1))
    let s := s.when (inStandby s && ridgeUp s && !x.seen.isEmpty && path ≠ 4) fun s =>
      s.each (upto (seq - top - 1)) fun s i => ridgeSend ridgeRepairReq [n, top + 1 + i] (s.count R.RDG_REPAIR_REQ 1)
    let s := s.setStream n { x with seen := x.seen.put seq path, digest := x.digest ^^^ packetDigest n seq pkt }
    let s := s.when (path ≠ 4) fun s => s.count (if path = 2 then R.STRM_PKTS_B n else R.STRM_PKTS_A n) 1
    let kept := s.net.kept.filter (fun k => s.clock ≤ k.2.2.1 + 50000000) ++ [(n, seq, s.clock, raw)]
    let s := { s with net := { s.net with kept := kept } }
    let s := writeSegments n ten segs data s
    let waiting := (s.stream n).waitUntil.isSome
    let wait := closeWait s n
    if marker || waiting then
      if wait = 0 || frameComplete s n then closeFrame n s
      else if waiting then s
      else s.setStream n { s.stream n with waitUntil := some (s.clock + wait) }
    else s

/-- What the parser reads of an RTP packet (R78, R80): marker, payload type, 32-bit sequence number, timestamp, row data headers, pixel data and
payload. -/
structure RtpPacket where
  marker : Bool
  kind   : Nat
  seq    : Nat
  rtp    : BitVec 32
  segs   : List Segment
  data   : List Byte
  pay    : List Byte
deriving DecidableEq, Repr

/-- Parses an RTP packet; CSRC entries and header extensions are skipped (R78). -/
def parseRtp (pkt : List Byte) : RtpPacket :=
  let b0 := beAt pkt 0 1
  let b1 := beAt pkt 1 1
  let hdr := 12 + 4 * (b0 % 16)
  let hdr := if b0 / 16 % 2 = 1 then hdr + 4 + 4 * beAt pkt (hdr + 2) 2 else hdr
  let pay := pkt.drop hdr
  let (segs, data) := segments 3 (pay.drop 2)
  { marker := 128 ≤ b1, kind := b1 % 128, seq := beAt pkt 2 2 + 65536 * beAt pay 0 2, rtp := BitVec.ofNat 32 (beAt pkt 4 4),
    segs := segs, data := data, pay := pay }

/-- Whether a packet does not fit the stream's format (R79). -/
def rtpMisfit (s : Device) (n : Nat) (k : RtpPacket) : Bool :=
  let (w, h) := streamSize s n
  k.kind ≠ s.rf (R.STRM_CTRL n) 14 8 ||
    k.segs.any (fun g => g.field || h ≤ g.line || w < g.offset + segPixels (s.rb (R.STRM_CTRL n) 1) g.octets)

/-- Whether a packet carries the first pixel of its frame. -/
def RtpPacket.starts (k : RtpPacket) : Bool := k.segs.any (fun g => g.line = 0 && g.offset = 0)

/-- A packet starts a frame. -/
def startStreamFrame (n : Nat) (rtp : BitVec 32) (s : Device) : Device :=
  s.setStream n { s.stream n with rtp := some rtp, digest := 0, skip := none, fresh := false }

/-- A packet of a stream in its order (R79 to R81): of the frame being received, of a newer one, which closes it, or older and late. While the
frame stays open for the other path after its marker, a packet of a newer frame waits. A packet of the frame closed last is the second copy of
a pair, else late. After a reconfiguration a frame begun before is passed over. -/
def takePacket (n path : Nat) (pkt : List Byte) (s : Device) : Device :=
  let k := parseRtp pkt
  let keep := keepPacket n path k.seq k.marker (s.rb (R.STRM_CTRL n) 1) k.segs k.data k.pay pkt
  let x := s.stream n
  if rtpMisfit s n k then badFormat n s
  else if x.skip = some k.rtp then s
  else match x.rtp with
    | some cur =>
      let d := wrapDiff 32 k.rtp.toNat cur.toNat
      if d = 0 then keep s
      else if d < 0 then s.count (R.STRM_LATE n) 1
      else if x.waitUntil.isSome then s.setStream n { x with early := x.early ++ [(path, pkt)] }
      else keep (startStreamFrame n k.rtp (closeFrame n s))
    | none =>
      if x.lastRtp = some k.rtp then (if s.rb (R.STRM_CTRL n) 2 then s else s.count (R.STRM_LATE n) 1)
      else if x.fresh && !k.starts then s.setStream n { x with skip := some k.rtp, fresh := false }
      else keep (startStreamFrame n k.rtp s)

/-- The packets that arrived in a close wait are taken once it has ended, in their order, up to the next wait. -/
def takeEarly (n : Nat) : Nat → Device → Device
  | 0, s => s
  | f + 1, s =>
    match (s.stream n).early with
    | [] => s
    | (path, pkt) :: rest =>
      if (s.stream n).waitUntil.isSome then s
      else takeEarly n f (takePacket n path pkt (s.setStream n { s.stream n with early := rest }))

/-- The packets that no longer wait are taken. -/
def drainEarly (n : Nat) (s : Device) : Device := takeEarly n (s.stream n).early.length s

/-- The close wait of a stream ends: the frame is closed (R80). -/
def endWait (n : Nat) (s : Device) : Device := drainEarly n (closeFrame n s)

/-- A close wait whose time has passed has ended (R80). -/
def expireWait (n : Nat) (s : Device) : Device :=
  match (s.stream n).waitUntil with
  | some t => if t ≤ s.clock then endWait n s else s
  | none => s

/-- An RTP packet of a stream on a path: 1 for A, 2 for B, 4 for a packet repaired over the ridge (R78 to R80, R396). -/
def streamPacket (n path : Nat) (rtpPkt : List Byte) (s : Device) : Device :=
  let x := s.stream n
  let wasLost := x.pathLost.getD false path
  let x := if path = 4 then x
    else { x with lastPkt := some s.clock, lost := false, pathPkt := x.pathPkt.put path s.clock,
                  pathLost := x.pathLost.setD false path false }
  let s := expireWait n ((s.setStream n x).raiseIf wasLost Ev.PATH_RESTORED n)
  drainEarly n (takePacket n path rtpPkt s)

/-- The stream that a datagram on a port belongs to (R78, R90). -/
def streamFor (s : Device) (p : Nat) (q : Parsed) : Option Nat :=
  if !q.udp || 3 < p then none
  else (upto 32).find? (fun n =>
    let c := s.rn (R.STRM_CTRL n)
    c.testBit 0 && q.dip = s.rn (R.STRM_GROUP n) && q.dport = s.rf (R.STRM_UDP n) 15 0 &&
      (if c.testBit 2 then p ≤ 1 else p = fld c 5 4) && (!c.testBit 3 || q.src = s.rn (R.STRM_SOURCE n)))

/-! ### sACN intake -/

/-- A universe entry of the table (R85): universe number, flags, ports and value buffer. -/
structure UniEntry where
  univ   : Nat
  flags  : Nat
  ports  : Nat
  values : Nat
deriving DecidableEq, Repr

/-- Reads entry `i` of the universe table (R85). -/
def uniEntry (s : Device) (i : Nat) : UniEntry :=
  let b := peek s (s.rn R.NET_SACN_BASE + 16 * i) 8
  ⟨leAt b 0 2, leAt b 2 1, leAt b 3 1, leAt b 4 4⟩

/-- A universe's state. -/
def Device.univ (s : Device) (i : Nat) : UniverseState := s.net.universes.getD {} i

/-- Stores a universe's state. -/
def Device.setUniverse (s : Device) (i : Nat) (x : UniverseState) : Device :=
  { s with net := { s.net with universes := s.net.universes.setD {} i x } }

/-- The merged values of a universe's sources (R83): the highest priority wins; among equals the higher slot value, or with `longest`
the source active longest. A source none of whose values has been taken yet has no part. -/
def mergeSources (longest : Bool) (src : List SacnSource) : List Byte :=
  let src := src.filter (fun x => !x.values.isEmpty)
  let top := maxL (src.map (·.prio))
  let win := src.filter (fun x => x.prio = top)
  if longest then
    match win.foldl (fun (b : Option SacnSource) x => match b with
        | some y => if x.since < y.since then some x else some y
        | none => some x) none with
    | some x => x.values
    | none => []
  else
    win.foldl (fun acc x => if acc.isEmpty then x.values
      else List.zipWith (fun (a b : Byte) => if a.toNat < b.toNat then b else a) acc x.values) []

/-- Makes values a universe's present ones: its value buffer holds them (R83 to R85). -/
def publish (i : Nat) (vals : List Byte) (s : Device) : Device := memStore .net (uniEntry s i).values vals s

/-- The merged values of the sources become the universe's; with no source, or none whose values have been taken, it keeps those it has (R83). -/
def remerge (i : Nat) (s : Device) : Device :=
  let vals := mergeSources ((uniEntry s i).flags.testBit 1) (s.univ i).sources
  if vals.isEmpty then s else publish i vals s

/-- A source with the values held for synchronisation made its present ones (R84). -/
def SacnSource.current (x : SacnSource) : SacnSource :=
  match x.pend with
  | some (prio, vals) => { x with prio := prio, values := vals, pend := none }
  | none => x

/-- The values of a source's packet are taken at once, or held for synchronisation where the universe is in synchronised operation and the
packet names an address (R84). DESIGN CHOICE (log 58): the time without a synchronisation packet counts from the first values held since one. -/
def takeValues (i : Nat) (x : SacnSource) (prio sync : Nat) (vals : List Byte) (s : Device) : Device :=
  let u := s.univ i
  let hold : Bool := sync ≠ 0 && (uniEntry s i).flags.testBit 2 && !u.syncLost
  let x := if hold then { x with pend := some (prio, vals), sync := sync } else { x with prio := prio, values := vals, pend := none, sync := sync }
  let u := { u with sources := if u.sources.any (fun y => y.cid = x.cid) then u.sources.map (fun y => if y.cid = x.cid then x else y)
                      else u.sources ++ [x],
                    syncFrom := if hold then some (u.syncFrom.getD s.clock) else u.syncFrom }
  let s := s.setUniverse i u
  if hold then s else remerge i s

/-- A source leaves its universe (R83): what the others hold for synchronisation stays held. -/
def dropSource (i : Nat) (cid : List Byte) (s : Device) : Device :=
  let u := s.univ i
  let s := s.setUniverse i { u with sources := u.sources.filter (fun y => y.cid ≠ cid) }
  remerge i (s.raise Ev.SACN_SOURCE_LOST i)

/-- An E1.31 data packet for universe entry `i` (R82 to R84). -/
def sacnData (i : Nat) (d : List Byte) (s : Device) : Device :=
  let prio := beAt d 108 1
  let opts := beAt d 112 1
  if beAt d 125 1 ≠ 0 || opts.testBit 7 || 200 < prio then s.count R.NET_SACN_DISCARD 1
  else
    let cid := (d.drop 22).take 16
    let seq := beAt d 111 1
    let sync := beAt d 109 2
    let vals := ((d.drop 126).take (min 512 (beAt d 123 2 - 1)) ++ List.replicate 512 (0 : Byte)).take 512
    let u := s.univ i
    match u.sources.find? (fun x => x.cid = cid) with
    | some x =>
      if (x.seq + 256 - seq) % 256 < 20 then s
      else if opts.testBit 6 then dropSource i cid s
      else takeValues i { x with seq := seq, last := s.clock } prio sync vals s
    | none =>
      if opts.testBit 6 then s
      else if 4 ≤ u.sources.length then s.raise Ev.SACN_MERGE_OVERFLOW i
      else takeValues i ⟨cid, prio, seq, s.clock, s.clock, [], none, 0⟩ prio sync vals (s.raise Ev.SACN_SOURCE_ADDED i)

/-- An E1.31 synchronisation packet (R84): the values held for its address become current. -/
def sacnSync (addr : Nat) (s : Device) : Device :=
  s.each s.net.universes fun s p =>
    let u := s.univ p.1
    if !u.sources.any (fun x => x.sync = addr) then s
    else
      let src := u.sources.map (fun x => if x.sync = addr then x.current else x)
      let more := src.any (fun x => x.pend.isSome)
      remerge p.1 (s.setUniverse p.1 { u with sources := src, syncFrom := if more then u.syncFrom else none, syncLost := false })

/-- No synchronisation packet has come in time (R84): the values held, and from now on each packet's, are taken at once. -/
def syncGivenUp (i : Nat) (s : Device) : Device :=
  let u := s.univ i
  let s := s.setUniverse i { u with sources := u.sources.map (·.current), syncFrom := none, syncLost := true }
  remerge i (s.raise Ev.SACN_SYNC_LOST i)

/-- The enabled universe entries that take a port's packets of a universe (R85). -/
def uniFor (s : Device) (p univ : Nat) : Option Nat :=
  (upto (s.rf R.NET_SACN_COUNT 12 0)).find? (fun i =>
    let e := uniEntry s i
    e.flags.testBit 0 && e.univ = univ && e.ports.testBit p)

/-- What the sACN parser takes: a data packet of a held universe, or a synchronisation packet; `none` leaves the frame to the rings. -/
def sacnPacket (p : Nat) (d : List Byte) (s : Device) : Option Device :=
  if (d.drop 4).take 12 ≠ [0x41, 0x53, 0x43, 0x2D, 0x45, 0x31, 0x2E, 0x31, 0x37, 0, 0, 0] then none
  else if beAt d 18 4 = 4 && beAt d 40 4 = 2 then (uniFor s p (beAt d 113 2)).map (fun i => sacnData i d s)
  else if beAt d 18 4 = 8 && beAt d 40 4 = 1 then some (sacnSync (beAt d 45 2) s)
  else none

/-! ### Receiving -/

/-- Whether a group destination is named by a stream, a universe, PTP or a rule (R66); 239.255 is E1.31's, 224.0.1.129 PTP's. -/
def groupNamed (s : Device) (q : Parsed) : Bool :=
  (upto 32).any (fun n => s.rb (R.STRM_CTRL n) 0 && s.rn (R.STRM_GROUP n) = q.dip && q.ipv4) ||
  (q.ipv4 && q.dip / 65536 = 0xEFFF &&
    (upto (s.rf R.NET_SACN_COUNT 12 0)).any (fun i => (uniEntry s i).flags.testBit 0 && (uniEntry s i).univ = q.dip % 65536)) ||
  (q.ipv4 && (q.dip = 0xE0000181 || q.dip = 0xE000006B))

/-- Whether a frame carries PTP in a form that the ordinary clock does not support (R74): over Ethernet, or over IPv6 to UDP port 319 or 320. -/
def otherPtp (f : List Byte) (q : Parsed) : Bool :=
  let ip := if q.tagged then 18 else 14
  q.etype = 0x88F7 || (q.etype = 0x86DD && beAt f (ip + 6) 1 = 17 && (beAt f (ip + 42) 2 = 319 || beAt f (ip + 42) 2 = 320))

/-- The ring of a frame that no parser takes, with the steering rule that names it; none when the frame is filtered (R66, R74). -/
def ringFor (s : Device) (p : Nat) (f : List Byte) (q : Parsed) : Option (Nat × Option Nat) :=
  if q.udp && (q.dport = 319 || q.dport = 320) then some (1, none)
  else if q.udp && q.dport = 45630 && 4 ≤ p then some (2, none)
  else if q.udp && q.dport = 45631 && 4 ≤ p then some (3, none)
  else match steerRule s p q with
    | some r => some (s.rf (R.NET_STEER_r r) 23 20, some r)
    | none =>
      let drop := if q.dst = 0xFFFFFFFFFFFF then false
        else if isGroupMac q.dst then !groupNamed s q && !otherPtp f q && !s.rb (R.NET_CTRL p) 6
        else q.dst ≠ stationMac s p && !s.rb (R.NET_CTRL p) 7
      if drop then none else some (0, none)

/-- A good frame that no parser takes goes to its ring, or is filtered (R66). -/
def steerFrame (p : Nat) (f : List Byte) (q : Parsed) (ts256 : Nat) (s : Device) : Device :=
  match ringFor s p f q with
  | some (k, rule) => toRing p k f q rule ts256 s
  | none => s.count (R.NET_RX_FILTERED p) 1

/-- Whether a frame is an 802.3x PAUSE or a priority flow-control frame (R63). -/
def isPause (f : List Byte) (q : Parsed) : Bool :=
  let op := beAt f (if q.tagged then 18 else 14) 2
  q.etype = 0x8808 && (op = 0x0001 || op = 0x0101)

/-- An oversize frame (R64): counted, and written up to the limit into the ring it would have gone to. -/
def oversizeFrame (p limit : Nat) (frame : List Byte) (s : Device) : Device :=
  let q := parseFrame frame
  let s := match streamFor s p q, ringFor s p frame q with
    | none, some (k, _) => if (q.tagged && q.etype = 0x8100) || isPause frame q then s else oversizeWrite p k limit frame s
    | _, _ => s
  s.count (R.NET_RX_OVERSIZE p) 1

/-- Adds octets to a 64-bit counter pair. -/
def countOctets (lo hi n : Nat) (s : Device) : Device := s.set64 lo hi (satN (2 ^ 64 - 1) (s.get64 lo hi + n))

/-- A frame received whole (R63 to R66, R78, R82): size, code error and FCS checked in that order, each drop counted once; PAUSE and
double-tagged frames discarded; then the parsers, then the rings. DESIGN CHOICE (log 58): a frame with a code error and a wrong FCS counts for
the code error; NET_RX_OCTETS counts every frame whose FCS is good, those discarded afterwards too. -/
def receiveFrame (p : Nat) (frame : List Byte) (codeErr : Bool) (ts256 : Nat) (s : Device) : Device :=
  let len := frame.length
  let limit := s.rn (R.NET_MAX_FRAME p) + (if isTagged frame then 4 else 0)
  let body := frame.take (len - 4)
  if !s.rb (R.NET_CTRL p) 0 then s
  else if len < 64 then s.count (R.NET_RX_RUNT p) 1
  else if limit < len then oversizeFrame p limit frame s
  else if codeErr then s.count (R.NET_RX_CODE_ERR p) 1
  else if fcs32 body ≠ leAt frame (len - 4) 4 then s.count (R.NET_RX_FCS p) 1
  else
    let s := countOctets (R.NET_RX_OCTETS_LO p) (R.NET_RX_OCTETS_HI p) len s
    let q := parseFrame body
    if q.tagged && q.etype = 0x8100 then s.count (R.NET_RX_FILTERED p) 1
    else if isPause body q then s.count (R.NET_RX_PAUSE p) 1
    else match streamFor s p q with
      | some n => streamPacket n p q.pay (s.count (R.NET_RX_FRAMES p) 1)
      | none =>
        let taken := if q.udp && q.dport = 5568 then sacnPacket p q.pay (s.count (R.NET_RX_FRAMES p) 1) else none
        match taken with
        | some s' => s'
        | none => steerFrame p frame q (rxStamp s p ts256) s

/-- The classifier's item for a completed frame: KIND 0x01, port, ring, first descriptor, buffer count, length (R67). DESIGN CHOICE (log 10): the
places of the fields. -/
def classifierItem (p k : Nat) (d : List Nat) : List Word :=
  let w (n : Nat) : Word := BitVec.ofNat 32 n
  [w (3 + 2 ^ 24), w (p + 16 * k + 65536 * d.getD 0 0), w (d.getD 1 0 + 65536 * d.getD 2 0)]

/-- The classifier moves the oldest completed frame of a ring into its queue, unless the queue's port is stalled or it has no room (R67, R69). -/
def classify (p k : Nat) (s : Device) : Device :=
  let key := 16 * p + k
  match s.net.completed.getD [] key with
  | [] => s
  | d :: rest =>
    let q := s.rf (R.NET_RXRk_QUEUE p k) 4 0
    if !s.rb (R.QUE_CTRL q) 0 || !hwRoom s q 3 then s
    else
      let s := { s with net := { s.net with completed := s.net.completed.setD [] key rest } }
      hwPush 9 q (classifierItem p k d) s

/-! ### Transmitting -/

/-- Whether a descriptor of a transmit ring, and which of the `n` from it on, ends a frame: whether a whole frame is queued (R70). -/
def eofQueued (s : Device) (base size head : Nat) : Nat → Bool
  | 0 => false
  | n + 1 => leAt (peek s (base + 32 * (head % size)) 16) 10 2 / 2 % 2 = 1 || eofQueued s base size (head + 1) n

/-- The descriptors of a transmit queue that are queued (R67, R70). -/
def txQueued (s : Device) (p q : Nat) : Nat :=
  let size := s.rn (R.NET_TXQq_SIZE p q)
  if size = 0 then 0 else (s.rn (R.NET_TXQq_TAIL p q) + size - s.rn (R.NET_TXQq_HEAD p q) % size) % size

/-- Whether a transmit queue holds a frame (R70). -/
def holdsFrame (s : Device) (p q : Nat) : Bool :=
  eofQueued s (64 * s.rn (R.NET_TXQq_BASE p q)) (s.rn (R.NET_TXQq_SIZE p q)) (s.rn (R.NET_TXQq_HEAD p q)) (txQueued s p q)

/-- The credit of a shaped queue now, in millionths of a bit (R70): from where it last stood it rises at the idle slope while the queue waits
with a frame, up to the high limit; without a frame a credit above 0 is lost and one below rises to 0, as the shaper of IEEE 802.1Q has it. -/
def creditNow (s : Device) (p q : Nat) : Int :=
  let key := 8 * p + q
  let c := s.net.credit.getD 0 key
  let slope := s.rf (R.NET_TXQq_IDLE_SLOPE p q) 24 0
  let hi : Int := (8 * s.rn (R.NET_MAX_FRAME p) * slope * 1000000 / portRate s p : Nat)
  let risen := c + ((s.clock - s.net.creditAt.getD 0 key) * slope : Nat)
  if !s.rb (R.NET_TXQq_CBS p q) 0 then 0
  else if holdsFrame s p q then (if hi < risen then hi else risen)
  else if risen < 0 then risen else 0

/-- The credit as it stands, before what it depends on changes (R70). -/
def settleCredit (p q : Nat) (s : Device) : Device :=
  let key := 8 * p + q
  { s with net := { s.net with credit := s.net.credit.setD 0 key (creditNow s p q),
                               creditAt := s.net.creditAt.put key (max s.clock (s.net.creditAt.getD 0 key)) } }

/-- Whether a transmit queue holds a frame and may send (R70). -/
def txEligible (s : Device) (p q : Nat) : Bool :=
  holdsFrame s p q && (!s.rb (R.NET_TXQq_CBS p q) 0 || 0 ≤ creditNow s p q)

/-- Gathers a frame's buffers from a descriptor on, to the one marked EOF (R70, R71): the bytes and the descriptors used. -/
def gatherTx (s : Device) (base size head : Nat) : Nat → List Byte × Nat
  | 0 => ([], 0)
  | n + 1 =>
    let d := peek s (base + 32 * (head % size)) 16
    let part := peek s (leAt d 0 8 % 2 ^ 34) (leAt d 8 2)
    if leAt d 10 2 / 2 % 2 = 1 then (part, 1)
    else
      let (rest, k) := gatherTx s base size (head + 1) n
      (part ++ rest, k + 1)

/-- The time a frame takes on the line, in ns (R88). -/
def sendTime (s : Device) (p bytes : Nat) : Nat := cdiv (8 * bytes * 1000000) (portRate s p)

/-- A frame leaves a port: sent with its FCS, counted (R87); the line is taken while it is sent. -/
def emitFrame (p : Nat) (f : List Byte) (s : Device) : Device :=
  let until_ := max s.clock (s.net.lineFree.getD 0 p) + sendTime s p f.length
  let s := { s with net := { s.net with lineFree := s.net.lineFree.put p until_ } }
  let s := s.sendBytes (.port p) f
  countOctets (R.NET_TX_OCTETS_LO p) (R.NET_TX_OCTETS_HI p) f.length (s.count (R.NET_TX_FRAMES p) 1)

/-- A transmit time-stamp enters the port's FIFO, or is discarded when it is full (R73). -/
def stampTx (p tag ts256 : Nat) (s : Device) : Device :=
  let l := s.net.txts.getD [] p
  if 16 ≤ l.length then (s.setB (R.NET_TXTS_STATUS p) 8 true).raise Ev.TX_TS_OVERFLOW p
  else ({ s with net := { s.net with txts := s.net.txts.put p (l ++ [(⟨tag, ts256⟩ : TxStamp)]) } }).raise Ev.TX_TS_READY p

/-- A transmit queue sends its first frame (R70, R71, R73). The credit falls at the send slope while the frame is sent. -/
def transmitQueue (p q ts256 : Nat) (s : Device) : Device :=
  let base := 64 * s.rn (R.NET_TXQq_BASE p q)
  let size := s.rn (R.NET_TXQq_SIZE p q)
  let head := s.rn (R.NET_TXQq_HEAD p q)
  let (body, n) := gatherTx s base size head (txQueued s p q)
  let d := peek s (base + 32 * head) 16
  let f := body ++ leBytes 4 (fcs32 body)
  let key := 8 * p + q
  let slope := s.rf (R.NET_TXQq_IDLE_SLOPE p q) 24 0
  let rate := portRate s p
  let down : Int := (8 * f.length * 1000000 * (rate - slope) / rate : Nat)
  let lo : Int := (8 * s.rn (R.NET_MAX_FRAME p) * 1000000 * (rate - slope) / rate : Nat)
  let c := creditNow s p q - down
  let c := if s.rb (R.NET_TXQq_CBS p q) 0 then (if c < -lo then -lo else c) else 0
  let net := { s.net with credit := s.net.credit.setD 0 key c, creditAt := s.net.creditAt.put key (s.clock + sendTime s p f.length) }
  let s := emitFrame p f { s with net := net }
  let s := s.setN (R.NET_TXQq_HEAD p q) ((head + n) % size)
  if leAt d 10 2 / 32 % 2 = 1 then stampTx p (leAt d 12 4 % 65536) (txStamp s p ts256) s else s

/-- A read of NET_TXTS_TAG removes the oldest entry and latches its time-stamp for the reader (R73). -/
def readTxts (w : Who) (p : Nat) (s : Device) : Device :=
  match s.net.txts.getD [] p with
  | [] => s.answerD .ok [0]
  | t :: rest =>
    let s := { s with net := { s.net with txts := s.net.txts.setD [] p rest } }
    let n (k : Nat) : Word := BitVec.ofNat 32 k
    let s := s.latch w (R.NET_TXTS_LO p) (n (t.ts256 / 256))
    let s := s.latch w (R.NET_TXTS_HI p) (n (t.ts256 / 256 / 2 ^ 32))
    let s := s.latch w (R.NET_TXTS_FRAC p) (n (t.ts256 % 256))
    s.answerD .ok [n (t.tag % 65536 + 65536)]

/-! ### Cascade -/

/-- Replaces bytes of a list from a place on. -/
def patchBytes (l : List Byte) (i : Nat) (p : List Byte) : List Byte := l.take i ++ p ++ l.drop (i + p.length)

/-- The residence time of a forwarded message in 2^−16 ns: both time-stamps with corrections on, rounded to the nearest (R72, R77). -/
def residence (s : Device) (i o rx tx : Nat) : Int :=
  let c := (tsCorrOn s i).1 + (tsCorrOn s o).2
  ((tx : Int) - rx) * 256 + (rdiv (c * 65536) 10 : Nat)

/-- The transparent clock's change of a PTP event message (R77): residence time, and in peer-to-peer operation the measured link delay of the ingress
port on Sync, added to correctionField; the UDP checksum zeroed. -/
def tcCorrect (s : Device) (i o : Nat) (body : List Byte) (rx tx : Nat) : Option (List Byte) :=
  let q := parseFrame body
  let l3 := if q.tagged then 18 else 14
  let udp := l3 + 4 * (beAt body l3 1 % 16)
  let ptp := udp + 8
  let kind := beAt body ptp 1 % 16
  let p2p := s.rb R.SHOW_PTP_CFG 11
  if !s.rb R.NET_CASCADE_CTRL 1 || !q.udp || q.dport ≠ 319 || 3 < kind || (p2p && kind ≠ 0) then none
  else
    let add := residence s i o rx tx + (if p2p then s.net.linkDelay.getD 0 i * 256 else 0)
    let field := sext 64 (beAt body (ptp + 8) 8) + add
    some (patchBytes (patchBytes body (ptp + 8) (beBytes 8 (trunc 64 field))) (udp + 6) [0, 0])

/-- A forwarded frame is sent (R75, R77). DESIGN CHOICE (log 58): the counters are those of the output port, a stomped frame is not counted as
forwarded, a bad frame that was stored whole is not sent, and a coding error counts as a failing FCS. -/
def sendForwarded (o : Nat) (x : Forwarded) (tx : Nat) (s : Device) : Device :=
  let body := x.frame.take (x.frame.length - 4)
  let good : Bool := !x.bad && fcs32 body = leAt x.frame (x.frame.length - 4) 4
  let equal := s.rf (R.NET_CTRL x.from_) 2 1 = s.rf (R.NET_CTRL o) 2 1
  if !good then
    if equal then (emitFrame o (body ++ leBytes 4 (0xFFFFFFFF - fcs32 body)) s).count (R.NET_CASCADE_STOMPED o) 1 else s
  else
    match tcCorrect s x.from_ o body x.rx tx with
    | some b => ((emitFrame o (b ++ leBytes 4 (fcs32 b)) s).count (R.NET_CASCADE_FWD o) 1).count (R.NET_TC_CORRECTED o) 1
    | none => (emitFrame o x.frame s).count (R.NET_CASCADE_FWD o) 1

/-- The bytes in the forwarding buffer of an output port (R75). -/
def fwdBytes (s : Device) (o : Nat) : Nat := sumL ((s.net.fwd.getD [] o).map (fun x => x.frame.length))

/-- Whether a frame of the cascade is forwarded out of the other port (R63, R75, R88): not a flow-control frame, and both ports enabled. -/
def forwards (s : Device) (i : Nat) (frame : List Byte) : Bool :=
  let dst := beAt frame 0 6
  s.rb R.NET_CASCADE_CTRL 0 && s.rb (R.NET_CTRL i) 0 && s.rb (R.NET_CTRL (5 - i)) 0 && !isPause frame (parseFrame frame) &&
    (isGroupMac dst || dst ≠ stationMac s i)

/-- Whether a forwarded frame waits (R75): for what the output is sending, for the frames before it, or for queue 7. -/
def fwdWaits (s : Device) (o : Nat) : Bool :=
  s.clock < s.net.lineFree.getD 0 o || !(s.net.fwd.getD [] o).isEmpty || txEligible s o 7

/-- A frame received on one cascade port is forwarded out of the other (R75, R77): at once, or through the forwarding buffer of 64 KiB. -/
def forwardFrame (i : Nat) (frame : List Byte) (rx tx : Nat) (err : Bool) (s : Device) : Device :=
  let o := 5 - i
  let x : Forwarded := ⟨frame, i, rx, err⟩
  if !forwards s i frame then s
  else if 65536 < fwdBytes s o + frame.length then s.countLeave (R.NET_CASCADE_DROP o) Ev.CASCADE_DROP o
  else if fwdWaits s o then { s with net := { s.net with fwd := s.net.fwd.put o (s.net.fwd.getD [] o ++ [x]) } }
  else sendForwarded o x tx s

/-- The MAC sends one frame (R70, R75): of queue 7, else one that is being forwarded, else of the highest-numbered eligible queue. -/
def transmit (p ts256 : Nat) (s : Device) : Device :=
  match s.net.fwd.getD [] p, txEligible s p 7 with
  | x :: rest, false => sendForwarded p x ts256 { s with net := { s.net with fwd := s.net.fwd.setD [] p rest } }
  | _, _ =>
    match ((upto 8).reverse).find? (txEligible s p) with
    | none => s
    | some q => transmitQueue p q ts256 s

/-! ### Registers and validation -/

/-- The sum of the idle slopes of a port's shaped queues, with a candidate for one queue (R71). -/
def slopeSum (s : Device) (p q : Nat) (en : Bool) (slope : Nat) : Nat :=
  sumL ((upto 8).map (fun k =>
    if k = q then (if en then slope else 0)
    else if s.rb (R.NET_TXQq_CBS p k) 0 then s.rf (R.NET_TXQq_IDLE_SLOPE p k) 24 0 else 0))

/-- The rules of a register of port `p`, at offset `o` of the port's block (R64, R67, R70, R71, R88). DESIGN CHOICE (log 58): a TAIL at or past
the ring's SIZE is answered E_RANGE. -/
def portHandler (w : Who) (off : Nat) (v : Word) (p o : Nat) : Handler :=
  let h := plainHandler w off v
  let en (s : Device) : Bool := s.rb (R.NET_CTRL p) 0
  if o = 0 then
    { h with
      state := fun s => if en s && ((v ^^^ s.reg off).toNat &&& 0x1E) ≠ 0 then .state else .ok
      check := fun s =>
        let sp := wfld v 2 1
        let bad := if p < 4 then sp = 2 || wbit v 3 else sp < 2 || wbit v 4
        let rate := if sp = 0 then 25000000 else if sp = 1 then 10000000 else 1000000
        if bad then .conflict else if 3 * rate < 4 * slopeSum s p 8 false 0 then .capacity else .ok }
  else if 0x100 ≤ o && o < 0x200 then
    let k := (o - 0x100) / 0x10
    if o % 0x10 = 0 || o % 0x10 = 4 then { h with state := fun s => if en s then .state else .ok }
    else { h with check := fun s => if v.toNat ≠ 0 && s.rn (R.NET_RXRk_SIZE p k) ≤ v.toNat then .range else .ok }
  else if 0x200 ≤ o && o < 0x300 then
    let q := (o - 0x200) / 0x20
    match o % 0x20 with
    | 0x00 => { h with state := fun s => if en s then .state else .ok }
    | 0x04 => { h with state := fun s => if en s then .state else .ok }
    | 0x0C => { h with
        check := fun s => if v.toNat ≠ 0 && s.rn (R.NET_TXQq_SIZE p q) ≤ v.toNat then .range else .ok
        effect := fun s => h.effect (settleCredit p q s) }
    | 0x10 => { h with
        effect := fun s => h.effect (settleCredit p q s)
        check := fun s =>
          if q = 7 && wbit v 0 then .conflict
          else if 3 * portRate s p < 4 * slopeSum s p q (wbit v 0) (s.rf (R.NET_TXQq_IDLE_SLOPE p q) 24 0) then .capacity
          else .ok }
    | 0x14 => { h with
        effect := fun s => h.effect (settleCredit p q s)
        check := fun s =>
          if portRate s p < v.toNat then .range
          else if 3 * portRate s p < 4 * slopeSum s p q (s.rb (R.NET_TXQq_CBS p q) 0) v.toNat then .capacity else .ok }
    | _ => h
  else h

/-- The NET registers' own rules (R64, R66, R70, R71, R77, R87, R88). -/
def netHandler (w : Who) (off : Nat) (v : Word) : Handler :=
  let h := plainHandler w off v
  if off < 0x4C000 then portHandler w off v ((off - 0x40000) / 0x2000) ((off - 0x40000) % 0x2000)
  else if off = R.NET_CASCADE_CTRL then { h with check := fun _ => if wbit v 1 && !wbit v 0 then .conflict else .ok }
  else if R.NET_STEER_r 0 ≤ off && off ≤ R.NET_STEER_r 15 then
    { h with check := fun _ => if wfld v 23 20 < 4 then .range else .ok }
  else h

/-- Two spans meet. -/
def spansMeet (a n b m : Nat) : Bool := a < b + m && b < a + n && 0 < n && 0 < m

/-- The streams of a candidate register file that fail together, with the code and the registers that take part (R81, R330). -/
def streamFailure (s : Device) (rd : Nat → Word) : Option (Code × List Nat) :=
  let on (n : Nat) : Bool := wbit (rd (R.STRM_CTRL n)) 0
  let size (n : Nat) : Nat × Nat := (wfld (rd (R.STRM_SIZE n)) 13 0, wfld (rd (R.STRM_SIZE n)) 29 16)
  let base (n : Nat) : Nat := 4096 * wfld (rd (R.STRM_BUF n)) 21 0
  let len (n : Nat) : Nat := 3 * bufBytes (size n).1 (size n).2
  let ons := (upto 32).filter on
  match ons.find? (fun n => !inClass s 2 (base n) (len n)) with
  | some n => some (.range, [R.STRM_CTRL n, R.STRM_SIZE n, R.STRM_BUF n])
  | none =>
    match ons.find? (fun n => (ons.filter (fun m => m < n)).any (fun m => spansMeet (base n) (len n) (base m) (len m))) with
    | some n =>
      let m := ((ons.filter (fun m => m < n)).find? (fun m => spansMeet (base n) (len n) (base m) (len m))).getD n
      some (.conflict, [R.STRM_CTRL m, R.STRM_SIZE m, R.STRM_BUF m, R.STRM_CTRL n, R.STRM_SIZE n, R.STRM_BUF n])
    | none =>
      match ons.find? (fun n => 8388608 < (size n).1 * (size n).2) with
      | some n => some (.capacity, [R.STRM_CTRL n, R.STRM_SIZE n])
      | none => none

/-- The place in R520 of the kinds of failure that the universe table can have. -/
def sacnKinds : List Code := [.align, .reserved, .range, .check, .conflict]

/-- What is wrong with an entry of the universe table among the `n` (R85, R523): alignment, reserved bits, range, unreadable words, or an
enabled entry before it with its universe. -/
def uniCodes (s : Device) (n i : Nat) : List Code :=
  let e := uniEntry s i
  let rest := peek s (s.rn R.NET_SACN_BASE + 16 * i + 8) 8
  let on := e.flags.testBit 0
  (if on && e.values % 64 ≠ 0 then [.align] else []) ++
  (if e.flags / 8 ≠ 0 || e.ports / 64 ≠ 0 || rest.any (· ≠ 0) then [.reserved] else []) ++
  (if on && (e.univ = 0 || 63999 < e.univ) then [.range] else []) ++
  (if badRange s (s.rn R.NET_SACN_BASE + 16 * i) 16 then [.check] else []) ++
  (if on && (upto (min i n)).any (fun j => (uniEntry s j).flags.testBit 0 && (uniEntry s j).univ = e.univ) then [.conflict] else [])

/-- The universe table of a candidate count (R85): the first kind of R520 that some entry fails. -/
def sacnFailure (s : Device) (rd : Nat → Word) : Option (Code × List Nat) :=
  let n := wfld (rd R.NET_SACN_COUNT) 12 0
  let found := (upto n).flatMap (fun i => uniCodes s n i)
  (sacnKinds.find? (fun c => found.contains c)).map (fun c => (c, [R.NET_SACN_COUNT]))

/-- A new stream configuration is applied (R81): the frame being received is discarded and passed over to its end, and only a frame that starts
now is received. The newest complete frame keeps the configuration it was received under (`old` are the settings before). -/
def streamReconfigured (old : Nat → Word) (n : Nat) (s : Device) : Device :=
  let x := s.stream n
  let skip := match x.rtp with
    | some r => some r
    | none => x.skip
  let cfg := if x.newest.isSome && x.cfg.isNone then some (old (R.STRM_CTRL n), old (R.STRM_SIZE n), old (R.STRM_BUF n)) else x.cfg
  s.setStream n { x with rtp := none, pixels := [], seen := [], waitUntil := none, early := [], skip := skip, fresh := true, prevLast := none,
                         lastRtp := none, cfg := cfg, since := s.clock, lastPkt := none, pathPkt := [], pathLost := [], lost := false }

/-- What the NET registers read as where they show live state (R73, R87, R90). DESIGN CHOICE (log 58): a stream is ACTIVE while it is enabled and
its packets arrive, and a path is well while a packet has come on it within NET_STRM_TIMEOUT as its events tell it. -/
def netView (s : Device) (off : Nat) : Option Word :=
  let n (k : Nat) : Option Word := some (BitVec.ofNat 32 k)
  let p := (off - 0x40000) / 0x2000
  let o := (off - 0x40000) % 0x2000
  if off < 0x4C000 then
    if o = 0x300 then n ((s.net.txts.getD [] p).length + 256 * b2n (s.rb off 8))
    else if 0x200 ≤ o && o < 0x300 && o % 0x20 = 0x18 then
      n (trunc 32 (creditNow s p ((o - 0x200) / 0x20) / 1000000))
    else none
  else if 0x4C400 ≤ off && off < 0x4CC00 && off % 0x40 = 0x18 then
    let x := s.stream ((off - 0x4C400) / 0x40)
    let active : Bool := s.rb (off - 0x18) 0 && x.lastPkt.isSome && !x.lost
    let live (k : Nat) : Bool := active && (x.pathPkt.find k).isSome && !x.pathLost.getD false k
    n (b2n active + 2 * b2n (live 1) + 4 * b2n (live 2) +
      16 * ((x.newest.map (·.1)).getD 0))
  else none

/-! ### The commands -/

/-- NET_FRAME_RX (R64 to R66). -/
def execNetFrameRx (port : Nat) (frame : List Byte) (codeErr : Bool) (ts256 : Nat) (st : State) :
    Host.Outcome State Fault Refusal :=
  st.onDevice fun s =>
  onUnit (port < 6) (receiveFrame port frame codeErr ts256 s)

/-- CLASSIFIER_ITEM_PUSH (R67, R69). -/
def execClassifierItemPush (port ring : Nat) (st : State) : Host.Outcome State Fault Refusal :=
  st.onDevice fun s =>
  onUnit (port < 6 && ring < 16) (classify port ring s)

/-- NET_RXRk_TAIL written (R67). -/
def execNetRxTailWrite (w : Who) (port ring : Nat) (v : Word) (st : State) : Host.Outcome State Fault Refusal :=
  st.onDevice fun s =>
  onUnit (port < 6 && ring < 16)
    (regWrite s w (R.NET_RXRk_TAIL port ring) v (netHandler w (R.NET_RXRk_TAIL port ring) v))

/-- NET_TXQq_TAIL written (R70). -/
def execNetTxTailWrite (w : Who) (port q : Nat) (v : Word) (st : State) : Host.Outcome State Fault Refusal :=
  st.onDevice fun s =>
  onUnit (port < 6 && q < 8)
    (regWrite s w (R.NET_TXQq_TAIL port q) v (netHandler w (R.NET_TXQq_TAIL port q) v))

/-- NET_FRAME_TX (R70, R73). -/
def execNetFrameTx (port ts256 : Nat) (st : State) : Host.Outcome State Fault Refusal :=
  st.onDevice fun s =>
  onUnit (port < 6) (if s.rb (R.NET_CTRL port) 0 then transmit port ts256 s else s)

/-- A read of NET_TXTS_TAG (R73). -/
def execTxtsTagRead (w : Who) (port : Nat) (st : State) : Host.Outcome State Fault Refusal :=
  st.onDevice fun s =>
  onUnit (port < 6) (readTxts w port s)

/-- CASCADE_FORWARD (R75, R77). -/
def execCascadeForward (inPort : Nat) (frame : List Byte) (rx tx : Nat) (codeErr : Bool) (st : State) :
    Host.Outcome State Fault Refusal :=
  st.onDevice fun s =>
  onUnit (inPort = 2 || inPort = 3) (forwardFrame inPort frame rx tx codeErr s)

/-- LINK_CHANGE (R92): the status of a port, and the event when LINK changes. -/
def execLinkChange (port : Nat) (status : BitVec 5) (st : State) : Host.Outcome State Fault Refusal :=
  st.onDevice fun s =>
  onUnit (port < 6)
    (let was := s.rb (R.NET_STATUS port) 0
     (s.setN (R.NET_STATUS port) status.toNat).raiseIf (was ≠ status.toNat.testBit 0) Ev.LINK_CHANGE port)

/-- The skew wait of a stream ends: the frame is closed (R80). -/
def execStreamSkewWaitEnd (stream : Nat) (st : State) : Host.Outcome State Fault Refusal :=
  st.onDevice fun s =>
  onUnit (stream < 32)
    (match (s.stream stream).waitUntil with
     | some t => endWait stream (s.elapseTo t)
     | none => s)

/-- No packet of a stream for NET_STRM_TIMEOUT (R79). -/
def execStreamLost (stream : Nat) (st : State) : Host.Outcome State Fault Refusal :=
  st.onDevice fun s =>
  onUnit (stream < 32)
    (if (s.stream stream).lost || !s.rb (R.STRM_CTRL stream) 0 then s
     else
       let x := s.stream stream
       let s := s.elapseTo (x.lastPkt.getD x.since + 1000000 * s.rn R.NET_STRM_TIMEOUT)
       (s.setStream stream { s.stream stream with lost := true }).raise Ev.STREAM_LOST stream)

/-- One path of a seamless stream silent for NET_STRM_TIMEOUT (R80); path 1 is A, 2 is B. -/
def execPathLost (stream path : Nat) (st : State) : Host.Outcome State Fault Refusal :=
  st.onDevice fun s =>
  onUnit (stream < 32 && (path = 1 || path = 2))
    (if (s.stream stream).pathLost.getD false path || !s.rb (R.STRM_CTRL stream) 2 || !s.rb (R.STRM_CTRL stream) 0 then s
     else
       let x := s.stream stream
       let s := s.elapseTo ((x.pathPkt.find path).getD x.since + 1000000 * s.rn R.NET_STRM_TIMEOUT)
       let x := s.stream stream
       (s.setStream stream { x with pathLost := x.pathLost.put path true }).raise Ev.PATH_LOST stream)

/-- A universe's source has sent nothing for NET_SACN_TIMEOUT (R83). -/
def execSacnSourceLost (univ : Nat) (cid : List Byte) (st : State) : Host.Outcome State Fault Refusal :=
  st.onDevice fun s =>
  onUnit (univ < 4096)
    (match (s.univ univ).sources.find? (fun x => x.cid = cid) with
     | some x =>
       let s := s.elapseTo (x.last + 1000000 * s.rn R.NET_SACN_TIMEOUT)
       dropSource univ cid s
     | none => s)

/-- No synchronisation packet for NET_SACN_TIMEOUT while data keeps arriving (R84). -/
def execSacnSyncLost (univ : Nat) (st : State) : Host.Outcome State Fault Refusal :=
  st.onDevice fun s =>
  onUnit (univ < 4096)
    (match (s.univ univ).syncFrom with
     | some t => syncGivenUp univ (s.elapseTo (t + 1000000 * s.rn R.NET_SACN_TIMEOUT))
     | none => s)

end Sys2Proof.Machine
end

