-- ==== Sys2Proof/Machine/Raster.lean ====
section
/-! DEFINITION. The timing mode as registers give it, register files as functions, validation failures, and the content
frames in the pipeline (R12, R31, R33, R320, R520). -/

namespace Sys2Proof.Machine

/-- A register file as a function of the offset. -/
def fileRd (m : Table Word) (off : Nat) : Word := readFile m off

/-- The timing mode that a register file names (R31). -/
def modeOf (rd : Nat → Word) : Mode :=
  { vTotal := (rd R.SHOW_V_TOTAL).toNat, vActive := (rd R.SHOW_V_ACTIVE).toNat, latch := (rd R.SHOW_LATCH_LINE).toNat,
    num := (rd R.SHOW_RATE_NUM).toNat, den := (rd R.SHOW_RATE_DEN).toNat }

/-- A frame period times NUM, in ns (R31). -/
def Mode.frameNum (m : Mode) : Nat := m.den * 1000000000

/-- The frame period in ns, rounded down. -/
def Mode.frameNs (m : Mode) : Nat := m.frameNum / m.num

/-- The check of SHOW_SRC_ORDER by itself (R57): reserved codes, a source in two slots. -/
def srcOrderCode (v : Word) : Code :=
  let l := ((upto 6).map (fun i => wfld v (4 * i + 3) (4 * i))).filter (fun k => k ≠ 15)
  if l.any (fun k => 5 < k) then .reserved else if l.dedup.length ≠ l.length then .conflict else .ok

/-- The entries of a commit: offset, mask, value. -/
abbrev Entries := List (Nat × Word × Word)

/-- A failure of a validation: the code and the registers that take part (R12). -/
abbrev Failure := Code × List Nat

/-- A failure when a condition does not hold. -/
def need (ok : Bool) (c : Code) (regs : List Nat) : List Failure := if ok then [] else [(c, regs)]

/-- The order of the kinds of R520. -/
def kindOrder : Code → Nat
  | .ok => 0 | .align => 1 | .noSuch => 2 | .notKeeper => 4 | .locked => 5 | .state => 6 | .busy => 7 | .reserved => 8
  | .range => 9 | .check => 10 | .conflict => 11 | .capacity => 12 | _ => 13

/-- The first kind of R520 that fails in a table, and the first entry that fails it; OK where none fails. -/
def firstKind (l : List (Code × Nat)) : Code × Nat :=
  l.foldl (fun (a : Code × Nat) x => if x.1 ≠ .ok && (a.1 = .ok || kindOrder x.1 < kindOrder a.1) then x else a) (.ok, 0)

/-- The preview line period of R320 in ns, rounded up. -/
def pvwLineNs (rd : Nat → Word) : Nat :=
  let c := rd R.PVW_CTRL
  let hact := wfld (rd R.PVW_H_TIMING1) 13 0
  if wbit c 1 then cdiv ((hact * (if wbit c 4 then 24 else 16) + 96) * 1000)
      ((wfld c 11 10 + 1) * wfld (rd R.PVW_LANE_RATE) 11 0)
  else cdiv ((hact + wfld (rd R.PVW_H_TIMING1) 29 16 + wfld (rd R.PVW_H_TIMING2) 13 0 + wfld (rd R.PVW_H_TIMING2) 29 16) *
    1000000) (wfld (rd R.PVW_PCLK) 18 0)

/-- The gap of R146: from CMP_DONE_LINE to the next frame at least one preview line period and 2 µs. -/
def doneLineGap (rd : Nat → Word) (m : Mode) : Bool :=
  let dl := (rd R.CMP_DONE_LINE).toNat
  (pvwLineNs rd + 2000) * (m.vTotal * m.num) ≤ (m.vTotal - dl) * m.frameNum

/-- The register file of a content frame as a function. -/
def FrameCtx.rd (c : FrameCtx) (off : Nat) : Word := readFile c.regs off

/-- Changes the first content frame of the pipeline that meets a condition. -/
def modFirst (p : FrameCtx → Bool) (f : FrameCtx → FrameCtx) : List FrameCtx → List FrameCtx
  | [] => []
  | c :: cs => if p c then f c :: cs else c :: modFirst p f cs

/-- Replaces a content frame of the pipeline by its later state. -/
def Device.setCtx (s : Device) (c : FrameCtx) : Device :=
  { s with pipe := modFirst (fun d => d.content = c.content) (fun _ => c) s.pipe }

/-! ### Reports of commits -/

/-- The group number that a report carries (R59). DESIGN CHOICE (log 59): 0 for the runtime's re-plan, for a layer action of the light list and
for what the commit record names none for. -/
def originGroup : Origin → Nat
  | .group g => g
  | .lightList _ (some g) => g
  | .standby g => g
  | _ => 0

/-- Whether an origin is a direct write (R59, R522). -/
def isDirect : Origin → Bool
  | .direct => true
  | _ => false

/-- SHOW_COMMIT_STATE (R59): state, whether the commit is scheduled, and the code. -/
def reportCommit (state : Nat) (o : Origin) (sched : Bool) (err : Code) (s : Device) : Device :=
  s.setN R.SHOW_COMMIT_STATE (state + 4 * b2n sched + 8 * b2n (isDirect o) + 256 * err.num + 65536 * originGroup o)

/-- SHOW_COMMIT_FRAME: the frame for which a commit is applied, one after its commit point (R34). -/
def reportFrame (point : Nat) (s : Device) : Device :=
  s.set64 R.SHOW_COMMIT_FRAME_LO R.SHOW_COMMIT_FRAME_HI (frameAdd point 1)

/-- Whether a commit is a scheduled one (R35): it names a target of its own. What a standby takes over names a commit point instead. -/
def Commit.sched (c : Commit) : Bool :=
  match c.origin with
  | .direct => false
  | .standby _ => false
  | _ => c.target.isSome

/-- Puts a commit behind those pending and reports it (R34, R59). -/
def stageCommit (c : Commit) (point : Nat) (s : Device) : Device :=
  let s := { s with shw := { s.shw with commits := s.shw.commits ++ [c] } }
  reportFrame point (reportCommit 1 c.origin c.sched .ok s)

/-- The registers of the timing mode (R31). -/
def modeRegs : List Nat := [R.SHOW_V_TOTAL, R.SHOW_V_ACTIVE, R.SHOW_LATCH_LINE, R.SHOW_RATE_NUM, R.SHOW_RATE_DEN]

end Sys2Proof.Machine
end

