-- ==== Sys2Proof/Machine/Composition.lean ====
section
/-! DEFINITION. Composition and the check-value units (R121 to R168, R524). The canvas of a content frame is composed as one whole when
its CMP_DONE command comes. -/

namespace Sys2Proof.Machine

/-! ### Settings of a layer -/

/-- Whether a layer is enabled. -/
def lyrOn (rd : Nat → Word) (n : Nat) : Bool := wbit (rd (R.CMP_LYR_CTRL n)) 0
/-- The layer's STATIC bit. -/
def lyrStatic (rd : Nat → Word) (n : Nat) : Bool := wbit (rd (R.CMP_LYR_CTRL n)) 1
/-- The layer's blend mode. -/
def lyrBlend (rd : Nat → Word) (n : Nat) : Nat := wfld (rd (R.CMP_LYR_CTRL n)) 3 2
/-- The layer's alpha mode. -/
def lyrAlpha (rd : Nat → Word) (n : Nat) : Nat := wfld (rd (R.CMP_LYR_CTRL n)) 5 4
/-- The kind of source: 0 SURFACE, 1 STREAM, 2 FILL. -/
def lyrKind (rd : Nat → Word) (n : Nat) : Nat := wfld (rd (R.CMP_LYR_SRC n)) 1 0
/-- The stream of a STREAM layer. -/
def lyrStream (rd : Nat → Word) (n : Nat) : Nat := wfld (rd (R.CMP_LYR_SRC n)) 7 3

/-- The format in which a layer's source is read: a stream's by its depth (R129). -/
def lyrFormat (rd : Nat → Word) (n : Nat) : Nat :=
  if lyrKind rd n = 1 then (if wbit (rd (R.STRM_CTRL (lyrStream rd n))) 1 then 6 else 5)
  else wfld (rd (R.CMP_LYR_SRC n)) 11 8

/-- Bytes per pixel of a format (R129). -/
def bytesPerPixel (fmt : Nat) : Nat := if fmt = 0 then 2 else if fmt = 1 then 3 else 4

/-- A pair of fields [14:0] and [29:16]. -/
def pairAt (v : Word) : Nat × Nat := (wfld v 14 0, wfld v 29 16)

/-- The size of a layer's source (R126). -/
def lyrSource (rd : Nat → Word) (n : Nat) : Nat × Nat :=
  if lyrKind rd n = 1 then
    (wfld (rd (R.STRM_SIZE (lyrStream rd n))) 13 0, wfld (rd (R.STRM_SIZE (lyrStream rd n))) 29 16)
  else pairAt (rd (R.CMP_LYR_SRC_SIZE n))

/-- The crop's corner and size. -/
def lyrCropXY (rd : Nat → Word) (n : Nat) : Nat × Nat := pairAt (rd (R.CMP_LYR_CROP_XY n))
/-- The crop's width and height. -/
def lyrCropWH (rd : Nat → Word) (n : Nat) : Nat × Nat := pairAt (rd (R.CMP_LYR_CROP_WH n))
/-- The destination's signed corner. -/
def lyrDstXY (rd : Nat → Word) (n : Nat) : Int × Int :=
  (sext 16 (wfld (rd (R.CMP_LYR_DST_XY n)) 15 0), sext 16 (wfld (rd (R.CMP_LYR_DST_XY n)) 31 16))
/-- The destination's width and height. -/
def lyrDstWH (rd : Nat → Word) (n : Nat) : Nat × Nat :=
  (wfld (rd (R.CMP_LYR_DST_WH n)) 15 0, wfld (rd (R.CMP_LYR_DST_WH n)) 31 16)

/-- The canvas size (R121). -/
def canvasSize (rd : Nat → Word) : Nat × Nat := pairAt (rd R.CMP_CANVAS_SIZE)

/-- The length of a signed span inside 0 … w. -/
def spanInside (x : Int) (n w : Nat) : Nat := (min (x + n) w - max x 0).toNat

/-- The destination pixels of a layer inside the canvas (R147). -/
def lyrInside (rd : Nat → Word) (n : Nat) : Nat :=
  spanInside (lyrDstXY rd n).1 (lyrDstWH rd n).1 (canvasSize rd).1 *
    spanInside (lyrDstXY rd n).2 (lyrDstWH rd n).2 (canvasSize rd).2

/-- The box width of R135: ceil(max(C / D, 1)). -/
def boxWidth (c d : Nat) : Nat := max (cdiv c d) 1

/-- The line buffers a layer uses (R138); a FILL layer scales nothing. -/
def lyrBuffers (rd : Nat → Word) (n : Nat) : Nat :=
  let (cw, ch) := lyrCropWH rd n
  let dh := (lyrDstWH rd n).2
  if lyrKind rd n = 2 || ch = dh then 0 else (boxWidth ch dh + 3) * (if 8192 < cw then 2 else 1)

/-- The enabled layers 0 to 14. -/
def lyrsOn (rd : Nat → Word) : List Nat := (upto 15).filter (lyrOn rd)

/-- The buffers in use, layer 15 at its reserve (R138). -/
def buffersUsed (rd : Nat → Word) : Nat :=
  sumL ((lyrsOn rd).map (lyrBuffers rd)) + wfld (rd R.CMP_SAFE_RESERVE) 4 0

/-- T_cmp of R147 in units of 1/3072 ns. -/
def cmpTime (rd : Nat → Word) : Nat :=
  let (w, h) := canvasSize rd
  let on := lyrsOn rd
  let p := 2 * (w * h) + sumL (on.map (lyrInside rd))
  let m := sumL (on.map (fun n =>
    if lyrKind rd n = 2 then 0 else (lyrCropWH rd n).1 * (lyrCropWH rd n).2 * bytesPerPixel (lyrFormat rd n)))
  max (480 * p + 6144000 * (on.length + 2)) (520 * (w * h) + 64 * (m + 4 * (w * h)))

/-- The capture wait that a pair adds to its capacity checks, in ns (R395). -/
def pairWait (rd : Nat → Word) : Nat := if wbit (rd R.RDG_CTRL) 0 then 1000 * wfld (rd R.RDG_TIMING) 7 0 else 0

/-! ### Validation -/

/-- Bytes from a surface's first to the end of its last pixel. -/
def surfaceBytes (rd : Nat → Word) (n : Nat) : Nat :=
  let (w, h) := pairAt (rd (R.CMP_LYR_SRC_SIZE n))
  (h - 1) * wfld (rd (R.CMP_LYR_STRIDE n)) 19 0 + w * bytesPerPixel (lyrFormat rd n)

/-- A surface's first byte. -/
def surfaceBase (rd : Nat → Word) (n : Nat) : Nat := 256 * wfld (rd (R.CMP_LYR_ADDR n)) 25 0

/-- Whether the geometry of a layer is judged (R127): of every enabled layer, and of a disabled one once its crop and its destination are set.
DEDUCED (log 61): a layer as reset leaves it, with sizes 0, is no failing configuration. -/
def lyrJudged (rd : Nat → Word) (n : Nat) : Bool :=
  let (cw, ch) := lyrCropWH rd n
  let (dw, dh) := lyrDstWH rd n
  lyrOn rd n || ((lyrKind rd n = 2 || (0 < cw && 0 < ch)) && 0 < dw && 0 < dh)

/-- The failures of a layer's fields among themselves (R127), enabled or not. -/
def layerFields (rd : Nat → Word) (n : Nat) : List Failure :=
  let kind := lyrKind rd n
  let fmt := lyrFormat rd n
  need (kind ≠ 0 || fmt < 7) .reserved [R.CMP_LYR_SRC n] ++
  need (kind ≠ 0 || wfld (rd (R.CMP_LYR_STRIDE n)) 19 0 % 256 = 0) .align [R.CMP_LYR_STRIDE n] ++
  need (lyrAlpha rd n < 2 || kind = 2 || fmt = 3 || fmt = 4) .conflict [R.CMP_LYR_CTRL n, R.CMP_LYR_SRC n] ++
  need (!(lyrStatic rd n && (kind = 1 || n = 15))) .conflict [R.CMP_LYR_CTRL n, R.CMP_LYR_SRC n] ++
  need (!(n = 15 && kind = 1)) .conflict [R.CMP_LYR_SRC n]

/-- The failures of a layer's geometry (R127, R137). -/
def layerGeometry (s : Device) (rd : Nat → Word) (n : Nat) : List Failure :=
  let kind := lyrKind rd n
  let fmt := lyrFormat rd n
  let (cx, cy) := lyrCropXY rd n
  let (cw, ch) := lyrCropWH rd n
  let (sw, sh) := lyrSource rd n
  let (dw, dh) := lyrDstWH rd n
  let stride := wfld (rd (R.CMP_LYR_STRIDE n)) 19 0
  let srcRegs := if kind = 1 then [R.STRM_SIZE (lyrStream rd n)] else [R.CMP_LYR_SRC_SIZE n]
  let surface := kind = 0
  let filled := kind = 2
  need (filled || (cx + cw ≤ sw && cy + ch ≤ sh)) .range
    ([R.CMP_LYR_SRC n, R.CMP_LYR_CROP_XY n, R.CMP_LYR_CROP_WH n, R.CMP_LYR_CTRL n] ++ srcRegs) ++
  need (!surface || cw * bytesPerPixel fmt ≤ stride) .range
    [R.CMP_LYR_CTRL n, R.CMP_LYR_SRC n, R.CMP_LYR_STRIDE n, R.CMP_LYR_CROP_WH n] ++
  need (!surface || inOneRegion s (surfaceBase rd n) (surfaceBytes rd n)) .range
    [R.CMP_LYR_CTRL n, R.CMP_LYR_SRC n, R.CMP_LYR_ADDR n, R.CMP_LYR_STRIDE n, R.CMP_LYR_SRC_SIZE n] ++
  need (0 < dw && 0 < dh && (filled || (dw ≤ 64 * cw && cw ≤ 16 * dw && dh ≤ 64 * ch && ch ≤ 16 * dh))) .range
    [R.CMP_LYR_CTRL n, R.CMP_LYR_SRC n, R.CMP_LYR_CROP_WH n, R.CMP_LYR_DST_WH n]

/-- The failures of one layer (R127). -/
def layerFailures (s : Device) (rd : Nat → Word) (n : Nat) : List Failure :=
  layerFields rd n ++ (if lyrJudged rd n then layerGeometry s rd n else [])

/-- The registers of a layer that its capacity depends on. -/
def layerRegs (n : Nat) : List Nat :=
  [R.CMP_LYR_CTRL n, R.CMP_LYR_SRC n, R.CMP_LYR_CROP_WH n, R.CMP_LYR_DST_XY n, R.CMP_LYR_DST_WH n]

/-- The composition deadline of R147 under a timing mode. -/
def cmpInTime (rd : Nat → Word) (m : Mode) : Bool :=
  (cmpTime rd + 3072 * pairWait rd) * (m.vTotal * m.num) ≤ (rd R.CMP_DONE_LINE).toNat * m.frameNum * 3072

/-- The failures of the check-value units: an enabled unit's rectangle beyond the canvas (R157). -/
def chkFailures (rd : Nat → Word) : List Failure :=
  let (w, h) := canvasSize rd
  (upto 64).flatMap (fun u =>
    let (x, y) := pairAt (rd (R.CHK_XY u))
    let (rw, rh) := pairAt (rd (R.CHK_WH u))
    need (!wbit (rd (R.CHK_CTRL u)) 0 || (x + rw ≤ w && y + rh ≤ h)) .conflict
      [R.CHK_CTRL u, R.CHK_XY u, R.CHK_WH u, R.CMP_CANVAS_SIZE])

/-- The failures of composition under a register file (R121, R127, R138, R146, R147, R150, R157). -/
def cmpFailures (s : Device) (rd : Nat → Word) : List Failure :=
  let (w, h) := canvasSize rd
  let m := modeOf rd
  let dl := (rd R.CMP_DONE_LINE).toNat
  need (w * h ≤ wfld (rd R.CMP_CANVAS_MAX) 23 0) .capacity [R.CMP_CANVAS_SIZE] ++
  need (1 ≤ dl && dl < m.vTotal) .range [R.CMP_DONE_LINE] ++
  need (doneLineGap rd m) .conflict [R.CMP_DONE_LINE] ++
  need (wfld (rd R.CMP_CACHE_SPLIT01) 13 0 ≤ wfld (rd R.CMP_CACHE_SPLIT01) 29 16 &&
    wfld (rd R.CMP_CACHE_SPLIT01) 29 16 ≤ wfld (rd R.CMP_CACHE_SPLIT2) 13 0) .conflict
    [R.CMP_CACHE_SPLIT01, R.CMP_CACHE_SPLIT2] ++
  (upto 15).flatMap (layerFailures s rd) ++
  chkFailures rd ++
  need (buffersUsed rd ≤ 48) .capacity ((upto 15).flatMap layerRegs) ++
  need (cmpInTime rd m) .capacity ([R.CMP_CANVAS_SIZE, R.CMP_DONE_LINE] ++ (upto 15).flatMap layerRegs)

/-- The failures of a layer 15 commit (R127, R142, R144). -/
def safeFailures (s : Device) (rd : Nat → Word) : List Failure :=
  let (w, h) := canvasSize rd
  let src : Bool := match regionOf s (surfaceBase rd 15) with
    | some r => regionClass s r = 0 && s.rb (R.MEM_Rr_CFG r) 6
    | none => false
  layerFailures s rd 15 ++
  need (!lyrJudged rd 15 || lyrKind rd 15 ≠ 0 || src) .conflict [R.CMP_LYR_ADDR 15] ++
  need (!lyrJudged rd 15 || lyrBuffers rd 15 ≤ wfld (rd R.CMP_SAFE_RESERVE) 4 0) .capacity
    [R.CMP_LYR_CROP_WH 15, R.CMP_LYR_DST_WH 15] ++
  need (!lyrJudged rd 15 || lyrKind rd 15 = 2 ||
    (lyrCropWH rd 15).1 * (lyrCropWH rd 15).2 * bytesPerPixel (lyrFormat rd 15) ≤ 4 * (w * h)) .capacity
    [R.CMP_LYR_CROP_WH 15]

/-! ### Source pixels -/

/-- A pixel in the scaler: R, G, B, alpha and the weight that a source replaced in column 0 removes (R155). -/
abbrev Px := List Nat

/-- Widens an n-bit component by repeating its bits from the top (R131). -/
def widen (n m v : Nat) : Nat :=
  let k := cdiv m n
  sumL ((upto k).map (fun i => v * 2 ^ (n * i))) >>> (n * k - m)

/-- Linear light of an n-bit component (R132). -/
def decodeComp (rd : Nat → Word) (transfer n v : Nat) : Nat :=
  match transfer with
  | 0 => widen n 16 v
  | 1 => gamma24 (widen n 12 v)
  | 2 => min 65535 ((pqTable (widen n 12 v) * pqFactor (wfld (rd R.CMP_PQ_PEAK) 13 0) + 2 ^ 31) >>> 32)
  | _ => hlgTable (widen n 12 v)

/-- The components of a pixel word: R, G, B and alpha with their widths (R129). -/
def unpackPixel (fmt v : Nat) : List (Nat × Nat) :=
  match fmt with
  | 0 => [(5, fld v 15 11), (6, fld v 10 5), (5, fld v 4 0), (16, 65535)]
  | 1 => [(8, fld v 23 16), (8, fld v 15 8), (8, fld v 7 0), (16, 65535)]
  | 2 => [(8, fld v 23 16), (8, fld v 15 8), (8, fld v 7 0), (16, 65535)]
  | 3 => [(8, fld v 23 16), (8, fld v 15 8), (8, fld v 7 0), (8, fld v 31 24)]
  | 4 => [(10, fld v 29 20), (10, fld v 19 10), (10, fld v 9 0), (2, fld v 31 30)]
  | 5 => [(8, fld v 7 0), (8, fld v 15 8), (8, fld v 23 16), (16, 65535)]
  | _ => [(10, fld v 9 0), (10, fld v 19 10), (10, fld v 29 20), (16, 65535)]

/-- A source word decoded to linear light (R131, R132); alpha is widened and never decoded. -/
def decodePixel (rd : Nat → Word) (n v : Nat) : Px :=
  let t := wfld (rd (R.CMP_LYR_CTRL n)) 7 6
  match unpackPixel (lyrFormat rd n) v with
  | [r, g, b, a] => [decodeComp rd t r.1 r.2, decodeComp rd t g.1 g.2, decodeComp rd t b.1 b.2, widen a.1 16 a.2, 65535]
  | _ => [0, 0, 0, 0, 65535]

/-- The background colour (R124). -/
def backPx (rd : Nat → Word) : List Nat :=
  [wfld (rd R.CMP_BG_RG) 15 0, wfld (rd R.CMP_BG_RG) 31 16, wfld (rd R.CMP_BG_B) 15 0]

/-- The first byte of a source row: of the surface, or of the stream buffer taken. -/
def sourceRow (rd : Nat → Word) (n buf y : Nat) : Nat :=
  if lyrKind rd n = 1 then
    let k := lyrStream rd n
    let w := wfld (rd (R.STRM_SIZE k)) 13 0
    let h := wfld (rd (R.STRM_SIZE k)) 29 16
    4096 * wfld (rd (R.STRM_BUF k)) 21 0 + buf * bufBytes w h + y * strideOf w
  else surfaceBase rd n + y * wfld (rd (R.CMP_LYR_STRIDE n)) 19 0

/-- Whether a source pixel of layer n cannot be used: its bytes read with an error, or the line buffer that carried it failed (R155,
R346). -/
def badSource (s : Device) (n row bpp y x : Nat) : Bool :=
  badRange s (row + x * bpp) bpp || s.cmp.lineBad.contains (n, y, x)

/-- The column whose pixel stands for column x of row y as stored: x, or the nearest to its left that can be used (R155). -/
def goodColumn (s : Device) (n row bpp y x : Nat) : Option Nat :=
  ((upto (x + 1)).reverse).find? (fun k => !badSource s n row bpp y k)

/-- The source pixel at a stored position (R129, R155). -/
def sourcePx (s : Device) (rd : Nat → Word) (n buf x y : Nat) : Px :=
  let bpp := bytesPerPixel (lyrFormat rd n)
  let row := sourceRow rd n buf y
  match goodColumn s n row bpp y x with
  | some k => decodePixel rd n (leAt (peek s (row + k * bpp) bpp) 0 bpp)
  | none => backPx rd ++ [0, 0]

/-! ### Scaling -/

/-- The coefficients of a set's phase, horizontally (`h`) or vertically (R136, R524). `loaded` are the copies of sets 2 and 3. -/
def coefPhase (loaded : Option (List Int)) (set : Nat) (h : Bool) (p : Nat) : List Int :=
  let lin : List Int := if h then [0, 0, 0, 4096 - 64 * (p : Int), 64 * (p : Int), 0, 0, 0]
    else [0, 4096 - 64 * (p : Int), 64 * (p : Int), 0]
  match set, loaded with
  | 0, _ => lin
  | 1, _ => if h then sincPhase 8 3 4 p else sincPhase 4 1 2 p
  | _, none => lin
  | k, some l =>
    let base := (k - 2) * 768
    if h then (l.drop (base + 8 * p)).take 8 else (l.drop (base + 512 + 4 * p)).take 4

/-- HSTEP or VSTEP of R134. -/
def scaleStep (c d : Nat) : Nat := c * 65536 / max d 1

/-- The source position of an output column or row: its integer part and phase (R134). -/
def scalePos (c d x : Nat) : Int × Nat :=
  let step : Int := scaleStep c d
  let pos : Int := (x : Int) * step + (step - 65536) / 2
  (pos / 65536, ((pos / 1024) % 64).toNat)

/-- A position held inside 0 … n − 1. -/
def clampPos (n : Nat) (i : Int) : Nat := (clampI 0 ((n : Int) - 1) i).toNat

/-- The component-wise mean of samples, rounded to the nearest, ties up (R135). -/
def meanPx (l : List Px) : Px :=
  let sums := l.foldl (fun (a : Px) b => a.zipWith (· + ·) b) (List.replicate 5 0)
  sums.map (fun x => rdiv x l.length)

/-- Box sample j of a row or column of `n` samples (R135). -/
def boxSample (f : Nat → Px) (n b : Nat) (j : Int) : Px :=
  if b ≤ 1 then f (clampPos n j)
  else meanPx ((upto b).map (fun (i : Nat) => f (clampPos n (j - (((b - 1) / 2 : Nat) : Int) + (i : Int)))))

/-- A filter: the exact sum, rounded and clamped to 0 … 65,535 (R135). -/
def filterPx (coef : List Int) (l : List Px) : Px :=
  let sums := (coef.zip l).foldl (fun (a : List Int) p => a.zipWith (fun x (y : Nat) => x + p.1 * y) p.2) (List.replicate 5 0)
  sums.map (fun x => (clampI 0 65535 ((x + 2048) / 4096)).toNat)

/-- The scaled pixel of a layer at a destination position (R134, R135). -/
def scaledPx (s : Device) (rd : Nat → Word) (loaded : Option (List Int)) (n buf x y : Nat) : Px :=
  let (cx, cy) := lyrCropXY rd n
  let (cw, ch) := lyrCropWH rd n
  let (dw, dh) := lyrDstWH rd n
  let set := wfld (rd (R.CMP_LYR_CTRL n)) 9 8
  let src (i j : Nat) : Px := sourcePx s rd n buf (cx + i) (cy + j)
  let column (i : Nat) : Px :=
    if ch = dh then src i y
    else
      let (j, p) := scalePos ch dh y
      filterPx (coefPhase loaded set false p)
        ((upto 4).map (fun (t : Nat) => boxSample (src i) ch (boxWidth ch dh) (j - 1 + (t : Int))))
  if cw = dw then column x
  else
    let (i, p) := scalePos cw dw x
    filterPx (coefPhase loaded set true p)
      ((upto 8).map (fun (t : Nat) => boxSample column cw (boxWidth cw dw) (i - 3 + (t : Int))))

/-! ### Blending -/

/-- A canvas pixel in composition: R, G, B, 16-bit coverage, and SAFE. -/
structure Pixel where
  r    : Nat
  g    : Nat
  b    : Nat
  cov  : Nat
  safe : Bool
deriving DecidableEq, Repr

/-- rnd of R139: floor((x + 32,767) / 65,535). -/
def rnd (x : Nat) : Nat := (x + 32767) / 65535

/-- The effective alpha of a pixel (R139); the removed weight of R155 scales it. -/
def effAlpha (mode op src weight : Nat) : Nat :=
  let a := match mode with
    | 0 => 65535
    | 1 => op
    | _ => rnd (src * op)
  rnd (a * weight)

/-- One colour component blended (R140). -/
def blendComp (blend : Nat) (premult : Bool) (cs cd a : Nat) : Nat :=
  match blend with
  | 0 => if premult then min 65535 (cs + rnd (cd * (65535 - a))) else rnd (cs * a + cd * (65535 - a))
  | 1 => min 65535 (cd + (if premult then cs else rnd (cs * a)))
  | _ => max cd (if premult then cs else rnd (cs * a))

/-- The coverage result (R140). -/
def blendCov (blend ad a : Nat) : Nat :=
  match blend with
  | 0 => a + rnd (ad * (65535 - a))
  | 1 => min 65535 (ad + a)
  | _ => max ad a

/-- A layer's pixel blended onto the canvas pixel (R139, R140, R143). -/
def blendPx (rd : Nat → Word) (n : Nat) (d : Pixel) (p : Px) : Pixel :=
  let mode := lyrAlpha rd n
  let op := wfld (rd (R.CMP_LYR_OPACITY n)) 15 0
  let w := p.getD 4 65535
  let a := effAlpha mode op (p.getD 3 0) w
  let pre := mode = 3
  let c (i : Nat) : Nat := if pre then rnd (rnd (p.getD i 0 * op) * w) else p.getD i 0
  let bl := lyrBlend rd n
  { r := blendComp bl pre (c 0) d.r a, g := blendComp bl pre (c 1) d.g a, b := blendComp bl pre (c 2) d.b a,
    cov := blendCov bl d.cov a, safe := d.safe || (n = 15 && 0 < a) }

/-- The fill colour and alpha (R126). -/
def fillPx (rd : Nat → Word) (n : Nat) : Px :=
  let rg := rd (R.CMP_LYR_FILL_RG n)
  let ba := rd (R.CMP_LYR_FILL_BA n)
  [wfld rg 15 0, wfld rg 31 16, wfld ba 15 0, wfld ba 31 16, 65535]

/-- The content of a layer at a canvas position, if its destination covers it and it shows something (R126, R141). -/
def layerPx (s : Device) (c : FrameCtx) (n x y : Nat) : Option Px :=
  let (dx, dy) := lyrDstXY c.rd n
  let (dw, dh) := lyrDstWH c.rd n
  let i := (x : Int) - dx
  let j := (y : Int) - dy
  if i < 0 || j < 0 || (dw : Int) ≤ i || (dh : Int) ≤ j then none
  else match lyrKind c.rd n with
    | 0 => some (scaledPx s c.rd c.coef n 0 i.toNat j.toNat)
    | 1 => match c.takes.getD .hide n with
      | .hide => none
      | .fill => some (fillPx c.rd n)
      | .frame b _ => some (scaledPx s c.rd c.coef n b i.toNat j.toNat)
    | _ => some (fillPx c.rd n)

/-- Blends layers in order onto a pixel. -/
def blendLayers (s : Device) (c : FrameCtx) (x y : Nat) (l : List Nat) (d : Pixel) : Pixel :=
  l.foldl (fun d n => match layerPx s c n x y with
    | some p => blendPx c.rd n d p
    | none => d) d

/-- The 8 bytes of a canvas pixel (R123). -/
def pixelBytes (p : Pixel) : List Byte :=
  leBytes 2 p.r ++ leBytes 2 p.g ++ leBytes 2 p.b ++ leBytes 2 (b2n p.safe + 2 * (p.cov / 2))

/-! ### The thatch cache -/

/-- The rows of a band: first and past the last (R150). -/
def bandRows (rd : Nat → Word) (k : Nat) : Nat × Nat :=
  let h := (canvasSize rd).2
  let y1 := min h (wfld (rd R.CMP_CACHE_SPLIT01) 13 0)
  let y2 := min h (wfld (rd R.CMP_CACHE_SPLIT01) 29 16)
  let y3 := min h (wfld (rd R.CMP_CACHE_SPLIT2) 13 0)
  match k with
  | 0 => (0, y1)
  | 1 => (y1, y2)
  | 2 => (y2, y3)
  | _ => (y3, h)

/-- Whether a layer's destination intersects a band. -/
def inBand (rd : Nat → Word) (k n : Nat) : Bool :=
  let (a, b) := bandRows rd k
  let (dx, dy) := lyrDstXY rd n
  let (dw, dh) := lyrDstWH rd n
  0 < spanInside dx dw (canvasSize rd).1 && 0 < spanInside (dy - a) dh (b - a)

/-- The run of a band (R151). -/
def bandRun (rd : Nat → Word) (k : Nat) : List Nat :=
  let on := (lyrsOn rd).filter (inBand rd k)
  match on.find? (fun n => !lyrStatic rd n) with
  | some d => on.filter (fun n => n < d)
  | none => on

/-- The first byte of a cache pixel (R150). -/
def cacheAt (rd : Nat → Word) (x y : Nat) : Nat :=
  4096 * wfld (rd R.CMP_CACHE_BASE) 21 0 + (y * (canvasSize rd).1 + x) * 8

/-- A pixel read from the cache, which holds it in the canvas format (R150). The lowest bit of its 16-bit coverage, which that format leaves out, is
kept beside it, so that the pixel read is the exact intermediate value (R152; DEDUCED, log 12). A pixel that reads with an error is replaced by the nearest to its left that reads good, by the background in column 0 (R155). -/
def cachePx (s : Device) (rd : Nat → Word) (x y : Nat) : Pixel :=
  match ((upto (x + 1)).reverse).find? (fun k => !badRange s (cacheAt rd k y) 8) with
  | some k =>
    let bs := peek s (cacheAt rd k y) 8
    ⟨leAt bs 0 2, leAt bs 2 2, leAt bs 4 2, 2 * (leAt bs 6 2 / 2) + (s.cmp.cacheLow.getD [] y).getD k 0, false⟩
  | none => ⟨wfld (rd R.CMP_BG_RG) 15 0, wfld (rd R.CMP_BG_RG) 31 16, wfld (rd R.CMP_BG_B) 15 0, 0, false⟩

/-- The background as a canvas pixel (R124). -/
def backPixel (rd : Nat → Word) : Pixel :=
  ⟨wfld (rd R.CMP_BG_RG) 15 0, wfld (rd R.CMP_BG_RG) 31 16, wfld (rd R.CMP_BG_B) 15 0, 0, false⟩

/-- Whether a content frame takes a band from its cache. -/
def bandCached (c : FrameCtx) (k : Nat) : Bool := c.valid.getD false k && !(bandRun c.rd k).isEmpty

/-- One canvas pixel composed (R124, R152): at the end of the run, before layer 15, and final. -/
def composePx (s : Device) (c : FrameCtx) (k x y : Nat) : Pixel × Pixel × Pixel :=
  let run := bandRun c.rd k
  let base := if bandCached c k then cachePx s c.rd x y else blendLayers s c x y run (backPixel c.rd)
  let above := (lyrsOn c.rd).filter (fun n => !run.contains n)
  let before := blendLayers s c x y above base
  (base, before, if lyrOn c.rd 15 then blendLayers s c x y [15] before else before)

/-! ### A composition -/

/-- The first byte of a canvas pixel (R122). -/
def canvasAt (rd : Nat → Word) (buf x y : Nat) : Nat :=
  4096 * wfld (rd R.CMP_CANVAS_BASE) 21 0 + buf * (wfld (rd R.CMP_CANVAS_MAX) 23 0) * 8 + (y * (canvasSize rd).1 + x) * 8

/-- Counts and reports replaced pixels of a row: `flags` are bit 29 for a source, bit 30 for a cache (R155). -/
def noteParityRow (content : Nat) (flags row col0 : Nat) (bad : List Bool) (tag : Nat) (s : Device) : Device :=
  s.each (bad.zipIdx.filter (·.1)) fun s p =>
    ((s.count R.CMP_PARITY 1).setN R.CMP_PARITY_LAST (row % 2 ^ 14 + 2 ^ 14 * ((col0 + p.2) % 2 ^ 15) + flags)).raise Ev.CMP_PARITY
      (payF tag content)

/-- Whether a layer's source is read for a content frame: in some band it is not taken from the cache. -/
def layerRead (c : FrameCtx) (n : Nat) : Bool :=
  lyrOn c.rd n && (lyrKind c.rd n = 0 || (lyrKind c.rd n = 1 && (match c.takes.getD .hide n with
    | .frame _ _ => true
    | _ => false))) &&
  (upto 4).any (fun k => inBand c.rd k n && !(bandCached c k && (bandRun c.rd k).contains n))

/-- The crop of a layer is read, each row once, and its replaced pixels are reported. -/
def readLayer (c : FrameCtx) (n : Nat) (s : Device) : Device :=
  if !layerRead c n then s
  else
    let bpp := bytesPerPixel (lyrFormat c.rd n)
    let buf := match c.takes.getD .hide n with
      | .frame b _ => if lyrKind c.rd n = 1 then b else 0
      | _ => 0
    let (cx, cy) := lyrCropXY c.rd n
    let (cw, ch) := lyrCropWH c.rd n
    s.each (upto ch) fun s j =>
      let row := sourceRow c.rd n buf (cy + j)
      let s := (memRead .cmp (row + cx * bpp) (cw * bpp) s).1
      noteParityRow c.content (2 ^ 29) (cy + j) cx ((upto cw).map (fun i => badSource s n row bpp (cy + j) (cx + i))) n s

/-- A band stops being used as valid (R153): a build of it in progress no longer makes it so. -/
def invalidateBand (k content : Nat) (s : Device) : Device :=
  let was := s.cmp.valid.getD false k
  let cmp := { s.cmp with valid := s.cmp.valid.setD false k false, epochs := s.cmp.epochs.modD 0 k (· + 1) }
  ({ s with cmp := cmp }).raiseIf was Ev.CMP_CACHE_INVALID (payF k content)

/-- A band found with an error stops being used at once (R155): by the content captured next too, whichever settings govern it, and by a content
frame that waits for its composition. -/
def spoilBand (k content : Nat) (s : Device) : Device :=
  let s := invalidateBand k content s
  { s with cmp := { s.cmp with validBefore := s.cmp.validBefore.setD false k false, epochsBefore := s.cmp.epochsBefore.modD 0 k (· + 1) },
           pipe := s.pipe.map (fun d => if d.composed || d.content = content then d else { d with valid := d.valid.setD false k false }) }

/-- The cached rows of a band are read; a replaced pixel invalidates the band (R155). -/
def readCache (c : FrameCtx) (k : Nat) (s : Device) : Device :=
  if !bandCached c k then s
  else
    let (a, b) := bandRows c.rd k
    let w := (canvasSize c.rd).1
    s.each (upto (b - a)) fun s j =>
      let s := (memRead .cmp (cacheAt c.rd 0 (a + j)) (8 * w) s).1
      let bad := (upto w).map (fun x => badRange s (cacheAt c.rd x (a + j)) 8)
      let s := noteParityRow c.content (2 ^ 30) (a + j) 0 bad k s
      if bad.any id then spoilBand k c.content s else s

/-- The bands a content frame builds (R152). -/
def bandBuilt (c : FrameCtx) (k : Nat) : Bool :=
  let (a, b) := bandRows c.rd k
  wbit (c.rd R.CMP_CTRL) 0 && !bandCached c k && a < b && !(bandRun c.rd k).isEmpty

/-- The band of a row. -/
def bandOf (rd : Nat → Word) (y : Nat) : Nat :=
  ((upto 4).find? (fun k => (bandRows rd k).1 ≤ y && y < (bandRows rd k).2)).getD 3

/-- The canvas or cache pixel or source pixel whose codeword an access of CMP, PHO or PVW reads (R155), as CMP_PARITY_LAST shows it: the flags, row,
column, and the layer or band; none where the codeword holds none. -/
def pixelAt (s : Device) (a : MemAgent) (cw : Nat) : Option (Nat × Nat × Nat × Nat) :=
  let rd := s.reg
  let w := (canvasSize rd).1
  let canvas := 4096 * wfld (rd R.CMP_CANVAS_BASE) 21 0
  let size := wfld (rd R.CMP_CANVAS_MAX) 23 0
  let cache := 4096 * wfld (rd R.CMP_CACHE_BASE) 21 0
  let fw := max 1 (if s.cmp.frontW = 0 then w else s.cmp.frontW)
  if a ≠ .cmp && a ≠ .pho && a ≠ .pvw then none
  else if canvas ≤ cw && cw < canvas + 16 * size then
    let i := (cw - canvas) / 8 % size
    some (0, i / fw, i % fw, 0)
  else if a ≠ .cmp then none
  else if cache ≤ cw && cw < cache + 8 * size then
    let i := (cw - cache) / 8
    some (2 ^ 30, i / max 1 w, i % max 1 w, bandOf rd (i / max 1 w))
  else (upto 16).findSome? (fun n =>
    let (sw, sh) := lyrSource rd n
    let bpp := bytesPerPixel (lyrFormat rd n)
    let rows := if lyrKind rd n = 1 then (upto 3).map (fun b => sourceRow rd n b 0) else if lyrKind rd n = 0 then [sourceRow rd n 0 0] else []
    let stride := sourceRow rd n 0 1 - sourceRow rd n 0 0
    if !lyrOn rd n || stride = 0 then none
    else rows.findSome? (fun base =>
      let d := cw + 7 - base
      let y := d / stride
      let x := (cw - base) % stride / bpp
      if base ≤ cw + 7 && y < sh && x < sw then some (2 ^ 29, y, x, n) else none))

/-- A pixel that an access finds with an error is replaced (R155): counted, recorded and reported; a band of the cache is invalidated. -/
def replaceAt (a : MemAgent) (cw : Nat) (s : Device) : Device :=
  let content := ((s.pipe.find? (fun c => !c.composed)).map (·.content)).getD (frameAdd s.shw.frame (-1))
  match pixelAt s a cw with
  | none => s
  | some (flags, row, col, tag) =>
    let s := noteParityRow content flags row col [true] tag s
    if flags = 2 ^ 30 then spoilBand tag content s else s

/-- The rows of a composed canvas: at each pixel its value at the end of the run, before layer 15 and final. -/
def composeRows (s : Device) (c : FrameCtx) : List (List (Pixel × Pixel × Pixel)) :=
  let (w, h) := canvasSize c.rd
  (upto h).map (fun y => (upto w).map (fun x => composePx s c (bandOf c.rd y) x y))

/-- The bytes a check-value unit feeds (R157): region, frame, and its rectangle's pixels at its stage. -/
def chkBytes (c : FrameCtx) (u : Nat) (rows : List (List (Pixel × Pixel × Pixel))) : List Byte :=
  let (x, y) := pairAt (c.rd (R.CHK_XY u))
  let (w, h) := pairAt (c.rd (R.CHK_WH u))
  let stage := wbit (c.rd (R.CHK_CTRL u)) 1
  leBytes 2 (wfld (c.rd (R.CHK_REGION u)) 15 0) ++ leBytes 6 c.content ++
    ((rows.drop y).take h).flatMap (fun row => ((row.drop x).take w).flatMap (fun p =>
      pixelBytes (if stage then p.2.1 else p.2.2)))

/-- A check-value unit completes a frame (R159, R161). -/
def chkComplete (c : FrameCtx) (u v : Nat) (s : Device) : Device :=
  let s := (s.setN (R.CHK_RESULT u) v).setN (R.CHK_RESULT_PREV u) v
  let s := (s.set64 (R.CHK_RESULT_FRAME_LO u) (R.CHK_RESULT_FRAME_HI u) c.content).setB (R.CHK_STATUS u) 2 true
  let named := s.get64 (R.CHK_EXPECT_FRAME_LO u) (R.CHK_EXPECT_FRAME_HI u) % 2 ^ 48
  if !wbit (c.rd (R.CHK_CTRL u)) 2 then s
  else if c.content = named then
    let s := s.setB (R.CHK_STATUS u) 1 true
    if v = s.rn (R.CHK_EXPECT u) then s
    else ((s.setB (R.CHK_STATUS u) 0 true).count (R.CHK_MISMATCHES u) 1).raise Ev.CHK_MISMATCH (payF u c.content)
  else if 0 < frameDiff c.content named && !s.rb (R.CHK_STATUS u) 1 then s.setB (R.CHK_STATUS u) 3 true
  else s

/-- A band that a composition has built becomes valid, unless it has been invalidated since (R152). -/
def bandDone (c : FrameCtx) (k : Nat) (s : Device) : Device :=
  if !bandBuilt c k then s
  else
    let e := c.epochs.getD 0 k
    let m := s.cmp
    let now := if m.epochs.getD 0 k = e then m.valid.put k true else m.valid
    let old := if m.epochsBefore.getD 0 k = e then m.validBefore.put k true else m.validBefore
    (({ s with cmp := { m with valid := now, validBefore := old } }).count R.CMP_CACHE_BUILDS 1).raise Ev.CMP_CACHE_BUILT
      (payF k c.content)

/-- CMP_DONE (R145, R159): the canvas and the caches are written, the check values become final, the buffers exchange. -/
def composeDone (micros : Nat) (c : FrameCtx) (s : Device) : Device :=
  let s := s.each ((lyrsOn c.rd) ++ (if lyrOn c.rd 15 then [15] else [])) (fun s n => readLayer c n s)
  let s := s.each (upto 4) (fun s k => readCache c k s)
  let rows := composeRows s c
  let back := 1 - s.cmp.front
  let s := s.each rows.zipIdx fun s p =>
    memStore .cmp (canvasAt c.rd back 0 p.2) (p.1.flatMap (fun q => pixelBytes q.2.2)) s
  let s := s.each rows.zipIdx fun s p =>
    if bandBuilt c (bandOf c.rd p.2) then
      memStore .cmp (cacheAt c.rd 0 p.2) (p.1.flatMap (fun q => pixelBytes q.1))
        { s with cmp := { s.cmp with cacheLow := s.cmp.cacheLow.put p.2 (p.1.map (fun q => q.1.cov % 2)) } }
    else s
  let s := s.each (upto 4) (fun s k => bandDone c k s)
  let s := s.each (lyrsOn c.rd) fun s n => match c.takes.find n with
    | some (.frame _ rtp) => s.setReg (R.CMP_LYR_SRC_RTP n) rtp
    | _ => s
  let units := (upto 64).filter (fun u => wbit (c.rd (R.CHK_CTRL u)) 0)
  let s := s.each units (fun s u => chkComplete c u (crc32c (chkBytes c u rows)) s)
  let (w, h) := canvasSize c.rd
  let digest := crc32c (leBytes 2 0xFFFF ++ leBytes 6 c.content ++ rows.flatMap (fun r => r.flatMap (fun q => pixelBytes q.2.2)))
  let s := { s with cmp := { s.cmp with front := back, frontW := w, frontH := h, lineBad := [] } }
  let s := (s.set64 R.CMP_DONE_FRAME_LO R.CMP_DONE_FRAME_HI c.content).setN R.CMP_ROW_DONE h
  let s := (s.setN R.CMP_LAST_TIME (micros % 2 ^ 20)).setCtx { c with composed := true, buf := back, canvas := digest }
  let s := s.raise Ev.CMP_DONE c.content
  s.raiseIf (!units.isEmpty) Ev.CHK_DONE c.content

/-! ### The capture instant -/

/-- What a STREAM layer takes at a capture instant (R141): the newest complete frame, or its lost action. -/
def captureLayer (n : Nat) (rd : Nat → Word) (newest : Option (Nat × BitVec 32)) (content : Nat) (s : Device) : Device × Take :=
  let x := s.cmp.layers.getD {} n
  let put (x : LayerState) (s : Device) : Device := { s with cmp := { s.cmp with layers := s.cmp.layers.setD {} n x } }
  let action := wfld (rd (R.CMP_LYR_CTRL n)) 11 10
  let absent : Take := if action = 2 then .fill else .hide
  let shown : Take := match newest with
    | some (b, rtp) => .frame b rtp
    | none => absent
  if !x.started then (put { started := true, last := newest } s, shown)
  else if newest.isSome && newest ≠ x.last then
    ((put { started := true, last := newest } s).raiseIf x.missing Ev.LAYER_SRC_RESTORED (payF n content), shown)
  else
    let missed := satN 65535 (x.missed + 1)
    let now := x.missing || wfld (rd (R.CMP_LYR_SRC n)) 23 16 ≤ missed
    let s := put { x with missed := missed, missing := now } s
    let s := if now && !x.missing then (s.count R.CMP_SRC_MISSING 1).raise Ev.LAYER_SRC_MISSING (payF n content) else s
    (s, if now && action = 1 then .hide else if now && action = 2 then .fill else shown)

/-- The capture of every STREAM layer under a register file (R32, R141); `own n` is the frame taken of stream n. -/
def captureLayers (rd : Nat → Word) (own : Nat → Option (Nat × BitVec 32)) (content : Nat) (s : Device) : Device × Table Take :=
  (upto 15).foldl (fun (acc : Device × Table Take) n =>
    let (s, t) := acc
    if lyrOn rd n && lyrKind rd n = 1 then
      let (s, k) := captureLayer n rd (own (lyrStream rd n)) content s
      (s, t.put n k)
    else ({ s with cmp := { s.cmp with layers := s.cmp.layers.del n } }, t)) (s, [])

/-- The start of a composition (R145, R159): rows released restart, and a unit whose settings differ from the last composition's is not
valid. -/
def startComposition (c : FrameCtx) (s : Device) : Device :=
  let changed (u : Nat) : Bool := match s.cmp.lastRegs with
    | none => false
    | some old => [R.CHK_XY u, R.CHK_WH u, R.CHK_REGION u].any (fun o => readFile old o ≠ c.rd o)
  let s := s.each (upto 64) fun s u =>
    if !wbit (c.rd (R.CHK_CTRL u)) 0 || changed u then s.setB (R.CHK_STATUS u) 2 false else s
  { s.setN R.CMP_ROW_DONE 0 with cmp := { s.cmp with lastRegs := some c.regs } }

/-! ### Coefficient sets -/

/-- The first byte of the loaded sets (R136). -/
def coefBase (s : Device) : Nat := 64 * s.rf R.CMP_COEF_BASE 29 0

/-- The 1,536 coefficients in memory: two sets of 64 × 8 and 64 × 4 (R136). -/
def coefRead (s : Device) : List Int := (upto 1536).map (fun i => sext 16 (leAt (peek s (coefBase s + 2 * i) 2) 0 2))

/-- The phase that coefficient i of a set closes, as its first index, if it closes one. -/
def phaseOf (i : Nat) : Option Nat :=
  let j := i % 768
  if j < 512 then (if j % 8 = 7 then some (i - 7) else none) else (if j % 4 = 3 then some (i - 3) else none)

/-- The first failure of the sets in memory order (R136). -/
def coefCode (s : Device) : Code :=
  let l := coefRead s
  firstCode ((upto 1536).map (fun i =>
    let v := l.getD i 0
    if badRange s (coefBase s + 2 * i) 2 then .check
    else if v < -4096 || 8191 < v then .range
    else match phaseOf i with
      | some k => if ((l.drop k).take (i + 1 - k)).foldl (· + ·) 0 = 4096 then .ok else .conflict
      | none => .ok))

/-- CMP_COEF_CTRL (R136). -/
def coefHandler (w : Who) (v : Word) : Handler :=
  { plainHandler w R.CMP_COEF_CTRL v with
    check := fun s => if wbit v 0 then coefCode s else .ok
    effect := fun s =>
      if wbit v 0 then
        let l := coefRead s
        let s := (memRead .cmp (coefBase s) 3072 s).1
        ({ s with cmp := { s.cmp with coefNext := some l } }).setN R.CMP_COEF_CTRL 1
      else s
    reject := fun c s =>
      if wbit v 0 then (memRead .cmp (coefBase s) 3072 s).1.setF R.CMP_COEF_CTRL 15 8 c.num else s }

/-! ### Commit points -/

/-- Before the changes of a commit point: what content captured next is composed with (R33, R149). -/
def cmpBeforePoint (s : Device) : Device :=
  let m := s.cmp
  { s with cmp := { m with coefBefore := m.coef, validBefore := m.valid, epochsBefore := m.epochs } }

/-- Whether a commit point invalidates a band (R153): `touched` are the registers its commits set, `inval` CACHE_INVAL, `loaded` a new
coefficient set. -/
def bandHit (old rd : Nat → Word) (touched : List Nat) (inval loaded : Bool) (k : Nat) : Bool :=
  let run := bandRun old k
  let (a, b) := bandRows rd k
  inval || !wbit (rd R.CMP_CTRL) 0 || run ≠ bandRun rd k || !(a < b) ||
  run.any (fun n => touched.any (fun o => R.CMP_LYR_CTRL n ≤ o && o < R.CMP_LYR_CTRL n + 0x100)) ||
  [R.CMP_CANVAS_SIZE, R.CMP_BG_RG, R.CMP_BG_B, R.CMP_PQ_PEAK, R.CMP_CACHE_SPLIT01, R.CMP_CACHE_SPLIT2].any (fun o => old o ≠ rd o) ||
  (loaded && run.any (fun n => 2 ≤ wfld (rd (R.CMP_LYR_CTRL n)) 9 8))

/-- After the changes of the commit point of frame F: loaded sets take effect, bands are invalidated (R136, R153). -/
def cmpAfterPoint (old : Nat → Word) (touched : List Nat) (inval : Bool) (content : Nat) (s : Device) : Device :=
  let loaded := s.cmp.coefNext.isSome
  let s := match s.cmp.coefNext with
    | none => s
    | some l =>
      (({ s with cmp := { s.cmp with coef := some l, coefNext := none } }).setN R.CMP_COEF_CTRL 0).raise Ev.COEF_LOADED content
  s.each (upto 4) fun s k => if bandHit old s.reg touched inval loaded k then invalidateBand k content s else s

/-- The value a commit entry leaves: the masked bits of the register replaced; CACHE_INVAL reads 0 (R163). -/
def entryValue (old : Word) (off : Nat) (mask v : Word) : Word :=
  let x := (old &&& ~~~ mask) ||| (v &&& mask)
  if off = R.CMP_CTRL then x &&& ~~~ 2#32 else x

/-- A register file with the entries of a commit applied (R371 to R374). -/
def withEntries (m : Table Word) (es : List (Nat × Word × Word)) : Table Word :=
  es.foldl (fun m e => writeFile m e.1 (entryValue (readFile m e.1) e.1 e.2.1 e.2.2)) m

/-! ### The protected layer -/

/-- The code of a layer 15 commit: registers, values, then the configuration (R142, R144). -/
def safeCode (s : Device) (es : List (Nat × Word)) : Code :=
  let one (e : Nat × Word) : Code :=
    firstCode [valueAlign e.1 e.2, addressCheck e.1, if !isLayer15 e.1 || 0x101F30 ≤ e.1 then .locked else .ok, offsetValueCode e.1 e.2]
  let entries := (firstKind (es.map (fun e => (one e, e.1)))).1
  if entries ≠ .ok then entries
  else
    let m := es.foldl (fun m e => writeFile m e.1 e.2) s.regs
    let fs := safeFailures s (fileRd m)
    match sortBy (fun a b => kindOrder a ≤ kindOrder b) (fs.map (·.1)) with
    | [] => .ok
    | c :: _ => c

/-- The payload of SAFE_LAYER_CHANGE (R168): layer 15, the code, and the content frame. -/
def safePayload (c : Code) (content : Nat) : Nat := payF (15 + 256 * c.num) content

/-- SAFE_LAYER_COMMIT (R142): the staged writes and the command's entries are submitted as one commit, or fail with their code. -/
def safeSubmit (es : List (Nat × Word)) (s : Device) : Device :=
  let all := s.cmp.safeStage ++ es
  let code := safeCode s all
  let s := { s with cmp := { s.cmp with safeStage := [] } }
  if code = .ok then ({ s with cmp := { s.cmp with safePending := s.cmp.safePending ++ [all] } }).answer .ok
  else ((s.send .safety [15, code.num]).raise Ev.SAFE_LAYER_CHANGE (safePayload code (frameAdd (nextPoint s) 1))).answer code

/-- The bytes of a safety-pair commit that its digest covers (R397): each entry's offset and value, four bytes each (PRESUMED, log 9). -/
def safeBytes (es : List (Nat × Word)) : List Byte := es.flatMap (fun e => leBytes 4 e.1 ++ leBytes 4 e.2.toNat)

/-- The safety pair's pending commits at a commit point (R142). -/
def safePoint (s : Device) : Device :=
  let l := s.cmp.safePending
  let s := { s with cmp := { s.cmp with safePending := [], safeDigest := crc32c (l.flatMap safeBytes) } }
  s.each l fun s es =>
    let code := safeCode s es
    if code = .ok then
      (s.each es (fun s e => s.setReg e.1 e.2)).raise Ev.SAFE_LAYER_CHANGE (safePayload .ok (frameAdd s.shw.frame 1))
    else (s.send .safety [15, code.num]).raise Ev.SAFE_LAYER_CHANGE (safePayload code (frameAdd s.shw.frame 1))

/-! ### Registers -/

/-- The CMP and CHK registers' own rules outside commits (R136, R161). -/
def cmpHandler (w : Who) (off : Nat) (v : Word) : Handler :=
  let h := plainHandler w off v
  if off = R.CMP_COEF_CTRL then coefHandler w v
  else if 0x120000 ≤ off && off < 0x121000 && (off % 0x40 = 0x24 || off % 0x40 = 0x28) then
    { h with effect := fun s => (storeWrite w off v s).setB (off - off % 0x40 + 0x2C) 1 false }
  else h

/-- The CHK_STATUS.COMPARED bits that a change of EXP_EN clears at a commit point (R161). -/
def chkAfterPoint (old : Nat → Word) (s : Device) : Device :=
  s.each (upto 64) fun s u =>
    if wbit (old (R.CHK_CTRL u)) 2 && !s.rb (R.CHK_CTRL u) 2 then s.setB (R.CHK_STATUS u) 1 false else s

/-- What CMP registers read as where they show live state (R163, R164). -/
def cmpView (s : Device) (off : Nat) : Option Word :=
  let n (k : Nat) : Option Word := some (BitVec.ofNat 32 k)
  if off = R.CMP_STATUS then
    n (s.cmp.front + 2 * b2n (s.pipe.any (fun c => !c.composed)) +
      sumL ((upto 4).map (fun k => b2n (s.cmp.valid.getD false k) * 2 ^ (k + 2))) + 256 * buffersUsed s.reg)
  else if 0x101000 ≤ off && off < 0x102000 then
    let l := (off - 0x101000) / 0x100
    let x := s.cmp.layers.getD {} l
    match off % 0x100 with
    | 0x30 =>
      n (b2n (lyrOn s.reg l) +
        2 * b2n ((upto 4).any (fun k => s.cmp.valid.getD false k && (bandRun s.reg k).contains l)) +
        4 * b2n x.missing + 256 * (if lyrOn s.reg l then lyrBuffers s.reg l else 0) + 65536 * x.missed)
    | 0x38 => n (scaleStep (lyrCropWH s.reg l).1 (lyrDstWH s.reg l).1)
    | 0x3C => n (scaleStep (lyrCropWH s.reg l).2 (lyrDstWH s.reg l).2)
    | _ => none
  else none

/-! ### The commands -/

/-- CMP_DONE (R145): the oldest composition in progress completes; none is in progress while a capture record is awaited (R395). -/
def execCmpDone (micros : Nat) (st : State) : Host.Outcome State Fault Refusal :=
  st.onDevice fun s =>
  .next (match s.pipe.find? (fun c => !c.composed) with
    | some c => if s.rdg.awaiting = some c.content then s else composeDone micros c s
    | none => s)

/-- CMP_LATE (R148): a composition is still running at CMP_DONE_LINE. -/
def execCmpLate (st : State) : Host.Outcome State Fault Refusal :=
  st.onDevice fun s =>
  .next (match s.pipe.find? (fun c => !c.composed) with
    | some c => (s.count R.CMP_LATE 1).raise Ev.CMP_LATE c.content
    | none => s)

/-- CHK_EXPECT_FRAME_LO or _HI written (R161). -/
def execChkExpectFrameWrite (w : Who) (off : Nat) (v : Word) (st : State) : Host.Outcome State Fault Refusal :=
  st.onDevice fun s =>
  onUnit (0x120000 ≤ off && off < 0x121000 && (off % 0x40 = 0x24 || off % 0x40 = 0x28))
    (regWrite s w off v (cmpHandler w off v))

/-- CMP_COEF_CTRL.LOAD written (R136). -/
def execCoefLoad (w : Who) (v : Word) (st : State) : Host.Outcome State Fault Refusal :=
  st.onDevice fun s =>
  .next (regWrite s w R.CMP_COEF_CTRL v (cmpHandler w R.CMP_COEF_CTRL v))

/-- SAFE_LAYER_COMMIT (R142). -/
def execSafeLayerCommit (entries : List (Nat × Word)) (st : State) : Host.Outcome State Fault Refusal :=
  st.onDevice fun s =>
  .next (safeSubmit entries s)

end Sys2Proof.Machine
end

