-- ==== Sys2Proof/Machine/Patch.lean ====
section
/-! DEFINITION. The tables that photometry, the batten outputs and the supplies share: the patch and the placement (R214 to R216), the map,
profiles, gains, trims and lattices (R171 to R186). -/

namespace Sys2Proof.Machine

/-- A table base register in 4 KiB units. -/
def base4k (rd : Nat → Word) (off : Nat) : Nat := 4096 * wfld (rd off) 21 0

/-! ### The patch and the placement -/

/-- A patch entry (R214). -/
structure Patch where
  uid    : Nat
  words  : Nat
  rgroup : Nat
  rail   : Bool
  fixed  : Bool
  chain  : Nat
  home   : Nat
deriving DecidableEq, Repr

/-- The patch entry of a fixture. -/
def patchOf (s : Device) (f : Nat) : Patch :=
  let bs := peek s (base4k s.reg R.BAT_PATCH_BASE + 16 * f) 16
  { uid := leAt bs 0 8, words := leAt bs 8 2 % 512, rgroup := leAt bs 10 2 % 4096, rail := (leAt bs 10 2).testBit 12,
    fixed := (leAt bs 10 2).testBit 13, chain := leAt bs 12 2 % 512, home := leAt bs 14 2 }

/-- The patched fixtures with their entries, in order: an entry with UID 0 is unused (R214). -/
def patched (s : Device) : List (Nat × Patch) :=
  (upto 131072).filterMap (fun f =>
    let p := patchOf s f
    if p.uid = 0 then none else some (f, p))

/-- A chain's state. -/
def Device.chain (s : Device) (c : Nat) : ChainState := s.bat.chains.getD {} c

/-- Replaces a chain's state. -/
def Device.setChain (s : Device) (c : Nat) (x : ChainState) : Device :=
  { s with bat := { s.bat with chains := s.bat.chains.setD {} c x } }

/-- A chain's mode: 0 HLK, 1 CSL, 2 DMX, 3 PWN1 (R252). -/
def chainMode (rd : Nat → Word) (c : Nat) : Nat := wfld (rd (R.BAT_CHn_CFG c)) 2 1

/-- Whether a chain is enabled. -/
def chainOn (rd : Nat → Word) (c : Nat) : Bool := wbit (rd (R.BAT_CHn_CFG c)) 0

/-- Where a fixture is placed, if it is (R214, R216): on a chain without IDENT readback a FIXED fixture lies at its CHAIN and HOME; one placed by
its ID stays placed while its chain is in the mode that found it, HLK, or DMX for an RDM UID. -/
def placeOf (s : Device) (f : Nat) : Option Place :=
  let p := patchOf s f
  if p.fixed && chainMode s.reg p.chain ≠ 0 then
    if p.uid = 0 then none else some { chain := p.chain, pos := p.home, moved := false }
  else (s.bat.places.find f).filter (fun q =>
    chainMode s.reg q.chain = 0 || (chainMode s.reg q.chain = 2 && p.uid / 2 ^ 48 = 0xFFFE))

/-! ### The map -/

/-- A map entry (R172). -/
structure MapEntry where
  sx      : Nat
  sy      : Nat
  sample  : Nat
  aw      : Nat
  ah      : Nat
  xfer    : Nat
  prim    : Nat
  zone    : Nat
  fixture : Nat
  profile : Nat
  ch      : Nat
  sensor  : Nat
  sensed  : Bool
  clean   : Bool
deriving DecidableEq, Repr

/-- The entry that four words spell. -/
def parseEntry (bs : List Byte) : MapEntry :=
  let w (i : Nat) : Nat := leAt bs (4 * i) 4
  { sx := fld (w 0) 19 0, aw := fld (w 0) 23 20 + 1, ah := fld (w 0) 27 24 + 1, sample := fld (w 0) 29 28,
    sy := fld (w 1) 19 0, xfer := fld (w 1) 21 20, prim := fld (w 1) 22 22, zone := fld (w 1) 29 24,
    fixture := fld (w 2) 16 0, profile := fld (w 2) 26 17, ch := fld (w 3) 8 0, sensor := fld (w 3) 18 9,
    sensed := (w 3).testBit 19,
    clean := fld (w 0) 31 30 = 0 && fld (w 1) 23 23 = 0 && fld (w 1) 31 30 = 0 && fld (w 2) 31 27 = 0 && fld (w 3) 31 20 = 0 }

/-- The first byte of a map entry (R171). -/
def mapAt (rd : Nat → Word) (bank i : Nat) : Nat := base4k rd R.PHO_MAP_BASE + bank * 0x8000000 + 16 * i

/-- The active map bank. -/
def mapBank (rd : Nat → Word) : Nat := wfld (rd R.PHO_MAP_CTRL) 4 4

/-- The entry count of a bank. -/
def mapCount (rd : Nat → Word) (bank : Nat) : Nat :=
  wfld (rd (if bank = 0 then R.PHO_MAP_COUNT0 else R.PHO_MAP_COUNT1)) 23 0

/-- A map entry as memory holds it. -/
def mapEntry (s : Device) (rd : Nat → Word) (bank i : Nat) : MapEntry := parseEntry (peek s (mapAt rd bank i) 16)

/-- The entries of a bank in order. -/
def mapEntries (s : Device) (rd : Nat → Word) (bank : Nat) : List MapEntry :=
  (upto (mapCount rd bank)).map (mapEntry s rd bank)

/-! ### Profiles -/

/-- A profile record (R180). -/
abbrev Profile := List Byte

/-- The first byte of a profile record (R179). -/
def profAt (rd : Nat → Word) (bank p : Nat) : Nat := base4k rd R.PHO_PROF_BASE + bank * 0x40000 + 256 * p

/-- The profile bank in effect. -/
def profBank (rd : Nat → Word) : Nat := wfld (rd R.PHO_PROF_CTRL) 0 0

/-- A profile record as memory holds it. -/
def profOf (s : Device) (rd : Nat → Word) (bank p : Nat) : Profile := peek s (profAt rd bank p) 256

/-- An unsigned 16-bit field of a record. -/
def u16 (r : Profile) (i : Nat) : Nat := leAt r i 2
/-- A signed 16-bit field of a record. -/
def s16 (r : Profile) (i : Nat) : Int := sext 16 (leAt r i 2)
/-- The emitter count. -/
def Profile.emitters (r : Profile) : Nat := leAt r 0 1
/-- The encoding: 0 LIN16, 1 LIN12, 2 LIN8, 3 DMX16. -/
def Profile.enc (r : Profile) : Nat := leAt r 1 1 % 4
/-- Bytes per emitter (R193). -/
def Profile.slotBytes (r : Profile) : Nat := if Profile.enc r = 2 then 1 else 2
/-- The output depth n (R193). -/
def Profile.depth (r : Profile) : Nat := if Profile.enc r = 1 then 12 else if Profile.enc r = 2 then 8 else 16
/-- Whether the profile's lattices are kept on chip. -/
def Profile.resident (r : Profile) : Bool := (leAt r 1 1).testBit 4
/-- A 16-bit field of emitter k's record (R181). -/
def emit16 (r : Profile) (k i : Nat) : Nat := leAt r (64 + 32 * k + i) 2
/-- A signed 16-bit field of emitter k's record. -/
def emitS16 (r : Profile) (k i : Nat) : Int := sext 16 (emit16 r k i)

/-- A footprint's first byte in the block and its length (R173). -/
def footprint (e : MapEntry) (r : Profile) : Nat × Nat :=
  ((if Profile.enc r < 2 then 2 * e.ch else e.ch), Profile.emitters r * Profile.slotBytes r)

/-- The code of a profile record (R179), its checks in the order of R520; bytes of a codeword that cannot be read are no evidence. -/
def profileCode (s : Device) (rd : Nat → Word) (bank p : Nat) : Code :=
  let r := profOf s rd bank p
  let n := Profile.emitters r
  let order := (upto n).map (fun j => leAt r (4 + j) 1)
  let zeros (i k : Nat) : Bool := leAt r i k = 0
  let good (i k : Nat) : Bool := !badRange s (profAt rd bank p + i) k
  let clear (i k : Nat) : Bool := !good i k || zeros i k
  let clean := (!good 1 1 || leAt r 1 1 < 32) && clear 2 2 && clear 10 2 && clear 60 4 && (upto 6).all (fun k => clear (64 + 32 * k + 26) 6)
  if !clean then .reserved
  else if good 0 1 && (n < 1 || 6 < n) then .range
  else if badRange s (profAt rd bank p) 256 then .check
  else if !((upto n).all (fun k => order.contains k)) then .conflict
  else .ok

/-- The first failing profile of a bank and its code (R179). -/
def profileBankCode (s : Device) (rd : Nat → Word) (bank : Nat) : Code × Nat :=
  match (upto 1024).find? (fun p => profileCode s rd bank p ≠ .ok) with
  | some p => (profileCode s rd bank p, p)
  | none => (.ok, 0)

/-! ### Gains, trims and lattices -/

/-- The first byte of a fixture's gain record (R186). -/
def gainAt (rd : Nat → Word) (bank f : Nat) : Nat := base4k rd R.PHO_GAIN_BASE + bank * 0x400000 + 32 * f
/-- The first byte of a point's trims (R186). -/
def trimAt (rd : Nat → Word) (bank p : Nat) : Nat := base4k rd R.PHO_TRIM_BASE + bank * 0x4000 + 16 * p
/-- The gain bank in effect. -/
def gainBank (rd : Nat → Word) : Nat := wfld (rd R.PHO_GAIN_CTRL) 0 0
/-- The trim bank in effect. -/
def trimBank (rd : Nat → Word) : Nat := wfld (rd R.PHO_GAIN_CTRL) 1 1

/-- The slot of a profile's lattice in effect (R182). -/
def latSlot (rd : Nat → Word) (p : Nat) : Nat := b2n (wbit (rd (R.PHO_LAT_SELj (p / 32))) (p % 32))

/-- The first byte of a lattice node (R182). -/
def latAt (rd : Nat → Word) (slot p node : Nat) : Nat :=
  base4k rd R.PHO_LAT_BASE + (slot * 1024 + p) * 81920 + 16 * node

/-! ### The pass time -/

/-- Running sums of the pass-time check (R202, R525): T_c in ns, M in bytes, the RESIDENT profiles and the last fixture. -/
structure PassSum where
  tc       : Nat := 2000
  bytes    : Nat := 0
  resident : List Nat := []
  fixture  : Option Nat := none
deriving DecidableEq, Repr

/-- Adds an entry's terms (R202, R525). -/
def PassSum.add (a : PassSum) (e : MapEntry) (r : Profile) : PassSum :=
  let area := e.sample = 2
  let res := Profile.resident r
  let fresh := res && !a.resident.contains e.profile
  { tc := a.tc + (if area then e.ah * cdiv e.aw 8 else 1),
    bytes := a.bytes + 16 + (if area then 8 * e.aw * e.ah else if e.sample = 1 then 32 else 8) + (if res then 0 else 64) +
      (footprint e r).2 + (if a.fixture = some e.fixture then 0 else 96) + (if fresh then 78608 else 0),
    resident := if fresh then e.profile :: a.resident else a.resident,
    fixture := some e.fixture }

/-- T_pho in units of 1/36 ns. -/
def PassSum.time36 (a : PassSum) : Nat := max (36 * a.tc) a.bytes

/-- Whether a pass time fits the frame period less 20 µs, with the capture wait of a pair (R202, R395). -/
def passFits (rd : Nat → Word) (m : Mode) (a : PassSum) : Bool :=
  (a.time36 + 36 * (20000 + pairWait rd)) * m.num ≤ 36 * m.frameNum

/-- The pass sums of a bank under a register file. -/
def passSum (s : Device) (rd : Nat → Word) (bank : Nat) : PassSum :=
  (mapEntries s rd bank).foldl (fun a e => a.add e (profOf s rd (profBank rd) e.profile)) {}

/-! ### Validation of a map bank -/

/-- What the validation of a map bank carries from entry to entry: the last fixture and CH, its footprint's end and profile, the pass
sums, and the first failure. -/
structure MapCheck where
  last : Option (Nat × Nat × Nat × Nat) := none
  sum  : PassSum := {}
  fail : Option (Code × Nat) := none
deriving DecidableEq, Repr

/-- The code of one entry, and the sums past it (R173, R525). -/
def mapEntryCode (s : Device) (rd : Nat → Word) (bank i : Nat) (a : MapCheck) : MapCheck :=
  match a.fail with
  | some _ => a
  | none =>
    let e := mapEntry s rd bank i
    let r := profOf s rd (profBank rd) e.profile
    let (at_, n) := footprint e r
    let p := patchOf s e.fixture
    let sum := a.sum.add e r
    let same : Option (Nat × Nat × Nat) := match a.last with
      | some (f, c, en, pr) => if f = e.fixture then some (c, en, pr) else none
      | none => none
    let disorder : Bool := match a.last with
      | some (f, c, _, _) => decide (e.fixture < f || (e.fixture = f && e.ch ≤ c))
      | none => false
    let clash : Bool := match same with
      | some (_, en, pr) => decide (at_ < en || pr ≠ e.profile)
      | none => false
    let code : Code :=
      if badRange s (mapAt rd bank i) 16 then .check
      else if !e.clean || e.sample = 3 then .reserved
      else if disorder || clash || p.uid = 0 then .conflict
      else if 2 * p.words < at_ + n || !passFits rd (modeOf rd) sum || 48 < sum.resident.length then .capacity
      else .ok
    if code = .ok then { last := some (e.fixture, e.ch, at_ + n, e.profile), sum := sum, fail := none }
    else { a with fail := some (code, i) }

/-- The first failure of a map bank: its code and entry (R173). -/
def mapBankCode (s : Device) (rd : Nat → Word) (bank : Nat) : Option (Code × Nat) :=
  ((upto (mapCount rd bank)).foldl (fun a i => mapEntryCode s rd bank i a) {}).fail

/-- Stores PHO_TBL_STATUS (R208). The fields [25:23] and [31:24] that R208 gives overlap: the code lies from bit 26 up. DESIGN CHOICE (log 13). -/
def setTblStatus (table index : Nat) (c : Code) (s : Device) : Device :=
  s.setN R.PHO_TBL_STATUS (index % 2 ^ 23 + 2 ^ 23 * table + 2 ^ 26 * c.num)

end Sys2Proof.Machine
end

