-- ==== Sys2Proof/Machine/Lattice.lean ====
section
/-! DEFINITION. The least-power solve lattices that the runtime builds (R184, R185), exactly: the linear programs are solved over the rationals
by going through the vertices. -/

namespace Sys2Proof.Machine

/-! ### Linear programs -/

/-- The one combination of independent columns that gives a right side, if there is one: a row holds the coefficients of `n` unknowns, then
the right side. -/
def solveRows : Nat → List (List Rat) → Option (List Rat)
  | 0, rows => if rows.all (fun r => r.all (fun v => v = 0)) then some [] else none
  | n + 1, rows => do
    let pivot ← rows.find? (fun r => r.headD 0 ≠ 0)
    let unit := pivot.map (fun v => v / pivot.headD 1)
    let below := rows.map (fun r => (r.zipWith (fun a b => a - r.headD 0 * b) unit).tail)
    let rest ← solveRows n below
    some ((unit.getLastD 0 - ((unit.tail.zipWith (fun a b => a * b) rest).foldl (fun a b => a + b) 0)) :: rest)

/-- A column of a linear program: its three coefficients and the upper bound of its variable, if it has one; the lower bound is 0. -/
abbrev Column := List Rat × Option Rat

/-- The ways to set each variable to a bound or leave it to the equations. -/
def boundSets : List Column → List (List (Option Rat))
  | [] => [[]]
  | c :: cs => (boundSets cs).flatMap (fun l => (none :: l) :: (some 0 :: l) :: (match c.2 with
    | some u => [some u :: l]
    | none => []))

/-- Puts the solved values in the places left open. -/
def fillOpen : List (Option Rat) → List Rat → List Rat
  | [], _ => []
  | some v :: l, x => v :: fillOpen l x
  | none :: l, x => x.headD 0 :: fillOpen l x.tail

/-- The vertex that a way of setting variables gives, if it gives one within the bounds. -/
def vertexAt (cols : List Column) (rhs : List Rat) (set : List (Option Rat)) : Option (List Rat) :=
  let pairs := cols.zip set
  let open_ := (pairs.filter (fun p => p.2.isNone)).map (·.1.1)
  let row (i : Nat) : List Rat :=
    open_.map (fun c => c.getD i 0) ++ [pairs.foldl (fun (a : Rat) p => a - p.1.1.getD i 0 * p.2.getD 0) (rhs.getD i 0)]
  if 3 < open_.length then none
  else match solveRows open_.length ((upto 3).map row) with
    | none => none
    | some x =>
      let v := fillOpen set x
      let within := (cols.zip v).all (fun p => decide (0 ≤ p.2) && (match p.1.2 with
        | some u => decide (p.2 ≤ u)
        | none => true))
      if within then some v else none

/-- The vertices of the solutions of a linear program. -/
def vertices (cols : List Column) (rhs : List Rat) : List (List Rat) := ((boundSets cols).filterMap (vertexAt cols rhs)).eraseDups

/-- The least of a list of numbers. -/
def leastOf (l : List Rat) : Option Rat :=
  l.foldl (fun (a : Option Rat) v => match a with
    | some b => some (if v < b then v else b)
    | none => some v) none

/-! ### One node -/

/-- An emitter at full drive: its flux and colour, and its power in a unit common to all (R184). -/
structure FullDrive where
  colour : List Rat
  power  : Rat
deriving DecidableEq, Repr

/-- The flux of an emitter at full drive, at a temperature in 1/16 K and with a remaining flux fraction (R184). -/
def fullFlux (r : Profile) (k : Nat) (t left : Rat) : Rat :=
  (leAt r (64 + 32 * k + 4) 4 : Rat) * (1 + (emitS16 r k 16 : Rat) / 65536 * (t / 16 - 25)) * left

/-- The power of an emitter at full drive in units of 0.1 nW, at a temperature in 1/16 K (R184, R190). -/
def fullPower (r : Profile) (k : Nat) (t : Rat) : Rat :=
  (emit16 r k 8 : Rat) * (1000 * ((emit16 r k 10 : Rat) + emit16 r k 24) + (emit16 r k 12 : Rat) * emit16 r k 8 / 10 +
    (emitS16 r k 14 : Rat) * (t / 16 - 25))

/-- The emitters of a profile at full drive (R184); `left` gives the remaining flux fractions. -/
def fullDrives (r : Profile) (t : Rat) (left : Nat → Rat) : List FullDrive :=
  (upto (Profile.emitters r)).map (fun k =>
    let f := fullFlux r k t (left k)
    let x : Rat := emit16 r k 0
    let y : Rat := emit16 r k 2
    { colour := [f * x / y, f, f * (65536 - x - y) / y], power := fullPower r k t })

/-- D65 at Y = 1. PRESUMED (log 64): the chromaticity (0.3127, 0.3290). -/
def whiteD65 : List Rat := [3127 / 3290, 1, 3583 / 3290]

/-- A combination of two colours. -/
def mixColours (a : Rat) (u : List Rat) (b : Rat) (v : List Rat) : List Rat := u.zipWith (fun x y => a * x + b * y) v

/-- Step 4 of R184: the drives of least power that give a target, none where no drives give it. Where several mixes are the cheapest, the
procedure names none of them: `weight` combines them. -/
def leastMix (ems : List FullDrive) (weight : Nat → Nat) (target : List Rat) : Option (List Rat) :=
  let power (d : List Rat) : Rat := (d.zipWith (fun a (e : FullDrive) => a * e.power) ems).foldl (fun a b => a + b) 0
  let all := vertices (ems.map (fun e => (e.colour, some 1))) target
  match leastOf (all.map power) with
  | none => none
  | some p =>
    let best := (all.filter (fun d => power d = p)).zipIdx
    let w (i : Nat) : Nat := if best.all (fun q => weight q.2 = 0) then 1 else weight i
    let total : Rat := (sumL (best.map (fun q => w q.2)) : Nat)
    some ((upto ems.length).map (fun k => best.foldl (fun (a : Rat) q => a + (w q.2 : Rat) * q.1.getD k 0 / total) 0))

/-- Steps 4 and 5 of R184: the drives of a node, and whether its target was moved into the gamut. DEDUCED (log 62): CLIP stands for a target that
either part of step 5 moved; where not even white lies in the gamut, a is 1. -/
def nodeMix (ems : List FullDrive) (weight : Nat → Nat) (target : List Rat) : List Rat × Bool :=
  match leastMix ems weight target with
  | some d => (d, false)
  | none =>
    let white := whiteD65.map (fun v => target.getD 1 0 * v)
    let toWhite := vertices (ems.map (fun e => (e.colour, none)) ++ [(mixColours 1 target (-1) white, some 1)]) target
    let a := (leastOf (toWhite.map (fun v => v.getLastD 1))).getD 1
    let moved := mixColours (1 - a) target a white
    match leastMix ems weight moved with
    | some d => (d, true)
    | none =>
      let scaled := vertices (ems.map (fun e => (e.colour, some 1)) ++ [(moved.map (fun v => -v), some 1)]) [0, 0, 0]
      let b := -((leastOf (scaled.map (fun v => -(v.getLastD 0)))).getD 0)
      ((leastMix ems weight (moved.map (fun v => b * v))).getD (ems.map (fun _ => 0)), true)

/-- Step 1 of R184: the target of a node. -/
def nodeTarget (r : Profile) (node : Nat) : List Rat :=
  let part (i : Nat) (w : Rat) : Rat := (leAt r 24 4 : Rat) * i / 16 * w
  [part (node % 17) (3127 / 3290), part (node / 17 % 17) 1, part (node / 289) (3583 / 3290)]

/-- Step 6 of R184: a drive as it is stored. -/
def storedDrive (d : Rat) : Nat := (d * 65535 + 1 / 2).floor.toNat

/-- The 16 bytes of a lattice node (R182, R184). Where an emitter has CY = 0 no rule states a mix and the bytes are free values. -/
def nodeBytes (free p node : Nat) (r : Profile) (t : Rat) (left : Nat → Rat) : List Byte :=
  if (upto (Profile.emitters r)).any (fun k => emit16 r k 2 = 0) then
    (upto 16).map (fun i => if i < 12 then Config.lattice free p (16 * node + i)
      else if i = 12 then Config.lattice free p (16 * node + i) &&& 1#8 else 0)
  else
    let m := nodeMix (fullDrives r t left) (Config.mixWeight free (p * 4913 + node)) (nodeTarget r node)
    (upto 6).flatMap (fun k => leBytes 2 (storedDrive (m.1.getD k 0))) ++ [if m.2 then 1 else 0, 0, 0, 0]

/-- The bytes of a lattice slot that the runtime builds (R184). -/
def builtLattice (free p : Nat) (r : Profile) (t : Rat) (left : Nat → Rat) : List Byte :=
  (upto 4913).flatMap (fun node => nodeBytes free p node r t left)

/-! ### Planning temperatures and efficacies -/

/-- The mean temperature of a profile's fixtures over the last 10 s, in 1/16 K (R185); while none is known, a free value. DEDUCED (log 62): it is
also the planning temperature of R184. -/
def planningTemp (s : Device) (p : Nat) : Rat :=
  let l := s.pho.warmth.getD [] p
  let n := sumL (l.map (fun x => x.2.2))
  if n = 0 then (Config.planTemp p : Rat) else ((l.foldl (fun (a : Int) x => a + x.2.1) 0 : Int) : Rat) / (n : Nat)

/-- The ageing estimate of a profile's emitter, as a flux fraction (R184, R185): what the last re-plan left, 1 before the first (log 62). -/
def ageEstimate (s : Device) (p k : Nat) : Rat :=
  match s.pho.aged.find p with
  | some l => ((l.getD k 0 : Int) : Rat) / (2 ^ 192 : Nat)
  | none => 1

/-- The efficacy of an emitter (R185), flux over power in a unit common to all. -/
def efficacy (r : Profile) (k : Nat) (t left : Rat) : Rat := fullFlux r k t left / fullPower r k t

/-- The efficacies that the slot in effect of a profile was built with (R185). -/
def builtWith (s : Device) (p k : Nat) : Rat :=
  let key := latSlot s.reg p * 1024 + p
  match s.pho.built.find key with
  | some l => l.getD k 0
  | none => Config.builtEfficacy key k

/-- Whether the efficacy of some emitter differs from that by more than REBUILD_THRESH (R185). -/
def efficacyMoved (s : Device) (p : Nat) (r : Profile) : Bool :=
  let t := planningTemp s p
  (upto (Profile.emitters r)).any (fun k =>
    let was := builtWith s p k
    let d := efficacy r k t (ageEstimate s p k) - was
    decide ((s.rf R.PHO_REPLAN_CFG 23 16 : Rat) * was < 1000 * (if d < 0 then -d else d)))

/-- Builds the inactive slot of a profile (R185), with what it was built with. -/
def buildSlot (p : Nat) (r : Profile) (t : Rat) (left : Nat → Rat) (s : Device) : Device :=
  let slot := 1 - latSlot s.reg p
  let s := memStore .pho (latAt s.reg slot p 0) (builtLattice s.free p r t left) s
  { s with pho := { s.pho with built := s.pho.built.put (slot * 1024 + p) ((upto (Profile.emitters r)).map (fun k => efficacy r k t (left k))) } }

/-- Whether a profile was swapped in the last second (R185). -/
def swappedLately (s : Device) (p : Nat) : Bool :=
  match s.pho.swapped.find p with
  | some t => decide (s.clock < t + 1000000000)
  | none => false

/-- The entry of a commit group that turns a profile to its other slot (R182). -/
def turnSlot (s : Device) (p : Nat) : Nat × Word × Word :=
  let bit : Word := BitVec.ofNat 32 (2 ^ (p % 32))
  (R.PHO_LAT_SELj (p / 32), bit, ~~~(s.reg (R.PHO_LAT_SELj (p / 32))) &&& bit)

/-- The temperatures that a pass used, added to those of the last 10 s (R185). -/
def addWarmth (l : List (Nat × Int)) (s : Device) : Device :=
  let recent (old : List (Nat × Int × Nat)) : List (Nat × Int × Nat) := old.filter (fun x => s.clock ≤ x.1 + 10000000000)
  let ps := (l.map (·.1)).eraseDups
  let add (t : Table (List (Nat × Int × Nat))) (p : Nat) : Table (List (Nat × Int × Nat)) :=
    let mine := l.filter (fun x => x.1 = p)
    t.put p ((s.clock, mine.foldl (fun (a : Int) x => a + x.2) 0, mine.length) :: recent (t.getD [] p))
  { s with pho := { s.pho with warmth := ps.foldl add (s.pho.warmth.map (fun x => (x.1, recent x.2))) } }

end Sys2Proof.Machine
end

