-- ==== Sys2Proof/Machine/Photometry.lean ====
section
/-! DEFINITION. Pixel mapping and photometry (R169 to R210, R525): the pass over the map, the map swap, ageing, the re-plan, the light
sensors and their registers. The pass of a content frame runs as one whole when its PHO_DONE command comes. -/

namespace Sys2Proof.Machine

/-- The content frame of the present moment (R32, R210): the one last captured. -/
def contentNow (s : Device) : Nat := frameAdd s.shw.frame (-1)

/-! ### Sampling -/

/-- One canvas pixel as the mapper reads it, replaced under R155: R, G, B and SAFE. -/
def mapPixel (c : FrameCtx) (x y : Nat) (s : Device) : Device × (List Nat × Bool) :=
  let at_ (k : Nat) : Nat := canvasAt c.rd c.buf k y
  let s := (memRead .pho (at_ x) 8 s).1
  let bad := badRange s (at_ x) 8
  let s := if bad then noteParityRow c.content 0 y x [true] 0 s else s
  match ((upto (x + 1)).reverse).find? (fun k => !badRange s (at_ k) 8) with
  | some k =>
    let bs := peek s (at_ k) 8
    (s, ([leAt bs 0 2, leAt bs 2 2, leAt bs 4 2], (leAt bs 6 2).testBit 0))
  | none => (s, (backPx c.rd, false))

/-- The pixels a sample reads, with their weights (R175). -/
def sampleAt (e : MapEntry) : List (Nat × Int × Int) :=
  match e.sample with
  | 1 =>
    let xs : Int := (e.sx : Int) - 32
    let ys : Int := (e.sy : Int) - 32
    let i := xs / 64
    let j := ys / 64
    let fx := (xs % 64).toNat
    let fy := (ys % 64).toNat
    [((64 - fy) * (64 - fx), i, j), ((64 - fy) * fx, i + 1, j), (fy * (64 - fx), i, j + 1), (fy * fx, i + 1, j + 1)]
  | 2 => (upto e.ah).flatMap (fun dy => (upto e.aw).map (fun dx =>
      (1, ((e.sx / 64 + dx : Nat) : Int), ((e.sy / 64 + dy : Nat) : Int))))
  | _ => [(1, ((e.sx / 64 : Nat) : Int), ((e.sy / 64 : Nat) : Int))]

/-- Step 1: the sampled components and the SAFE flag (R175, R176). -/
def sampleStep (c : FrameCtx) (e : MapEntry) (s : Device) : Device × (List Nat × Bool) :=
  let (w, h) := canvasSize c.rd
  let go := fun (acc : Device × List Nat × Bool) (p : Nat × Int × Int) =>
    let (s, sum, safe) := acc
    let (s, px, sf) := mapPixel c (clampPos w p.2.1) (clampPos h p.2.2) s
    (s, sum.zipWith (fun a b => a + p.1 * b) px, safe || (sf && 0 < p.1))
  let (s, sum, safe) := (sampleAt e).foldl go (s, [0, 0, 0], false)
  let fin (v : Nat) : Nat := match e.sample with
    | 1 => (v + 2048) / 4096
    | 2 => (v + e.aw * e.ah / 2) / (e.aw * e.ah)
    | _ => v
  (s, (sum.map fin, safe))

/-! ### Input transfer, primaries and solve -/

/-- The matrix of R178 for an entry's primaries. -/
def primRows (prim : Nat) : List (List Nat) :=
  if prim = 0 then [[28435, 24656, 12445], [13936, 46869, 4731], [1163, 7173, 57200]]
  else [[43919, 9972, 11645], [17216, 44433, 3887], [0, 1689, 63847]]

/-- One row of the matrix applied (R177, R178). -/
def rowOf (m px : List Nat) : Nat := (sumL (m.zipWith (· * ·) px) + 32768) / 65536

/-- Step 2 (R177). -/
def transferStep (rd : Nat → Word) (e : MapEntry) (px : List Nat) : List Nat :=
  let scale (k : Nat) : List Nat := px.map (fun v => min 65535 ((v * k + 32768) / 65536))
  match e.xfer with
  | 2 => scale (rdiv (65536 * wfld (rd R.CMP_PQ_PEAK) 13 0) (wfld (rd R.PHO_REF_WHITE) 13 0))
  | 3 => scale (ootfG (rowOf ((primRows e.prim).getD 1 []) px / 16))
  | _ => px

/-- Step 3 (R178): the lattice coordinates. -/
def coordStep (e : MapEntry) (px : List Nat) : List Nat :=
  (primRows e.prim).map (fun m => let t := rowOf m px
                                  t + t / 32768)

/-- The four nodes of a lattice cell and their weights (R183). -/
def latNodes (q : List Nat) : List (Nat × Nat) :=
  let i := q.map (fun v => min (v / 4096) 15)
  let f := (q.zip i).map (fun p => p.1 - 4096 * p.2)
  let axes := sortBy (fun a b => f.getD b 0 < f.getD a 0 || (f.getD a 0 = f.getD b 0 && a ≤ b)) [0, 1, 2]
  let unit := [1, 17, 289]
  let base := i.getD 0 0 + 17 * i.getD 1 0 + 289 * i.getD 2 0
  let f1 := f.getD (axes.getD 0 0) 0
  let f2 := f.getD (axes.getD 1 0) 0
  let f3 := f.getD (axes.getD 2 0) 0
  let c1 := base + unit.getD (axes.getD 0 0) 0
  let c2 := c1 + unit.getD (axes.getD 1 0) 0
  [(4096 - f1, base), (f1 - f2, c1), (f2 - f3, c2), (f3, base + 307)]

/-! ### Temperatures and derating -/

/-- The temperature of a fixture at the capture of a content frame (R188), and whether it is the default that replaces it. -/
def fixtureTemp (c : FrameCtx) (r : Profile) (f : Nat) : Int × Bool :=
  match (c.temps.find f).filter (·.temp) with
  | some x =>
    if frameDiff (c.content + 1) x.frame ≤ 4 * (wfld (c.rd R.BAT_RB_CFG) 6 0 : Nat) then (s16 x.record 2, false)
    else (s16 r 18, true)
  | none => (s16 r 18, true)

/-- The derating factor (R189). -/
def derateFactor (rd : Nat → Word) (r : Profile) (td : Int) : Nat :=
  let knee := s16 r 12
  if !wbit (rd R.PHO_CTRL) 1 || td ≤ knee then 65536
  else (max ((u16 r 16 : Nat) : Int) (65536 - ((u16 r 14 : Nat) : Int) * (td - knee) / 16)).toNat

/-- A fixture's temperature, derating temperature and factor in a pass (R188, R189). -/
def fixturePass (c : FrameCtx) (r : Profile) (f : Nat) (s : Device) : Device × Int × Nat :=
  let (t, stale) := fixtureTemp c r f
  let was := s.pho.stale.getD false f
  let s := s.when stale (fun s => s.count R.PHO_TEMP_STALE 1)
  let s := s.raiseIf (stale && !was) Ev.TEMP_STALE (payEntry f c.content)
  let td := (s.pho.td.find f).getD (s16 r 18)
  let td := if td < t then t else if t < td - 32 then t + 32 else td
  let s := { s with pho := { s.pho with stale := s.pho.stale.setD false f stale, td := s.pho.td.put f td } }
  (s, t, derateFactor c.rd r td)

/-! ### The electrical model -/

/-- Vf of emitter k at the drive a24 / 2^24, in units of 1 / (160 · 2^24) µV (R190). -/
def vfNum (r : Profile) (k a24 : Nat) (t : Int) : Int :=
  ((1000 * (emit16 r k 10 + emit16 r k 24) * 160 * 2 ^ 24 + 16 * emit16 r k 12 * a24 * emit16 r k 8 : Nat) : Int) +
    10 * emitS16 r k 14 * (t - 400) * 2 ^ 24

/-- The drive at which Vf is taken: the level, or full drive under pulse-width dimming (R190). -/
def vfDrive (r : Profile) (v : Nat) : Nat := if (leAt r 1 1).testBit 3 then 2 ^ 24 else v

/-- Electrical power of emitter k at level v, in units of 1 / (2^48 · 160 · 10^7) mW (R190). -/
def powerNum (r : Profile) (k v : Nat) (t : Int) : Int :=
  ((v * emit16 r k 8 : Nat) : Int) * vfNum r k (vfDrive r v) t

/-- The power unit of `powerNum` in a milliwatt. -/
def powerDen : Int := 2 ^ 48 * 160 * 10000000

/-! ### One entry -/

/-- What a pass makes of a map entry: levels after steps 6 and 7, the bytes written, and what it counts. -/
structure EntryOut where
  entry : MapEntry
  prof  : Profile
  temp  : Int
  safe  : Bool := false
  v6    : List Nat := []
  v7    : List Nat := []
  bytes : List Byte := []
  gamut : Bool := false
  clips : Nat := 0
  error : Option Nat := none
deriving DecidableEq, Repr

/-- Step 5 for one emitter (R187): the level after CAL, AGE and TRIM and whether it was clamped. -/
def gainStep (d cal age trim : Nat) : Nat × Bool :=
  let one (p : Nat × Bool) (g : Nat) : Nat × Bool :=
    let v := (p.1 * g + 8192) / 16384
    if 16777215 < v then (16777215, true) else (v, p.2)
  one (one (one (d * 256 + d / 256, false) cal) age) trim

/-- The dither remainder of R192. -/
def ditherRem (frame i k n : Nat) : Nat :=
  let m := 2 ^ 32
  let h := (frame % m * 0x9E3779B1 + i * 0x85EBCA77 + k * 0x27D4EB2F) % m
  let h := h ^^^ (h >>> 15)
  let h := h * 0x2C1B3C6D % m
  let h := h ^^^ (h >>> 12)
  h >>> (8 + n)

/-- Step 8 (R192). -/
def codeStep (dither : Bool) (frame i k n v : Nat) : Nat :=
  let r := if dither then ditherRem frame i k n else 2 ^ (23 - n)
  min (2 ^ n - 1) ((v + r) >>> (24 - n))

/-- The bytes of one output slot (R193): words least significant byte first, DMX16 coarse then fine. -/
def slotCode (enc v : Nat) : List Byte :=
  if enc = 2 then leBytes 1 v else if enc = 3 then beBytes 2 v else leBytes 2 v

/-- Step 9: the bytes of a pixel in CH_ORDER (R193). -/
def pixelCodes (r : Profile) (codes : List Nat) : List Byte :=
  (upto (Profile.emitters r)).flatMap (fun j => slotCode (Profile.enc r) (codes.getD (leAt r (4 + j) 1) 0))

/-- One map entry through steps 1 to 9 (R169); a poisoned table entry gives codes of 0 (R206). -/
def passEntry (c : FrameCtx) (i : Nat) (t : Int) (dr : Nat) (s : Device) : Device × EntryOut :=
  let rd := c.rd
  let bank := mapBank rd
  let (s, rm) := memRead .pho (mapAt rd bank i) 16 s
  let e := parseEntry rm.data
  let (s, rp) := memRead .pho (profAt rd (profBank rd) e.profile) 256 s
  let r : Profile := rp.data
  let n := Profile.emitters r
  let (s, px, safe) := sampleStep c e s
  let q := coordStep e (transferStep rd e px)
  let slot := latSlot rd e.profile
  let nodes := latNodes q
  let go := fun (acc : Device × List (Nat × List Byte) × Bool) (p : Nat × Nat) =>
    let (s, l, bad) := acc
    let (s, x) := memRead .pho (latAt rd slot e.profile p.2) 16 s
    (s, l ++ [(p.1, x.data)], bad || !x.good || (Profile.resident r && s.pho.badNodes.getD false (e.profile * 4913 + p.2)))
  let (s, ns, latBad) := nodes.foldl go (s, [], false)
  let (s, rg) := memRead .pho (gainAt rd (gainBank rd) e.fixture) 32 s
  let trims := e.sensed && wbit (rd R.PHO_CTRL) 3
  let (s, rt) := if trims then memRead .pho (trimAt rd (trimBank rd) e.sensor) 16 s else (s, { data := [] })
  let error : Option Nat :=
    if !rm.good then some 0 else if !rp.good then some 1 else if latBad then some 5 else if !rg.good then some 2
    else if !rt.good then some 3 else none
  let d (k : Nat) : Nat := (sumL (ns.map (fun p => p.1 * leAt p.2 (2 * k) 2)) + 2048) / 4096
  let ageOn := wbit (rd R.PHO_CTRL) 2
  let gained := (upto n).map (fun k => gainStep (d k) (leAt rg.data (2 * k) 2)
    (if ageOn then leAt rg.data (12 + 2 * k) 2 else 0x4000) (if trims then leAt rt.data (2 * k) 2 else 0x4000))
  let v6 := gained.map (fun p => (p.1 * dr + 32768) / 65536)
  let scale := c.scales.getD 65536 e.zone
  let v7 := if safe || !wbit (rd R.PHO_CTRL) 4 then v6 else v6.map (fun v => (v * scale + 32768) / 65536)
  let codes := v7.zipIdx.map (fun p => codeStep ((leAt r 1 1).testBit 2) c.content i p.2 (Profile.depth r) p.1)
  match error with
  | some tb =>
    let s := ((s.count R.PHO_READ_ERR 1).raise Ev.PHO_READ_ERR (payEntry i c.content))
    let zero := List.replicate n 0
    (setTblStatus tb i .check s,
      { entry := e, prof := r, temp := t, v6 := zero, v7 := zero, bytes := pixelCodes r zero, error := some tb })
  | none =>
    (s, { entry := e, prof := r, temp := t, safe := safe, v6 := v6, v7 := v7, bytes := pixelCodes r codes,
          gamut := ns.any (fun p => (leAt p.2 12 1).testBit 0), clips := (gained.filter (·.2)).length })

/-! ### The pass -/

/-- The fixtures of a map with their profiles, in map order. -/
def mapFixtures (es : List MapEntry) : List (Nat × Nat) :=
  (es.foldl (fun (a : List (Nat × Nat)) e =>
    match a with
    | (f, _) :: _ => if f = e.fixture then a else (e.fixture, e.profile) :: a
    | [] => [(e.fixture, e.profile)]) []).reverse

/-- The temperatures and factors of a pass (R188, R189). -/
def passFixtures (c : FrameCtx) (es : List MapEntry) (s : Device) : Device × Table (Int × Nat) :=
  (mapFixtures es).foldl (fun (acc : Device × Table (Int × Nat)) p =>
    let (s, t) := acc
    let (s, x) := fixturePass c (profOf s c.rd (profBank c.rd) p.2) p.1 s
    (s, t.put p.1 x)) (s, [])

/-- Every entry of the active map through the pipeline. -/
def passEntries (c : FrameCtx) (s : Device) : Device × List EntryOut × Table (Int × Nat) :=
  let bank := mapBank c.rd
  let es := mapEntries s c.rd bank
  let (s, temps) := passFixtures c es s
  let (s, outs) := (es.zipIdx).foldl (fun (acc : Device × List EntryOut) p =>
    let (s, l) := acc
    let x := temps.getD (0, 65536) p.1.fixture
    let (s, o) := passEntry c p.2 x.1 x.2 s
    (s, o :: l)) (s, [])
  (s, outs.reverse, temps)

/-- Writes bytes into a block. -/
def putBytes (l : List Byte) (i : Nat) (p : List Byte) : List Byte := (l.take i ++ p ++ l.drop (i + p.length)).take l.length

/-- The output blocks of a pass by fixture: whether of 16-bit words, and the bytes; words no entry covers hold 0 (log 14). -/
def passBlocks (s : Device) (outs : List EntryOut) : Table (Bool × List Byte) :=
  outs.foldl (fun (t : Table (Bool × List Byte)) o =>
    let f := o.entry.fixture
    let old := match t.find f with
      | some x => x.2
      | none => List.replicate (2 * (patchOf s f).words) 0
    t.put f (Profile.enc o.prof < 2, putBytes old (footprint o.entry o.prof).1 o.bytes)) []

/-- The levels of each fixture's entries after step 7 (R191, R200). -/
def passLevels (outs : List EntryOut) : Table (List (List Nat)) :=
  outs.foldl (fun (t : Table (List (List Nat))) o => t.put o.entry.fixture (t.getD [] o.entry.fixture ++ [o.v7])) []

/-- The bytes of the last pixel of each fixture. -/
def passPixels (outs : List EntryOut) : Table (List Byte) :=
  outs.foldl (fun (t : Table (List Byte)) o => t.put o.entry.fixture o.bytes) []

/-- A zone's predicted power after step 6 in mW, of SAFE or of other samples (R190). -/
def zonePower (outs : List EntryOut) (z : Nat) (safe : Bool) : Nat :=
  let sum := (outs.filter (fun o => o.entry.zone = z && o.safe = safe)).foldl (fun (a : Int) o =>
    (o.v6.zipIdx).foldl (fun a p => a + powerNum o.prof p.2 p.1 o.temp) a) 0
  (sum / powerDen).toNat

/-- The key of a fixture's emitter. -/
def ageKey (f k : Nat) : Nat := 6 * f + k

/-- The means that a pass adds to the working sums: each emitter's level after step 7 over the fixture's entries (R194). -/
def ageAdds (outs : List EntryOut) : Table Nat :=
  let fs := mapFixtures (outs.map (·.entry))
  fs.foldl (fun (t : Table Nat) p =>
    let mine := outs.filter (fun o => o.entry.fixture = p.1)
    let n := maxL (mine.map (fun o => o.v7.length))
    (upto n).foldl (fun t k => t.setD 0 (ageKey p.1 k) (sumL (mine.map (fun o => o.v7.getD k 0)) / mine.length)) t) []

/-- Adds to the working sums, modulo 2^32. -/
def addAge (adds : Table Nat) (s : Device) : Device :=
  let w := adds.foldl (fun (t : Table Nat) p => t.setD 0 p.1 ((t.getD 0 p.1 + p.2) % 2 ^ 32)) s.pho.ageW
  { s with pho := { s.pho with ageW := w, lastAdd := adds } }

/-- The ageing factor at a temperature, times 160 (R194): AFACT interpolated, clamped at the ends. -/
def ageFactor (r : Profile) (t : Int) : Nat :=
  let x := (clampI 0 2400 (t + 320)).toNat
  let j := x / 160
  let a := leAt r (28 + 2 * j) 2
  let b := leAt r (28 + 2 * (min (j + 1) 15)) 2
  a * (160 - x % 160) + b * (x % 160)

/-- An accumulator's place in memory (R194). -/
def accAt (s : Device) (key : Nat) : Nat := base4k s.reg R.PHO_AGE_BASE + 8 * key

/-- The fold of R194 at the end of each pass with F mod 64 = 63. -/
def foldAge (c : FrameCtx) (outs : List EntryOut) (s : Device) : Device :=
  if c.content % 64 ≠ 63 then s
  else
    let m := modeOf c.rd
    let one (s : Device) (o : EntryOut) : Device :=
      s.each (upto (Profile.emitters o.prof)) fun s k =>
        let key := ageKey o.entry.fixture k
        let w := s.pho.ageW.getD 0 key
        if w = 0 then s
        else
          let add := w * emit16 o.prof k 8 * ageFactor o.prof o.temp * m.frameNum / (160 * m.num * 2 ^ 36 * 10000)
          let (s, x) := memRead .pho (accAt s key) 8 s
          let s := if x.good then memStore .pho (accAt s key) (leBytes 8 ((leAt x.data 0 8 + add) % 2 ^ 64)) s else s
          { s with pho := { s.pho with ageW := s.pho.ageW.del key } }
    s.each outs one

/-- The counters and results of a pass (R183, R187, R189, R190, R202). -/
def publishPass (micros : Nat) (c : FrameCtx) (outs : List EntryOut) (temps : Table (Int × Nat)) (s : Device) : Device :=
  let clips := sumL (outs.map (·.clips))
  let s := s.count R.PHO_GAMUT_CLIP (outs.filter (·.gamut)).length
  let s := s.when (0 < clips) fun s =>
    (s.count R.PHO_GAIN_CLIP clips).raiseIf (s.rn R.PHO_GAIN_CLIP = 0) Ev.GAIN_CLIP c.content
  let derated := (temps.filter (fun p => p.2.2 < 65536)).length
  let was := s.rn R.PHO_DERATED
  let s := (s.setN R.PHO_DERATED derated).raiseIf ((was = 0) ≠ (derated = 0)) Ev.DERATE_CHANGE (payEntry derated c.content)
  let s := s.each (upto 64) fun s z =>
    (s.setN (R.PHO_ZONE_PRED_z z) (zonePower outs z false)).setN (R.PHO_ZONE_SAFE_z z) (zonePower outs z true)
  let s := s.set64 R.PHO_ZONE_FRAME_LO R.PHO_ZONE_FRAME_HI c.content
  (s.set64 R.PHO_DONE_FRAME_LO R.PHO_DONE_FRAME_HI c.content).setN R.PHO_LAST_TIME (micros % 2 ^ 20)

/-! ### The map swap -/

/-- PHO_MAP_CTRL (R171). -/
def mapHandler (w : Who) (v : Word) : Handler :=
  { plainHandler w R.PHO_MAP_CTRL v with
    state := fun s => if wbit v 1 && s.pho.mapSwap ≠ .idle then .busy else .ok
    effect := fun s =>
      if wbit v 1 then
        ({ s with pho := { s.pho with mapSwap := .validating } }).setN R.PHO_MAP_CTRL (s.rn R.PHO_MAP_CTRL ||| 2)
      else s }

/-- The register file with the other map bank active (R171). -/
def withMapSwapped (rd : Nat → Word) (off : Nat) : Word :=
  if off = R.PHO_MAP_CTRL then setFld (rd off) 4 4 (1 - mapBank rd) else rd off

/-- The swap at a commit point (R171): the bank in effect changes and MAP_SWAPPED is raised. -/
def mapSwapped (content : Nat) (s : Device) : Device :=
  let s := { s with pho := { s.pho with mapSwap := .idle } }
  ((s.setF R.PHO_MAP_CTRL 4 4 (1 - mapBank s.reg)).setB R.PHO_MAP_CTRL 5 false).raise Ev.MAP_SWAPPED content

/-! ### Validation of commits -/

/-- Milliseconds of show time since the last trim bank change, at most 10,000 (R200). -/
def trimMs (s : Device) : Nat :=
  match s.pho.trimAt with
  | none => 10000
  | some t => (clampI 0 10000 (wrapDiff 64 s.shw.time t / 1000000)).toNat

/-- Whether a trim may replace the one in effect (R200). -/
def trimAllowed (dt old new : Nat) : Bool :=
  0x2000 ≤ new && new ≤ 0x6000 && (max old new - min old new) * 200000 ≤ old * dt + 200000

/-- The first point with a trim out of range or beyond the bound in a bank (R200); one that reads poisoned is not judged (R520). -/
def trimRefused (s : Device) (rd : Nat → Word) : Option Nat :=
  let old := trimBank s.reg
  let new := trimBank rd
  (upto 1024).find? (fun p => (upto 6).any (fun k => !badRange s (trimAt rd new p + 2 * k) 2 &&
    !trimAllowed (trimMs s) (leAt (peek s (trimAt s.reg old p + 2 * k) 2) 0 2) (leAt (peek s (trimAt rd new p + 2 * k) 2) 0 2)))

/-- The first point whose trims read poisoned (R523). -/
def trimPoisoned (s : Device) (rd : Nat → Word) : Option Nat :=
  (upto 1024).find? (fun p => badRange s (trimAt rd (trimBank rd) p) 16)

/-- The first failure of the trim bank that a register file selects, with its point (R200, R523): E_RANGE before E_CHECK (R520). -/
def trimBankCode (s : Device) (rd : Nat → Word) : Code × Nat :=
  if trimBank rd = trimBank s.reg then (.ok, 0)
  else match trimRefused s rd, trimPoisoned s rd with
    | some p, _ => (.range, p)
    | none, some p => (.check, p)
    | none, none => (.ok, 0)

/-- The failures of photometry under a register file (R179, R200, R202). -/
def phoFailures (s : Device) (rd : Nat → Word) : List Failure :=
  let sum := passSum s rd (mapBank rd)
  let bankCode := if profBank rd ≠ profBank s.reg then (profileBankCode s rd (profBank rd)).1 else .ok
  let trims := (trimBankCode s rd).1
  need (bankCode = .ok) bankCode [R.PHO_PROF_CTRL] ++
  need (trims = .ok) trims [R.PHO_GAIN_CTRL] ++
  need (passFits rd (modeOf rd) sum && sum.resident.length ≤ 48) .capacity [R.SHOW_RATE_NUM, R.SHOW_RATE_DEN, R.PHO_PROF_CTRL]

/-- What a validation reads of photometry's tables (R523). -/
def phoReads (s : Device) (rd : Nat → Word) : List (Nat × Nat) :=
  (if profBank rd ≠ profBank s.reg then [(profAt rd (profBank rd) 0, 0x40000)] else []) ++
  (if trimBank rd ≠ trimBank s.reg then [(trimAt rd (trimBank rd) 0, 0x4000)] else [])

/-- What a failed validation leaves of photometry (R179, R200, R208): the table status, the trim rejection. -/
def phoReport (rd : Nat → Word) (s : Device) : Device :=
  let (c, p) := if profBank rd ≠ profBank s.reg then profileBankCode s rd (profBank rd) else (.ok, 0)
  let (ct, pt) := trimBankCode s rd
  let s := s.when (ct ≠ .ok) (setTblStatus 3 pt ct)
  let s := s.when (c ≠ .ok) (setTblStatus 1 p c)
  if ct = .range then (s.count R.PHO_TRIM_REJECTED 1).raise Ev.TRIM_LIMIT (payF pt (contentNow s)) else s

/-! ### The re-plan -/

/-- The remaining flux fraction without the sensor correction, in fixed point: exp(−Q / Q_L) (R195). -/
def fluxLeft (r : Profile) (k acc : Nat) : Int :=
  let q70 := leAt r (64 + 32 * k + 18) 4
  if q70 = 0 then Fixed.one
  else Fixed.exp (-(Fixed.lnRatio 10 7 * (acc : Int) / ((q70 * 100 * 1000000000 : Nat) : Int)))

/-- ΔVf in units of 10^−15 µV (R195). -/
def vfRise (r : Profile) (k acc : Nat) : Nat := leAt r (64 + 32 * k + 22) 2 * acc

/-- AGE_k = min(GAIN_MAX, LIFE_TARGET / L), rounded to nearest, with L corrected by c, and whether GAIN_MAX limits it (R196). -/
def ageGain (r : Profile) (k acc : Nat) (c : Int) : Nat × Bool :=
  let l := Fixed.mul (fluxLeft r k acc) c
  let g := if l = 0 then 65535 else ((2 * (u16 r 20 : Int) * Fixed.one + l) / (2 * l)).toNat
  if u16 r 22 < g then (u16 r 22, true) else (g, false)

/-- The fixtures that some map entry links to a sensor (R196), with the point. -/
def sensedFixtures (es : List MapEntry) : List (Nat × Nat) :=
  ((es.filter (·.sensed)).map (fun e => (e.fixture, e.sensor))).eraseDups

/-- The sensor correction c of a profile's emitter (R197): the mean over its sensed fixtures of measured over modelled flux, clamped to
0.90 … 1.10; 1 without one. -/
def sensorCorr (s : Device) (rd : Nat → Word) (r : Profile) (sensed : List (Nat × Nat)) (k : Nat) : Int :=
  let one (p : Nat × Nat) : Int :=
    let age := leAt (peek s (gainAt rd (gainBank rd) p.1 + 12 + 2 * k) 2) 0 2
    let trim := leAt (peek s (trimAt rd (trimBank rd) p.2 + 2 * k) 2) 0 2
    let l := fluxLeft r k (leAt (peek s (accAt s (ageKey p.1 k)) 8) 0 8)
    Fixed.div ((u16 r 20 : Int) * Fixed.one * 16384 / max ((age * trim : Nat) : Int) 1) l
  if sensed.isEmpty then Fixed.one
  else clampI (Fixed.one * 9 / 10) (Fixed.one * 11 / 10)
    ((sensed.map one).foldl (· + ·) 0 / ((sensed.length : Nat) : Int))

/-- The gain record a re-plan writes for a fixture (R196), and whether it sets AGED_OUT anew. -/
def planGain (s : Device) (r : Profile) (f : Nat) (linked : Bool) (c : Nat → Int) : List Byte × Bool :=
  let old := peek s (gainAt s.reg (gainBank s.reg) f) 32
  if linked then (old, false)
  else
    let g := (upto (Profile.emitters r)).map (fun k => ageGain r k (leAt (peek s (accAt s (ageKey f k)) 8) 0 8) (c k))
    let ages := g.flatMap (fun p => leBytes 2 p.1)
    let out := g.any (·.2)
    let was := (leAt old 24 1).testBit 0
    let flags := if out then leAt old 24 1 ||| 1 else leAt old 24 1 - leAt old 24 1 % 2
    (putBytes (putBytes old 12 ages) 24 (leBytes 1 flags), out && !was)

/-- A profile record with the mean forward-voltage rise of its fixtures written, in mV rounded to nearest (R196). -/
def planProfile (s : Device) (r : Profile) (fixtures : List Nat) : Profile :=
  (upto (Profile.emitters r)).foldl (fun r' k =>
    let rises := fixtures.map (fun f => vfRise r k (leAt (peek s (accAt s (ageKey f k)) 8) 0 8))
    if rises.isEmpty then r' else putBytes r' (64 + 32 * k + 24) (leBytes 2 (rdiv (sumL rises) (10 ^ 18 * rises.length)))) r

/-- The MARGIN of a group (R267): the largest ΔVf among its emitters less VF_AGE of the profile, rounded up to 10 mV. -/
def planMargin (s : Device) (fixtures : List (Nat × Nat)) (profs : Nat → Profile) (g : Nat) : Nat :=
  let mine := fixtures.filter (fun p => (patchOf s p.1).rgroup = g)
  let rises := mine.flatMap (fun p => (upto (Profile.emitters (profs p.2))).map (fun k =>
    vfRise (profs p.2) k (leAt (peek s (accAt s (ageKey p.1 k)) 8) 0 8) - 10 ^ 18 * emit16 (profs p.2) k 24))
  10 * cdiv (maxL rises) (10 ^ 19)

/-- A profile's ageing estimate (R184): the mean remaining flux fraction of its fixtures by emitter, in the units of `fluxLeft`. -/
def meanLeft (s : Device) (r : Profile) (fixtures : List Nat) (c : Nat → Int) : List Int :=
  (upto (Profile.emitters r)).map (fun k =>
    (fixtures.map (fun f => Fixed.mul (fluxLeft r k (leAt (peek s (accAt s (ageKey f k)) 8) 0 8)) (c k))).foldl (· + ·) 0 /
      ((max fixtures.length 1 : Nat) : Int))

/-- What a re-plan writes (R196, R197, R267): images of the inactive banks' tables as address and bytes, the gains by address with whether the
fixture has aged out, the margins by address, the profiles whose slots are built, and the commit. -/
structure Plan where
  banks   : List (Nat × List Byte)
  profs   : List (Nat × List Byte)
  gains   : List (Nat × Nat × List Byte × Bool)
  margins : List (Nat × List Byte)
  slots   : List (Nat × Profile × Rat × List Int)
  entries : Entries

/-- The plan that the runtime makes (R184 to R186, R196, R197, R267): copies of the banks in effect, changed by one reading of the accumulators. The
driver hours behind HDR_HR_MIN are a free value, held in the register's range. A profile swapped in the last second keeps its slot and its estimate
until the next re-plan (R185). -/
def makePlan (s : Device) : Plan :=
  let rd := s.reg
  let es := mapEntries s rd (mapBank rd)
  let fixtures := mapFixtures es
  let sensed := sensedFixtures es
  let profs (p : Nat) : Profile := profOf s rd (profBank rd) p
  let used := (fixtures.map (·.2)).eraseDups
  let of (p : Nat) : List Nat := (fixtures.filter (fun q => q.2 = p)).map (·.1)
  let newProfs (p : Nat) : Profile := planProfile s (profs p) (of p)
  let corr (p k : Nat) : Int := sensorCorr s rd (profs p) (sensed.filter (fun q => (of p).contains q.1)) k
  let gb := 1 - gainBank rd
  let pb := 1 - profBank rd
  let hb := 1 - wfld (rd R.HDR_CTRL) 4 4
  let grp (b g : Nat) : Nat := base4k rd R.HDR_GRP_BASE + b * 0x10000 + 16 * g
  let left (p : Nat) : List Int := meanLeft s (profs p) (of p) (corr p)
  let changed := used.filter (fun p => (newProfs p ≠ profs p || s.pho.aged.find p ≠ some (left p)) && !swappedLately s p)
  let hours := Config.driveHours s.free
  let hrMin := max 100 (min 2000 (wfld (rd R.HDR_HR_BASE) 11 0 + 5 * (hours / 10000)))
  { banks := [(profAt rd pb 0, peek s (profAt rd (profBank rd) 0) 0x40000), (gainAt rd gb 0, peek s (gainAt rd (gainBank rd) 0) 0x400000),
      (grp hb 0, peek s (grp (1 - hb) 0) 65520)],
    profs := used.map (fun p => (profAt rd pb p, newProfs p)),
    gains := fixtures.map (fun q =>
      (q.1, gainAt rd gb q.1, planGain s (profs q.2) q.1 (sensed.any (fun z => z.1 = q.1)) (corr q.2))),
    margins := (upto 4095).map (fun g => (grp hb g + 8, leBytes 2 (planMargin s fixtures newProfs g % 65536))),
    slots := changed.map (fun p => (p, newProfs p, planningTemp s p, left p)),
    entries := [(R.PHO_GAIN_CTRL, 1, BitVec.ofNat 32 gb), (R.PHO_PROF_CTRL, 1, BitVec.ofNat 32 pb),
      (R.HDR_CTRL, 0x10, BitVec.ofNat 32 (16 * hb)), (R.HDR_HR_MIN, 0xFFFFFFFF, BitVec.ofNat 32 hrMin)] ++ changed.map (turnSlot s) }

/-- A profile's inactive slot is built with a new ageing estimate (R184, R185). -/
def rebuildSlot (p : Nat) (r : Profile) (temp : Rat) (left : List Int) (s : Device) : Device :=
  let s := { s with pho := { s.pho with aged := s.pho.aged.put p left } }
  buildSlot p r temp (ageEstimate s p) s

/-- A plan's tables are written (R196, R267); a gain that no longer reaches its target is reported (R197). -/
def writePlan (x : Plan) (s : Device) : Device :=
  let s := s.each x.banks (fun s b => memStore .pho b.1 b.2 s)
  let s := s.each x.profs (fun s b => memStore .pho b.1 b.2 s)
  let s := s.each x.gains (fun s g => (memStore .pho g.2.1 g.2.2.1 s).raiseIf g.2.2.2 Ev.AGED_OUT (payEntry g.1 (contentNow s)))
  let s := s.each x.margins (fun s b => memStore .hdr b.1 b.2 s)
  s.each x.slots (fun s p => rebuildSlot p.1 p.2.1 p.2.2.1 p.2.2.2 s)

/-- The commit group of a plan is submitted (R196). -/
def submitPlan (x : Plan) (s : Device) : Device :=
  stageCommit { origin := .runtime, target := none, entries := x.entries } (nextPoint s)
    { s with free := s.free + 1, pho := { s.pho with planning := true, planFrom := s.clock } }

/-- A re-plan (R196): the runtime writes the inactive banks and submits one commit group. What asks for a re-plan while one is pending is kept for
its end. -/
def replan (s : Device) : Device :=
  if s.pho.planning then { s with pho := { s.pho with planAgain := true } }
  else if inStandby s then s.setB R.PHO_REPLAN_CFG 24 false
  else submitPlan (makePlan s) (writePlan (makePlan s) s)

/-- No re-plan is pending or asked for. -/
def planIdle (s : Device) : Device := { s with pho := { s.pho with planning := false, planAgain := false } }

/-- A re-plan has ended (R196): its commit was applied or rejected. One asked for meanwhile starts. -/
def planOver (s : Device) : Device :=
  if s.pho.planAgain then replan (planIdle s) else (planIdle s).setF R.PHO_REPLAN_CFG 24 24 0

/-- Whether a commit is a re-plan's (R196): the runtime's, with the gain bank. -/
def isReplan (o : Origin) (es : Entries) : Bool := o = .runtime && es.any (fun e => e.1 = R.PHO_GAIN_CTRL && wbit e.2.1 0)

/-- Whether a commit of the runtime that sets bits of a register is pending. -/
def runtimePending (s : Device) (off : Nat) (mask : Word) : Bool :=
  s.shw.commits.any (fun c => c.origin = .runtime && c.entries.any (fun e => e.1 = off && e.2.1 &&& mask ≠ 0))

/-- At the end of a pass (R185): the profiles of the map whose efficacies have moved are built into their inactive slots and turned to them by
a commit. -/
def rebuildMoved (ps : List Nat) (s : Device) : Device :=
  if inStandby s then s
  else
    s.each ps fun s p =>
      let r := profOf s s.reg (profBank s.reg) p
      if swappedLately s p || s.pho.planning || runtimePending s (R.PHO_LAT_SELj (p / 32)) (BitVec.ofNat 32 (2 ^ (p % 32))) ||
          !efficacyMoved s p r then s
      else
        let es := [turnSlot s p]
        let s := buildSlot p r (planningTemp s p) (ageEstimate s p) s
        stageCommit { origin := .runtime, target := none, entries := es } (nextPoint s) { s with free := s.free + 1 }

/-- Profiles whose slot a commit point turned are dated (R185). -/
def noteSwaps (old : Nat → Word) (s : Device) : Device :=
  s.each ((upto 1024).filter (fun p => latSlot old p ≠ latSlot s.reg p)) fun s p =>
    { s with pho := { s.pho with swapped := s.pho.swapped.put p s.clock } }

/-- The two estimates of time, in µs (R163, R208). -/
def setEstimates (cmp pho : Nat) (s : Device) : Device := (s.setN R.CMP_EST_TIME cmp).setN R.PHO_EST_TIME pho

/-- PHO_EST_TIME and CMP_EST_TIME (R163, R202, R208) as settings leave them. -/
def noteEstimates (s : Device) : Device :=
  setEstimates (cdiv (cmpTime s.reg) 3072000 % 2 ^ 20) (cdiv (passSum s s.reg (mapBank s.reg)).time36 36000 % 2 ^ 20) s

/-- After the commit point of frame F (R185, R196, R200): the trim change, the lattice swaps and the re-plan are dated. -/
def phoAfterPoint (old : Nat → Word) (content : Nat) (planned : Bool) (s : Device) : Device :=
  let s := noteSwaps old s
  let s := s.when (trimBank old ≠ trimBank s.reg) fun s =>
    { s.set64 R.PHO_TRIM_FRAME_LO R.PHO_TRIM_FRAME_HI content with pho := { s.pho with trimAt := some s.shw.time } }
  if planned then
    planOver ((s.set64 R.PHO_REPLAN_FRAME_LO R.PHO_REPLAN_FRAME_HI content).raise Ev.REPLAN_APPLIED content)
  else s

/-! ### Ageing saves and sensors -/

/-- The accumulators as memory holds them, those at 0 left out (R198). -/
def ageTable (s : Device) : Table Nat :=
  (upto (131072 * 6)).foldl (fun (t : Table Nat) k => t.setD 0 k (leAt (peek s (accAt s k) 8) 0 8)) []

/-- An ageing save starts (R446): a consistent copy goes to flash. -/
def ageSaveStart (s : Device) : Device :=
  if s.pho.ageSaving.isSome then s
  else ({ s with pho := { s.pho with ageSaving := some (ageTable s) } }).send .flash [6]

/-- An ageing save ends (R446): the copy written is the newest, or the other copy stays in use. -/
def ageSaveEnd (ok : Bool) (s : Device) : Device :=
  match s.pho.ageSaving with
  | none => s
  | some t =>
    let s := s.setF R.SYS_CMD 3 3 0
    if ok then
      ({ s with pho := { s.pho with ageSaving := none, ageOlder := s.pho.ageNewest, ageNewest := some t, ageFrom := s.clock } }).raise
        Ev.AGE_SAVE_DONE 0
    else
      ({ s with pho := { s.pho with ageSaving := none, ageOlder := none } }).raise Ev.AGE_SAVE_FAIL 0

/-- The whole accumulator table is restored from the last save (R198, R342). -/
def ageRestore (s : Device) : Device :=
  let t := (s.pho.ageNewest.orElse (fun _ => s.pho.ageOlder)).getD []
  let base := base4k s.reg R.PHO_AGE_BASE
  let s := memStore .pho base ((upto (131072 * 6)).flatMap (fun k => leBytes 8 (t.getD 0 k))) s
  (s.setB R.PHO_AGE_STATUS 0 true).raise Ev.AGE_RESTORED (contentNow s)

/-- A sensor point's entry (R199). -/
def sensorEntry (s : Device) (p : Nat) : List Byte := peek s (base4k s.reg R.PHO_SENS_BASE + 32 * p) 32

/-- The levels that a latch shows (R200): since which content frame each fixture's have not changed. -/
def noteLevels (c : FrameCtx) (s : Device) : Device :=
  let put (t : Table (List (List Nat) × Nat)) (x : Nat × List (List Nat)) : Table (List (List Nat) × Nat) :=
    match t.find x.1 with
    | some (l, _) => if l = x.2 then t else t.put x.1 (x.2, c.content)
    | none => t.put x.1 (x.2, c.content)
  { s with pho := { s.pho with levels := c.levels.foldl put s.pho.levels } }

/-- Whether the levels of a fixture were latched at least 2 frames ago and have not changed since (R200). -/
def levelsHeld (s : Device) (f : Nat) : Bool :=
  match s.pho.levels.find f with
  | some x => decide (4 ≤ frameDiff s.shw.frame x.2)
  | none => false

/-- The runtime answers a reading with new trims (R200): the inactive bank becomes the active one with the point's trims replaced by what the
runtime works out, and a commit turns to it. -/
def trimPoint (p : Nat) (s : Device) : Device :=
  let f := leAt (sensorEntry s p) 4 4 % 2 ^ 17
  if inStandby s || !s.rb R.PHO_CTRL 3 || !levelsHeld s f || runtimePending s R.PHO_GAIN_CTRL 2 then s
  else
    let now := trimBank s.reg
    let bank := peek s (trimAt s.reg now 0) 16384
    let mine := (upto 6).flatMap (fun k => leBytes 2 (Config.trim s.free p k).toNat)
    let s := memStore .pho (trimAt s.reg (1 - now) 0) (putBytes bank (16 * p) mine) s
    stageCommit { origin := .runtime, target := none, entries := [(R.PHO_GAIN_CTRL, 2, BitVec.ofNat 32 (2 * (1 - now)))] } (nextPoint s)
      { s with free := s.free + 1 }

/-- A reading of a sensor point, or its failure (R199, R200): after 8 in a row SENSOR_FAULT. -/
def sensorReading (p : Nat) (reading : Option (List Byte)) (s : Device) : Device :=
  match reading with
  | some d => trimPoint p { s with pho := { s.pho with readings := s.pho.readings.put p d, fails := s.pho.fails.del p } }
  | none =>
    let n := s.pho.fails.getD 0 p + 1
    ({ s with pho := { s.pho with fails := s.pho.fails.put p n } }).raiseIf (n = 8) Ev.SENSOR_FAULT (payF p (contentNow s))

/-! ### Registers -/

/-- The PHO registers' own rules outside commits (R171, R196). -/
def phoHandler (w : Who) (off : Nat) (v : Word) : Handler :=
  let h := plainHandler w off v
  if off = R.PHO_MAP_CTRL then mapHandler w v
  else if off = R.PHO_MAP_COUNT0 || off = R.PHO_MAP_COUNT1 then
    let bank := if off = R.PHO_MAP_COUNT0 then 0 else 1
    { h with state := fun s => if (s.shw.running && mapBank s.reg = bank) || (s.pho.mapSwap = .pending && mapBank s.reg ≠ bank) then .state else .ok }
  else if off = R.PHO_REPLAN_CFG then
    { h with effect := fun s =>
        let s := storeWrite w off v s
        if wbit v 24 then replan s else s }
  else h

/-- What PHO registers read as where they show live state (R208). -/
def phoView (s : Device) (off : Nat) : Option Word :=
  let n (k : Nat) : Option Word := some (BitVec.ofNat 32 k)
  if off = R.PHO_AGE_STATUS then n (s.rf off 1 0 + 65536 * min 65535 ((s.clock - s.pho.ageFrom) / 60000000000))
  else none

/-! ### The commands -/

/-- PHO_LATE (R204): the pass is still running at its bound. -/
def execPhoLate (st : State) : Host.Outcome State Fault Refusal :=
  st.onDevice fun s =>
  .next (match s.pipe.find? (fun c => !c.passed && wbit (c.rd R.PHO_CTRL) 0) with
    | some c => (s.count R.PHO_LATE 1).raise Ev.PHO_LATE c.content
    | none => s)

/-- PHO_MAP_CTRL.SWAP written (R171). -/
def execMapSwap (w : Who) (v : Word) (st : State) : Host.Outcome State Fault Refusal :=
  st.onDevice fun s =>
  .next (regWrite s w R.PHO_MAP_CTRL v (phoHandler w R.PHO_MAP_CTRL v))

/-- PHO_REPLAN_CFG.NOW written (R196). -/
def execReplanNow (w : Who) (v : Word) (st : State) : Host.Outcome State Fault Refusal :=
  st.onDevice fun s =>
  .next (regWrite s w R.PHO_REPLAN_CFG v (phoHandler w R.PHO_REPLAN_CFG v))

/-- A re-plan period elapses (R196): REPLAN_DUE, and a re-plan runs. -/
def execReplanDue (st : State) : Host.Outcome State Fault Refusal :=
  st.onDevice fun s =>
  let s := s.elapseTo (s.pho.planFrom + 60000000000 * s.rf R.PHO_REPLAN_CFG 10 0)
  .next (replan (s.raise Ev.REPLAN_DUE (contentNow s)))

/-- An I2C sensor point is polled (R199). -/
def execSensorPoll (point : Nat) (reading : Option (List Byte)) (st : State) : Host.Outcome State Fault Refusal :=
  st.onDevice fun s =>
  onUnit (point < 1024)
    (let e := sensorEntry s point
     if leAt e 0 1 ≠ 2 then s
     else sensorReading point reading (s.send (.i2c (leAt e 1 1 % 4)) [leAt e 2 1 % 128, leAt e 3 1, 6]))

/-- An hour has passed (R446): an ageing save starts. -/
def execAgeSaveTimer (st : State) : Host.Outcome State Fault Refusal :=
  st.onDevice fun s =>
  .next (ageSaveStart (s.elapseTo (s.pho.ageFrom + 3600000000000)))

/-- An ageing save completes or fails (R446). -/
def execAgeSaveDone (ok : Bool) (st : State) : Host.Outcome State Fault Refusal :=
  st.onDevice fun s => .next (ageSaveEnd ok s)

end Sys2Proof.Machine
end

