-- ==== Sys2Proof/Machine/Headroom.lean ====
section
/-! DEFINITION. Supply headroom and power budgets (R257 to R283), and PHO_DONE, at whose end the pass hands its levels over. -/

namespace Sys2Proof.Machine

/-! ### Supply groups -/

/-- A supply group's entry (R257). -/
structure Group where
  offset  : Nat
  codeMin : Nat
  codeMax : Nat
  zone    : Nat
  rail    : Bool
  buck    : Nat
  buckEn  : Bool
  hold    : Nat
  margin  : Nat
  vnom    : Nat
  clean   : Bool
deriving DecidableEq, Repr

/-- The group bank in effect. -/
def groupBank (rd : Nat → Word) : Nat := wfld (rd R.HDR_CTRL) 4 4

/-- The first byte of a group entry. -/
def groupAt (rd : Nat → Word) (bank g : Nat) : Nat := base4k rd R.HDR_GRP_BASE + bank * 0x10000 + 16 * g

/-- A group entry as memory holds it. -/
def groupOf (s : Device) (rd : Nat → Word) (bank g : Nat) : Group :=
  let b := peek s (groupAt rd bank g) 16
  let z := leAt b 4 1
  let k := leAt b 5 1
  { offset := leAt b 0 2, codeMin := leAt b 2 1, codeMax := leAt b 3 1, zone := z % 64, rail := z.testBit 7, buck := k % 16,
    buckEn := k.testBit 4, hold := leAt b 6 1, margin := leAt b 8 2, vnom := leAt b 10 2,
    clean := !z.testBit 6 && k / 32 = 0 && leAt b 7 1 = 0 && leAt b 12 4 = 0 }

/-- The groups of the bank in effect whose rail is controlled (R257): those whose byte 4 memory holds with its bit 7 set. -/
def railGroups (s : Device) (rd : Nat → Word) : List Nat :=
  let base := groupAt rd (groupBank rd) 0
  s.mem.cells.filterMap (fun p =>
    let g := (p.1 - base) / 16
    if base ≤ p.1 && p.1 % 16 = 4 && g < 4095 && p.2.toNat.testBit 7 then some g else none)

/-- Whether a chain is an HLK chain with rail codes (R258). -/
def railChain (rd : Nat → Word) (c : Nat) : Bool := chainOn rd c && chainMode rd c = 0 && wbit (rd (R.BAT_CHn_CFG c)) 6

/-- The placed fixtures of a group that accept rail codes on such a chain (R258). -/
def carriers (s : Device) (rd : Nat → Word) (g : Nat) : List Nat :=
  (s.bat.places.filter (fun p => railChain rd p.2.chain && (patchOf s p.1).rail && (patchOf s p.1).rgroup = g)).map (·.1)

/-- The group's carrier: the highest-numbered of them (R258). -/
def carrierOf (s : Device) (rd : Nat → Word) (g : Nat) : Option Nat := (carriers s rd g).getLast?

/-- The code of a group entry, given the patch (R259). -/
def groupCode (s : Device) (rd : Nat → Word) (patch : List (Nat × Patch)) (bank g : Nat) : Code :=
  let x := groupOf s rd bank g
  let mem := (patch.filter (fun p => p.2.rgroup = g)).map (·.1)
  let above (k : Nat) : Bool := mem.any (fun f => k < f && (patchOf s f).rail && (match placeOf s f, placeOf s k with
    | some a, some b => a.chain ≠ b.chain
    | _, _ => false))
  if badRange s (groupAt rd bank g) 16 then .check
  else if !x.clean then .reserved
  else if x.codeMax < x.codeMin || x.codeMax = 0xFF || 65535 < x.offset + 50 * x.codeMax || (!x.rail && x.vnom = 0 && !mem.isEmpty) then
    .range
  else if x.buckEn && (upto g).any (fun h => (groupOf s rd bank h).buckEn && (groupOf s rd bank h).buck = x.buck) then .conflict
  else if x.rail && !x.buckEn then
    match carrierOf s rd g with
    | none => .conflict
    | some k => if above k then .conflict else .ok
  else .ok

/-! ### Timing bounds (R203, R263) -/

/-- The last canvas row an entry reads (R203). -/
def lastRow (rd : Nat → Word) (e : MapEntry) : Nat :=
  let h := (canvasSize rd).2
  match e.sample with
  | 1 => clampPos h (((e.sy : Int) - 32) / 64 + 1)
  | 2 => clampPos h ((e.sy / 64 + e.ah - 1 : Nat) : Int)
  | _ => clampPos h ((e.sy / 64 : Nat) : Int)

/-- When each entry is written at the latest, in ns after the capture (R203). -/
def entryBounds (s : Device) (rd : Nat → Word) (bank : Nat) : List (MapEntry × Rat) :=
  let es := mapEntries s rd bank
  let tPho : Rat := ((passSum s rd bank).time36 : Rat) / 36
  let tCmp : Rat := (cmpTime rd : Rat) / 3072
  let h := (canvasSize rd).2
  let step : Rat := tPho / ((max es.length 1 : Nat) : Rat)
  let go := fun (acc : Rat × List (MapEntry × Rat)) (e : MapEntry) =>
    let row : Rat := tCmp * ((min h (16 * cdiv (lastRow rd e + 1) 16) : Nat) : Rat) / ((max h 1 : Nat) : Rat)
    let t := (if acc.1 < row then row else acc.1) + step
    (t, (e, t) :: acc.2)
  (es.foldl go ((2000 : Rat), [])).2.reverse

/-- The latch instant of a content frame in ns after its capture (R228). -/
def latchAfter (rd : Nat → Word) (m : Mode) : Rat :=
  let line : Rat := (m.frameNum : Rat) / ((m.num * m.vTotal : Nat) : Rat)
  line * ((m.vTotal + m.latch : Nat) : Rat) + ((sext 32 (rd R.BAT_LATCH_ADJ).toNat : Int) : Rat)

/-- T_lead in ns (R229, R262). -/
def railLead (rd : Nat → Word) (m : Mode) : Rat :=
  (m.frameNum : Rat) / ((m.num * m.vTotal : Nat) : Rat) * (((rd R.HDR_RAIL_LEAD).toNat : Nat) : Rat)

/-- Whether a bound plus 4 µs falls before the rail lead of the latch (R263). -/
def boundMet (rd : Nat → Word) (m : Mode) (t : Rat) : Bool := t + 4000 < latchAfter rd m - railLead rd m

/-- The latest entry bound of the fixtures that meet a condition; 0 for none. -/
def boundOf (bounds : List (MapEntry × Rat)) (p : Nat → Bool) : Rat :=
  (bounds.filter (fun b => p b.1.fixture)).foldl (fun (a : Rat) b => if a < b.2 then b.2 else a) 0

/-- The code of a group entry with its timing (R259, R263). -/
def groupFullCode (s : Device) (rd : Nat → Word) (patch : List (Nat × Patch)) (bounds : List (MapEntry × Rat)) (bank g : Nat) : Code :=
  let c := groupCode s rd patch bank g
  if c ≠ .ok then c
  else
    let x := groupOf s rd bank g
    if x.rail && x.buckEn && !boundMet rd (modeOf rd) (boundOf bounds (fun f => (patchOf s f).rgroup = g)) then .capacity else .ok

/-- The first failing group of a bank (R259): the first kind of R520 that fails in any group, and its first group. -/
def groupBankCode (s : Device) (rd : Nat → Word) (bank : Nat) : Code × Nat :=
  let bounds := entryBounds s rd (mapBank rd)
  let patch := patched s
  firstKind ((upto 4095).map (fun g => (groupFullCode s rd patch bounds bank g, g)))

/-- Whether a candidate file changes what R259 checks: the bank, or a chain's rail codes. -/
def groupsTouched (s : Device) (rd : Nat → Word) : Bool :=
  groupBank rd ≠ groupBank s.reg || (upto 512).any (fun c => railChain rd c ≠ railChain s.reg c)

/-- Whether a buck group misses the timing bound of R263. -/
def buckLate (s : Device) (rd : Nat → Word) (bounds : List (MapEntry × Rat)) : Bool :=
  (railGroups s rd).any (fun g => (groupOf s rd (groupBank rd) g).buckEn &&
    !boundMet rd (modeOf rd) (boundOf bounds (fun f => (patchOf s f).rgroup = g)))

/-- The failures of HDR under a register file (R257, R259, R263): the bank where it is concerned, the timing bounds always. -/
def hdrFailures (s : Device) (rd : Nat → Word) : List Failure :=
  let code := if groupsTouched s rd then (groupBankCode s rd (groupBank rd)).1 else .ok
  let bounds := entryBounds s rd (mapBank rd)
  let guards := (upto 64).filter (fun z => wbit (rd (R.HDR_Zz_CFG z)) 16)
  let timing := modeRegs ++ [R.CMP_CTRL, R.PHO_PROF_CTRL, R.BAT_LATCH_ADJ, R.HDR_RAIL_LEAD]
  need (code = .ok) code ([R.HDR_CTRL] ++ (upto 512).map R.BAT_CHn_CFG) ++
  need (!buckLate s rd bounds) .capacity (R.HDR_CTRL :: timing) ++
  need (guards.isEmpty || boundMet rd (modeOf rd) (boundOf bounds (fun _ => true))) .capacity (timing ++ guards.map R.HDR_Zz_CFG)

/-- A validation of the group bank leaves its code and the index of its first failing group (R259, R278). -/
def groupReport (rd : Nat → Word) (s : Device) : Device :=
  let (c, g) := groupBankCode s rd (groupBank rd)
  (s.setF R.HDR_STATUS 15 8 c.num).setF R.HDR_STATUS 27 16 (if c = .ok then 0 else g)

/-- What a validation of settings leaves of HDR (R259). -/
def hdrReport (rd : Nat → Word) (s : Device) : Device := if groupsTouched s rd then groupReport rd s else s

/-- What a validation reads of HDR's tables (R523). -/
def hdrReads (s : Device) (rd : Nat → Word) : List (Nat × Nat) :=
  if groupBank rd ≠ groupBank s.reg then [(groupAt rd (groupBank rd) 0, 65520)] else []

/-! ### Rail targets -/

/-- A group's feedback state. -/
def Device.group (s : Device) (g : Nat) : GroupState := s.hdr.groups.getD {} g

/-- Replaces a group's feedback state. -/
def Device.setGroup (s : Device) (g : Nat) (x : GroupState) : Device :=
  { s with hdr := { s.hdr with groups := s.hdr.groups.setD {} g x } }

/-- The drive of R260: the level and the largest dither increment, at most 1. -/
def ditheredDrive (r : Profile) (v : Nat) : Nat := min (2 ^ 24) (v + 2 ^ (24 - Profile.depth r))

/-- The largest Vf among an entry's emitters with a requirement, in units of `vfNum` (R260). -/
def entryVf (o : EntryOut) : Option Int :=
  let l := (o.v7.zipIdx.filter (fun p => 0 < p.1)).map (fun p =>
    vfNum o.prof p.2 (vfDrive o.prof (ditheredDrive o.prof p.1)) o.temp)
  l.foldl (fun (a : Option Int) v => match a with
    | some b => some (max b v)
    | none => some v) none

/-- The largest Vf by fixture. -/
def passVf (outs : List EntryOut) : Table Int :=
  outs.foldl (fun (t : Table Int) o => match entryVf o, t.find o.entry.fixture with
    | some v, some b => t.put o.entry.fixture (max b v)
    | some v, none => t.put o.entry.fixture v
    | none, _ => t) []

/-- The unit of `vfNum` in a millivolt. -/
def vfUnit : Int := 1000 * 160 * 2 ^ 24

/-- The largest Vf of a group's fixtures. -/
def groupVf (s : Device) (vf : Table Int) (g : Nat) : Option Int :=
  ((vf.filter (fun p => (patchOf s p.1).rgroup = g)).map (·.2)).foldl (fun (a : Option Int) v => match a with
    | some b => some (max b v)
    | none => some v) none

/-- The demand of a group (R261): the code, and whether the clamp at CODE_MAX took effect. -/
def demandOf (rd : Nat → Word) (x : Group) (corr : Int) (vf : Option Int) : Nat × Bool :=
  match vf with
  | none => (x.codeMin, false)
  | some v =>
    let req : Int := v + ((wfld (rd R.HDR_HR_MIN) 11 0 + x.margin : Nat) + corr - (x.offset : Nat)) * vfUnit
    let d := -((-req) / (50 * vfUnit))
    if (x.codeMax : Int) < d then (x.codeMax, true)
    else if d < x.codeMin then (x.codeMin, false) else (d.toNat, false)

/-- The groups of a pass, ascending: those that some fixture of the map names, and every group with a controlled rail. -/
def passGroups (s : Device) (rd : Nat → Word) (outs : List EntryOut) : List Nat :=
  let named := ((mapFixtures (outs.map (·.entry))).map (fun p => (patchOf s p.1).rgroup)).filter (fun g => g < 4095)
  sortBy (fun a b => a ≤ b) (named ++ railGroups s rd).eraseDups

/-- The demand and code of a group for a content frame (R261), its rail voltage and the voltage of its code in mV. -/
def groupPass (vf : Table Int) (acc : Device × FrameCtx) (g : Nat) : Device × FrameCtx :=
  let (s, c) := acc
  let x := groupOf s c.rd (groupBank c.rd) g
  let railEn := wbit (c.rd R.HDR_CTRL) 0
  if !x.rail then (s, { c with rails := c.rails.put g x.vnom })
  else
    let (d, clip) := demandOf c.rd x (c.corr.getD 0 g) (groupVf s vf g)
    let s := s.when clip (fun s => (s.count R.HDR_RAIL_CLIP 1).raise Ev.RAIL_CLIP (payF g c.content))
    let hist := (d :: s.hdr.demands.getD [] g).take 256
    let code := maxL (hist.take (x.hold + 1))
    let volt := x.offset + 50 * code
    ({ s with hdr := { s.hdr with demands := s.hdr.demands.put g hist } },
     { c with codes := c.codes.put g code, volts := c.volts.put g volt, rails := c.rails.put g (if railEn then volt else x.vnom) })

/-- A content frame captured with PHO_CTRL.EN = 0 has no pass and no requirement: its demands are made at its capture (R206, R261). -/
def idleDemands (content : Nat) (s : Device) : Device :=
  match s.pipe.find? (fun c => c.content = content) with
  | some c =>
    if wbit (c.rd R.PHO_CTRL) 0 then s
    else
      let (s, c) := (railGroups s c.rd).foldl (groupPass []) (s, c)
      s.setCtx c
  | none => s

/-! ### Zones -/

/-- A zone's state. -/
def Device.zone (s : Device) (z : Nat) : ZoneState := s.hdr.zones.getD {} z

/-- Replaces a zone's state. -/
def Device.setZone (s : Device) (z : Nat) (x : ZoneState) : Device :=
  { s with hdr := { s.hdr with zones := s.hdr.zones.setD {} z x } }

/-- LED power of an entry after step 7, in units of `powerDen`. -/
def entryPower (o : EntryOut) : Int := (o.v7.zipIdx).foldl (fun (a : Int) p => a + powerNum o.prof p.2 p.1 o.temp) 0

/-- An entry's current times a voltage in mV, in units of `powerDen`. -/
def entrySupply (volt : Nat) (o : EntryOut) : Int :=
  ((volt * sumL (o.v7.zipIdx.map (fun p => p.1 * emit16 o.prof p.2 8)) * 2 ^ 24 * 160000 : Nat) : Int)

/-- The headroom loss of a zone, in units of `powerDen` (R271): of the groups in the zone, and of fixtures without a group. -/
def zoneLoss (s : Device) (c : FrameCtx) (rails : Table Nat) (outs : List EntryOut) (z : Nat) : Int :=
  outs.foldl (fun (a : Int) o =>
    let g := (patchOf s o.entry.fixture).rgroup
    if g < 4095 then
      if (groupOf s c.rd (groupBank c.rd) g).zone = z then a + entrySupply (rails.getD 0 g) o - entryPower o else a
    else if o.entry.zone = z then a + entrySupply (wfld (c.rd (R.HDR_Zz_VNOM z)) 15 0) o - entryPower o
    else a) 0

/-- The effective budget under changes, newest first (R274): the newest that has begun decides; before all of them, what the oldest left. `now` is
the budget in effect. -/
def budgetUnder (now content : Nat) : List (Nat × Nat × Nat × Nat) → Nat
  | [] => now
  | (old, new, f0, n) :: rest =>
    let j := frameDiff content f0
    if j < 0 then if rest.isEmpty then old else budgetUnder old content rest
    else if (n : Int) ≤ j then now else old - (old - new) * (j.toNat + 1) / n

/-- The effective budget of a zone for a content frame (R274). -/
def effBudget (s : Device) (rd : Nat → Word) (z content : Nat) : Nat :=
  budgetUnder (rd (R.HDR_Zz_BUDGET z)).toNat content (s.zone z).ramp

/-- Whether the budget of a zone ramps for a content frame (R274). -/
def rampingFor (s : Device) (z content : Nat) : Bool :=
  match (s.zone z).ramp.find? (fun r => 0 ≤ frameDiff content r.2.2.1) with
  | some (_, _, f0, n) => frameDiff content f0 < n
  | none => false

/-- The chains, by their settings in a content frame, that carry a fixture with an entry in a zone (R275, R276). -/
def zoneChains (s : Device) (outs : List EntryOut) (z : Nat) : List Nat :=
  ((outs.filter (fun o => o.entry.zone = z)).filterMap (fun o => (placeOf s o.entry.fixture).map (·.chain))).eraseDups

/-- A zone's results for a content frame (R271). -/
def zoneResult (s : Device) (c : FrameCtx) (rails : Table Nat) (outs : List EntryOut) (z : Nat) : ZoneResult :=
  let power (safe : Bool) : Nat :=
    ((((outs.filter (fun o => o.entry.zone = z && o.safe = safe)).foldl (fun (a : Int) o => a + entryPower o) 0)) / powerDen).toNat
  let led := power false
  let ledS := power true
  let loss := zoneLoss s c rails outs z / powerDen
  let lit := ((led + ledS : Nat) : Int) + loss
  let eff := max (wfld (c.rd (R.HDR_Zz_EFF z)) 16 0) 1
  let quies := (c.rd (R.HDR_Zz_QUIES z)).toNat
  let k := s.rf (R.HDR_Zz_K z) 17 0
  { pred := zonePower outs z false, safe := zonePower outs z true, led := led, ledS := ledS, loss := loss,
    model := lit * 65536 / eff + quies,
    phat := (lit * 65536 + quies * eff) * k / (eff * 65536),
    part := led * k / eff,
    beff := effBudget s c.rd z c.content, chains := zoneChains s outs z }

/-- The settings that will govern the next content frame, at any moment of the present frame (R33). -/
def nextRd (s : Device) : Nat → Word := if s.shw.lastPoint = some s.shw.frame then fileRd s.before else s.reg

/-- S_z of the next content frame (R273), and whether the budget is below the fixed part. -/
def nextScale (limit : Bool) (release scale budget : Nat) (r : ZoneResult) : Nat × Bool :=
  let x := r.phat - r.part
  if !limit then (65536, false)
  else if (budget : Int) < x then (0, true)
  else
    let room := 65536 * ((budget : Int) - x).toNat / max r.part 1
    if r.part = 0 || 65536 < room then
      let cap := 65536 + 64 * release
      let q := if r.part = 0 then cap else min (isqrt (room * 65536)) cap
      (min 65536 (max scale 1024 * q / 65536), false)
    else (scale * room / 65536, false)

/-- The scale of a zone for the content after `content` is set (R273), with LIMITING and FLOOR. -/
def scaleZone (z content : Nat) (r : ZoneResult) (s : Device) : Device :=
  let rd := nextRd s
  let old := s.rf (R.HDR_Zz_SCALE z) 16 0
  let (sc, floor) := nextScale (wbit (rd R.HDR_CTRL) 2) (wfld (rd R.HDR_RELEASE) 9 0) old
    (effBudget s rd z (frameAdd content 1)) r
  let st := R.HDR_Zz_STATUS z
  let wasLim := s.rb st 1
  let wasFloor := s.rb st 2
  let s := ((s.setN (R.HDR_Zz_SCALE z) sc).setB st 1 (sc < 65536)).setB st 2 floor
  let s := s.raiseIf (wasLim ≠ decide (sc < 65536)) Ev.LIMIT_CHANGE (payF z content)
  s.raiseIf (floor && !wasFloor) Ev.ZONE_FLOOR (payF z content)

/-- Whether the guard of a zone withholds a content frame (R276). -/
def guardTrips (c : FrameCtx) (z : Nat) (r : ZoneResult) : Bool :=
  let cfg := c.rd (R.HDR_Zz_CFG z)
  wbit cfg 16 && ((r.beff * (100 + wfld cfg 31 24) : Nat) : Int) < 100 * r.phat

/-- The guard decision of a zone (R276): counted, shown and reported; the zone's correction window is spoilt (R272). -/
def guardZone (c : FrameCtx) (z : Nat) (r : ZoneResult) (s : Device) : Device :=
  if !guardTrips c z r then s
  else
    let s := s.setZone z { s.zone z with spoilt := true }
    (((s.count R.HDR_GUARD_HOLDS 1).setB (R.HDR_Zz_STATUS z) 5 true)).raise Ev.GUARD_HOLD (payF z c.content)

/-- The zone results of a content frame are published (R280). DESIGN CHOICE (log 63): a loss below 0 reads in two's complement. -/
def publishZones (c : FrameCtx) (rs : List (Nat × ZoneResult)) (s : Device) : Device :=
  let s := s.each rs fun s p =>
    let (z, r) := p
    ((((s.setN (R.HDR_Zz_PRED z) (trunc 32 r.phat)).setN (R.HDR_Zz_BEFF z) r.beff).setN (R.HDR_Zz_LED z) r.led).setN
      (R.HDR_Zz_HLOSS z) (trunc 32 r.loss)).setB (R.HDR_Zz_STATUS z) 4 (rampingFor s z c.content)
  s.set64 R.HDR_FRAME_LO R.HDR_FRAME_HI c.content

/-- The end of a pass for HDR (R260 to R276). In the standby role the scales and guard decisions are the active unit's (R273, R276). -/
def hdrPass (c : FrameCtx) (outs : List EntryOut) (s : Device) : Device × FrameCtx :=
  let vf := passVf outs
  let (s, c) := (passGroups s c.rd outs).foldl (groupPass vf) (s, { c with codes := [], rails := [], volts := [] })
  let rs := (upto 64).map (fun z => (z, zoneResult s c c.rails outs z))
  let held := if inStandby s then c.withheld
    else (((rs.filter (fun p => guardTrips c p.1 p.2)).flatMap (fun p => p.2.chains)).filter (fun ch => chainMode c.rd ch < 2)).eraseDups
  let s := s.when (!inStandby s) (fun s => s.each rs (fun s p => guardZone c p.1 p.2 s))
  let s := publishZones c rs s
  let s := s.when (!inStandby s) (fun s => s.each rs (fun s p => scaleZone p.1 c.content p.2 s))
  (s, { c with maxVf := vf,
               zones := rs.foldl (fun (t : Table ZoneResult) p => t.put p.1 p.2) [], withheld := held })

/-- PHO_DONE (R202): the pass of a content frame ends and everything it determines is made. -/
def passDone (micros : Nat) (c : FrameCtx) (s : Device) : Device :=
  let (s, outs, temps) := passEntries c s
  let ageOn := wbit (c.rd R.PHO_CTRL) 2
  let s := if ageOn then foldAge c outs (addAge (ageAdds outs) s) else s
  let s := publishPass micros c outs temps s
  let (s, c) := hdrPass c outs s
  let c := { c with passed := true, blocks := passBlocks s outs, pixels := passPixels outs, levels := passLevels outs }
  let s := addWarmth ((mapFixtures (outs.map (·.entry))).map (fun p => (p.2, (temps.getD (0, 0) p.1).1))) s
  rebuildMoved ((outs.map (·.entry.profile)).eraseDups) ((s.setCtx c).raise Ev.PHO_DONE c.content)

/-- A frame in which no pass runs (R194): the working sums gain what the last pass added. -/
def idlePass (s : Device) : Device := if s.rb R.PHO_CTRL 2 then addAge s.pho.lastAdd s else s

/-! ### Latches -/

/-- The light a zone shows against the budget in effect (R275). -/
def overBudget (z : Nat) (s : Device) : Device :=
  match (s.zone z).shown with
  | some (content, phat) =>
    let st := R.HDR_Zz_STATUS z
    let above : Bool := (s.rn (R.HDR_Zz_BUDGET z) : Int) < phat
    if s.rb st 0 = above then s
    else (s.setB st 0 above).raise (if above then Ev.ZONE_OVER else Ev.ZONE_UNDER) (payF z content)
  | none => s

/-- A content frame is latched for a zone (R272, R275): its predicted energy enters the correction window, and the zone shows it unless every chain
of the zone withholds it. -/
def zoneLatch (c : FrameCtx) (z : Nat) (r : ZoneResult) (s : Device) : Device :=
  let x := s.zone z
  let held := !r.chains.isEmpty && r.chains.all c.withheld.contains
  let energy := r.model * (modeOf c.rd).frameNs
  s.setZone z { x with model := x.model + energy, last := energy, shown := if held then x.shown else some (c.content, r.phat) }

/-- A buck channel's state. -/
def Device.buck (s : Device) (c : Nat) : BuckState := s.hdr.bucks.getD {} c

/-- Replaces a buck channel's state. -/
def Device.setBuck (s : Device) (c : Nat) (x : BuckState) : Device :=
  { s with hdr := { s.hdr with bucks := s.hdr.bucks.setD {} c x } }

/-- At a latch (R262, R269, R272, R275): the content shown changes, budgets are compared, the predicted energy enters the correction
window, and a rising rail that has not arrived is slow. -/
def hdrLatch (c : FrameCtx) (s : Device) : Device :=
  let shown : ShownFrame := { content := c.content, rails := c.rails, volts := c.volts, maxVf := c.maxVf }
  let s := noteLevels c { s with hdr := { s.hdr with shown := (shown :: s.hdr.shown).take 2, window := s.hdr.window + 1 } }
  let s := s.each c.zones (fun s p => zoneLatch c p.1 p.2 s)
  let s := s.each (upto 64) (fun s z => overBudget z s)
  s.each (upto 16) fun s b =>
    let x := s.buck b
    if x.rising && x.ref < 1000 * x.target then
      ((s.setBuck b { x with rising := false }).count R.HDR_RAIL_SLOW 1).raise Ev.RAIL_SLOW (payF b c.content)
    else s

/-- After the commit point of frame F (R272, R274, R275): a cut budget ramps, an increase acts at once, the light shown is compared anew; a meter
correction that is enabled starts its windows with the next latch. -/
def hdrAfterPoint (old : Nat → Word) (content : Nat) (s : Device) : Device :=
  let s := if s.rb R.HDR_CTRL 3 && !wbit (old R.HDR_CTRL) 3 then { s with hdr := { s.hdr with window := 0 } } else s
  s.each (upto 64) fun s z =>
    let b0 := (old (R.HDR_Zz_BUDGET z)).toNat
    let b1 := s.rn (R.HDR_Zz_BUDGET z)
    if b0 = b1 then s
    else
      let from_ := effBudget s old z (frameAdd content (-1))
      let n := if b1 < from_ then s.rf (R.HDR_Zz_CFG z) 9 0 else 0
      overBudget z (s.setZone z { s.zone z with ramp := ((from_, b1, content, n) :: (s.zone z).ramp).take 4 })

/-! ### Headroom feedback -/

/-- Writes a group's record in the correction table (R265): C_g, the last H_meas and H_mod. -/
def writeCorr (g : Nat) (s : Device) : Device :=
  let x := s.group g
  memStore .hdr (base4k s.reg R.HDR_CORR_BASE + 8 * g) (leBytes 2 (trunc 16 x.corr) ++ leBytes 2 x.meas ++ leBytes 2 (trunc 16 x.hmod) ++ leBytes 2 0) s

/-- A group has a usable reading (R264): the largest error ε of the readback raises C_g at once or lowers it by an eighth, within
limits. -/
def groupFeedback (g content : Nat) (eps : Int) (meas : Nat) (hmod : Int) (s : Device) : Device :=
  let x := s.group g
  let c := if x.corr < eps then eps else x.corr - -((-(x.corr - eps)) / 8)
  let c' := clampI (-500) 1000 c
  let s := s.setGroup g { x with corr := c', meas := meas, hmod := hmod, since := some content, stale := false }
  (writeCorr g s).raiseIf (c ≠ c') Ev.CORR_LIMIT (payF g content)

/-- What one STATUS record tells the feedback (R264): the group, H_meas, H_mod of the content before the one the chain latched. -/
def headroomOf (s : Device) (chainContent fixture : Nat) (record : List Byte) : Option (Nat × Nat × Int) :=
  let g := (patchOf s fixture).rgroup
  let meas := leAt record 6 2
  let prev := frameAdd chainContent (-1)
  match s.hdr.shown.find? (fun f => f.content = prev) with
  | none => none
  | some f =>
    if g < 4095 && (groupOf s s.reg (groupBank s.reg) g).rail && meas ≠ 0xFFFF then
      match f.maxVf.find fixture, f.volts.find g with
      | some vf, some volt => some (g, meas, (((volt : Nat) : Int) * vfUnit - vf) / vfUnit)
      | _, _ => none
    else none

/-- The correction of every group, as a capture takes it (R262). -/
def groupCorrs (s : Device) : Table Int := s.hdr.groups.foldl (fun (t : Table Int) p => t.setD 0 p.1 p.2.corr) []

/-- The feedback of one readback (R264, R265): `l` holds fixture, group, H_meas and H_mod of each usable record. -/
def feedback (content : Nat) (l : List (Nat × Nat × Nat × Int)) (s : Device) : Device :=
  if !s.rb R.HDR_CTRL 1 then s
  else
    let s := s.each l fun s p =>
      let (f, _, meas, _) := p
      if 2 * meas < s.rf R.HDR_HR_MIN 11 0 then (s.count R.HDR_HR_LOW 1).raise Ev.HEADROOM_LOW (payEntry f content) else s
    s.each ((l.map (·.2.1)).eraseDups) fun s g =>
      let mine := l.filter (fun p => p.2.1 = g)
      let worst := mine.foldl (fun (a : Option (Int × Nat × Int)) p =>
        let e : Int := p.2.2.2 - ((p.2.2.1 : Nat) : Int)
        match a with
        | some b => if b.1 < e then some (e, p.2.2.1, p.2.2.2) else a
        | none => some (e, p.2.2.1, p.2.2.2)) none
      match worst with
      | some (e, m, h) => groupFeedback g content e m h s
      | none => s

/-- Whether a group has had no usable record for STALE_ROUNDS × 2 × READBACK_DIV frames (R265). -/
def staleDue (s : Device) (g : Nat) : Bool :=
  match (s.group g).since with
  | some f => ((s.rf R.HDR_FB_CFG 7 0 * 2 * s.rf R.BAT_RB_CFG 6 0 : Nat) : Int) ≤ frameDiff (contentNow s) f
  | none => true

/-- A group without a usable record for too long (R265). The standby takes the active unit's correction (R205). -/
def headroomStale (g : Nat) (s : Device) : Device :=
  let x := s.group g
  if x.stale || !s.rb R.HDR_CTRL 1 || inStandby s || !(groupOf s s.reg (groupBank s.reg) g).rail || !staleDue s g then s
  else
    (writeCorr g (s.setGroup g { x with corr := max x.corr (s.rf R.HDR_FB_CFG 27 16), stale := true })).raise Ev.HEADROOM_STALE
      (payF g (contentNow s))

/-! ### Buck controllers -/

/-- The group that a buck channel serves, in the bank in effect. -/
def buckGroup (s : Device) (c : Nat) : Option Nat :=
  (railGroups s s.reg).find? (fun g =>
    let x := groupOf s s.reg (groupBank s.reg) g
    x.buckEn && x.buck = c)

/-- A buck channel's reference starts to ramp (R262, R269): at the latch down to the rail of the frame then shown, ahead of a latch up to that of
the next frame to be latched. DEDUCED (log 38): the first change after a latch at which the reference falls is that fall. In brace state and in
restarts nothing is latched, and references are held (R263). -/
def buckReference (c : Nat) (s : Device) : Device :=
  match buckGroup s c with
  | none => s
  | some g =>
    let x := s.buck c
    let now := (s.hdr.shown.head?).map (·.content)
    let lower := ((s.hdr.shown.head?).bind (fun f => f.rails.find g)).getD x.target
    if s.rb R.SYS_STATUS 2 || s.shw.restarting.isSome then s
    else if x.followed ≠ now && lower < x.target then s.setBuck c { x with target := lower, rising := false, followed := now }
    else
      match s.pipe.find? (fun f => (f.rails.find g).isSome) with
      | some f =>
        let v := f.rails.getD 0 g
        if x.target < v then s.setBuck c { x with target := v, rising := true, followed := now } else s
      | none => s

/-- Whether a buck channel runs (R270): enabled, without a fault, not in the standby role. -/
def buckRuns (s : Device) (c : Nat) : Bool :=
  s.rb (R.HDR_Bc_CTRL c) 0 && !s.rb (R.HDR_Bc_STATUS c) 1 && !inStandby s

/-- The reference after one period's ramp, in µV (R269). -/
def rampRef (x : BuckState) (step : Nat) : Nat :=
  if x.ref < 1000 * x.target then min (1000 * x.target) (x.ref + step)
  else if x.ref ≤ 1000 * x.target + step then 1000 * x.target else x.ref - step

/-- What the 12-bit converter makes of a sense input in µV (R268): 4,096 steps over 0 to 1.2 V, in 1200/4096 mV. DESIGN CHOICE (log 63): it
truncates, and holds its last code beyond the span. -/
def senseCode (microVolt : Nat) : Nat := min 4095 (microVolt * 4096 / 1200000)

/-- The gate outputs over a switching period, in ns (R268): both low, PWMH high, both low, PWML high. -/
def gatePeriod (s : Device) (c on : Nat) : List Nat :=
  let dtR := s.rf (R.HDR_Bc_PWM c) 21 16
  let dtF := s.rf (R.HDR_Bc_PWM c) 29 24
  [dtR, on, dtF, s.rf (R.HDR_Bc_PWM c) 11 0 - dtR - on - dtF]

/-- What a switching period of a buck channel comes to (R268 to R270): the channel's next state, V_out and I_out in mV and mA, over current, over
voltage. -/
structure BuckStep where
  next : BuckState
  vout : Nat
  iout : Nat
  oc   : Bool
  ov   : Bool
deriving DecidableEq, Repr

/-- The samples at the middle of an on-time, in µV, give V_out and I_out, and the loop the next on-time (R268 to R270). -/
def buckStep (s : Device) (c vsns isns : Nat) : BuckStep :=
  let x := s.buck c
  let period := s.rf (R.HDR_Bc_PWM c) 11 0
  let dead := s.rf (R.HDR_Bc_PWM c) 21 16 + s.rf (R.HDR_Bc_PWM c) 29 24
  let vout : Nat := senseCode vsns * 1200 * s.rf (R.HDR_Bc_SENSE c) 15 0 / 2 ^ 24
  let ref := rampRef x (s.rf (R.HDR_Bc_RAMP c) 9 0 * period)
  let e : Int := ((ref / 1000 : Nat) : Int) - vout
  let kp := s.rf (R.HDR_Bc_LOOP c) 15 0
  let ki := s.rf (R.HDR_Bc_LOOP c) 31 16
  let acc := (clampI 0 (2 ^ 28 - 1) ((x.accI : Int) + ki * e)).toNat
  let on := (clampI 0 ((period : Int) - dead - 20) (((kp : Int) * e + acc) / 4096)).toNat
  let oc := decide (s.rf (R.HDR_Bc_LIMIT c) 11 0 * 4096 < senseCode isns * 1200)
  { next := { x with ref := ref, accI := acc, onTime := on, ocRun := if oc then x.ocRun + 1 else 0, rising := x.rising && ref < 1000 * x.target },
    vout := vout, iout := senseCode isns * 1200 * s.rf (R.HDR_Bc_SENSE c) 31 16 / 2 ^ 24, oc := oc,
    ov := decide (ref / 1000 + s.rf (R.HDR_Bc_LIMIT c) 27 16 < vout) }

/-- Whether a period ends the channel's run (R270): eight periods of over current one after another, or over voltage. -/
def BuckStep.trips (p : BuckStep) : Bool := 8 ≤ p.next.ocRun || p.ov

/-- The channel's registers show a period (R268 to R270, R280). -/
def showBuck (c : Nat) (p : BuckStep) (s : Device) : Device :=
  let st := R.HDR_Bc_STATUS c
  let s := (s.setN (R.HDR_Bc_IOUT c) (p.iout % 65536)).setN (R.HDR_Bc_REF c) (p.next.ref / 1000 % 65536)
  let s := ((((s.setF st 31 16 p.vout).setB st 2 p.oc).setB st 3 p.ov).setB st 4 (p.next.ref ≠ 1000 * p.next.target)).setB st 0 true
  s.setBuck c p.next

/-- The channel's run ends with FAULT and BUCK_FAULT (R270). -/
def buckFault (c : Nat) (s : Device) : Device :=
  (((s.setB (R.HDR_Bc_STATUS c) 0 false).setB (R.HDR_Bc_STATUS c) 1 true).setBuck c { s.buck c with onTime := 0, ocRun := 0 }).raise Ev.BUCK_FAULT
    (payF c (contentNow s))

/-- A switching period ends (R268 to R270); over current ends the on-time at the sample. -/
def buckPeriod (c vsns isns : Nat) (s : Device) : Device :=
  if !buckRuns s c then s
  else
    let p := buckStep s c vsns isns
    let on := (s.buck c).onTime
    let s := showBuck c p (s.send (.buck c) (gatePeriod s c (if p.oc || p.trips then on / 2 else on)))
    if p.trips then buckFault c s else s

/-- The reference of a channel that starts, in mV (R269): the rail of the frame shown, before one VNOM while RAIL_EN = 0. -/
def startTarget (s : Device) (c : Nat) : Nat :=
  match buckGroup s c with
  | none => (s.buck c).target
  | some g => match (s.hdr.shown.head?).bind (fun f => f.rails.find g) with
    | some v => v
    | none => if s.rb R.HDR_CTRL 0 then (s.buck c).target else (groupOf s s.reg (groupBank s.reg) g).vnom

/-- A soft start (R270): the reference ramps from 0. A channel with a fault waits for it to be cleared; in the standby role every channel is off. -/
def softStart (c : Nat) (s : Device) : Device :=
  if inStandby s || s.rb (R.HDR_Bc_STATUS c) 1 then s
  else (s.setBuck c { s.buck c with ref := 0, target := startTarget s c, accI := 0, onTime := 0, ocRun := 0 }).setB (R.HDR_Bc_STATUS c) 0 true

/-- A channel is off: both gate outputs are low. -/
def buckOff (c : Nat) (s : Device) : Device :=
  (s.setB (R.HDR_Bc_STATUS c) 0 false).setBuck c { s.buck c with onTime := 0, ocRun := 0 }

/-- The role has changed (R270): every channel is off in the standby role, and enabled ones start when the unit leaves it. -/
def bucksForRole (was : Bool) (s : Device) : Device :=
  s.each (upto 16) fun s c =>
    if inStandby s then (if s.rb (R.HDR_Bc_STATUS c) 0 then buckOff c s else s)
    else if was && s.rb (R.HDR_Bc_CTRL c) 0 then softStart c s else s

/-! ### Registers -/

/-- The HDR registers' own rules outside commits (R270, R281). -/
def hdrHandler (w : Who) (off : Nat) (v : Word) : Handler :=
  let h := plainHandler w off v
  if 0x1D2000 ≤ off && off < 0x1D2400 then
    let c := (off - 0x1D2000) / 0x40
    match off % 0x40 with
    | 0x00 => { h with
        effect := fun s =>
          let was := s.rb off 0
          let s := storeWrite w off v s
          if wbit v 0 && !was then softStart c s
          else if wbit v 0 then s
          else buckOff c s }
    | 0x04 => { h with state := fun s => if s.rb (R.HDR_Bc_CTRL c) 0 then .state else .ok }
    | 0x08 => { h with state := fun s => if s.rb (R.HDR_Bc_CTRL c) 0 then .state else .ok }
    | 0x0C => { h with state := fun s => if s.rb (R.HDR_Bc_CTRL c) 0 then .state else .ok }
    | 0x18 => { h with
        effect := fun s =>
          let was := s.rb off 1
          let s := storeWrite w off v s
          if wbit v 1 && was && s.rb (R.HDR_Bc_CTRL c) 0 then softStart c s else s }
    | _ => h
  else h

/-- What HDR registers read as where they show live state (R278). -/
def hdrView (s : Device) (w : Who) (off : Nat) : Option Word :=
  let n (k : Nat) : Option Word := some (BitVec.ofNat 32 k)
  let x := s.group (wfld (s.bankReg w R.HDR_GRP_SEL) 11 0)
  if off = R.HDR_GRP_INFO then n (x.code + 65536 * trunc 16 x.corr)
  else if off = R.HDR_GRP_HR then n (x.meas + 65536 * trunc 16 x.hmod)
  else if off = R.HDR_STATUS then n (setFld (s.reg off) 0 0 (groupBank s.reg)).toNat
  else none

/-! ### The commands -/

/-- PHO_DONE (R202): the oldest content frame that is composed and not passed; one with PHO_CTRL.EN = 0 has no pass (R206, R209). -/
def execPhoDone (micros : Nat) (st : State) : Host.Outcome State Fault Refusal :=
  st.onDevice fun s =>
  .next (match s.pipe.find? (fun c => c.composed && !c.passed && wbit (c.rd R.PHO_CTRL) 0) with
    | some c => passDone micros c s
    | none => s)

/-- HEADROOM_STALE (R265). -/
def execHeadroomStale (group : Nat) (st : State) : Host.Outcome State Fault Refusal :=
  st.onDevice fun s =>
  onUnit (group < 4095) (headroomStale group s)

/-- BUCK_REFERENCE_CHANGE (R269). -/
def execBuckReferenceChange (c : Nat) (st : State) : Host.Outcome State Fault Refusal :=
  st.onDevice fun s => onUnit (c < 16) (buckReference c s)

/-- BUCK_PERIOD (R268 to R270). -/
def execBuckPeriod (c vsns isns : Nat) (st : State) : Host.Outcome State Fault Refusal :=
  st.onDevice fun s => onUnit (c < 16) (buckPeriod c vsns isns s)

/-- HDR_Bc_CTRL written (R270). -/
def execBuckEnable (w : Who) (c : Nat) (v : Word) (st : State) : Host.Outcome State Fault Refusal :=
  st.onDevice fun s =>
  onUnit (c < 16) (regWrite s w (R.HDR_Bc_CTRL c) v (hdrHandler w (R.HDR_Bc_CTRL c) v))

/-- HDR_Bc_STATUS.FAULT written (R270). -/
def execBuckFaultClear (w : Who) (c : Nat) (v : Word) (st : State) : Host.Outcome State Fault Refusal :=
  st.onDevice fun s =>
  onUnit (c < 16) (regWrite s w (R.HDR_Bc_STATUS c) v (hdrHandler w (R.HDR_Bc_STATUS c) v))

end Sys2Proof.Machine
end

