-- ==== Sys2Proof/Machine/Halrun.lean ====
section
/-! DEFINITION. The Halrun link and the byte streams of the other modes (R217 to R226, R244 to R248): frames, records, the chain
schedule and its capacity (R228 to R232). What leaves on a chain is recorded as numbers: a byte as itself, the control symbol of byte b
as 256 + b, 512 + n for a level or pulse of the non-HLK modes (break, latch of n clocks, idle of n µs), and ahead of a PWN1 frame 768 + INVERT. -/

namespace Sys2Proof.Machine

/-! ### Symbols and frames -/

/-- A control symbol (R218). -/
def kSym (b : Nat) : Nat := 256 + b
/-- K28.5. -/
def symIdle : Nat := kSym 0xBC
/-- K27.7. -/
def symSof : Nat := kSym 0xFB
/-- K29.7. -/
def symEof : Nat := kSym 0xFD
/-- K28.1. -/
def symLatch : Nat := kSym 0x3C
/-- K28.6. -/
def symRail : Nat := kSym 0xDC
/-- K28.3. -/
def symTurn : Nat := kSym 0x7C
/-- K28.0. -/
def symPing : Nat := kSym 0x1C

/-- The frame types of R220. -/
inductive FrameType where
  | data | config | range | enum | assign
deriving DecidableEq, Repr

/-- The TYPE byte. -/
def FrameType.byte : FrameType → Nat
  | .data => 0x01 | .config => 0x02 | .range => 0x03 | .enum => 0x81 | .assign => 0x82

/-- The CHAIN value folded into the CRC preset (R220). -/
def FrameType.fold (t : FrameType) (c : Nat) : Nat :=
  match t with
  | .enum => 0xFFFF
  | .assign => 0xFFFF
  | .data => c
  | .config => c
  | .range => c

/-- A block: LEN, RAIL, payload (R221). -/
def hlkBlock (rail : Nat) (payload : List Byte) : List Byte :=
  leBytes 1 (payload.length / 2 % 256) ++ leBytes 1 rail ++ payload

/-- The header, blocks and CRC of a frame (R219, R222). -/
def hlkBytes (t : FrameType) (c seq count : Nat) (blocks : List (List Byte)) : List Byte :=
  let body := leBytes 1 t.byte ++ leBytes 2 seq ++ leBytes 1 0 ++ leBytes 2 count ++ leBytes 2 0 ++ blocks.flatten
  body ++ leBytes 4 (crc32cFrom (0xFFFFFFFF ^^^ (t.fold c * 65536 + seq)) body)

/-- A frame on the line: 8 idles, SOF, the bytes, EOF, 4 idles (R219). -/
def hlkSymbols (bytes : List Byte) : List Nat :=
  List.replicate 8 symIdle ++ [symSof] ++ bytes.map (·.toNat) ++ [symEof] ++ List.replicate 4 symIdle

/-- Whether the unit transmits on its chains: neither in LISTEN nor in the standby role (R213, R384). -/
def sends (s : Device) : Bool := !inStandby s && rdgState s ≠ 1

/-- Puts symbols on a chain's line. -/
def Device.line (s : Device) (c : Nat) (syms : List Nat) : Device := s.when (sends s) (fun s => s.send (.chain c) syms)

/-- Sends a frame with the chain's next sequence number (R219). -/
def sendFrame (t : FrameType) (c count : Nat) (blocks : List (List Byte)) (s : Device) : Device × List Byte :=
  let x := s.chain c
  let bytes := hlkBytes t c x.seq count blocks
  ((s.setChain c { x with seq := (x.seq + 1) % 65536 }).line c (hlkSymbols bytes), bytes)

/-- TURN with FIRST, LAST and REQ (R225). -/
def turnSymbols (first last req : Nat) : List Nat := [symTurn, first, last, req]

/-! ### Records -/

/-- Whether a record is whole and its CRC-16 fits (R226). -/
def recordGood (r : List Byte) : Bool := r.length = 16 && leAt r 14 2 = crc16 (r.take 14)
/-- KIND. -/
def recKind (r : List Byte) : Nat := leAt r 0 1 % 16
/-- Flag [4]: UNASSIGNED in an IDENT record. -/
def recFlag (r : List Byte) : Bool := (leAt r 0 1).testBit 4
/-- POS, or the low byte of the raw position. -/
def recPos (r : List Byte) : Nat := leAt r 1 1

/-! ### What a chain carries -/

/-- The fixtures that a chain of a byte mode carries, with HOME, in ascending HOME (R214, R244, R245, R248). -/
def modeFixtures (s : Device) (c : Nat) : List (Nat × Nat) :=
  sortBy (fun (a b : Nat × Nat) => a.1 ≤ b.1) (((patched s).filter (fun p => match placeOf s p.1 with
    | some q => q.chain = c
    | none => false)).map (fun p => (p.2.home, p.1)))

/-- Bytes of a fixture's block. -/
def blockBytes (s : Device) (f : Nat) : Nat := 2 * (patchOf s f).words

/-- A fixture's output bytes for a content frame: its block, or zeros where the map has no entry for it. -/
def outBytes (s : Device) (ctx : FrameCtx) (f : Nat) : List Byte :=
  match ctx.blocks.find f with
  | some b => b.2
  | none => List.replicate (blockBytes s f) 0

/-- Bytes of 16-bit words high byte first. -/
def swapWords : List Byte → List Byte
  | a :: b :: l => b :: a :: swapWords l
  | l => l

/-- A fixture's bytes in the byte modes: LIN16 and LIN12 words high byte first (R244, R245, R248). -/
def outHigh (s : Device) (ctx : FrameCtx) (f : Nat) : List Byte :=
  match ctx.blocks.find f with
  | some (true, b) => swapWords b
  | _ => outBytes s ctx f

/-- The RAIL byte of a fixture (R221, R258): its group's code when it is the carrier on a chain with RAIL_EN, else 0xFF. -/
def railByte (s : Device) (ctx : FrameCtx) (c f : Nat) : Nat :=
  let p := patchOf s f
  let g := groupOf s ctx.rd (groupBank ctx.rd) p.rgroup
  if wbit (ctx.rd (R.BAT_CHn_CFG c)) 6 && p.rail && p.rgroup < 4095 && wbit (ctx.rd R.HDR_CTRL) 0 && g.rail && !g.buckEn &&
      carrierOf s ctx.rd p.rgroup = some f then ctx.codes.getD 0xFF p.rgroup
  else 0xFF

/-- Fills bytes with a repeated pixel; zeros without one (R242). -/
def fillBytes (pixel : List Byte) (n : Nat) : List Byte :=
  if pixel.isEmpty then List.replicate n 0 else (upto n).map (fun i => pixel.getD (i % pixel.length) 0)

/-- The block of a position (R221, R241): the fixture's codes, or one zero word for an unpatched or dark driver. `fill` replaces the
payload and the RAIL byte. -/
def positionBlock (s : Device) (ctx : FrameCtx) (c : Nat) (fill : Option (List Byte)) (p : Position) : List Byte :=
  match p.fixture, p.dark with
  | some f, false =>
    (match fill with
     | some px => hlkBlock 0xFF (fillBytes px (blockBytes s f))
     | none => hlkBlock (railByte s ctx c f) (outBytes s ctx f))
  | _, _ => hlkBlock 0xFF [0, 0]

/-! ### Time (R228 to R232) -/

/-- The symbol time τ in ns (R229). -/
def symTime (rd : Nat → Word) (c : Nat) : Rat := (400 : Rat) / ((2 ^ wfld (rd (R.BAT_CHn_CFG c)) 4 3 : Nat) : Rat)

/-- The frame period in ns. -/
def periodNs (rd : Nat → Word) : Rat := ((modeOf rd).frameNum : Rat) / (((modeOf rd).num : Nat) : Rat)

/-- The readback window in ns (R229). -/
def windowNs (rd : Nat → Word) : Rat := periodNs rd * ((wfld (rd R.BAT_RB_CFG) 13 8 : Nat) : Rat) / 200

/-- T_lead of a chain (R229). -/
def chainLead (rd : Nat → Word) (c : Nat) : Rat := if wbit (rd (R.BAT_CHn_CFG c)) 6 then railLead rd (modeOf rd) else 0

/-- How far ahead of the latch the rail strobe comes (R229): T_lead, and 4τ where that is 0. -/
def strobeLead (rd : Nat → Word) (c : Nat) : Rat := if chainLead rd c = 0 then 4 * symTime rd c else chainLead rd c

/-- ADJ of a chain as it moves the issue, in 1/16 ns (R228, R244, R248, R253). -/
def adjOf (rd : Nat → Word) (c : Nat) : Int :=
  let cfg := (rd (R.BAT_CHn_MODECFG c)).toNat
  match chainMode rd c with
  | 0 => sext 16 cfg
  | 2 => 0
  | _ => -sext 16 (cfg / 65536)

/-- The compensation C_c of a chain in 1/16 ns (R228, R236): only an HLK chain is ranged (R244, R248). -/
def chainComp (rd : Nat → Word) (c : Nat) : Nat := if chainMode rd c = 0 then wfld (rd (R.BAT_CHn_COMP c)) 21 0 else 0

/-- The issue of the latch of the content before, in ns after the capture (R228). -/
def cycleStart (rd : Nat → Word) (c : Nat) : Rat :=
  latchAfter rd (modeOf rd) - periodNs rd - ((chainComp rd c : Nat) : Rat) / 16 + ((adjOf rd c : Int) : Rat) / 16

/-- Settings with another compensation for a chain (R240). -/
def withComp (rd : Nat → Word) (c comp : Nat) (off : Nat) : Word := if off = R.BAT_CHn_COMP c then BitVec.ofNat 32 (comp % 2 ^ 22) else rd off

/-- When a fixture is ready, in ns after the capture (R230, R258): the bound of its last entry, or of its group's for a carrier, plus
1 µs; 0 for a fixture outside the map. -/
def readyAt (s : Device) (rd : Nat → Word) (bounds : List (MapEntry × Rat)) (f : Nat) : Rat :=
  let g := (patchOf s f).rgroup
  let x := groupOf s rd (groupBank rd) g
  let b := if g < 4095 && x.rail && !x.buckEn && carrierOf s rd g = some f then boundOf bounds (fun k => k = f || (patchOf s k).rgroup = g)
    else boundOf bounds (fun k => k = f)
  if b = 0 then 0 else b + 1000

/-- The payload bytes and readiness of each position. -/
def positionLoads (s : Device) (rd : Nat → Word) (bounds : List (MapEntry × Rat)) (ps : List Position) : List (Nat × Rat) :=
  ps.map (fun p => match p.fixture, p.dark with
    | some f, false => (blockBytes s f, readyAt s rd bounds f)
    | _, _ => (2, 0))

/-- S_c in ns after the issue of the latch before (R230): the readback window has ended and no block starts before its fixture is
ready. -/
def frameStart (rd : Nat → Word) (c : Nat) (loads : List (Nat × Rat)) : Rat :=
  let tau := symTime rd c
  let q := cycleStart rd c
  (loads.foldl (fun (a : Rat × Rat) l =>
    let need := l.2 - q - a.1 * tau
    (a.1 + ((2 + l.1 : Nat) : Rat), if a.2 < need then need else a.2)) (17, 3 * tau + windowNs rd)).2

/-- The margin of a chain frame before 4τ + 2 µs ahead of the rail strobe, in ns (R230). -/
def frameSlack (rd : Nat → Word) (c : Nat) (loads : List (Nat × Rat)) : Rat :=
  let tau := symTime rd c
  let symbols : Nat := 22 + sumL (loads.map (fun l => 2 + l.1))
  periodNs rd - strobeLead rd c - (frameStart rd c loads + ((symbols : Nat) : Rat) * tau) - 4 * tau - 2000

/-- The slices of a chain's readback (R232): as many positions as fit the window from position 0, then from the rest. -/
def sliceList (rd : Nat → Word) (c : Nat) (delays : List Nat) : Nat → Nat → Nat → List (Nat × Nat)
  | 0, _, _ => []
  | k + 1, first, n =>
    if n ≤ first then []
    else
      let tau := symTime rd c
      let fits (last : Nat) : Bool :=
        (((6 + 16 * (last - first + 1) : Nat) : Rat) * tau + 2 * ((delays.getD last 0 : Nat) : Rat) / 16 + 1300) ≤ windowNs rd
      match (((upto (n - first)).map (first + ·)).takeWhile fits).getLast? with
      | some last => (first, last) :: sliceList rd c delays k (last + 1) n
      | none => []

/-- The slices of a chain with n positions; none when two do not hold them all. -/
def slicesOf (rd : Nat → Word) (c : Nat) (delays : List Nat) (n : Nat) : Option (List (Nat × Nat)) :=
  let l := sliceList rd c delays 2 0 n
  if n = 0 then some [] else match l.getLast? with
    | some (_, last) => if last + 1 = n then some l else none
    | none => none

/-- Whether the bits of a chain's DATA frame fit the cycle: the pixel capacity of R231 and the payload limit. -/
def loadFits (rd : Nat → Word) (c : Nat) (loads : List (Nat × Rat)) : Bool :=
  let bitRate : Rat := 8 / symTime rd c
  let lead := chainLead rd c
  let o : Rat := ((8 * (30 + 2 * loads.length) : Nat) : Rat) + bitRate * (lead + 2000)
  let avail : Rat := bitRate * (periodNs rd - windowNs rd) - o
  let bytes := sumL (loads.map (·.1))
  bytes ≤ 131072 && ((8 * bytes : Nat) : Rat) ≤ avail

/-- Whether an HLK chain with these positions meets R230, R231 and R232. -/
def hlkFits (s : Device) (rd : Nat → Word) (bounds : List (MapEntry × Rat)) (c : Nat) (ps : List Position) (delays : List Nat) : Bool :=
  let loads := positionLoads s rd bounds ps
  ps.isEmpty || (loadFits rd c loads && 0 ≤ frameSlack rd c loads && (slicesOf rd c delays ps.length).isSome)

/-- The time from the cycle's start to the readiness of every fixture of a byte-mode chain, in ns (R230, R244, R248). -/
def readyWait (s : Device) (rd : Nat → Word) (bounds : List (MapEntry × Rat)) (c : Nat) (fs : List (Nat × Nat)) : Rat :=
  let last := fs.foldl (fun (a : Rat) p => if a < readyAt s rd bounds p.2 then readyAt s rd bounds p.2 else a) 0
  let w := last - cycleStart rd c
  if w < 0 then 0 else w

/-- T_dmx in ns (R245). -/
def dmxTime (cfg : Word) : Nat := (wfld cfg 21 14 + wfld cfg 26 22) * 4000 + (wfld cfg 9 0 + 1) * 44000

/-- The margin of an enabled chain in the capacity check of its mode, in ns (R230, R244, R245, R248). -/
def chainSlack (s : Device) (rd : Nat → Word) (bounds : List (MapEntry × Rat)) (c : Nat) : Rat :=
  let cfg := rd (R.BAT_CHn_MODECFG c)
  let fs := if chainMode rd c = 1 || chainMode rd c = 3 then modeFixtures s c else []
  let bytes := sumL (fs.map (fun p => blockBytes s p.2))
  match chainMode rd c with
  | 0 => frameSlack rd c (positionLoads s rd bounds (s.chain c).positions)
  | 1 =>
    let clk : Rat := ((5 * (wfld cfg 7 0 + 1) : Nat) : Rat)
    periodNs rd - readyWait s rd bounds c fs - ((8 * bytes + wfld cfg 15 8 : Nat) : Rat) * clk - 2000
  | 2 => ((wfld cfg 13 10 + 1 : Nat) : Rat) * periodNs rd - ((dmxTime cfg + wfld cfg 31 27 * 1000000 + 1000000 : Nat) : Rat)
  | _ =>
    let bit : Rat := ((wfld (rd (R.BAT_BANKb_PWN (c / 32))) 9 0 : Nat) : Rat) * 5 / 2
    periodNs rd - readyWait s rd bounds c fs - bit * ((8 * bytes : Nat) : Rat) - ((wfld cfg 8 0 * 1000 + 2000 : Nat) : Rat)

/-- Whether an enabled chain passes the capacity check of its mode (R230, R231, R232, R244, R245, R248). -/
def chainFits (s : Device) (rd : Nat → Word) (bounds : List (MapEntry × Rat)) (c : Nat) : Bool :=
  match chainMode rd c with
  | 0 => hlkFits s rd bounds c (s.chain c).positions (s.chain c).delays
  | 2 => 0 ≤ chainSlack s rd bounds c && ((wfld (rd (R.BAT_CHn_MODECFG c)) 13 10 + 1 : Nat) : Rat) * periodNs rd ≤ 1000000000
  | _ => 0 ≤ chainSlack s rd bounds c

/-! ### Validation -/

/-- Whether a BAT_CHn_MODECFG value is in range for a mode (R253). -/
def modeCfgOk (mode : Nat) (cfg : Word) : Bool :=
  let r (hi lo a b : Nat) : Bool := a ≤ wfld cfg hi lo && wfld cfg hi lo ≤ b
  match mode with
  | 0 => true
  | 1 => r 7 0 7 255 && r 15 8 1 255
  | 2 => r 9 0 24 512 && r 21 14 23 250 && r 26 22 3 25
  | _ => r 8 0 10 500

/-- Whether the reserved bits of a BAT_CHn_MODECFG value are 0 for a mode (R253). -/
def modeCfgClean (mode : Nat) (cfg : Word) : Bool :=
  match mode with
  | 0 => wfld cfg 31 16 = 0
  | 3 => wfld cfg 15 9 = 0
  | _ => true

/-- Whether a bank's PWN1 timing is in range (R248). -/
def pwnOk (v : Word) : Bool :=
  let p := wfld v 9 0
  let t0 := wfld v 19 10
  let t1 := wfld v 29 20
  320 ≤ p && p ≤ 1000 && 40 ≤ t0 && t0 + 40 ≤ t1 && t1 + 40 ≤ p

/-- Whether spreading is deeper than ±1.0 % (R249). -/
def deepSpread (v : Word) : Bool := wbit v 0 && 2 ≤ wfld v 2 1

/-- Whether some DMX chain is enabled. -/
def anyDmx (rd : Nat → Word) : Bool := (upto 512).any (fun c => chainOn rd c && chainMode rd c = 2)

/-- The failures of the batten outputs under a register file (R230 to R232, R244 to R249, R252, R253). -/
def batFailures (s : Device) (rd : Nat → Word) : List Failure :=
  let on := (upto 512).filter (chainOn rd)
  let bounds := if on.isEmpty then [] else entryBounds s rd (mapBank rd)
  let changed (off : Nat) : Bool := rd off ≠ s.reg off
  let cfgBad (c : Nat) : Bool :=
    let v := rd (R.BAT_CHn_CFG c)
    (wbit v 6 && chainMode rd c ≠ 0) || ((wbit v 7 || wbit v 8) && chainMode rd c ≠ 2)
  let bads := (upto 512).filter cfgBad
  let live (c : Nat) : Bool := chainOn rd c || changed (R.BAT_CHn_MODECFG c)
  let unclean := (upto 512).filter (fun c => live c && !modeCfgClean (chainMode rd c) (rd (R.BAT_CHn_MODECFG c)))
  let ranges := on.filter (fun c => !modeCfgOk (chainMode rd c) (rd (R.BAT_CHn_MODECFG c)))
  let pwn := (upto 16).filter (fun b => !pwnOk (rd (R.BAT_BANKb_PWN b)))
  let full := on.filter (fun c => modeCfgOk (chainMode rd c) (rd (R.BAT_CHn_MODECFG c)) && !chainFits s rd bounds c)
  need unclean.isEmpty .reserved (unclean.flatMap (fun c => [R.BAT_CHn_CFG c, R.BAT_CHn_MODECFG c])) ++
  need ranges.isEmpty .range (ranges.flatMap (fun c => [R.BAT_CHn_CFG c, R.BAT_CHn_MODECFG c])) ++
  need pwn.isEmpty .range (pwn.map R.BAT_BANKb_PWN) ++
  need bads.isEmpty .conflict (bads.map R.BAT_CHn_CFG) ++
  need (!(deepSpread (rd R.BAT_SS) && anyDmx rd)) .conflict (R.BAT_SS :: on.map R.BAT_CHn_CFG) ++
  need full.isEmpty .capacity (full.flatMap (fun c => [R.BAT_CHn_CFG c, R.BAT_CHn_MODECFG c, R.BAT_BANKb_PWN (c / 32)]) ++
    [R.BAT_LATCH_ADJ, R.BAT_RB_CFG, R.HDR_RAIL_LEAD])

/-! ### The map swap (R171, R173, R230) -/

/-- The first entry of a bank whose fixture lies on a chain that the bank makes fail R230, or in a group or under a guard whose bound of R263 it
breaks: swaps are validated like every configuration that affects a chain. DEDUCED (log 35): the entry that stands for it. -/
def mapChainCode (s : Device) (bank : Nat) : Option (Code × Nat) :=
  let rd (off : Nat) : Word := if off = R.PHO_MAP_CTRL then setFld (s.reg off) 4 4 bank else s.reg off
  let bounds := entryBounds s rd bank
  let full := (upto 512).filter (fun c => chainOn rd c && !chainFits s rd bounds c)
  let late (f : Nat) : Bool :=
    let x := groupOf s rd (groupBank rd) (patchOf s f).rgroup
    x.rail && x.buckEn && (patchOf s f).rgroup < 4095 && !boundMet rd (modeOf rd) (boundOf bounds (fun k => (patchOf s k).rgroup = (patchOf s f).rgroup))
  let guarded : Bool := (upto 64).any (fun z => wbit (rd (R.HDR_Zz_CFG z)) 16) && !boundMet rd (modeOf rd) (boundOf bounds (fun _ => true))
  let hits (f : Nat) : Bool := late f || (match placeOf s f with
    | some q => full.contains q.chain
    | none => false)
  let es := mapEntries s rd bank
  if guarded then some (.capacity, es.length - 1)
  else match es.findIdx? (fun e => hits e.fixture) with
    | some i => some (.capacity, i)
    | none => if full.isEmpty then none else some (.capacity, 0)

/-- MAP_VALIDATION_DONE (R173, R230): the bank passes and waits for the commit point, or the swap is abandoned. -/
def mapValidated (s : Device) : Device :=
  if s.pho.mapSwap ≠ .validating then s
  else
    let bank := 1 - mapBank s.reg
    let code := (mapBankCode s s.reg bank).orElse (fun _ => mapChainCode s bank)
    let s := s.each (upto (mapCount s.reg bank)) (fun s i => (memRead .pho (mapAt s.reg bank i) 16 s).1)
    match code with
    | some (c, i) =>
      let s := { s with pho := { s.pho with mapSwap := .idle } }
      ((setTblStatus 0 i c s).setF R.PHO_MAP_CTRL 1 1 0).raise Ev.MAP_REJECTED (payEntry i (contentNow s))
    | none =>
      let s := { s with pho := { s.pho with mapSwap := .pending } }
      (s.setF R.PHO_MAP_CTRL 1 1 0).setB R.PHO_MAP_CTRL 5 true

/-- MAP_VALIDATION_DONE (R173). -/
def execMapValidationDone (st : State) : Host.Outcome State Fault Refusal :=
  st.onDevice fun s => .next (mapValidated s)

end Sys2Proof.Machine
end

