-- ==== Sys2Proof/Machine/Batten.lean ====
section
/-! DEFINITION. The chains at work (R211 to R256): chain frames, strobes and latches, readback, ranging, enumeration and the placement,
eye calibration, DMX with RDM, and the bank supplies. -/

namespace Sys2Proof.Machine

/-! ### A chain and its content frames -/

/-- Brace state (R441). -/
def braced (s : Device) : Bool := s.rb R.SYS_STATUS 2

/-- Whether no latch may be issued at all: brace state or a raster restart (R39, R52). -/
def noLatches (s : Device) : Bool := braced s || s.shw.restarting.isSome

/-- Whether a chain's bank is supplied. -/
def bankOk (s : Device) (c : Nat) : Bool := s.rb (R.BAT_BANKb_STATUS (c / 32)) 0

/-- Whether a chain is enabled and able to send now. -/
def chainLive (s : Device) (c : Nat) : Bool := s.rb R.BAT_CTRL 0 && chainOn s.reg c && bankOk s c

/-- Whether a chain has dealt with a content frame. -/
def FrameCtx.dealt (d : FrameCtx) (c : Nat) : Bool := (d.marks.getD 0 c).testBit 3

/-- The content frame that a chain deals with next. -/
def chainNext (s : Device) (c : Nat) : Option FrameCtx := s.pipe.find? (fun d => !d.dealt c)

/-- Changes a content frame of the pipeline. -/
def Device.modCtx (s : Device) (content : Nat) (f : FrameCtx → FrameCtx) : Device :=
  { s with pipe := modFirst (fun d => d.content = content) f s.pipe }

/-- Sets marks of a chain in a content frame. -/
def Device.mark (s : Device) (content c v : Nat) : Device :=
  s.modCtx content (fun d => { d with marks := d.marks.put c (d.marks.getD 0 c ||| v) })

/-- A content frame that a chain passes over for a job, left out of the digests (R401). -/
def Device.passOver (s : Device) (content c : Nat) : Device :=
  (s.mark content c 8).modCtx content (fun d =>
    if d.excluded.contains c then d else { d with excluded := d.excluded ++ [c] })

/-- A chain cycle is taken by a job: the content frame of the cycle is passed over. -/
def skipFrame (c : Nat) (s : Device) : Device :=
  match chainNext s c with
  | some d => s.passOver d.content c
  | none => s

/-- Whether a chain sends a content frame (R212, R240): enabled in the frame's settings, supplied, in no job unless the frame is still to
be sent, with drivers to send to, and with a pass that makes its codes ready. -/
def chainSends (s : Device) (c : Nat) (d : FrameCtx) : Bool :=
  let x := s.chain c
  s.rb R.BAT_CTRL 0 && bankOk s c && chainOn d.rd c && wbit (d.rd R.PHO_CTRL) 0 &&
  (x.job.isNone || (d.marks.getD 0 c).testBit 4) && (chainMode d.rd c ≠ 0 || !x.positions.isEmpty)

/-- Counts in a byte field of BAT_CHn_ERR, saturating at 255: 0 UNDERRUN, 1 RB_CRC, 2 RB_MISSING, 3 HELD (R251). -/
def chainErr (c i n : Nat) (s : Device) : Device :=
  let off := R.BAT_CHn_ERR c
  s.setF off (8 * i + 7) (8 * i) (min 255 (s.rf off (8 * i + 7) (8 * i) + n))

/-- The content frame whose chain cycle runs (R228). -/
def cycleFrame (s : Device) (c : Nat) : Nat := ((chainNext s c).map (·.content)).getD (contentNow s)

/-- Whether the chain cycle is one with a readback (R229). -/
def readbackCycle (s : Device) (c : Nat) : Bool := cycleFrame s c % max (s.rf R.BAT_RB_CFG 6 0) 1 = 0

/-- Whether the readback window of the chain cycle is still unused (R229). -/
def windowFree (s : Device) (c : Nat) : Bool := (s.chain c).window ≠ some (cycleFrame s c)

/-- The readback window of the chain cycle is used. -/
def takeWindow (c : Nat) (s : Device) : Device := s.setChain c { s.chain c with window := some (cycleFrame s c) }

/-! ### Pins (R211 to R213) -/

/-- What a pin of a chain carries between frames. -/
inductive PinUse where
  | low | high | idleSymbols | input
deriving DecidableEq, Repr

/-- The three pins of a chain. -/
structure ChainPins where
  tx : PinUse
  rx : PinUse
  de : PinUse
deriving DecidableEq, Repr

/-- The pins of a chain that sends no frame (R211, R212, R213): low and quiet while it is disabled, has no supply or the unit may not send; else at
the idle level of its mode, K28.5 on HLK, which gives up the line while a readback turn is out. -/
def idlePins (s : Device) (c : Nat) : ChainPins :=
  if !sends s || !chainLive s c then { tx := .low, rx := .input, de := .low }
  else match chainMode s.reg c with
    | 0 => { tx := .idleSymbols, rx := .input, de := if (s.chain c).turned.isSome then .low else .high }
    | 1 => { tx := .low, rx := .low, de := .low }
    | 2 => { tx := .low, rx := .input, de := .high }
    | _ => { tx := if wbit (s.reg (R.BAT_BANKb_PWN (c / 32))) 30 then .high else .low, rx := .input, de := .high }

/-! ### Frames -/

/-- The fixtures whose blocks a chain sends, in order, and none for a block without one (R221, R244, R245, R248): CSL in descending, the other byte
modes in ascending HOME. -/
def sentFixtures (s : Device) (d : FrameCtx) (c : Nat) : List (Option Nat) :=
  match chainMode d.rd c with
  | 0 => (s.chain c).positions.map (fun p => if p.dark then none else p.fixture)
  | 1 => (modeFixtures s c).reverse.map (fun p => some p.2)
  | _ => (modeFixtures s c).map (fun p => some p.2)

/-- What a chain frame is made of (R230, R242): the content frame with the codes of the blocks that are ready, how many blocks are ready, and the
pixel that fills the others. -/
structure FrameFill where
  ctx   : FrameCtx
  ready : Nat
  pixel : List Byte
  short : Bool
deriving DecidableEq, Repr

/-- The last complete pixel of the blocks sent, as it is sent; the last pixel of the frame before where there is none (R242). -/
def pixelAfter (d : FrameCtx) (high : Bool) (before : List Byte) (sent : List (Option Nat)) : List Byte :=
  match ((sent.filterMap id).filter (fun f => (d.pixels.find f).isSome)).getLast? with
  | some f =>
    let px := d.pixels.getD [] f
    if high && (d.blocks.getD (false, []) f).1 then swapWords px else px
  | none => before

/-- The codes a pass under way has made or will make of a content frame. -/
def codesAhead (s : Device) (d : FrameCtx) : FrameCtx :=
  if d.passed || !d.composed then d else ((passDone 0 d s).pipe.find? (fun e => e.content = d.content)).getD d

/-- What fills a chain frame of a content frame (R230, R242). Where the pass has not ended, how many of its blocks are ready when the serialiser
reaches them is a matter of timing, and a free value (log 36); none is before composition has ended. -/
def frameFill (s : Device) (d : FrameCtx) (c : Nat) : FrameFill :=
  let fs := sentFixtures s d c
  let n := fs.length
  let k := if d.passed then n else if d.composed then Config.readyBlocks s.free c % (n + 1) else 0
  let e := codesAhead s d
  { ctx := e, ready := k, pixel := pixelAfter e (chainMode d.rd c ≠ 0) (s.chain c).lastPixel (fs.take k), short := (fs.drop k).any (·.isSome) }

/-- A block of a byte mode: the fixture's bytes, or the filling pixel. -/
def blockOf (s : Device) (x : FrameFill) (i f : Nat) : List Byte :=
  if i < x.ready then outHigh s x.ctx f else fillBytes x.pixel (blockBytes s f)

/-- The bytes of a chain frame in a byte mode (R244, R248). -/
def streamBytes (s : Device) (x : FrameFill) (c : Nat) : List Byte :=
  ((sentFixtures s x.ctx c).filterMap id).zipIdx.flatMap (fun p => blockOf s x p.2 p.1)

/-- The slots of a DMX frame (R245): each fixture's bytes from HOME on, 0 elsewhere. -/
def dmxSlots (s : Device) (x : FrameFill) (c : Nat) : List Byte :=
  let n := wfld (x.ctx.rd (R.BAT_CHn_MODECFG c)) 9 0
  (modeFixtures s c).zipIdx.foldl (fun l p => putBytes l (p.1.1 - 1) (blockOf s x p.2 p.1.2)) (List.replicate n 0)

/-- What becomes of a built frame: its bytes are kept for the digest and in the chain's buffer, the fill is counted (R242, R255). -/
def frameBuilt (c : Nat) (x : FrameFill) (bytes payload : List Byte) (s : Device) : Device :=
  let d := x.ctx
  let filled := x.short
  let s := s.setChain c { s.chain c with built := some (d.content, filled), lastPixel := x.pixel }
  let s := { s with free := s.free + b2n (!d.passed) }
  let s := s.modCtx d.content (fun e => { e with chains := e.chains.put c bytes })
  let s := memStore .bat (base4k s.reg R.BAT_OUT_BASE + (2 * c + d.content % 2) * 0x20000) payload s
  if filled then
    (((chainErr c 0 1 s).count R.BAT_UNDERRUN 1).mark d.content c 4).raise Ev.CHAIN_UNDERRUN (payF c d.content)
  else s

/-- The groups whose code a chain frame carries in its ready blocks: the code sent last (R278). -/
def noteCodes (c : Nat) (x : FrameFill) (s : Device) : Device :=
  let d := x.ctx
  s.each ((s.chain c).positions.take x.ready) fun s p =>
    match p.fixture with
    | some f =>
      let code := railByte s d c f
      if p.dark || code = 0xFF then s else s.setGroup (patchOf s f).rgroup { s.group (patchOf s f).rgroup with code := code }
    | none => s

/-- A chain builds and sends the frame of a content frame (R221, R230, R242). -/
def buildFrame (c : Nat) (d : FrameCtx) (s : Device) : Device :=
  let x := frameFill s d c
  if chainMode d.rd c = 0 then
    let blocks := (s.chain c).positions.zipIdx.map (fun p => positionBlock s x.ctx c (if p.2 < x.ready then none else some x.pixel) p.1)
    let (s, bytes) := sendFrame .data c blocks.length blocks (noteCodes c x s)
    frameBuilt c x bytes (blocks.flatMap (List.drop 2)) s
  else
    let bytes := streamBytes s x c
    let polarity : List Nat := if chainMode d.rd c = 3 then [768 + b2n (wbit (d.rd (R.BAT_BANKb_PWN (c / 32))) 30)] else []
    frameBuilt c x bytes bytes (s.line c (polarity ++ bytes.map (·.toNat)))

/-- CHAIN_FRAME_START (R230): the frame of the next content frame. -/
def chainFrameStart (c : Nat) (s : Device) : Device :=
  match chainNext s c with
  | some d => if noLatches s || !chainSends s c d || chainMode d.rd c = 2 || (d.chains.find c).isSome then s else buildFrame c d s
  | none => s

/-! ### Strobe and latch -/

/-- Whether the frame of a content frame was filled and the chain holds filled frames (R242). -/
def underrunHold (d : FrameCtx) (c : Nat) : Bool := (d.marks.getD 0 c).testBit 2 && wbit (d.rd (R.BAT_CHn_CFG c)) 5

/-- RAIL_STROBE (R224, R229): RAIL on an HLK chain, unless its latch is withheld. -/
def railStrobe (c : Nat) (s : Device) : Device :=
  match chainNext s c with
  | some d =>
    if noLatches s || !chainSends s c d || chainMode d.rd c ≠ 0 || (d.chains.find c).isNone || d.withheld.contains c ||
        underrunHold d c then s
    else (s.line c [symRail]).mark d.content c 2
  | none => s

/-- A latch is withheld: the chain has dealt with the content frame and holds. -/
def withhold (c : Nat) (d : FrameCtx) (s : Device) : Device :=
  (s.setChain c { s.chain c with heldNow := true }).mark d.content c 8

/-- The configured witness chains (R407). -/
def witnesses (s : Device) : List Nat := (upto 512).filter (fun c => s.rb (R.RDG_WITNESSj (c / 32)) (c % 32))

/-- The qualified witness chains (R408). -/
def witnessesOk (s : Device) : List Nat := (witnesses s).filter (fun c => !(s.rdg.witness.getD {} c).bad)

/-- Whether a chain will withhold its next latch: a job takes its cycle, the guard or a filled frame holds it, or no content is due for it yet
(R411, R445). -/
def chainHeld (s : Device) (c : Nat) : Bool :=
  (s.chain c).job.isSome ||
  match chainNext s c with
  | some d => (s.shw.line < s.shw.mode.latch && d.content = frameAdd s.shw.frame (-1)) || d.withheld.contains c || underrunHold d c
  | none => s.shw.running

/-- HOLDING is set while every qualified witness chain withholds its latch (R411). -/
def refreshHolding (s : Device) : Device :=
  if pairActive s then setHolding (noLatches s || (!(witnessesOk s).isEmpty && (witnessesOk s).all (chainHeld s))) s else setHolding false s

/-- The end of the boot (R425, R439): once the raster runs and every enabled chain that latches has issued a latch. -/
def bootCheck (s : Device) : Device :=
  let waits := (upto 512).any (fun c => chainOn s.reg c && chainMode s.reg c ≠ 2 && !s.sys.latched.getD false c)
  if s.rf R.BOOT_STATUS 3 0 ≠ 3 || waits then s
  else
    let s := ((s.setF R.BOOT_STATUS 3 0 4).setB R.SYS_STATUS 4 true).setN R.BOOT_T_LATCH ((s.clock - s.sys.released.getD 0) / 1000000)
    let s := if s.rb R.BOOT_TRIAL 0 then { s with sys := { s.sys with trialFrom := some s.clock } } else s
    (s.raise Ev.RESET_REPORT (s.rn R.SYS_RESET_CAUSE)).raise Ev.BOOT_DONE 0

/-- CHAIN_LATCH_ISSUE (R228, R242, R276). -/
def chainLatch (c : Nat) (s : Device) : Device :=
  match chainNext s c with
  | some d =>
    if !chainSends s c d || chainMode d.rd c = 2 then s
    else if noLatches s then withhold c d s
    else if (d.chains.find c).isNone then s
    else if d.withheld.contains c && chainMode d.rd c < 2 then withhold c d s
    else if underrunHold d c then (chainErr c 3 1 (withhold c d s)).raise Ev.LATCH_HELD (payF c d.content)
    else
      let hop := wfld (d.rd (R.BAT_CHn_HOP c)) 15 0
      let cfg := d.rd (R.BAT_CHn_MODECFG c)
      let syms := match chainMode d.rd c with
        | 0 => [symLatch, hop % 256, hop / 256]
        | 1 => [512 + wfld cfg 15 8]
        | _ => [512 + wfld cfg 8 0]
      let s := (s.line c syms).mark d.content c 9
      let x := s.chain c
      let s := s.setChain c { x with latched := some d.content, heldNow := false, owesEnum := false }
      let s := s.raiseIf x.owesEnum Ev.ENUM_DONE c
      bootCheck { s with sys := { s.sys with latched := s.sys.latched.put c true } }
  | none => s

/-- What the capture of a content frame takes from the chains: their marks for it. -/
def batCapture (content : Nat) (s : Device) : Device :=
  s.each s.bat.chains fun s p =>
    let (c, x) := p
    if x.nextMark = 0 then s
    else
      let s := s.setChain c { s.chain c with nextMark := 0 }
      if x.nextMark = 8 then s.passOver content c else s.mark content c x.nextMark

/-- The chains left out of the bank digests of a content frame: passed over, or in a job (R401). -/
def excludedChains (s : Device) (d : FrameCtx) : List Nat :=
  (upto 512).filter (fun c => d.excluded.contains c ||
    ((s.chain c).job.isSome && chainOn d.rd c && !(d.marks.getD 0 c).testBit 4))

/-! ### The placement tables -/

/-- Stores a word of the placement region (R216). -/
def putPlaceWord (off v : Nat) (s : Device) : Device := memStore .bat (base4k s.reg R.BAT_PLACE_BASE + off) (leBytes 4 v) s

/-- Writes a fixture's entry of the placement table: VALID while it is placed. -/
def writePlace (f : Nat) (s : Device) : Device :=
  let v : Nat := match placeOf s f with
    | some p => p.chain % 512 + 512 * (p.pos % 256) + 2 ^ 29 * b2n p.moved + 2 ^ 30 + 2 ^ 31
    | none => 0
  putPlaceWord (4 * f) v s

/-- The word of the position table for a position of a chain (R216). DESIGN CHOICE (log 36): a fixture of a CSL or PWN1 chain stands at its HOME, and
DMX chains have no positions. -/
def positionWord (s : Device) (c i : Nat) : Nat :=
  match chainMode s.reg c with
  | 0 => match (s.chain c).positions[i]? with
    | none => 0
    | some p => match p.fixture with
      | some f => f + 2 ^ 30 * b2n p.dark + 2 ^ 31
      | none => 2 ^ 29 + 2 ^ 31
  | 2 => 0
  | _ => match (modeFixtures s c).find? (fun p => p.1 = i) with
    | some p => p.2 + 2 ^ 31
    | none => 0

/-- Writes a chain's part of the position table. -/
def writePositions (c : Nat) (s : Device) : Device :=
  s.each (upto 256) fun s i => putPlaceWord (0x80000 + 4 * (256 * c + i)) (positionWord s c i) s

/-- Writes the placement tables of what is placed by CHAIN and HOME, or was placed, on some chains (R214, R216). -/
def writePlaced (cs : List Nat) (s : Device) : Device :=
  let fs := ((patched s).filter (fun p => (p.2.fixed && cs.contains p.2.chain) || (match s.bat.places.find p.1 with
    | some q => cs.contains q.chain
    | none => false))).map (·.1)
  fs.foldl (fun s f => writePlace f s) (s.each cs (fun s c => writePositions c s))

/-- Writes a chain's part of the range table. -/
def writeRanges (c : Nat) (s : Device) : Device :=
  let l := (s.chain c).delays
  s.each (upto 256) fun s i => putPlaceWord (0x100000 + 4 * (256 * c + i)) (l.getD i 0 % 2 ^ 22) s

/-- The patched fixtures that are placed nowhere (R241). -/
def unplaced (s : Device) : List Nat := ((patched s).map (·.1)).filter (fun f => (placeOf s f).isNone)

/-- BAT_NOT_FOUND (R255). -/
def countNotFound (s : Device) : Device := s.setN R.BAT_NOT_FOUND ((unplaced s).length % 2 ^ 18)

/-- What is placed by CHAIN and HOME is placed once the configuration has been loaded (R214, R216, R255). -/
def placeFixed (s : Device) : Device := countNotFound (writePlaced ((upto 512).filter (fun c => chainMode s.reg c ≠ 0)) s)

/-- Whether a fixture is placed on another chain that answers (R241). -/
def heldElsewhere (s : Device) (c f : Nat) : Bool :=
  match s.bat.places.find f with
  | some q => q.chain ≠ c && chainLive s q.chain && (s.chain q.chain).misses.getD 0 q.pos = 0
  | none => false

/-- Counts and reports the fixtures that are not found (R241): those at home on a chain or last placed there. -/
def noteNotFound (c : Nat) (left dark : List Nat) (s : Device) : Device :=
  let fresh := (unplaced s).filter (fun f => (left.contains f || (patchOf s f).chain = c) && !dark.contains f && !s.bat.notFound.getD false f)
  let s := s.each fresh fun s f =>
    ({ s with bat := { s.bat with notFound := s.bat.notFound.put f true } }).raise Ev.FIXTURE_NOT_FOUND (pay2 (patchOf s f).chain f)
  countNotFound s

/-- Places a fixture (R241): FIXTURE_MOVED and BAT_MOVED where it is not at home and was not seen there before. -/
def placeFixture (f : Nat) (p : Place) (s : Device) : Device :=
  let seen := s.bat.places.find f = some p
  let s := { s with bat := { s.bat with places := s.bat.places.put f p, notFound := s.bat.notFound.del f } }
  if p.moved && !seen then (s.count R.BAT_MOVED 1).raise Ev.FIXTURE_MOVED (pay2 p.chain f) else s

/-- The placement of a bring-up is applied (R240, R241). -/
def installPlacement (c : Nat) (ps : List Position) (limit : Bool) (s : Device) : Device :=
  let ps := ps.map (fun p => match p.fixture with
    | some f => if heldElsewhere s c f then { p with fixture := none, dark := false } else p
    | none => p)
  let was := (s.bat.places.filter (fun q => q.2.chain = c)).map (·.1)
  let now := ps.zipIdx.filterMap (fun p => match p.1.fixture, p.1.dark with
    | some f, false => some (f, p.2)
    | _, _ => none)
  let left := was.filter (fun f => !(now.map (·.1)).contains f)
  let dark := ps.filterMap (fun p => if p.dark then p.fixture else none)
  let s := { s with bat := { s.bat with places := s.bat.places.filter (fun q => !left.contains q.1) } }
  let s := s.each now fun s q =>
    let h := patchOf s q.1
    placeFixture q.1 { chain := c, pos := q.2, moved := h.chain ≠ c || h.home ≠ q.2 } s
  let s := s.setChain c { s.chain c with positions := ps, misses := [], slice := 0, turned := none, crcRun := 0, lastPixel := [], checkNext := 0, pings := [] }
  let s := s.each ps.zipIdx fun s p =>
    match p.1.fixture with
    | none => s.raise Ev.DRIVER_UNPATCHED (pay2 c p.2)
    | some f => s.raiseIf p.1.dark Ev.FIXTURE_DARK (pay2 c f)
  let s := (s.setB (R.BAT_CHn_STATUS c) 4 limit).raiseIf limit Ev.CHAIN_AT_LIMIT c
  let s := (left ++ now.map (·.1)).foldl (fun s f => writePlace f s) (writePositions c s)
  let s := noteNotFound c left dark s
  s.setN R.BAT_UNPATCHED (sumL (s.bat.chains.map (fun q => (q.2.positions.filter (fun p => p.fixture.isNone)).length)) % 2 ^ 18)

/-! ### Jobs -/

/-- Whether an eye calibration has given the chain a phase. -/
def eyeValid (s : Device) (c : Nat) : Bool := s.rb (R.BAT_CHn_EYE c) 12

/-- A bring-up starts (R239): on an HLK chain its three cycles, on a DMX chain with RDM a discovery (R246). -/
def startBringup (c : Nat) (s : Device) : Device :=
  let x := s.chain c
  if !sends s || !chainLive s c then s.setB (R.BAT_CHn_CMD c) 0 false
  else match chainMode s.reg c with
    | 0 => s.setChain c { x with job := some (.bringup 1 0), stage := none, misses := [], turned := none }
    | 2 => if s.rb (R.BAT_CHn_CFG c) 8 then s.setChain c { x with discover := true, rdmSteps := [.unmute, .branch], rdmSeen := [] }
      else s.setB (R.BAT_CHn_CMD c) 0 false
    | _ => s.setB (R.BAT_CHn_CMD c) 0 false

/-- An automatic trigger of R239: a bring-up where AUTO_ENUM allows it and none runs. -/
def autoEnum (c : Nat) (s : Device) : Device :=
  if s.rb R.BAT_CTRL 1 && (s.chain c).job.isNone && !(s.chain c).discover then startBringup c s else s

/-- The pings and the readback of a full ranging (R235). -/
def rangePings (c n : Nat) (s : Device) : Device :=
  let s := (sendFrame .range c 0 [] s).1
  let s := s.line c (List.replicate 16 [symPing, 0]).flatten
  let s := s.line c (List.replicate 16 [symPing, n - 1]).flatten
  s.line c (turnSymbols 0 255 2)

/-- A full ranging of an HLK chain in service starts (R235). -/
def startRanging (c : Nat) (s : Device) : Device :=
  let n := (s.chain c).positions.length
  if !sends s || !chainLive s c || n = 0 then s.setB (R.BAT_CHn_CMD c) 1 false
  else rangePings c n (skipFrame c (s.setChain c { s.chain c with job := some (.ranging 0) }))

/-- The TRAIN sweep over the 16 phases (R243). -/
def trainSweep (c : Nat) (s : Device) : Device := s.line c (List.replicate 16 (turnSymbols 0 0 3)).flatten

/-- Eye calibration of an HLK chain starts (R243). -/
def startEyecal (c : Nat) (s : Device) : Device :=
  if !sends s || !chainLive s c || chainMode s.reg c ≠ 0 || (s.chain c).job.isSome then s.setB (R.BAT_CHn_CMD c) 2 false
  else trainSweep c (skipFrame c (s.setChain c { s.chain c with job := some .eyecal }))

/-- The next command of BAT_CHn_CMD that waits (R251): RANGE, then EYECAL. -/
def nextCmd (c : Nat) (s : Device) : Device :=
  let idle (s : Device) : Bool := (s.chain c).job.isNone && !(s.chain c).discover
  let s := if idle s && s.rb (R.BAT_CHn_CMD c) 1 then startRanging c s else s
  if idle s && s.rb (R.BAT_CHn_CMD c) 2 then startEyecal c s else s

/-- The jobs of a chain are dropped (R212, R213, R242): what it was doing, what waited for the commit point, and its commands. -/
def dropJobs (c : Nat) (s : Device) : Device :=
  (s.setChain c { s.chain c with job := none, stage := none, discover := false, rdmSteps := [], turned := none, owesEnum := false, checkNext := 0,
                                 pings := [] }).setN (R.BAT_CHn_CMD c) 0

/-- The unit may no longer send (R213): every chain drops its jobs. -/
def quietChains (s : Device) : Device := s.each s.bat.chains (fun s p => dropJobs p.1 s)

/-- The unit may send (R239): enabled chains without a placement of their own are brought up. -/
def wakeChains (s : Device) : Device :=
  s.each ((upto 512).filter (fun c => chainLive s c)) fun s c =>
    if (s.chain c).positions.isEmpty && (s.chain c).job.isNone && !(s.chain c).discover then startBringup c s else s

/-- A turn is acknowledged or not (R242): STATUS.LINK follows; a new acknowledgement triggers under AUTO_ENUM (R239). -/
def setLink (c : Nat) (ack auto : Bool) (s : Device) : Device :=
  let off := R.BAT_CHn_STATUS c
  if s.rb off 3 = ack then s
  else
    let s := (s.setB off 3 ack).raise Ev.CHAIN_LINK (pay2 c (b2n ack))
    if ack && auto then autoEnum c s else s

/-- Records whose CRC-16 fails are counted and reported (R233). -/
def noteBadRecords (c n : Nat) (s : Device) : Device :=
  s.each (upto n) fun s _ => ((chainErr c 1 1 s).count R.BAT_RB_CRC 1).raise Ev.RB_CRC_ERR c

/-! ### Bring-up -/

/-- Whether the bring-up of another chain has found a fixture (R241). -/
def stagedElsewhere (s : Device) (c f : Nat) : Bool :=
  s.bat.chains.any (fun q => q.1 ≠ c && ((q.2.stage.bind (·.positions)).any (fun z => z.1.any (fun p => p.fixture = some f))))

/-- The fixture that a driver's UID names on a chain (R214, R241): patched, not FIXED, and not seen answering on another chain. -/
def fixtureOfUid (s : Device) (patch : List (Nat × Patch)) (c uid : Nat) : Option Nat :=
  (patch.find? (fun p =>
    p.2.uid = uid && !p.2.fixed && !heldElsewhere s c p.1 && !stagedElsewhere s c p.1)).map (·.1)

/-- The positions that IDENT records name, in order of raw position (R225, R241): a driver whose record is missing stays unpatched, a
UID seen twice is placed once, and a FIXED fixture of the chain lies at its HOME. -/
def identPositions (s : Device) (c : Nat) (records : List (List Byte)) : List Position :=
  let ids := records.filter (fun r => recordGood r && recKind r = 1)
  let n := if ids.isEmpty then 0 else min 256 (maxL (ids.map recPos) + 1)
  let patch := patched s
  ((upto n).foldl (fun (l : List Position) i =>
    let uid := match ids.find? (fun r => recPos r = i) with
      | some r => leAt r 2 8
      | none => 0
    let fixed := (patch.find? (fun p => p.2.fixed && p.2.chain = c && p.2.home = i)).map (·.1)
    let named := (fixed.orElse (fun _ => fixtureOfUid s patch c uid)).filter (fun f => !(l.any (fun q => q.fixture = some f)))
    { fixture := named, uid := uid } :: l) []).reverse

/-- Fixtures are placed in position order while they fit; the rest is dark (R241). -/
def darkened (s : Device) (rd : Nat → Word) (c : Nat) (ps : List Position) (delays : List Nat) : List Position :=
  let bounds := entryBounds s rd (mapBank rd)
  let cut (k : Nat) : List Position := ps.zipIdx.map (fun p => { p.1 with dark := k ≤ p.2 && p.1.fixture.isSome })
  match ((upto (ps.length + 1)).reverse).find? (fun k => hlkFits s rd bounds c (cut k) delays) with
  | some k => cut k
  | none => cut 0

/-- The capabilities and TYPE codes that IDENT records report, by fixture (R226). -/
def noteCaps (ps : List Position) (records : List (List Byte)) (s : Device) : Device :=
  s.each ps.zipIdx fun s p =>
    match p.1.fixture, records.find? (fun r => recordGood r && recKind r = 1 && recPos r = p.2) with
    | some f, some r => { s with bat := { s.bat with caps := s.bat.caps.put f (leAt r 13 1), types := s.bat.types.put f (leAt r 10 2) } }
    | _, _ => s

/-- The blocks of an ASSIGN frame (R221). -/
def assignBlocks (s : Device) (c : Nat) (ps : List Position) (trims : Bool) : List (List Byte) :=
  let rail := s.rb (R.BAT_CHn_CFG c) 6
  ps.zipIdx.map (fun p =>
    let obeys : Bool := match p.1.fixture with
      | some f => rail && (patchOf s f).rail
      | none => false
    hlkBlock 0xFF (leBytes 2 c ++ leBytes 2 p.2 ++ leBytes 2 (if trims then trunc 16 p.1.trim else 0) ++ leBytes 2 (b2n obeys)))

/-- The block of a CONFIG frame for a position (R240): the fixture's record, or one zero word. -/
def configBlock (acc : Device × List (List Byte)) (p : Position) : Device × List (List Byte) :=
  let (s, l) := acc
  match p.fixture with
  | none => (s, l ++ [hlkBlock 0xFF [0, 0]])
  | some f =>
    let (s, r) := memRead .bat (base4k s.reg R.BAT_CFG_BASE + 64 * f) 64 s
    let n := leAt r.data 0 1
    (s, l ++ [hlkBlock 0xFF (if n = 0 || 31 < n || !r.good then [0, 0] else (r.data.drop 2).take (2 * n))])

/-- BRINGUP_CYCLE (R240): the next cycle of a bring-up. -/
def bringupCycle (c : Nat) (records : List (List Byte)) (s : Device) : Device :=
  let x := s.chain c
  let st := x.stage.getD {}
  let ps := (st.positions.getD (x.positions, false)).1
  if !sends s || !chainLive s c then s
  else match x.job with
  | some (.bringup 1 _) =>
    let s := (sendFrame .enum c 0xFFFF [] (skipFrame c s)).1
    let s := setLink c (!records.isEmpty) false (s.line c (turnSymbols 0 255 1))
    let s := noteBadRecords c (records.filter (fun r => !recordGood r)).length s
    let ps := identPositions s c records
    let s := noteCaps ps records s
    s.setChain c { s.chain c with job := some (.bringup 2 0), stage := some { positions := some (ps, decide (256 ≤ ps.length)) } }
  | some (.bringup 2 _) =>
    let (s, _) := sendFrame .assign c ps.length (assignBlocks s c ps false) (skipFrame c s)
    let empty : RangeResult := { hop := 0, comp := 0, delays := [], trims := some [], ranged := some false }
    let st := if ps.isEmpty then { st with ranging := some empty } else st
    let s := if ps.isEmpty then s else rangePings c ps.length s
    s.setChain c { s.chain c with job := some (.bringup 3 0), stage := some st }
  | some (.bringup 3 k) =>
    if st.ranging.isNone then s
    else
      let (s, _) := sendFrame .assign c ps.length (assignBlocks s c ps true) (skipFrame c s)
      let (s, blocks) := ps.foldl configBlock (s, [])
      let (s, _) := sendFrame .config c blocks.length blocks s
      if eyeValid s c then s.setChain c { s.chain c with job := some (.bringup 5 k) }
      else trainSweep c (s.setChain c { s.chain c with job := some (.bringup 4 k) })
  | _ => s

/-! ### Ranging -/

/-- Rounds to the nearest integer. -/
def nearest (x : Rat) : Int := (x + 1 / 2).floor

/-- The mean of round trips in 1/16 ns; they are counts of 0.625 ns (R234). -/
def meanTrip (l : List Nat) : Rat := if l.isEmpty then 0 else ((10 * sumL l : Nat) : Rat) / ((l.length : Nat) : Rat)

/-- t_p of a pinged position in 1/16 ns (R234). -/
def pingDelay (s : Device) (c : Nat) (trips : List Nat) : Rat :=
  let ext := R.BAT_BANKb_EXT (c / 32)
  (meanTrip trips - 6400 + ((s.rf ext 15 0 : Nat) : Rat) - ((s.rf ext 31 16 : Nat) : Rat)) / 2

/-- The HOP_FWD of positions 0 to n − 2, when each has a record with enough samples (R236). -/
def hopsOf (records : List (List Byte)) (n : Nat) : Option (List Nat) :=
  (upto (n - 1)).mapM (fun i =>
    (records.find? (fun r => recordGood r && recKind r = 2 && recPos r = i && 12 ≤ leAt r 6 1)).map (fun r => leAt r 2 2))

/-- What R236 computes of a full ranging of n positions. -/
def fullRanging (t0 tN : Rat) (n : Nat) (records : List (List Byte)) : Option RangeResult :=
  let hop := if n ≤ 1 then 0 else nearest ((tN - t0) / ((n - 1 : Nat) : Rat))
  let comp := (nearest (t0 + ((n - 1 : Nat) : Rat) * ((hop : Int) : Rat))).toNat
  match hopsOf records n with
  | none => none
  | some hops =>
    let sum : Rat := ((sumL hops : Nat) : Rat)
    let k : Rat := if n ≤ 1 then 1 else (tN - t0) / sum
    let at_ (p : Nat) : Rat := t0 + k * ((sumL (hops.take p) : Nat) : Rat)
    let trims := (upto n).map (fun p => nearest (t0 + (((p : Nat) : Int) * hop : Int) - at_ p))
    let ok := (n ≤ 1 || (sum ≠ 0 && 95 ≤ 100 * k && 100 * k ≤ 105)) && trims.all (fun t => -32752 ≤ t && t ≤ 32752) && 0 ≤ hop
    if ok then some { hop := hop.toNat, comp := comp, delays := (upto n).map (fun p => (nearest (at_ p)).toNat), trims := some trims,
                      ranged := some true }
    else none

/-- What a ranging that failed leaves (R236): equal hops without trims. -/
def plainRanging (t0 tN : Rat) (n : Nat) : RangeResult :=
  let step : Rat := if n ≤ 1 then 0 else (tN - t0) / ((n - 1 : Nat) : Rat)
  let hop := (nearest step).toNat
  { hop := hop, comp := (nearest (t0 + (((n - 1) * hop : Nat) : Rat))).toNat,
    delays := (upto n).map (fun p => (nearest (t0 + ((p : Nat) : Rat) * step)).toNat),
    trims := some (List.replicate n 0), ranged := some false }

/-- Gives positions their trims. -/
def withTrims (ps : List Position) (t : List Int) : List Position := ps.zipIdx.map (fun p => { p.1 with trim := t.getD p.2 0 })

/-- RANGE_DONE (R236): the outcome waits for the commit point; a failed ranging is tried again at most twice. -/
def rangeDone (c : Nat) (rt0 rtN : List Nat) (records : List (List Byte)) (s : Device) : Device :=
  let x := s.chain c
  let st := x.stage.getD {}
  let go (n k : Nat) (again : ChainJob) (done : Option ChainJob) : Device :=
    let t0 := pingDelay s c rt0
    let tN := pingDelay s c rtN
    let finish (r : RangeResult) (s : Device) : Device :=
      let rd := withComp s.reg c r.comp
      let st := { st with ranging := some r, positions := st.positions.map (fun p =>
        (darkened s rd c (withTrims p.1 (r.trims.getD [])) r.delays, p.2)) }
      let s := s.setChain c { s.chain c with job := done, stage := some st }
      if done.isNone then nextCmd c (s.setB (R.BAT_CHn_CMD c) 1 false) else s
    match fullRanging t0 tN n records with
    | some r => finish r s
    | none =>
      if k < 2 then rangePings c n (skipFrame c (s.setChain c { x with job := some again }))
      else (finish (plainRanging t0 tN n) s).raise Ev.RANGE_FAIL c
  if !sends s || !chainLive s c then s
  else match x.job with
  | some (.bringup 3 k) =>
    if st.ranging.isSome then s
    else go ((st.positions.getD ([], false)).1.length) k (.bringup 3 (k + 1)) (some (.bringup 3 k))
  | some (.ranging k) => go x.positions.length k (.ranging (k + 1)) none
  | _ => s

/-- Whether a readback window holds a relay ping to the last position (R237). -/
def pingFits (rd : Nat → Word) (c : Nat) (delays : List Nat) : Bool :=
  2 * symTime rd c + 2 * ((delays.getLast?.getD 0 : Nat) : Rat) / 16 + 400 ≤ windowNs rd

/-- DRIFT_RANGING (R237): a window of a frame that is neither a readback frame nor taken by an identity check carries one ping to the first and one
to the last position. After 16 of each every t_p is scaled; HOP and C_c follow, the trims stay. It waits while a driver part is delivered on the
chain (R470). -/
def driftRanging (c : Nat) (rt0 rtN : Nat) (s : Device) : Device :=
  let x := s.chain c
  let n := x.positions.length
  if s.rf R.BAT_RANGE_PERIOD 11 0 = 0 || !sends s || !chainLive s c || chainMode s.reg c ≠ 0 || x.job.isSome || n = 0 ||
      !pingFits s.reg c x.delays || s.upd.delivering.contains c || readbackCycle s c || !windowFree s c || 0 < x.checkNext then s
  else
    let s := takeWindow c (s.line c [symPing, 0, symPing, n - 1])
    let pings := (rt0, rtN) :: x.pings
    let s := s.setChain c { s.chain c with pings := if pings.length < 16 then pings else [] }
    if pings.length < 16 then s
    else
      let t0 := pingDelay s c (pings.map (·.1))
      let tN := pingDelay s c (pings.map (·.2))
      let a : Rat := ((x.delays.getD 0 0 : Nat) : Rat)
      let b : Rat := ((x.delays.getD (n - 1) 0 : Nat) : Rat)
      let scale (t : Nat) : Rat := if a = b then t0 else t0 + (((t : Nat) : Rat) - a) * (tN - t0) / (b - a)
      let hop := if n ≤ 1 then 0 else (nearest ((tN - t0) / ((n - 1 : Nat) : Rat))).toNat
      let comp := (nearest (t0 + (((n - 1) * hop : Nat) : Rat))).toNat
      let r : RangeResult := { hop := hop, comp := comp, delays := x.delays.map (fun t => (nearest (scale t)).toNat), trims := none,
                               ranged := none }
      let s := s.setChain c { s.chain c with stage := some { (x.stage.getD {}) with ranging := some r } }
      s.raiseIf (160 < max comp x.fullComp - min comp x.fullComp) Ev.RANGE_DRIFT c

/-! ### Eye calibration -/

/-- The longest run of clean phases, which follow one another in a circle of 16: its start and length (R243). -/
def longestRun (clean : List Bool) : Nat × Nat :=
  let run (i : Nat) : Nat := ((upto 16).takeWhile (fun k => clean.getD ((i + k) % 16) false)).length
  (upto 16).foldl (fun (a : Nat × Nat) i => if a.2 < run i then (i, run i) else a) (0, 0)

/-- EYE_CAL_DONE (R243): the centre of the longest run waits for the commit point, or the old phase stays. -/
def eyeCalDone (c : Nat) (clean : List Bool) (checkOk : Bool) (s : Device) : Device :=
  let x := s.chain c
  let go (done : Option ChainJob) : Device :=
    let (k, s) := s.takeFree
    let (i, n) := longestRun clean
    -- the second cycle: 4 TRAIN readbacks at the centre
    let s := if n = 0 then s else s.line c (List.replicate 4 (turnSymbols 0 0 3)).flatten
    let s := if n = 0 || done.isSome then s else skipFrame c s
    let up := if n % 2 = 0 && Config.upperCentre k then 1 else 0
    let good := checkOk && 0 < n
    let off := R.BAT_CHn_EYE c
    let s := (s.setF off 4 0 n).setF off 31 16 (min 65535 (s.rf off 31 16 + 1))
    let low := !good || n < s.rf R.BAT_EYE_MIN 4 0
    let s := (s.setB (R.BAT_CHn_STATUS c) 7 low).setB (R.BAT_CHn_CMD c) 2 false
    let st := { (x.stage.getD {}) with eye := if good then some ((i + (n - 1) / 2 + up) % 16) else none }
    let s := s.setChain c { s.chain c with job := done, stage := if good then some st else x.stage }
    let eye := (st.eye.getD 0, s.hkp.delays.getD (c / 128) 0)
    let s := s.when good (fun s => { s with hkp := { s.hkp with eyes := s.hkp.eyes.put c eye } })
    (s.raise Ev.EYE_CAL_DONE c).raiseIf low Ev.EYE_LOW c
  if !sends s || !chainLive s c then s
  else match x.job with
  | some .eyecal => nextCmd c (go none)
  | some (.bringup 4 k) => go (some (.bringup 5 k))
  | _ => s

/-! ### The commit point -/

/-- A ranging is applied (R236, R237). -/
def applyRanging (c : Nat) (r : RangeResult) (s : Device) : Device :=
  let x := s.chain c
  let n := x.positions.length
  let ps := match r.trims with
    | some t => withTrims x.positions t
    | none => x.positions
  let s := s.setChain c { x with positions := ps, delays := r.delays, fullComp := if r.trims.isSome then r.comp else x.fullComp }
  let s := (s.setN (R.BAT_CHn_COMP c) (r.comp % 2 ^ 22)).setN (R.BAT_CHn_HOP c) (r.hop % 65536 + 65536 * n)
  let s := match r.ranged with
    | some b => s.setB (R.BAT_CHn_STATUS c) 6 b
    | none => s
  let s := writeRanges c s
  s.raiseIf (0 < n) Ev.RANGE_DONE c

/-- What waited for the commit point takes effect (R33, R240, R243), validated under R230 and R232: a placement darkens what does not fit, and a
ranging in service that the chain does not fit is not applied (DESIGN CHOICE, log 36). -/
def applyStage (c : Nat) (st : ChainStage) (s : Device) : Device :=
  let s := s.setChain c { s.chain c with stage := none }
  let comp := ((st.ranging.map (·.comp)).getD (s.rf (R.BAT_CHn_COMP c) 21 0))
  let delays := ((st.ranging.map (·.delays)).getD (s.chain c).delays)
  let rd := withComp s.reg c comp
  let fits := st.positions.isSome || hlkFits s rd (entryBounds s rd (mapBank rd)) c (s.chain c).positions delays
  let s := match st.positions with
    | some (ps, limit) =>
      let ps := darkened s rd c ps delays
      let s := s.each (s.pipe.map (·.content)) (fun s f => s.passOver f c)
      let s := installPlacement c ps limit (s.setB (R.BAT_CHn_CMD c) 0 false)
      s.setChain c { s.chain c with job := none, owesEnum := true, nextMark := 8 }
    | none => s
  let s := match st.ranging with
    | some r => if fits then applyRanging c r s else s
    | none => s
  let s := match st.eye with
    | some p => (s.setF (R.BAT_CHn_EYE c) 11 8 p).setB (R.BAT_CHn_EYE c) 12 true
    | none => s
  if st.positions.isSome then nextCmd c (groupReport s.reg s) else s

/-- The motion of a DMX chain begins or ends (R247). -/
def setMotion (c : Nat) (on : Bool) (s : Device) : Device :=
  let off := R.BAT_CHn_STATUS c
  if s.rb off 5 = on then s else (s.setB off 5 on).raise Ev.MOTION_CHANGE (pay2 c (b2n on))

/-- A chain is in another mode (R216, R244, R248): it is no longer ranged, and the placement tables show what it places now. -/
def modeChanged (c : Nat) (s : Device) : Device :=
  let s := ((s.setN (R.BAT_CHn_COMP c) 0).setN (R.BAT_CHn_HOP c) 0).setB (R.BAT_CHn_STATUS c) 6 false
  countNotFound (writePlaced [c] s)

/-- A chain's settings changed (R212, R239, R252): disabled it drops its jobs; enabled or with a new MODE or RATE it is brought up, while
the content frames captured before keep their settings. -/
def chainChanged (old : Nat → Word) (c : Nat) (s : Device) : Device :=
  let v0 := old (R.BAT_CHn_CFG c)
  let v1 := s.reg (R.BAT_CHn_CFG c)
  let x := s.chain c
  let s := if wfld v0 2 1 = wfld v1 2 1 then s else modeChanged c s
  let s := if wbit v1 7 then s else (setMotion c false s).setChain c { (setMotion c false s).chain c with motionEnd := none }
  if !wbit v1 0 then
    if wbit v0 0 then s.setChain c { (dropJobs c s).chain c with heldNow := false } |>.setN (R.BAT_CHn_CMD c) 0 else s
  else if !wbit v0 0 || wfld v0 4 1 ≠ wfld v1 4 1 then
    let s := s.each (s.pipe.map (·.content)) (fun s f => s.mark f c 16)
    let enum := s.rb (R.BAT_CHn_CMD c) 0
    let s := (dropJobs c s).setB (R.BAT_CHn_CMD c) 0 enum
    startBringup c (s.setChain c { s.chain c with heldNow := false, nextMark := 16 })
  else match x.stage, x.job with
    | some st, none => applyStage c st s
    | some st, some (.bringup 5 _) => applyStage c st s
    | _, _ => s

/-- SLEW and BAT_SS take effect (R249). -/
def takeLineSettings (s : Device) : Device :=
  { s with bat := { s.bat with
    slew := (upto 16).foldl (fun (t : Table Nat) b => t.setD 1 b (s.rf (R.BAT_BANKb_CFG b) 1 0)) [], spread := s.rf R.BAT_SS 2 0 } }

/-- After a commit point (R33). -/
def batAfterPoint (old : Nat → Word) (s : Device) : Device :=
  (takeLineSettings s).each (upto 512) fun s c =>
    if old (R.BAT_CHn_CFG c) = s.reg (R.BAT_CHn_CFG c) && (s.chain c).stage.isNone then s else chainChanged old c s

/-! ### Readback -/

/-- A readback of positions ends (R233): misses without a good record follow on one another; whether some position is lost after the third, which
raises DRIVER_MISSING. -/
def noteReadback (c : Nat) (span : List Nat) (got : Nat → Bool) (s : Device) : Device × Bool :=
  let misses := span.foldl (fun (t : Table Nat) p => if got p then t.del p else t.put p (t.getD 0 p + 1)) (s.chain c).misses
  let lost := span.filter (fun p => !got p && misses.getD 0 p = 3)
  let s := s.each lost (fun s p => s.raise Ev.DRIVER_MISSING (pay2 c p))
  (s.setChain c { s.chain c with turned := none, misses := misses }, !lost.isEmpty)

/-- The positions of a slice. -/
def spanOf (first last : Nat) : List Nat := (upto (last + 1 - first)).map (first + ·)

/-- A readback that brought no stream (R233): nobody acknowledged the turn, or no stream followed. The next slice is due. -/
def noStream (c first last : Nat) (s : Device) : Device :=
  let (s, lost) := noteReadback c (spanOf first last) (fun _ => false) s
  let s := s.setChain c { s.chain c with crcRun := 0, slice := (s.chain c).slice + 1 }
  if lost then autoEnum c s else s

/-- READBACK_TURN (R225, R229, R232): the window of a readback frame opens; the present slice is read when position 0 acknowledges. -/
def readbackTurn (c : Nat) (ack : Bool) (s : Device) : Device :=
  let s := match (s.chain c).turned with
    | some (first, last, _) => noStream c first last s
    | none => s
  let x := s.chain c
  if !sends s || !chainLive s c || chainMode s.reg c ≠ 0 || x.job.isSome || !readbackCycle s c || !windowFree s c then s
  else match slicesOf s.reg c x.delays x.positions.length with
    | none => s
    | some l =>
      match l[x.slice % max l.length 1]? with
      | none => s
      | some (first, last) =>
        let s := takeWindow c (s.line c (turnSymbols first last 0))
        if ack then setLink c true true (s.setChain c { s.chain c with turned := some (first, last, 0) })
        else noStream c first last (setLink c false true s)

/-- A good STATUS record is stored (R233, R255): the status table, DRIVER_FAULT on a new FAULT bit. -/
def storeStatus (c f : Nat) (record : List Byte) (s : Device) : Device :=
  let was := match s.bat.status.find f with
    | some r => leAt r.record 4 2
    | none => 0
  let now := leAt record 4 2
  let frame := s.shw.frame
  let temp : Bool := match s.bat.caps.find f, s.bat.status.find f with
    | some c, _ => c.testBit 3
    | none, some r => r.temp
    | none, none => true
  let s := { s with bat := { s.bat with status := s.bat.status.put f { record := record, frame := frame, temp := temp } } }
  let s := memStore .bat (base4k s.reg R.BAT_STAT_BASE + 32 * f) (record ++ leBytes 6 frame ++ leBytes 1 1 ++ List.replicate 9 0) s
  s.raiseIf (now &&& (0xFFFF ^^^ was) ≠ 0) Ev.DRIVER_FAULT (pay2 c f)

/-- The sensor points that observe fixtures by readback (R199): a reading for a good record, a failure where the slice had CRC
failures. -/
def readbackSensors (good : List (Nat × List Byte)) (missed : List Nat) (s : Device) : Device :=
  s.each (upto 1024) fun s p =>
    let e := sensorEntry s p
    if leAt e 0 1 ≠ 1 then s
    else
      let f := leAt e 4 4 % 131072
      match good.find? (fun q => q.1 = f) with
      | some q => sensorReading p (some ((q.2.drop 8).take 6)) s
      | none => if missed.contains f then sensorReading p none s else s

/-- READBACK_STREAM_RX (R226, R233). -/
def readbackStream (c : Nat) (records : List (List Byte)) (s : Device) : Device :=
  let x := s.chain c
  match x.turned with
  | none => s
  | some (first, last, _) =>
    let good := records.filter recordGood
    let bad := records.length - good.length
    let span := spanOf first last
    let status := good.filter (fun r => recKind r = 0 && first ≤ recPos r && recPos r ≤ last)
    let recOf (p : Nat) : Option (List Byte) := status.find? (fun r => recPos r = p)
    let fixtureAt (p : Nat) : Option Nat := (x.positions[p]?).bind (·.fixture)
    let pairs := span.filterMap (fun p => match recOf p, fixtureAt p with
      | some r, some f => some (f, r)
      | _, _ => none)
    let absent := span.filter (fun p => (recOf p).isNone)
    -- counts
    let s := chainErr c 2 (span.length - records.length) (noteBadRecords c bad s)
    -- the table, sensors and headroom
    let s := s.each pairs (fun s q => storeStatus c q.1 q.2 s)
    let s := readbackSensors pairs (if bad = 0 then [] else absent.filterMap fixtureAt) s
    let s := match x.latched with
      | some g => feedback g (pairs.filterMap (fun (q : Nat × List Byte) => (headroomOf s g q.1 q.2).map (fun h => (q.1, h)))) s
      | none => s
    -- misses
    let (s, lost) := noteReadback c span (fun p => (recOf p).isSome) s
    let run := if bad = 0 then 0 else x.crcRun + 1
    let s := s.setChain c { s.chain c with crcRun := if 8 ≤ run then 0 else run, slice := if bad = 0 then x.slice + 1 else x.slice }
    let s := if 8 ≤ run then startEyecal c s else s
    if lost || good.any (fun r => recKind r = 1 && recFlag r) then autoEnum c s else s

/-- IDENTITY_CHECK (R239): in the window of a frame that is not a readback frame the IDENT records of the next slice are held against the position
table. -/
def identityCheck (c : Nat) (records : List (List Byte)) (s : Device) : Device :=
  let x := s.chain c
  let slices := (slicesOf s.reg c x.delays x.positions.length).getD []
  if s.rf R.BAT_ENUM_PERIOD 11 0 = 0 || !sends s || !chainLive s c || chainMode s.reg c ≠ 0 || x.job.isSome || readbackCycle s c ||
      !windowFree s c then s
  else
    let slice := slices.getD x.checkNext (0, 0)
    let s := takeWindow c (s.line c (turnSymbols slice.1 slice.2 1))
    let s := s.setChain c { s.chain c with checkNext := if x.checkNext + 1 < slices.length then x.checkNext + 1 else 0 }
    let good := records.filter recordGood
    let s := noteBadRecords c (records.length - good.length) s
    let differs := good.any (fun r => recKind r = 1 && (recFlag r || (match x.positions[recPos r]? with
      | some p => p.uid ≠ leAt r 2 8
      | none => true)))
    if differs then autoEnum c s else s

/-! ### DMX and RDM -/

/-- DMX_FRAME_START (R245, R247): the next content frame whose number DMX_DIV divides. -/
def dmxFrameStart (c : Nat) (s : Device) : Device :=
  let div (d : FrameCtx) : Nat := wfld (d.rd (R.BAT_CHn_MODECFG c)) 13 10 + 1
  match s.pipe.find? (fun d => !d.dealt c && chainMode d.rd c = 2 && d.content % div d = 0) with
  | none => s
  | some d =>
    if noLatches s || !chainSends s c d then s
    else
      let x := s.chain c
      let fill := frameFill s d c
      let slots := dmxSlots s fill c
      let bytes := 0 :: slots
      let s := frameBuilt c fill bytes slots (s.line c (512 :: bytes.map (·.toNat)))
      let moved := wbit (s.reg (R.BAT_CHn_CFG c)) 7 && !x.slots.isEmpty && x.slots ≠ slots
      let end_ := if moved then some (s.clock + 1000000 * s.rf R.BAT_MOTION_HOLD 15 0) else (s.chain c).motionEnd
      let s := (s.setChain c { s.chain c with slots := slots, latched := some d.content, motionEnd := end_ }).mark d.content c 8
      if moved then setMotion c true s else s

/-- MOTION_HOLD_EXPIRY (R247). -/
def motionExpiry (c : Nat) (s : Device) : Device :=
  match (s.chain c).motionEnd with
  | none => s
  | some t => setMotion c false ((s.elapseTo t).setChain c { (s.elapseTo t).chain c with motionEnd := none })

/-- An RDM transaction as it leaves: command class, PID, UID and data. The packet form is ANSI E1.20's (log 15). -/
def rdmSymbols (cls pid uid : Nat) (data : List Nat) : List Nat :=
  [512, 0xCC, cls, pid / 256, pid % 256] ++ ((beBytes 6 uid).map (·.toNat)) ++ data

/-- The fixture that an RDM UID names (R214). -/
def fixtureOfRdm (s : Device) (uid : Nat) : Option Nat :=
  ((patched s).find? (fun p => p.2.uid = 0xFFFE * 2 ^ 48 + uid && !p.2.fixed)).map (·.1)

/-- The slots of a discovery step's request: the header of E1.20 and its check sum with the step's parameter data (log 15). -/
def RdmStep.slots : RdmStep → Nat
  | .branch => 38
  | .setAddr _ _ => 28
  | _ => 26

/-- What a transaction needs of the window in ns (R246): its request of so many slots and the 2.8 ms response time. -/
def rdmTime (slots : Nat) : Nat := 44000 * slots + 2800000

/-- One step of a discovery (R246). `found` are the UIDs that answer with their start addresses, `refused` those that refuse a new one: a branch asks
the newly found for their addresses and is made again until none is new; an address is set where it differs from HOME and ADDR_SET asks for it. -/
def rdmStep (c : Nat) (found : List (Nat × Nat)) (refused : List Nat) (step : RdmStep) (s : Device) : Device :=
  let all := 2 ^ 48 - 1
  let x := s.chain c
  match step with
  | .unmute => s.line c (rdmSymbols 0x10 0x0003 all [])
  | .branch =>
    let s := s.line c (rdmSymbols 0x10 0x0001 all [])
    let new := (found.map (·.1)).filter (fun u => !x.rdmSeen.contains u)
    if new.isEmpty then s
    else
      let asks (u : Nat) : List RdmStep := .mute u :: (if s.rb R.BAT_CTRL 2 && (fixtureOfRdm s u).isSome then [.getAddr u] else [])
      s.setChain c { x with rdmSeen := x.rdmSeen ++ new, rdmSteps := x.rdmSteps ++ new.flatMap asks ++ [.branch] }
  | .mute u => s.line c (rdmSymbols 0x10 0x0002 u [])
  | .getAddr u =>
    let s := s.line c (rdmSymbols 0x20 0x00F0 u [])
    match fixtureOfRdm s u, found.find? (fun p => p.1 = u) with
    | some f, some p =>
      if p.2 = (patchOf s f).home then s else s.setChain c { x with rdmSteps := .setAddr u (patchOf s f).home :: x.rdmSteps }
    | _, _ => s
  | .setAddr u a =>
    let s := s.line c (rdmSymbols 0x30 0x00F0 u [a / 256, a % 256])
    s.raiseIf (refused.contains u) Ev.RDM_DONE (pay2 (c + 2 ^ 31) ((fixtureOfRdm s u).getD 0))

/-- The steps of a discovery that fit what remains of a window, in ns, and what remains after them (R246). -/
def rdmRun (c : Nat) (found : List (Nat × Nat)) (refused : List Nat) : Nat → Nat → Device → Device × Nat
  | 0, left, s => (s, left)
  | n + 1, left, s =>
    match (s.chain c).rdmSteps with
    | [] => (s, left)
    | step :: rest =>
      if left < rdmTime step.slots then (s, left)
      else rdmRun c found refused n (left - rdmTime step.slots) (rdmStep c found refused step (s.setChain c { s.chain c with rdmSteps := rest }))

/-- A discovery ends (R246): the patched UIDs found are placed. -/
def rdmDiscovered (c : Nat) (s : Device) : Device :=
  let was := (s.bat.places.filter (fun q => q.2.chain = c)).map (·.1)
  let now := (s.chain c).rdmSeen.filterMap (fixtureOfRdm s)
  let left := was.filter (fun f => !now.contains f)
  let s := { s with bat := { s.bat with places := s.bat.places.filter (fun q => !left.contains q.1) } }
  let s := s.each now fun s f => placeFixture f { chain := c, pos := (patchOf s f).home, moved := (patchOf s f).chain ≠ c } s
  let s := (left ++ now).foldl (fun s f => writePlace f s) s
  let s := noteNotFound c left [] s
  (s.setChain c { s.chain c with discover := false }).setB (R.BAT_CHn_CMD c) 0 false

/-- RDM_WINDOW (R246): the steps of a discovery, then the pass-through request that waits for this chain, as far as they fit the window. -/
def rdmWindow (c : Nat) (found : List (Nat × Nat)) (refused : List Nat) (s : Device) : Device :=
  if !sends s || !chainLive s c || chainMode s.reg c ≠ 2 || !s.rb (R.BAT_CHn_CFG c) 8 then s
  else
    let window := 1000000 * s.rf (R.BAT_CHn_MODECFG c) 31 27
    let (s, left) := if (s.chain c).discover then rdmRun c found refused 16 window s else (s, window)
    let s := if (s.chain c).discover && (s.chain c).rdmSteps.isEmpty then rdmDiscovered c s else s
    match s.bat.rdm with
    | some (ch, req) =>
      if ch = c && rdmTime req.length ≤ left then
        s.line c (512 :: req.map (·.toNat))
      else s
    | none => s

/-- The first byte of the RDM mailbox (R255). -/
def rdmBox (s : Device) : Nat := 512 * s.rf R.BAT_RDM_BUF 21 0

/-- BAT_RDM_CTRL (R246): GO takes the request from the mailbox and waits for its chain's next window. -/
def rdmHandler (w : Who) (v : Word) : Handler :=
  let h := plainHandler w R.BAT_RDM_CTRL v
  { h with
    state := fun s => if wbit v 16 && s.bat.rdm.isSome then .busy else .ok
    effect := fun s =>
      let s := (storeWrite w R.BAT_RDM_CTRL v s).setB R.BAT_RDM_CTRL 16 false
      if wbit v 16 then
        let (s, r) := memRead .bat (rdmBox s) 256 s
        let s := (s.setB R.BAT_RDM_CTRL 17 true).setF R.BAT_RDM_CTRL 21 20 0
        { s with bat := { s.bat with rdm := some (wfld v 8 0, r.data.take (leAt r.data 2 1 + 2)) } }
      else s }

/-- RDM_DONE (R246). -/
def rdmDone (result : Nat) (response : List Byte) (s : Device) : Device :=
  match s.bat.rdm with
  | none => s
  | some (c, _) =>
    let s := if result % 4 = 0 then memStore .bat (rdmBox s + 256) (response.take 256) s else s
    let s := (s.setB R.BAT_RDM_CTRL 17 false).setF R.BAT_RDM_CTRL 21 20 result
    ({ s with bat := { s.bat with rdm := none } }).raise Ev.RDM_DONE (pay2 c (result % 4))

/-! ### Bank supplies -/

/-- Whether a bank supply stands at its level (R211, R499): within 5 % of 1.8 V, or no more than 5 % below 3.3 V. The instant of BANK_SUPPLY is
PRESUMED to be the supply's tolerance (log 16). -/
def supplyOk (mv : Nat) : Bool := (1710 ≤ mv && mv ≤ 1890) || 3135 ≤ mv

/-- BANK_SUPPLY (R242): chains of a bank below its level go to FAULT; when it returns they are brought up. -/
def bankSupply (b mv : Nat) (s : Device) : Device :=
  let off := R.BAT_BANKb_STATUS b
  let was := s.rb off 0
  let ok := supplyOk mv
  let s := (s.setB off 0 ok).setB off 1 (3135 ≤ mv)
  if was = ok then s
  else
    let s := s.raise Ev.BANK_SUPPLY (pay2 b (b2n ok))
    s.each (upto 32) fun s i =>
      let c := 32 * b + i
      if !chainOn s.reg c then s
      else if ok then startBringup c s else dropJobs c s

/-! ### Registers -/

/-- BAT_CHn_CMD (R239, R242, R243, R251): E_CONFLICT for RANGE and EYECAL off HLK, E_STATE on a chain that is not enabled, E_BUSY while a
bring-up or a calibration runs. Several commands of one write run one after another (DESIGN CHOICE, log 36). -/
def chainCmdHandler (c : Nat) (w : Who) (v : Word) : Handler :=
  let off := R.BAT_CHn_CMD c
  { state := fun s =>
      if v = 0 then .ok
      else if !chainOn s.reg c then if (wbit v 1 || wbit v 2) && chainMode s.reg c ≠ 0 then .ok else .state
      else if (s.chain c).job.isSome || (s.chain c).discover then .busy else .ok
    check := fun s => if (wbit v 1 || wbit v 2) && chainMode s.reg c ≠ 0 then .conflict else .ok
    effect := fun s =>
      let s := storeWrite w off v s
      nextCmd c (if wbit v 0 then startBringup c s else s) }

/-- BAT_CTRL (R239, R255): EN set brings up the enabled chains, EN cleared ends their jobs. -/
def batCtrlHandler (w : Who) (v : Word) : Handler :=
  { plainHandler w R.BAT_CTRL v with
    effect := fun s =>
      let was := s.rb R.BAT_CTRL 0
      let s := storeWrite w R.BAT_CTRL v s
      let on := (upto 512).filter (chainOn s.reg)
      if wbit v 0 && !was then s.each on (fun s c => startBringup c s)
      else if was && !wbit v 0 then s.each on (fun s c => dropJobs c s) else s }

/-- The BAT registers' own rules outside commits. -/
def batHandler (w : Who) (off : Nat) (v : Word) : Handler :=
  let h := plainHandler w off v
  if R.BAT_CHn_CFG 0 ≤ off && off < R.BAT_CHn_CFG 512 && off % 0x80 = 0x1C then
    chainCmdHandler ((off - R.BAT_CHn_CFG 0) / 0x80) w v
  else if off = R.BAT_RDM_CTRL then rdmHandler w v
  else if off = R.BAT_CTRL then batCtrlHandler w v
  else if off = R.BAT_SS then { h with check := fun s => if deepSpread v && anyDmx s.reg then .conflict else .ok }
  else h

/-- STATE of a chain (R254). -/
def chainState (s : Device) (c : Nat) : Nat :=
  let x := s.chain c
  if !s.rb R.BAT_CTRL 0 || !chainOn s.reg c || !sends s then 0
  else if !bankOk s c then 5
  else match x.job with
    | some (.bringup _ _) => 2
    | some (.ranging _) => 4
    | some .eyecal => 4
    | none =>
      if noLatches s || x.heldNow then 4
      else if x.latched.isNone || (chainMode s.reg c = 0 && x.positions.isEmpty) then 1 else 3

/-- What BAT registers read as where they show live state (R254). -/
def batView (s : Device) (off : Nat) : Option Word :=
  if R.BAT_CHn_CFG 0 ≤ off && off < R.BAT_CHn_CFG 512 && off % 0x80 = 0x08 then
    let c := (off - R.BAT_CHn_CFG 0) / 0x80
    let slack : Rat := if chainOn s.reg c then chainSlack s s.reg (entryBounds s s.reg (mapBank s.reg)) c / 1000 else 0
    some (BitVec.ofNat 32 (s.rf off 7 3 * 8 + chainState s c + 65536 * min 65535 slack.floor.toNat))
  else none

/-! ### The commands -/

/-- RAIL_STROBE (R229). -/
def execRailStrobe (c : Nat) (st : State) : Host.Outcome State Fault Refusal :=
  st.onDevice fun s => onUnit (c < 512) (railStrobe c s)

/-- CHAIN_LATCH_ISSUE (R228): the unit announces a hold of every witness chain before its latch is withheld (R411). -/
def execChainLatchIssue (c : Nat) (st : State) : Host.Outcome State Fault Refusal :=
  st.onDevice fun s => onUnit (c < 512) (chainLatch c (refreshHolding s))

/-- READBACK_TURN (R225). -/
def execReadbackTurn (c : Nat) (ack : Bool) (st : State) : Host.Outcome State Fault Refusal :=
  st.onDevice fun s => onUnit (c < 512) (readbackTurn c ack s)

/-- READBACK_STREAM_RX (R226). -/
def execReadbackStreamRx (c : Nat) (records : List (List Byte)) (st : State) : Host.Outcome State Fault Refusal :=
  st.onDevice fun s =>
  onUnit (c < 512) (readbackStream c records s)

/-- CHAIN_ENUM (R239). -/
def execChainEnum (w : Who) (c : Nat) (v : Word) (st : State) : Host.Outcome State Fault Refusal :=
  st.onDevice fun s =>
  onUnit (c < 512) (regWrite s w (R.BAT_CHn_CMD c) v (batHandler w (R.BAT_CHn_CMD c) v))

/-- BRINGUP_CYCLE (R240). -/
def execBringupCycle (c : Nat) (records : List (List Byte)) (st : State) : Host.Outcome State Fault Refusal :=
  st.onDevice fun s =>
  onUnit (c < 512) (bringupCycle c records s)

/-- IDENTITY_CHECK (R239). -/
def execIdentityCheck (c : Nat) (records : List (List Byte)) (st : State) : Host.Outcome State Fault Refusal :=
  st.onDevice fun s =>
  onUnit (c < 512) (identityCheck c records s)

/-- CHAIN_RANGE (R235). -/
def execChainRange (w : Who) (c : Nat) (v : Word) (st : State) : Host.Outcome State Fault Refusal :=
  st.onDevice fun s =>
  onUnit (c < 512) (regWrite s w (R.BAT_CHn_CMD c) v (batHandler w (R.BAT_CHn_CMD c) v))

/-- RANGE_DONE (R236). -/
def execRangeDone (c : Nat) (rt0 rtN : List Nat) (records : List (List Byte)) (st : State) : Host.Outcome State Fault Refusal :=
  st.onDevice fun s =>
  onUnit (c < 512) (rangeDone c rt0 rtN records s)

/-- DRIFT_RANGING (R237). -/
def execDriftRanging (c : Nat) (rt0 rtN : Nat) (st : State) : Host.Outcome State Fault Refusal :=
  st.onDevice fun s =>
  onUnit (c < 512) (driftRanging c rt0 rtN s)

/-- EYECAL (R243). -/
def execEyecal (w : Who) (c : Nat) (v : Word) (st : State) : Host.Outcome State Fault Refusal :=
  st.onDevice fun s =>
  onUnit (c < 512) (regWrite s w (R.BAT_CHn_CMD c) v (batHandler w (R.BAT_CHn_CMD c) v))

/-- EYE_CAL_DONE (R243). -/
def execEyeCalDone (c : Nat) (clean : List Bool) (checkOk : Bool) (st : State) : Host.Outcome State Fault Refusal :=
  st.onDevice fun s =>
  onUnit (c < 512) (eyeCalDone c clean checkOk s)

/-- RDM_WINDOW (R246). -/
def execRdmWindow (c : Nat) (found : List (Nat × Nat)) (refused : List Nat) (st : State) : Host.Outcome State Fault Refusal :=
  st.onDevice fun s =>
  onUnit (c < 512) (rdmWindow c found refused s)

/-- BAT_RDM_CTRL.GO written (R246). -/
def execRdmGo (w : Who) (v : Word) (st : State) : Host.Outcome State Fault Refusal :=
  st.onDevice fun s =>
  .next (regWrite s w R.BAT_RDM_CTRL v (batHandler w R.BAT_RDM_CTRL v))

/-- RDM_DONE (R246). -/
def execRdmDone (result : Nat) (response : List Byte) (st : State) : Host.Outcome State Fault Refusal :=
  st.onDevice fun s => .next (rdmDone result response s)

/-- MOTION_HOLD_EXPIRY (R247). -/
def execMotionHoldExpiry (c : Nat) (st : State) : Host.Outcome State Fault Refusal :=
  st.onDevice fun s => onUnit (c < 512) (motionExpiry c s)

/-- BANK_SUPPLY (R242). -/
def execBankSupply (bank milliVolt : Nat) (st : State) : Host.Outcome State Fault Refusal :=
  st.onDevice fun s =>
  onUnit (bank < 16) (bankSupply bank milliVolt s)

end Sys2Proof.Machine
end

