-- ==== Sys2Proof/Machine/Reset.lean ====
section
/-! DEFINITION. Reset (R424, R425): what a full reset and a core reset clear and keep. -/

namespace Sys2Proof.Machine

/-- Whether a core reset keeps a register (R424, R448, R494): the registers marked AON and the metering block, whose channels and pulse outputs
lie in the always-on domain. -/
def keptRegister (off : Nat) : Bool :=
  (0x1E0000 ≤ off && off < 0x200000) ||
  match specAt off with
  | some r => r.aon
  | none => false

/-- The power-event slot being written becomes a record whose CRC fails (R442). -/
def breakPwr (y : SysState) : Table PwrSlot :=
  if y.saving then
    match (upto 16).find? (fun k => y.pwr.getD .erased k = .erased) with
    | some k => y.pwr.put k .broken
    | none => y.pwr
  else y.pwr

/-- What every reset keeps of the boot and supply state: the configuration flash and the fuses. -/
def SysState.kept (y : SysState) : SysState :=
  { flash := y.flash, pwr := breakPwr y, settings := y.settings, minVer := y.minVer }

/-- What every reset keeps of photometry: the ageing copies in flash; a copy being written is lost. -/
def PhoState.kept (p : PhoState) : PhoState :=
  { ageNewest := p.ageNewest, ageOlder := if p.ageSaving.isSome then none else p.ageOlder }

/-- A full reset (R424): everything returns to its reset value but the flash, the fuses and what the model records. -/
def fullReset (s : Device) : Device :=
  { clock := s.clock, free := s.free, resp := s.resp, sent := s.sent,
    sys := s.sys.kept, pho := s.pho.kept,
    mtr := { records := s.mtr.records, warns := s.mtr.warns, erased := s.mtr.erased, calStore := s.mtr.calStore } }

/-- A core reset (R424): the always-on domain is kept; the cause is recorded and the reset counted. `cause` is the bit of
SYS_RESET_CAUSE. -/
def coreReset (cause : Nat) (s : Device) : Device :=
  let t : Device :=
    { clock := s.clock, free := s.free, resp := s.resp, sent := s.sent,
      regs := s.regs.filter (fun p => keptRegister p.1), sys := { s.sys.kept with full := false, hot := cause = 6 }, pho := s.pho.kept,
      mtr := { s.mtr with saving := none } }
  (t.setB R.SYS_RESET_CAUSE cause true).count R.SYS_RESETS 1

end Sys2Proof.Machine
end

