-- ==== Sys2Proof/Machine/House.lean ====
section
/-! DEFINITION. Housekeeping (R477 to R496): die temperature, the core voltage, the fog output, the general-purpose pins. -/

namespace Sys2Proof.Machine

/-! ### Pins -/

/-- The numbers of single pins as outlets; GP0 to GP31 are 0 to 31 and MTR_PLS0 to MTR_PLS7 are 100 to 107. -/
def pinPps : Nat := 64
def pinLtc : Nat := 65
def pinFog : Nat := 66
def pinHuIso : Nat := 67
def pinHuTest : Nat := 68

/-- The function of a general-purpose pin (R495). -/
def gpioFunc (s : Device) (p : Nat) : Nat := s.rf (R.HKP_GPIOp_CFG p) 2 0

/-- Drives a level on an output pin (R492): an open-drain pin releases a high level, sent as 2. -/
def gpioDrive (p : Nat) (level : Bool) (s : Device) : Device :=
  let was := s.rb R.HKP_GPIO_OUT p
  let wire := if level && s.rb (R.HKP_GPIOp_CFG p) 3 then 2 else b2n level
  if was = level then s else (s.setB R.HKP_GPIO_OUT p level).send (.pin p) [wire]

/-- The pins with a function. -/
def gpioPins (s : Device) (func : Nat) : List Nat := (upto 32).filter (fun p => gpioFunc s p = func)

/-- A light-list GPIO action (R43, R44): only light-list outputs follow it. -/
def gpioLight (mask value : Nat) (s : Device) : Device :=
  s.each ((gpioPins s 2).filter (fun p => bit mask p)) (fun s p => gpioDrive p (bit value p) s)

/-- A register write of output levels under a mask (R492): only register outputs follow it. -/
def gpioWrite (mask value : Nat) (s : Device) : Device :=
  s.each ((gpioPins s 1).filter (fun p => bit mask p)) (fun s p => gpioDrive p (bit value p) s)

/-- HKP_GPIOp_CFG (R492, R495): a pin that is given an output function drives INIT; an input drives nothing; an output that becomes open-drain or
ceases to be drives its level so. -/
def gpioConfig (p : Nat) (v : Word) (s : Device) : Device :=
  let old := gpioFunc s p
  let wasOd := s.rb (R.HKP_GPIOp_CFG p) 3
  let s := s.setReg (R.HKP_GPIOp_CFG p) v
  let new := wfld v 2 0
  let init := wbit v 6
  let level := s.rb R.HKP_GPIO_OUT p
  if new = old then (if (new = 1 || new = 2) && level && wasOd ≠ wbit v 3 then s.send (.pin p) [if wbit v 3 then 2 else 1] else s)
  else if new = 1 || new = 2 then
    (s.setB R.HKP_GPIO_OUT p init).send (.pin p) [if init && wbit v 3 then 2 else b2n init]
  else if old = 1 || old = 2 then (s.setB R.HKP_GPIO_OUT p false).send (.pin p) [2]
  else s

/-- GPIO_EDGE (R492): the filtered level of a pin changes at a show time. -/
def gpioEdge (p : Nat) (level : Bool) (time : Nat) (s : Device) : Device :=
  let was := s.rb R.HKP_GPIO_IN p
  let mode := s.rf (R.HKP_GPIOp_CFG p) 5 4
  let picked := gpioFunc s p = 3 && was ≠ level && (mode = 2 || (if level then mode = 0 else mode = 1))
  let s := s.setB R.HKP_GPIO_IN p level
  if picked then (s.setB R.HKP_GPIO_EDGE p true).raise Ev.GPIO_EDGE (p + 256 * time) else s

/-! ### The fog output -/

/-- Whether some pending event has a fog route (R376). -/
def fogRouted (s : Device) : Bool :=
  (upto 256).any (fun e => s.rb (R.EVT_PENDj (e / 32)) (e % 32) && s.rb (R.EVT_ROUTEe e) 9)

/-- The fog requests that stand (R488): light list, route, SAFE_N, the safety pair's faults, the boot ROM. -/
def fogSources (s : Device) : List Bool :=
  [s.hkp.fogLight && s.rb R.HKP_FOG_CFG 0, fogRouted s && s.rb R.HKP_FOG_CFG 1, s.hkp.safeLow && s.rb R.HKP_FOG_CFG 2, s.hkp.fogPair,
   s.hkp.fogBoot]

/-- The end of the shortest assertion, in local ns (R488). -/
def fogMinEnd (s : Device) : Nat := s.hkp.fogSince + 1000000 * s.rf R.HKP_FOG_CFG 25 16

/-- FOG_N follows its requests (R488, R489). -/
def fogRefresh (s : Device) : Device :=
  let src := fogSources s
  let was := s.rb R.HKP_FOG_STATUS 0
  let stands := src.any (fun b => b)
  let low := stands || (was && s.clock < fogMinEnd s)
  let word := b2n low + sumL (src.zipIdx.map (fun p => b2n p.1 * 2 ^ (p.2 + 1))) + 64 * b2n low
  let s := s.setN R.HKP_FOG_STATUS word
  if low = was then s
  else
    let s := s.when low (fun s => ({ s with hkp := { s.hkp with fogSince := s.clock } }).count R.HKP_FOG_COUNT 1)
    (s.send (.pin pinFog) [if low then 0 else 2]).raise Ev.FOG_CHANGE word

/-- A light-list FOG action (R43, R44). -/
def fogLight (on : Bool) (s : Device) : Device := fogRefresh { s with hkp := { s.hkp with fogLight := on } }

/-- The safety pair's own fault asserts FOG_N (R346, R467). -/
def fogPair (s : Device) : Device := fogRefresh { s with hkp := { s.hkp with fogPair := true } }

/-- The service loader asserts FOG_N (R433). -/
def fogBoot (s : Device) : Device := fogRefresh { s with hkp := { s.hkp with fogBoot := true } }

/-! ### Die temperature -/

/-- A signed 16-bit register. -/
def reg16 (s : Device) (off : Nat) : Int := sext 16 (s.rn off)

/-- A peak or lowest register takes a sample (R494): the first since it was cleared, or a new extreme. -/
def takeExtreme (high : Bool) (off : Nat) (v : Int) (s : Device) : Device :=
  let held := reg16 s off
  if !s.hkp.seen.getD false off || (if high then held < v else v < held) then
    { s.setN off (trunc 16 v) with hkp := { s.hkp with seen := s.hkp.seen.put off true } }
  else s

/-- The sensors in use (R479). -/
def sensorsInUse (s : Device) : List Nat := (upto 12).filter (fun k => s.rb (R.HKP_Ts_CFG k) 8 && !s.hkp.outOfUse.getD false k)

/-- Twice the median of a list (R479); an even list takes the mean of its middle two (PRESUMED, log 18). -/
def median2 (l : List Int) : Int :=
  let m := sortBy (fun a b => a ≤ b) l
  m.getD ((m.length - 1) / 2) 0 + m.getD (m.length / 2) 0

/-- A sensor goes out of use (R479). -/
def sensorOut (k : Nat) (s : Device) : Device :=
  let s := { s with hkp := { s.hkp with outOfUse := s.hkp.outOfUse.put k true } }
  (s.setB R.HKP_THERM_STATUS 2 true).raise Ev.THERM_SENSOR_FAULT k

/-- The readings of one sample, trimmed, into the registers (R478). -/
def noteTemps (temps : List Int) (s : Device) : Device :=
  s.each (upto 12) fun s k =>
    let v := temps.getD k 0 + sext 8 (s.rf (R.HKP_Ts_CFG k) 7 0)
    let s := s.setN (R.HKP_Ts k) (trunc 16 v)
    takeExtreme false (R.HKP_Ts_MIN k) v (takeExtreme true (R.HKP_Ts_PEAK k) v s)

/-- The sensors that a sample puts out of use (R479). -/
def checkSensors (s : Device) : Device :=
  let used := sensorsInUse s
  let s := s.each used fun s k =>
    let v := reg16 s (R.HKP_Ts k)
    if v < -880 || 2400 < v then sensorOut k s else s
  let used := sensorsInUse s
  let mid := median2 (used.map (fun k => reg16 s (R.HKP_Ts k)))
  s.each used fun s k =>
    let far := 640 < (2 * reg16 s (R.HKP_Ts k) - mid).natAbs
    let n := if far then s.hkp.differ.getD 0 k + 1 else 0
    let s := { s with hkp := { s.hkp with differ := s.hkp.differ.setD 0 k n } }
    if 10 ≤ n then sensorOut k s else s

/-- THERM_SAMPLE (R478 to R480): the die sensors are read and the actions taken on the highest in use; with fewer than six in use every
sample counts as at T_HOT. -/
def thermSample (temps : List Int) (s : Device) : Device :=
  let s := checkSensors (noteTemps temps s)
  let used := sensorsInUse s
  let top := used.foldl (fun (a : Option (Int × Nat)) k =>
    let v := reg16 s (R.HKP_Ts k)
    match a with
    | some b => if b.1 < v then some (v, k) else a
    | none => some (v, k)) none
  let hotAt : Int := 16 * (s.rf R.HKP_THERM_CFG 7 0 : Nat)
  let shutAt : Int := 16 * (s.rf R.HKP_THERM_CFG 15 8 : Nat)
  let s := s.setF R.HKP_THERM_STATUS 27 16 (sumL (used.map (fun k => 2 ^ k)))
  let s := match top with
    | some (v, k) => takeExtreme true R.HKP_TJ_PEAK v ((s.setN R.HKP_TJ_MAX (trunc 16 v)).setF R.HKP_THERM_STATUS 7 4 k)
    | none => s
  let few := used.length < 6
  let high : Int := if few then hotAt else (top.map (·.1)).getD hotAt
  let hot := s.rb R.HKP_THERM_STATUS 0
  let s :=
    if !hot && hotAt ≤ high then
      let s := (s.setB R.HKP_THERM_STATUS 0 true).count R.HKP_HOT_COUNT 1
      (s.when (s.rb R.HKP_THERM_CFG 16) (fun s => s.setB R.HKP_THERM_STATUS 1 true)).raise Ev.THERM_HOT ((top.map (·.2)).getD 0)
    else if hot && high < hotAt - 80 then (s.setF R.HKP_THERM_STATUS 1 0 0).raise Ev.THERM_NORMAL ((top.map (·.2)).getD 0)
    else s
  let n : Nat := if shutAt ≤ high then s.hkp.shutRun + 1 else 0
  let s := { s with hkp := { s.hkp with shutRun := n } }
  if 2 ≤ n then coreReset 6 (s.count R.HKP_SHUT_COUNT 1) else s

/-! ### The core voltage -/

/-- The worst slack of the monitors (R484). -/
def worstSlack (s : Device) : Int :=
  (upto 24).foldl (fun (a : Int) m => min a (reg16 s (R.HKP_PDMm m))) (reg16 s (R.HKP_PDMm 0))

/-- The monitor with the worst slack (R484). -/
def worstMonitor (s : Device) : Nat := ((upto 24).find? (fun m => reg16 s (R.HKP_PDMm m) = worstSlack s)).getD 0

/-- Requests a core voltage (R483, R485): the request goes out over the AVSBus; the step is remembered for the sensitivity. -/
def requestVolt (v : Nat) (s : Device) : Device :=
  let lo := s.rf R.HKP_AVS_LIMITS 9 0
  let hi := s.rf R.HKP_AVS_LIMITS 25 16
  let v := max lo (min hi v)
  let old := s.rn R.HKP_VCORE_REQ
  if v = old || s.rb R.HKP_AVS_STATUS 2 then s
  else
    let s := (((s.setN R.HKP_VCORE_REQ v).count R.HKP_AVS_STEPS 1).setF R.HKP_AVS_STATUS 7 4 0).send .avs [0, v]
    let s := if v < hi then s.setB R.HKP_AVS_STATUS 1 false else s
    { s with hkp := { s.hkp with stepFrom := some (old, worstSlack s), sentAt := s.clock, tries := 0 } }

/-- The size of a voltage step in mV. -/
def voltStep (s : Device) : Nat := s.rf R.HKP_AVS_CFG 23 16

/-- The fast loop raises the request by one step; at V_MAX with the slack still short AT_MAX is set (R484). -/
def fastStep (s : Device) : Device :=
  let s := requestVolt (s.rn R.HKP_VCORE_REQ + voltStep s) s
  let top := s.rf R.HKP_AVS_LIMITS 25 16 ≤ s.rn R.HKP_VCORE_REQ
  let first := top && !s.rb R.HKP_AVS_STATUS 1
  (s.setB R.HKP_AVS_STATUS 1 top).raiseIf first Ev.MARGIN_LOW (worstMonitor s)

/-- The sensitivity measured at a step (R485), averaged over the last 16 in 0.001 % per mV, nearest. -/
def noteSensitivity (s : Device) : Device :=
  match s.hkp.stepFrom with
  | none => s
  | some (v0, w0) =>
    let dv : Int := ((s.rn R.HKP_VCORE_REQ : Nat) : Int) - ((v0 : Nat) : Int)
    let h := { s.hkp with stepFrom := none }
    if dv = 0 then { s with hkp := h }
    else
      let k := (worstSlack s - w0) * 100 / dv
      let l := (k :: h.sens).take 16
      let n : Int := ((l.length : Nat) : Int)
      let mean := (2 * l.foldl (· + ·) 0 + n) / (2 * n)
      { s with hkp := { h with sens := l } }.setN R.HKP_SENS_DV (trunc 16 mean)

/-- Whether the core-voltage loop may act (R483): enabled and without a fault. -/
def avsRuns (s : Device) : Bool := s.rb R.HKP_AVS_CFG 0 && !s.rb R.HKP_AVS_STATUS 2

/-- PDM_SAMPLE (R482, R484): the slacks are read; below MIN_MARGIN the fast loop raises the request, and a fall stops below
TARGET_MARGIN. -/
def pdmSample (slacks : List Int) (s : Device) : Device :=
  let s := s.each (upto 24) fun s m =>
    let v := slacks.getD m 0
    takeExtreme false (R.HKP_PDMm_MIN m) v (s.setN (R.HKP_PDMm m) (trunc 16 v))
  let w := worstSlack s
  let s := (noteSensitivity s).setF R.HKP_MARGIN 31 16 (trunc 16 w)
  let h := s.hkp
  let low : Int := match h.lowSlack with
    | some l => min l w
    | none => w
  let short := w < (s.rf R.HKP_MARGIN_CFG 7 0 : Nat)
  let falling := match h.plan with
    | some v => decide (v < s.rn R.HKP_VCORE_REQ)
    | none => false
  let stop := falling && w < (s.rf R.HKP_MARGIN_CFG 15 8 : Nat)
  let s := { s with hkp := { h with lowSlack := some low, fast := short && avsRuns s, plan := if stop then none else h.plan } }
  if short && avsRuns s && !h.fast then fastStep s else s

/-- The margin that remains once a re-planned voltage is reached (R486). -/
def noteMargin (s : Device) : Device :=
  let k : Int := sext 16 (s.rn R.HKP_SENS_DV)
  let room : Int := ((s.rf R.HKP_AVS_LIMITS 25 16 : Nat) : Int) - ((s.rn R.HKP_VCORE_REQ : Nat) : Int)
  let remain := worstSlack s + k * room / 100 - (s.rf R.HKP_MARGIN_CFG 7 0 : Nat)
  (s.setF R.HKP_MARGIN 15 0 (trunc 16 remain)).raiseIf (remain < (s.rf R.HKP_MARGIN_CFG 23 16 : Nat)) Ev.MARGIN_LOW (worstMonitor s)

/-- Whether a fall is suspended (R485): brace state, HOT or FAULT. -/
def fallHeld (s : Device) : Bool := braced s || s.rb R.HKP_THERM_STATUS 0 || s.rb R.HKP_AVS_STATUS 2

/-- VCORE_STEP (R484, R485): the step timer expires: the fast loop, or the next step towards the re-planned voltage. -/
def vcoreStep (s : Device) : Device :=
  let req := s.rn R.HKP_VCORE_REQ
  if !avsRuns s then s
  else if s.hkp.fast then fastStep (s.elapseTo (s.hkp.sentAt + 1000000))
  else match s.hkp.plan with
    | none => s
    | some v =>
      if v = req then s
      else if v < req && fallHeld s then s
      else
        let s := s.elapseTo (s.hkp.sentAt + if req < v then 1000000 else 100000000)
        let s := requestVolt (if req < v then min v (req + voltStep s) else max v (req - voltStep s)) s
        if s.rn R.HKP_VCORE_REQ = v then noteMargin { s with hkp := { s.hkp with plan := none } } else s

/-- AVS_READBACK (R483): Vout is checked 2 ms after the write; after the third failed retry FAULT is set. -/
def avsReadback (ack : Bool) (mv : Nat) (s : Device) : Device :=
  let s := s.elapseTo (s.hkp.sentAt + 2000000)
  let req := s.rn R.HKP_VCORE_REQ
  let s := s.when ack (fun s => s.setN R.HKP_VCORE_READ (mv % 1024))
  if !s.rb R.HKP_AVS_CFG 0 || s.rb R.HKP_AVS_STATUS 2 then s
  else if ack && req ≤ mv + 5 && mv ≤ req + 5 then s
  else if s.hkp.tries < 3 then
    let s := { s with hkp := { s.hkp with tries := s.hkp.tries + 1, sentAt := s.clock } }
    (s.setF R.HKP_AVS_STATUS 7 4 s.hkp.tries).send .avs [0, req]
  else ((s.setB R.HKP_AVS_STATUS 2 true).count R.HKP_AVS_ERR 1).raise Ev.AVS_FAULT 0

/-- A signed quotient rounded to the nearest, ties away from zero (R487). -/
def roundAway (a : Int) (b : Nat) : Int := if 0 ≤ a then ((rdiv a.natAbs b : Nat) : Int) else -((rdiv a.natAbs b : Nat) : Int)

/-- The receive sampling of one chain follows its monitor (R487): a shift at the next commit point, or an eye calibration beyond 3/16 bit. -/
def shiftChain (c : Nat) (s : Device) : Device :=
  match s.hkp.eyes.find c with
  | none => s
  | some (phase, d0) =>
    let dd := s.hkp.delays.getD (c / 128) 0 - d0
    let shift := roundAway dd (10 * 2 ^ s.rf (R.BAT_CHn_CFG c) 4 3)
    if 3 < shift.natAbs then (if inStandby s then s else startEyecal c s)
    else
      let x := s.chain c
      let p := trunc 4 (((phase : Nat) : Int) + shift)
      s.setChain c { x with stage := some { (x.stage.getD {}) with eye := some p } }

/-- MARGIN_REPLAN (R485 to R487): a new voltage is planned while the loop may act, the margin is judged, and the receive phases follow; `delays` are the absolute delays of monitors 20 to
23 in 1/16 ns. -/
def marginReplan (delays : List Int) (s : Device) : Device :=
  let s := s.elapseTo (s.hkp.planAt + 60000000000 * s.rf R.HKP_AVS_CFG 15 8)
  let w := (s.hkp.lowSlack.getD (worstSlack s))
  let s := { s with hkp := { s.hkp with planAt := s.clock, lowSlack := none, delays := delays } }
  let s := (s.set64 R.HKP_REPLAN_TIME_LO R.HKP_REPLAN_TIME_HI s.shw.time).raise Ev.MARGIN_REPLAN (worstMonitor s)
  let s := if !avsRuns s then noteMargin s else
    let k : Int := sext 16 (s.rn R.HKP_SENS_DV)
    let req := s.rn R.HKP_VCORE_REQ
    let lo := s.rf R.HKP_AVS_LIMITS 9 0
    let hi := s.rf R.HKP_AVS_LIMITS 25 16
    let gap : Int := ((s.rf R.HKP_MARGIN_CFG 15 8 : Nat) : Int) - w
    let (i, s) := s.takeFree
    let v : Nat :=
      if k ≤ 0 then max lo (min hi (Config.planVolt i))
      else (clampI lo hi (((req : Nat) : Int) + -((-(gap * 100)) / k))).toNat
    if v = req then noteMargin s else { s with hkp := { s.hkp with plan := some v } }
  let live := (upto 512).filter (fun c => chainOn s.reg c && chainMode s.reg c = 0 && s.rb (R.BAT_CHn_EYE c) 12)
  let shifts := live.filterMap (fun c => (s.hkp.eyes.find c).map (fun (p : Nat × Int) => delays.getD (c / 128) 0 - p.2))
  let most := shifts.foldl (fun (a : Int) d => if a.natAbs < d.natAbs then d else a) 0
  (s.setN R.HKP_RXSHIFT (trunc 16 most)).each live (fun s c => shiftChain c s)

/-! ### Registers -/

/-- The HKP registers' own rules (R480, R485, R492, R494). -/
def hkpHandler (w : Who) (off : Nat) (v : Word) : Handler :=
  let h := plainHandler w off v
  if off = R.HKP_THERM_CFG then { h with check := fun _ => if wfld v 15 8 ≤ wfld v 7 0 then .conflict else .ok }
  else if off = R.HKP_AVS_LIMITS then { h with check := fun _ => if wfld v 25 16 < wfld v 9 0 then .conflict else .ok }
  else if off = R.HKP_MARGIN_CFG then { h with check := fun _ => if wfld v 15 8 < wfld v 7 0 + 10 then .conflict else .ok }
  else if off = R.HKP_AVS_CFG then { h with effect := fun s => (storeWrite w off v s).setB R.HKP_AVS_STATUS 0 (wbit v 0) }
  else if off = R.HKP_GPIO_OUT then { h with effect := gpioWrite 0xFFFFFFFF v.toNat }
  else if off = R.HKP_GPIO_SET then { h with effect := gpioWrite v.toNat 0xFFFFFFFF }
  else if off = R.HKP_GPIO_CLR then { h with effect := gpioWrite v.toNat 0 }
  else if R.HKP_GPIOp_CFG 0 ≤ off && off < R.HKP_GPIOp_CFG 32 then { h with effect := gpioConfig ((off - R.HKP_GPIOp_CFG 0) / 4) v }
  else h

/-- What HKP registers read as where they show fuses and live state (R482, R494). -/
def hkpView (s : Device) (off : Nat) : Option Word :=
  if R.HKP_PDMm_BASE 0 ≤ off && off < R.HKP_PDMm_BASE 24 then some ((Config.slackBase ((off - R.HKP_PDMm_BASE 0) / 4)).zeroExtend 32)
  else if off = R.HKP_GPIO_LL then some (BitVec.ofNat 32 (sumL ((gpioPins s 2).map (fun p => 2 ^ p)))) else none

/-! ### The commands -/

/-- THERM_SAMPLE (R480). -/
def execThermSample (temps : List Int) (st : State) : Host.Outcome State Fault Refusal :=
  st.onDevice fun s => .next (thermSample temps s)

/-- THERMAL_RESET_RELEASE (R481): every sensor in use reads below T_SHUT − 10 °C and the reset after a thermal shutdown is no longer held. -/
def execThermalResetRelease (temps : List Int) (st : State) : Host.Outcome State Fault Refusal :=
  st.onDevice fun s =>
  let s := noteTemps temps s
  let cool := (sensorsInUse s).all (fun k => reg16 s (R.HKP_Ts k) < 16 * (((s.rf R.HKP_THERM_CFG 15 8 : Nat) : Int) - 10))
  .next (if cool then { s with sys := { s.sys with hot := false } } else s)

/-- PDM_SAMPLE (R484). -/
def execPdmSample (slacks : List Int) (st : State) : Host.Outcome State Fault Refusal :=
  st.onDevice fun s => .next (pdmSample slacks s)

/-- VCORE_STEP (R485). -/
def execVcoreStep (st : State) : Host.Outcome State Fault Refusal :=
  st.onDevice fun s => .next (vcoreStep s)

/-- AVS_READBACK (R483). -/
def execAvsReadback (ack : Bool) (milliVolt : Nat) (st : State) : Host.Outcome State Fault Refusal :=
  st.onDevice fun s => .next (avsReadback ack milliVolt s)

/-- PMBUS_POLL (R483): the regulator's four readings, in the registers' units. -/
def execPmbusPoll (vout iout temp status : BitVec 16) (st : State) : Host.Outcome State Fault Refusal :=
  st.onDevice fun s =>
  .next (s.when (s.rb R.HKP_PMB_CFG 0) fun s =>
    let s := (s.setN R.HKP_PMB_VOUT vout.toNat).setN R.HKP_PMB_IOUT iout.toNat
    (s.setN R.HKP_PMB_TEMP temp.toNat).setN R.HKP_PMB_STATUS status.toNat)

/-- MARGIN_REPLAN (R485). -/
def execMarginReplan (delays : List Int) (st : State) : Host.Outcome State Fault Refusal :=
  st.onDevice fun s => .next (marginReplan delays s)

/-- SAFE_N_CHANGE (R488): the filtered level of SAFE_N. -/
def execSafeNChange (level : Bool) (st : State) : Host.Outcome State Fault Refusal :=
  st.onDevice fun s =>
  .next (fogRefresh { s with hkp := { s.hkp with safeLow := !level } })

/-- FOG_MIN_EXPIRY (R488): MIN_MS after an assertion ends. -/
def execFogMinExpiry (st : State) : Host.Outcome State Fault Refusal :=
  st.onDevice fun s => .next (fogRefresh (s.elapseTo (fogMinEnd s)))

/-- GPIO_EDGE (R492). -/
def execGpioEdge (pin : Nat) (level : Bool) (time : Nat) (st : State) : Host.Outcome State Fault Refusal :=
  st.onDevice fun s =>
  onUnit (pin < 32) (gpioEdge pin level time s)

/-- HKP_GPIO_SET written (R493). -/
def execGpioSet (w : Who) (v : Word) (st : State) : Host.Outcome State Fault Refusal :=
  st.onDevice fun s =>
  .next (regWrite s w R.HKP_GPIO_SET v (hkpHandler w R.HKP_GPIO_SET v))

/-- HKP_GPIO_CLR written (R493). -/
def execGpioClr (w : Who) (v : Word) (st : State) : Host.Outcome State Fault Refusal :=
  st.onDevice fun s =>
  .next (regWrite s w R.HKP_GPIO_CLR v (hkpHandler w R.HKP_GPIO_CLR v))

end Sys2Proof.Machine
end

