-- ==== Sys2Proof/Machine/LightList.lean ====
section
/-! DEFINITION. The light list (R41 to R50): its entries, their occurrences, the validation of a bank. -/

namespace Sys2Proof.Machine

/-- An entry of the light list (R42). -/
structure LlEntry where
  frame  : Nat
  line   : Nat
  valid  : Bool
  action : Nat
  period : Nat
  again  : Nat
  tag    : Nat
  arg    : List Byte
  spare  : Bool
deriving DecidableEq, Repr

/-- An entry from its 32 bytes (R42); `spare` tells whether a reserved bit is set. -/
def parseLl (b : List Byte) : LlEntry :=
  let t := leAt b 0 8
  let a := leAt b 8 4
  let r := leAt b 12 4
  { frame := fld t 47 0, line := fld t 60 48, valid := bit t 63, action := fld a 7 0, period := fld a 31 16, again := fld r 15 0,
    tag := fld r 31 16, arg := (b.drop 16).take 16, spare := fld t 62 61 ≠ 0 || fld a 15 8 ≠ 0 }

/-- The active bank (R60). -/
def llActive (s : Device) : Nat := s.rf R.SHOW_LL_CTRL 4 4

/-- The entry count of a bank (R55). -/
def llCount (s : Device) (bank : Nat) : Nat := s.rf (if bank = 0 then R.SHOW_LL_COUNT0 else R.SHOW_LL_COUNT1) 14 0

/-- The address of an entry (R41). -/
def llAt (s : Device) (bank i : Nat) : Nat := base4k s.reg R.SHOW_LL_BASE + bank * 0x80000 + 32 * i

/-- An entry of a bank. -/
def llEntry (s : Device) (bank i : Nat) : LlEntry := parseLl (peek s (llAt s bank i) 32)

/-- The entries of a bank that are in use, with their indices. -/
def llEntries (s : Device) (bank : Nat) : List (Nat × LlEntry) :=
  ((upto (llCount s bank)).map (fun i => (i, llEntry s bank i))).filter (fun p => p.2.valid)

/-- Byte i of an entry's argument as a number. -/
def LlEntry.byte (e : LlEntry) (i : Nat) : Nat := leAt e.arg i 1

/-- Whether an entry occurs in a frame (R48): the counts are compared by signed difference (R18). -/
def LlEntry.inFrame (e : LlEntry) (f : Nat) : Bool :=
  let d := frameDiff f e.frame
  if e.period = 0 then d = 0
  else 0 ≤ d && d.toNat % e.period = 0 && (e.again = 0 || d.toNat / e.period ≤ e.again)

/-- Whether an entry occurs at F:L (R48). -/
def LlEntry.occurs (e : LlEntry) (f l : Nat) : Bool := e.line = l && e.inFrame f

/-- Whether an action is a scheduled commit (R43, R46). -/
def LlEntry.commits (e : LlEntry) : Bool := e.action = 1 || e.action = 2 || e.action = 3

/-- How many occurrences of an entry lie in the frames after a frame, in a run of `n` frames (R48, R50). -/
def LlEntry.countIn (e : LlEntry) (after n : Nat) : Nat :=
  let first := frameDiff (frameAdd after 1) e.frame
  let last : Int := first + ((n : Nat) : Int) - 1
  if n = 0 || last < 0 then 0
  else if e.period = 0 then (if first ≤ 0 then 1 else 0)
  else
    let upTo (x : Int) : Nat := if x < 0 then 0 else
      let k := x.toNat / e.period
      (if e.again = 0 then k else min k e.again) + 1
    upTo last - upTo (first - 1)

/-- The frames to the first occurrence of an entry at or after F:L, if there is one. -/
def LlEntry.ahead (e : LlEntry) (f l : Nat) : Option Nat :=
  let d := frameDiff f e.frame
  let late := e.line < l
  if d < 0 then some (-d).toNat
  else if e.period = 0 then (if d = 0 && !late then some 0 else none)
  else
    let x := d.toNat
    let k := if x % e.period = 0 && !late then x / e.period else x / e.period + 1
    if e.again = 0 || k ≤ e.again then some (k * e.period - x) else none

/-- The next due entry of the active bank after the present line: frames ahead, line, index (R45, R55). -/
def llNext (s : Device) : Option (Nat × Nat × Nat) :=
  (llEntries s (llActive s)).foldl (fun (a : Option (Nat × Nat × Nat)) p =>
    match p.2.ahead s.shw.frame (s.shw.line + 1) with
    | none => a
    | some n =>
      match a with
      | none => some (n, p.2.line, p.1)
      | some (m, l, _) => if n < m || (n = m && p.2.line < l) then some (n, p.2.line, p.1) else a) none

/-- The bytes of the argument that an action uses (R43). -/
def llUsed (action : Nat) : List Nat :=
  match action with
  | 1 => [0]
  | 2 => [0, 1]
  | 3 => [0, 2, 3]
  | 4 => [0, 1, 2, 3, 4, 5, 6, 7]
  | 5 => [0]
  | 6 => [0, 1, 8, 9, 10, 11, 12, 13, 14, 15]
  | 7 => [0]
  | _ => []

/-- The code of one entry under the numbers of lines that it must fit (R45, in the order of R520). -/
def llEntryCode (s : Device) (bank i vNow vLeft : Nat) : Code :=
  let e := llEntry s bank i
  if badRange s (llAt s bank i) 32 then .check
  else if !e.valid then .ok
  else if 7 < e.action || e.spare || (upto 16).any (fun k => !(llUsed e.action).contains k && e.byte k ≠ 0) then .reserved
  else if vNow ≤ e.line || vLeft ≤ e.line || ((e.action = 2 || e.action = 3) && 14 < e.byte 0) || (e.action = 2 && 1 < e.byte 1) ||
    (e.action = 5 && 1 < e.byte 0) || (e.action = 7 && 3 < e.byte 0) then .range
  else .ok

/-- The first failure of a bank, with its index (R45). -/
def llBankCode (s : Device) (bank vNow vLeft : Nat) : Option (Code × Nat) :=
  (upto (llCount s bank)).findSome? (fun i =>
    let c := llEntryCode s bank i vNow vLeft
    if c = .ok then none else some (c, i))

/-- Whether every pending entry fits a number of lines (R37): those of the active bank with occurrences to come, and those of a bank being
validated or waiting for its swap. -/
def llFits (s : Device) (vTotal : Nat) : Bool :=
  (llEntries s (llActive s)).all (fun p => p.2.line < vTotal || (p.2.ahead s.shw.frame (s.shw.line + 1)).isNone) &&
  (s.shw.llSwap = .idle || (llEntries s (1 - llActive s)).all (fun p => p.2.line < vTotal))

end Sys2Proof.Machine
end

