-- ==== Sys2Proof/Machine/Metering.lean ====
section
/-! DEFINITION. Energy metering (R284 to R314): samples, published quantities, energy, calibration, pulse outputs, saves and the energy
gap; and the end of a correction window (R272). -/

namespace Sys2Proof.Machine

/-! ### Channels -/

/-- A metering channel's state. -/
def Device.meter (s : Device) (n : Nat) : MeterChan := s.mtr.chans.getD {} n

/-- Replaces a metering channel's state. -/
def Device.setMeter (s : Device) (n : Nat) (x : MeterChan) : Device :=
  { s with mtr := { s.mtr with chans := s.mtr.chans.setD {} n x } }

/-- Whether a channel is enabled and metering runs. -/
def meterOn (s : Device) (n : Nat) : Bool := s.rb R.MTR_CTRL 0 && s.rb (R.MTR_Cn_CFG n) 0

/-- The voltage channel of a channel: VSEL of a current channel, itself otherwise (R285). -/
def meterVolt (s : Device) (n : Nat) : Nat := if n < 16 then n else s.rf (R.MTR_Cn_CFG n) 11 8

/-- Whether a calibration interrupts a channel: its own, or of its voltage channel (R301). -/
def meterBusy (s : Device) (n : Nat) : Bool := (s.meter n).cal.isSome || (s.meter (meterVolt s n)).cal.isSome

/-- LINE_HZ. -/
def lineHz (s : Device) : Nat := if s.rb R.MTR_CTRL 1 then 60 else 50

/-- A sample num / den of a sample ago (R290, R291). -/
def delayed (past : List Int) (num den : Nat) : Int :=
  if num % den = 0 then past.getD (num / den) 0
  else Config.interpolate (past.drop (num / den)) (num % den) den

/-- Whether a sample stands at either end of the 24-bit range (R289). -/
def sampleClips (x : Int) : Bool := x ≤ -(2 ^ 23) || 2 ^ 23 - 1 ≤ x

/-- One sample of a channel is taken: integrated for a coil, CLIP noted, put before the earlier ones (R288, R289). -/
def takeSample (n : Nat) (x : Int) (s : Device) : Device :=
  let c := s.meter n
  let coil := 16 ≤ n && s.rf (R.MTR_Cn_CFG n) 2 1 = 2
  let y := x + c.coil - c.coil / 2 ^ 14
  let v := if coil then clampI (-(2 ^ 23)) (2 ^ 23 - 1) (Config.coilNorm (lineHz s) y) else x
  let clip := sampleClips x || (coil && sampleClips v)
  let was := s.rb (R.MTR_Cn_STATUS n) 3
  let s := s.setMeter n { c with coil := if coil then y else c.coil, past := (v :: c.past).take 64 }
  if clip && !was then (s.setB (R.MTR_Cn_STATUS n) 3 true).raise Ev.CH_CLIP n else s

/-- The sums of a channel gain its present sample (R291, R292). -/
def sumSample (n : Nat) (s : Device) : Device :=
  let c := s.meter n
  let v := (s.meter (meterVolt s n)).past
  let ph := sext 12 (s.rn (R.MTR_Kn_PHASE n))
  let num := 22 * ph.natAbs
  let den := 225 * lineHz s
  let mHz := if s.rn (R.MTR_Cn_P (meterVolt s n)) = 0 then 1000 * lineHz s else s.rn (R.MTR_Cn_P (meterVolt s n))
  let dv := if 0 < ph then num else 0
  let i := if n < 16 then c.past.getD 0 0 else if ph < 0 then delayed c.past num den else c.past.getD 0 0
  let u := delayed v dv den
  let u90 := delayed v (dv * mHz + 2000000 * den) (den * mHz)
  let sq := (i * i).toNat
  if n < 16 then s.setMeter n { c with n := c.n + 1, sq := c.sq + sq }
  else s.setMeter n { c with n := c.n + 1, sq := c.sq + sq, vsq := c.vsq + (u * u).toNat, vi := c.vi + u * i, qi := c.qi + u90 * i,
                             cycN := c.cycN + 1, cycSq := c.cycSq + sq, cycVi := c.cycVi + u * i }

/-- METER_SAMPLE (R287): all channels sample; `crossings` names the voltage channels that cross zero upwards. -/
def meterSample (samples : List Int) (crossings : List Nat) (s : Device) : Device :=
  if !s.rb R.MTR_CTRL 0 then s
  else
    let s := s.each (crossings.filter (· < 16)) fun s v => s.setMeter v { s.meter v with lastZero := s.clock, zcOut := false }
    let live := (upto 64).filter (fun n => meterOn s n && !meterBusy s n)
    let s := s.each live (fun s n => takeSample n (samples.getD n 0) s)
    s.each live (fun s n => sumSample n s)

/-! ### Published quantities -/

/-- A root-mean-square value times `k`, from the sum of squares of N samples (R291, R296), to the nearest. -/
def rmsOf (s : Device) (n sq count k : Nat) : Nat :=
  let fs := s.rn (R.MTR_Kn_FS n)
  let g := s.rn (R.MTR_Kn_GAIN_RMS n)
  let ofs := s.rf (R.MTR_Kn_OFS_RMS n) 15 0
  let raw : Rat := ((sq * fs * fs : Nat) : Rat) / ((2 ^ 46 * count : Nat) : Rat)
  let r2 : Rat := raw - ((ofs * ofs : Nat) : Rat)
  let v : Rat := if r2 < 0 then 0 else r2 * ((g * g * k * k : Nat) : Rat) / 2 ^ 44
  (isqrt (4 * v).floor.toNat + 1) / 2

/-- A power in mW or mvar from a sum of products over N samples, with its gain and offset (R291). -/
def powerOf (s : Device) (n : Nat) (sum : Int) (count gain : Nat) (ofs : Int) : Int :=
  let fs := s.rn (R.MTR_Kn_FS n) * s.rn (R.MTR_Kn_FS (meterVolt s n))
  nearest (((sum * ((gain * fs : Nat) : Int) : Int) : Rat) / ((2 ^ 68 * 1000 * count : Nat) : Rat) - ((10 * ofs : Int) : Rat))

/-- The frequency measured for a channel (R291): out of 45 to 66 Hz the intervals are fixed, and LINE_FREQ_RANGE is raised once. -/
def noteFreq (n milliHz : Nat) (s : Device) : Device :=
  let v := meterVolt s n
  let c := s.meter v
  let out := milliHz < 45000 || 66000 < milliHz
  let s := s.setB (R.MTR_Cn_STATUS n) 5 (out || c.zcOut)
  let s := s.setMeter v { s.meter v with freqOut := out }
  s.raiseIf (out && !c.freqOut && !c.zcOut) Ev.LINE_FREQ_RANGE v

/-- MEAS_INTERVAL_END (R291): everything the channel publishes, at once. -/
def measEnd (n milliHz : Nat) (s : Device) : Device :=
  let c := s.meter n
  if !meterOn s n || c.n = 0 then s
  else
    let s := noteFreq n milliHz s
    let s := s.setMeter n { s.meter n with n := 0, sq := 0, vsq := 0, vi := 0, qi := 0 }
    if n < 16 then (s.setN (R.MTR_Cn_RMS n) (rmsOf s n c.sq c.n 1)).setN (R.MTR_Cn_P n) milliHz
    else
      let irms := rmsOf s n c.sq c.n 1000
      let vrms := rmsOf s (meterVolt s n) c.vsq c.n 1
      let pq := s.rn (R.MTR_Kn_OFS_PQ n)
      let p := powerOf s n c.vi c.n (s.rn (R.MTR_Kn_GAIN_P n)) (sext 16 pq)
      let q := powerOf s n c.qi c.n (s.rn (R.MTR_Kn_GAIN_Q n)) (sext 16 (pq / 65536))
      (((s.setN (R.MTR_Cn_RMS n) irms).setN (R.MTR_Cn_P n) (trunc 32 p)).setN (R.MTR_Cn_Q n) (trunc 32 q)).setN (R.MTR_Cn_S n)
        (rdiv (vrms * irms) 1000000)

/-- NO_ZERO_CROSS (R291): 100 ms without a crossing. -/
def noZeroCross (n : Nat) (s : Device) : Device :=
  let v := meterVolt s n
  if !meterOn s v then s
  else
    let c := s.meter v
    let s := s.elapseTo (c.lastZero + 100000000)
    let users := (upto 64).filter (fun k => meterOn s k && meterVolt s k = v)
    let s := s.each users (fun s k => s.setB (R.MTR_Cn_STATUS k) 5 true)
    (s.setMeter v { s.meter v with zcOut := true }).raiseIf (!c.zcOut && !c.freqOut) Ev.NO_ZERO_CROSS v

/-! ### Pulse outputs -/

/-- A pulse output's state. -/
def Device.pulse (s : Device) (p : Nat) : PulseState := s.mtr.pulses.getD {} p

/-- Replaces a pulse output's state. -/
def Device.setPulse (s : Device) (p : Nat) (x : PulseState) : Device :=
  { s with mtr := { s.mtr with pulses := s.mtr.pulses.setD {} p x } }

/-- Whether current channel i counts for a zone (R272, R302). -/
def inZoneMask (s : Device) (z i : Nat) : Bool :=
  if i < 32 then s.rb (R.HDR_Zz_METER_LO z) i else s.rb (R.HDR_Zz_METER_HI z) (i - 32)

/-- Whether a pulse output counts the energy of a current channel in a direction (R302). -/
def pulseCounts (s : Device) (p i : Nat) (exporting : Bool) : Bool :=
  let cfg := R.MTR_Pp_CFG p
  s.rb cfg 0 && s.rb cfg 2 = exporting && (if s.rb cfg 1 then inZoneMask s (s.rf cfg 13 8) i else s.rf cfg 13 8 = i)

/-- A pulse falls due (R302, R303): at once when the output is free, else into the backlog, which saturates. -/
def pulseDue (p : Nat) (s : Device) : Device :=
  let x := s.pulse p
  let back := s.rn (R.MTR_Pp_BACKLOG p)
  if !x.due && back = 0 && x.free ≤ s.clock then s.setPulse p { x with due := true }
  else if back < 65535 then (s.setN (R.MTR_Pp_BACKLOG p) (back + 1)).raiseIf (back = 0) Ev.PULSE_BACKLOG p
  else (s.count (R.MTR_Pp_LOST p) 1).raise Ev.PULSE_OVERFLOW p

/-- A pulse output's source gains energy in mJ (R302). -/
def pulseEnergy (p mj : Nat) (s : Device) : Device :=
  let epp := max (s.rn (R.MTR_Pp_EPP p)) 1
  let total := s.rn (R.MTR_Pp_RESID p) + mj
  let s := s.setN (R.MTR_Pp_RESID p) (total % epp)
  s.each (upto (total / epp)) (fun s _ => pulseDue p s)

/-- Whether the standby role holds a pulse pin in high impedance (R309). -/
def pulseGated (s : Device) (p : Nat) : Bool := s.rb (R.MTR_Pp_CFG p) 3 && inStandby s

/-- The level of a pulse pin: 0 active, 1 inactive, 2 high impedance (R302, R309). -/
def pulseLevel (s : Device) (p : Nat) : Nat := if pulseGated s p then 2 else if (s.pulse p).active then 0 else 1

/-- A pulse pin goes into high impedance, or out of it, when its gating has changed (R309). -/
def showPulse (p : Nat) (was : Bool) (s : Device) : Device :=
  if pulseGated s p = was then s else s.send (.pin (100 + p)) [pulseLevel s p]

/-- The role has changed (R309): gated pins follow. -/
def pulsesForRole (was : Bool) (s : Device) : Device :=
  s.each (upto 8) (fun s p => showPulse p (s.rb (R.MTR_Pp_CFG p) 3 && was) s)

/-- PULSE_EMIT (R302, R303): a due pulse, or one of the backlog at the maximum rate. -/
def pulseEmit (p : Nat) (s : Device) : Device :=
  let x := s.pulse p
  let back := s.rn (R.MTR_Pp_BACKLOG p)
  if !s.rb (R.MTR_Pp_CFG p) 0 || pulseGated s p || (!x.due && back = 0) then s
  else
    let s := s.elapseTo x.free
    let w := 1000000 * s.rf (R.MTR_Pp_WIDTH p) 7 0
    let s := if x.due then s else s.setN (R.MTR_Pp_BACKLOG p) (back - 1)
    let s := s.setPulse p { due := false, ends := s.clock + w, free := s.clock + 2 * w, active := true }
    (s.setN (R.MTR_Pp_COUNT p) (s.rn (R.MTR_Pp_COUNT p) + 1)).send (.pin (100 + p)) [0]

/-- PULSE_WIDTH_END (R302). -/
def pulseEnd (p : Nat) (s : Device) : Device :=
  let x := s.pulse p
  if !x.active then s
  else
    let s := (s.elapseTo x.ends).setPulse p { x with active := false }
    if pulseGated s p then s else s.send (.pin (100 + p)) [1]

/-- The standby takes the active unit's count and residue of a gated output (R309): what it counted itself before is no longer due. -/
def carryPulse (p count resid : Nat) (s : Device) : Device :=
  if !pulseGated s p then s
  else
    let s := ((s.setN (R.MTR_Pp_COUNT p) count).setN (R.MTR_Pp_RESID p) resid).setN (R.MTR_Pp_BACKLOG p) 0
    s.setPulse p { s.pulse p with due := false }

/-! ### Saves -/

/-- Whether SHOW is locked. -/
def showLocked (s : Device) : Bool := s.shw.phase = .locked

/-- The accumulator readings of a channel as the means use them. -/
def meterTotals (c : MeterChan) : Nat × Nat := (c.imp + c.tallyImp, c.exp + c.tallyExp)

/-- The reading at the start of a span that ends now, and the time since it. -/
def meterSince (c : MeterChan) (now span : Nat) : Nat × Nat × Nat :=
  match (c.hist.find? (fun h => h.1 + span ≤ now)).orElse (fun _ => c.hist.getLast?) with
  | some (t, i, e) => (now - t, i, e)
  | none => (0, 0, 0)

/-- The mean import power of a channel over the last 60 s in mW (R304). -/
def importPower (s : Device) (n : Nat) : Nat :=
  let c := s.meter n
  let (dt, i, _) := meterSince c s.clock 60000000000
  if dt = 0 then 0 else ((meterTotals c).1 - i) * 1000000000 / dt

/-- The mean active power of a channel over the 500 ms before now in mW (R301). -/
def activePower (s : Device) (n : Nat) : Int :=
  let c := s.meter n
  let (dt, i, e) := meterSince c s.clock 500000000
  let (ti, te) := meterTotals c
  if dt = 0 then 0 else ((((ti : Nat) : Int) - i) - (((te : Nat) : Int) - e)) * 1000000000 / ((dt : Nat) : Int)

/-- Puts the CRC-32C of a record over everything but its four bytes at `at_`. -/
def sealRecord (l : List Byte) (at_ : Nat) : List Byte :=
  l.take at_ ++ leBytes 4 (crc32c (l.take at_ ++ l.drop (at_ + 4))) ++ l.drop (at_ + 4)

/-- Whether a record's CRC fits. -/
def recordSealed (l : List Byte) (at_ : Nat) : Bool := leAt l at_ 4 = crc32c (l.take at_ ++ l.drop (at_ + 4))

/-- The periodic record of the present moment (R304). -/
def periodicRecord (s : Device) : List Byte :=
  let head := leBytes 2 1 ++ leBytes 2 1024 ++ leBytes 4 (s.rn R.MTR_SAVE_SEQ + 1) ++ leBytes 8 s.shw.time ++
    leBytes 2 (b2n (showLocked s)) ++ leBytes 2 (s.rf R.MTR_GAP_STATUS 31 16) ++ List.replicate 44 0
  let accs := (upto 48).flatMap (fun i => leBytes 8 (s.meter (16 + i)).imp ++ leBytes 8 (s.meter (16 + i)).exp)
  let means := (upto 48).flatMap (fun i => leBytes 4 (importPower s (16 + i)))
  sealRecord (head ++ accs ++ means) 60

/-- The warning record of the present moment (R305). -/
def warningRecord (s : Device) : List Byte :=
  let head := leBytes 2 2 ++ leBytes 2 512 ++ leBytes 4 (s.rn R.MTR_SAVE_SEQ) ++ leBytes 8 s.shw.time ++
    leBytes 2 (b2n (showLocked s)) ++ List.replicate 14 0
  sealRecord (head ++ (upto 48).flatMap (fun i =>
    let c := s.meter (16 + i)
    leBytes 5 (c.imp - s.mtr.savedImp.getD 0 i) ++ leBytes 3 (c.exp - s.mtr.savedExp.getD 0 i) ++
      leBytes 2 (min 65535 (importPower s (16 + i) / 2000)))) 28

/-- A periodic record starts to be written (R304). -/
def saveStart (s : Device) : Device :=
  if s.mtr.saving.isSome then s
  else
    let r := periodicRecord s
    let s := { s with mtr := { s.mtr with saving := some r } }
    ((s.setB R.MTR_SAVE_STATUS 2 true).send .flash [7]).sendBytes .flash r

/-- A periodic record is written, or has failed (R304). -/
def saveEnd (ok : Bool) (s : Device) : Device :=
  match s.mtr.saving with
  | none => s
  | some r =>
    let s := (s.setB R.MTR_SAVE_STATUS 2 false).setB R.MTR_CMD 0 false
    let s := { s with mtr := { s.mtr with saving := none } }
    if ok then
      let put (k : Nat) : Table Nat := (upto 48).foldl (fun (t : Table Nat) i => t.setD 0 i (leAt r (64 + 16 * i + 8 * k) 8)) []
      let s := { s with mtr := { s.mtr with records := (s.mtr.records ++ [r]).drop (s.mtr.records.length - 1),
                                            savedImp := put 0, savedExp := put 1, savedAt := s.clock } }
      s.setN R.MTR_SAVE_SEQ (leAt r 4 4)
    else (s.count R.MTR_SAVE_FAIL 1).raise Ev.SAVE_FAIL 0

/-- Metering's part at a supply warning (R305, R306): the accumulators are captured, a periodic write is abandoned, and the tally runs. -/
def meterCapture (s : Device) : Device :=
  let r := warningRecord s
  let s := { s with mtr := { s.mtr with saving := none, capture := some r, tally := true } }
  (s.setB R.MTR_SAVE_STATUS 2 false).setB R.MTR_CMD 0 false

/-- The warning record is written into an erased slot, or fails (R305, R306): whether it is written. -/
def warnWrite (ok : Bool) (s : Device) : Device × Bool :=
  match s.mtr.capture with
  | none => (s, false)
  | some r =>
    if s.mtr.erased = 0 then ((s.count R.MTR_SAVE_FAIL 1).raise Ev.SAVE_FAIL 0, false)
    else
      let e := s.mtr.erased - 1
      let warns := if ok then (s.mtr.warns ++ [r]).drop (s.mtr.warns.length - 1) else s.mtr.warns
      let s := { s with mtr := { s.mtr with erased := e, warns := warns } }
      let s := (s.setB R.MTR_SAVE_STATUS 0 (0 < e)).sendBytes .flash r
      if ok then (s.raise Ev.WARN_SAVE_DONE 0, true) else ((s.count R.MTR_SAVE_FAIL 1).raise Ev.SAVE_FAIL 0, false)

/-- The supply recovers (R305): the tally is added to the accumulators. -/
def tallyAdd (s : Device) : Device :=
  let s := s.each s.mtr.chans fun s p =>
    let c := s.meter p.1
    s.setMeter p.1 { c with imp := (c.imp + c.tallyImp) % 2 ^ 64, exp := (c.exp + c.tallyExp) % 2 ^ 64, tallyImp := 0, tallyExp := 0 }
  { s with mtr := { s.mtr with tally := false, capture := none } }

/-- WARN_SLOT_ERASE_DONE (R306): two erased slots are kept. -/
def warnErased (s : Device) : Device :=
  let e := min 2 (s.mtr.erased + 1)
  ({ s with mtr := { s.mtr with erased := e } }).setB R.MTR_SAVE_STATUS 0 true

/-! ### Energy -/

/-- The unit of an energy remainder: parts of a millijoule (R292). -/
def energyUnit : Nat := 2 ^ 68 * 8000000

/-- The energy of a channel's present cycle in parts of a millijoule (R292). -/
def cycleEnergy (s : Device) (n : Nat) : Int :=
  let c := s.meter n
  let k := s.rn (R.MTR_Kn_GAIN_P n) * s.rn (R.MTR_Kn_FS n) * s.rn (R.MTR_Kn_FS (meterVolt s n))
  c.cycVi * ((k : Nat) : Int) - 10 * sext 16 (s.rn (R.MTR_Kn_OFS_PQ n)) * ((c.cycN * (energyUnit / 8000) : Nat) : Int)

/-- Whole millijoules enter an accumulator, or the tally while it runs, and the pulse outputs (R292, R302, R305). -/
def addEnergy (n : Nat) (exporting : Bool) (parts : Nat) (s : Device) : Device :=
  let c := s.meter n
  let total := (if exporting then c.remExp else c.remImp) + parts
  let mj := total / energyUnit
  let rem := total % energyUnit
  let tally := s.mtr.tally
  let c := if exporting then
      { c with remExp := rem, exp := if tally then c.exp else (c.exp + mj) % 2 ^ 64, tallyExp := if tally then c.tallyExp + mj else c.tallyExp }
    else
      { c with remImp := rem, imp := if tally then c.imp else (c.imp + mj) % 2 ^ 64, tallyImp := if tally then c.tallyImp + mj else c.tallyImp }
  (s.setMeter n c).each ((upto 8).filter (fun p => pulseCounts s p (n - 16) exporting)) (fun s p => pulseEnergy p mj s)

/-- The means of a channel gain a reading; those older than 60 s but one are dropped. -/
def noteReading (n : Nat) (s : Device) : Device :=
  let c := s.meter n
  let (i, e) := meterTotals c
  let recent := c.hist.takeWhile (fun h => s.clock < h.1 + 60000000000)
  s.setMeter n { c with hist := (s.clock, i, e) :: (recent ++ (c.hist.drop recent.length).take 1) }

/-- ENERGY_CYCLE_END (R292, R304): the cycle's energy enters its accumulator; a large export forces a save. -/
def cycleEnd (n : Nat) (s : Device) : Device :=
  let c := s.meter n
  if !meterOn s n || meterBusy s n || c.cycN = 0 then s
  else
    let st := R.MTR_Cn_STATUS n
    let creep := rmsOf s n c.cycSq c.cycN 1000 < 100 * s.rf (R.MTR_Cn_CFG n) 31 16
    let e := if creep then 0 else cycleEnergy s n
    let s := (s.setB st 4 creep).setB st 6 (e < 0)
    let s := addEnergy n (e < 0) e.natAbs s
    let s := s.setMeter n { s.meter n with cycN := 0, cycSq := 0, cycVi := 0 }
    let s := noteReading n s
    if 12582912 ≤ (s.meter n).exp - s.mtr.savedExp.getD 0 (n - 16) && s.mtr.saving.isNone && !s.mtr.tally then
      saveStart (s.raise Ev.SAVE_FORCED n)
    else s

/-! ### Calibration -/

/-- The channels that a calibration of n interrupts, with n (R301). -/
def calUsers (s : Device) (n : Nat) : List Nat :=
  if n < 16 then ((upto 64).filter (fun k => 16 ≤ k && meterOn s k && meterVolt s k = n)) else [n]

/-- Correction windows of the zones that meter some of the channels are spoilt (R272, R301). -/
def spoilZones (chs : List Nat) (s : Device) : Device :=
  s.each ((upto 64).filter (fun z => chs.any (fun n => inZoneMask s z (n - 16)))) fun s z => s.setZone z { s.zone z with spoilt := true }

/-- The stored calibration registers of a channel. -/
def calOffsets (n : Nat) : List Nat := (upto 9).map (fun i => R.MTR_Kn_FS n + 4 * i)

/-- MTR_Cn_CAL_CMD (R299). -/
def calHandler (n : Nat) (v : Word) : Handler :=
  { state := fun s =>
      if !wbit v 0 then .ok
      else if !s.rb (R.MTR_Cn_CFG n) 0 then .state
      else if meterBusy s n then .busy else .ok
    check := fun _ => .ok
    effect := fun s =>
      if !wbit v 0 then s
      else
        let users := calUsers s n
        let job : CalJob := { since := s.clock, phase := 0,
                              power := users.foldl (fun (t : Table Int) k => t.put k (activePower s k)) [] }
        let s := s.setMeter n { s.meter n with cal := some job }
        let s := spoilZones users s
        ((s.setB (R.MTR_Cn_CAL_INFO n) 16 true).setB (R.MTR_Cn_STATUS n) 1 true).setB (R.MTR_Cn_CAL_CMD n) 0 true }

/-- CAL_GAIN_PHASE (R299). -/
def calPhase (n : Nat) (s : Device) : Device :=
  match (s.meter n).cal with
  | some j => (s.elapseTo (j.since + 250000000)).setMeter n
      { (s.elapseTo (j.since + 250000000)).meter n with cal := some { j with phase := 1 } }
  | none => s

/-- The estimate of an interrupted channel (R301): its mean power times 500 ms, added to the accumulators and to MTR_Cn_EST. -/
def addEstimate (n : Nat) (power : Int) (s : Device) : Device :=
  let parts := power.natAbs * (energyUnit / 2)
  let s := addEnergy n (power < 0) parts s
  let c := s.meter n
  let est := c.est + power.natAbs / 2
  let s := (s.setMeter n { c with est := est }).setB (R.MTR_Cn_STATUS n) 2 true
  noteReading n (s.setN (R.MTR_Cn_EST n) (min 0xFFFFFFFF (est / 1000)))

/-- CAL_END (R299, R300): trims and staged constants take effect in one cycle, or all is as before. -/
def calEnd (n : Nat) (inRange : Bool) (s : Device) : Device :=
  match (s.meter n).cal with
  | none => s
  | some j =>
    let s := s.elapseTo (j.since + 500000000)
    let info := R.MTR_Cn_CAL_INFO n
    let own := calOffsets n
    let s := s.setMeter n { s.meter n with cal := none, n := 0, sq := 0, vsq := 0, vi := 0, qi := 0, cycN := 0, cycSq := 0, cycVi := 0 }
    let s := s.each j.power (fun s p => addEstimate p.1 p.2 s)
    let s := spoilZones (j.power.map (·.1)) s
    let mine := s.mtr.staged.filter (fun p => own.contains p.1)
    let s := { s with mtr := { s.mtr with staged := s.mtr.staged.filter (fun p => !own.contains p.1) } }
    let (k, s) := s.takeFree
    let s := if inRange then
        (s.each mine (fun s p => s.setReg p.1 p.2)).setMeter n { s.meter n with trims := some k } else s
    let s := (((s.setF info 15 0 (min 65535 (s.rf info 15 0 + 1))).setB info 16 false).setB info 17 false).setF info 31 24
      (if inRange then 0 else Code.range.num)
    let s := s.set64 (R.MTR_Kn_CAL_TIME_LO n) (R.MTR_Kn_CAL_TIME_HI n) s.shw.time
    let s := (s.setB (R.MTR_Cn_STATUS n) 1 false).setB (R.MTR_Cn_CAL_CMD n) 0 false
    let store := (info :: own).foldl (fun (t : Table Word) o => t.put o (s.reg o)) s.mtr.calStore
    ({ s with mtr := { s.mtr with calStore := store } }).raise (if inRange then Ev.CAL_DONE else Ev.CAL_FAIL) n

/-! ### The energy gap -/

/-- The gap record is completed (R308): estimates from P_MIN1 times the duration when both ends are valid. -/
def gapComplete (endTime : Nat) (valid : Bool) (s : Device) : Device :=
  let st := R.MTR_GAP_STATUS
  if !s.rb st 1 then s
  else
    let start := s.get64 R.MTR_GAP_START_LO R.MTR_GAP_START_HI
    let ok := valid && s.mtr.gapLocked
    let est : Table Nat := if ok then
        s.mtr.gapPower.foldl (fun (t : Table Nat) p => t.setD 0 p.1 (p.2 * (endTime - start) / 1000000000000)) []
      else []
    let s := { s with mtr := { s.mtr with gapEst := est } }
    let s := s.set64 R.MTR_GAP_END_LO R.MTR_GAP_END_HI endTime
    let s := (((s.setB st 0 true).setB st 1 false).setB st 2 ok).setF st 31 16 (min 65535 (s.rf st 31 16 + 1))
    s.raise Ev.ENERGY_GAP 0

/-- SHOW has become LOCKED (R308): the gap ended when metering resumed. -/
def gapLockedNow (s : Device) : Device :=
  if s.rb R.MTR_GAP_STATUS 1 then gapComplete (s.shw.time - (s.clock - s.mtr.resumed)) true s else s

/-- The restore at a boot after VDD_AON was lost (R307): the last good periodic record, the warning record that names it, and the start of
the gap. -/
def meterRestore (s : Device) : Device :=
  let s := { s with mtr := { s.mtr with resumed := s.clock } }
  let s := s.each s.mtr.calStore (fun s p => s.setReg p.1 p.2)
  match s.mtr.records.getLast? with
  | none => s.setB R.MTR_GAP_STATUS 3 true
  | some r =>
    let seq := leAt r 4 4
    let warn := s.mtr.warns.find? (fun w => leAt w 4 4 = seq)
    let s := s.each (upto 48) fun s i =>
      let imp := leAt r (64 + 16 * i) 8
      let exp := leAt r (72 + 16 * i) 8
      let (di, de) := match warn with
        | some w => (leAt w (32 + 10 * i) 5, leAt w (37 + 10 * i) 3)
        | none => (0, 0)
      s.setMeter (16 + i) { s.meter (16 + i) with imp := (imp + di) % 2 ^ 64, exp := (exp + de) % 2 ^ 64 }
    let put (k : Nat) : Table Nat := (upto 48).foldl (fun (t : Table Nat) i => t.setD 0 i (leAt r (64 + 16 * i + 8 * k) 8)) []
    let power : Table Nat := (upto 48).foldl (fun (t : Table Nat) i => t.setD 0 i (match warn with
      | some w => 2000 * leAt w (40 + 10 * i) 2
      | none => leAt r (832 + 4 * i) 4)) []
    let src := warn.getD r
    let s := { s with mtr := { s.mtr with savedImp := put 0, savedExp := put 1, gapPower := power, gapEst := [],
                                          gapLocked := (leAt src 16 2).testBit 0, warns := [] } }
    let s := (s.setN R.MTR_SAVE_SEQ seq).setB R.MTR_SAVE_STATUS 1 warn.isSome
    let s := s.set64 R.MTR_GAP_START_LO R.MTR_GAP_START_HI (leAt src 8 8)
    ((s.setB R.MTR_GAP_STATUS 1 true).setB R.MTR_GAP_STATUS 3 false).setF R.MTR_GAP_STATUS 31 16 (leAt r 18 2)

/-! ### The correction window (R272) -/

/-- The net energy of a zone's meter channels so far, in mJ. -/
def zoneEnergy (s : Device) (z : Nat) : Int :=
  ((upto 48).filter (inZoneMask s z)).foldl (fun (a : Int) i =>
    let t := meterTotals (s.meter (16 + i))
    a + ((t.1 : Nat) : Int) - t.2) 0

/-- K after a window whose ratio of measured to predicted energy is k (R272): a quarter of the way, rounded toward the new value. -/
def refineK (k : Nat) (ratio : Rat) : Nat :=
  let d : Rat := (ratio * 65536 - ((k : Nat) : Rat)) / 4
  (((k : Nat) : Int) + (if d < 0 then d.floor else d.ceil)).toNat

/-- A zone at the end of a correction window (R272). -/
def zoneWindow (z : Nat) (s : Device) : Device :=
  let x := s.zone z
  let now := zoneEnergy s z
  let metered := (upto 48).any (inZoneMask s z)
  let measured := now - x.meas
  let dt := s.clock - s.hdr.opened
  let predicted := x.model - x.last
  if !metered then s.setN (R.HDR_Zz_K z) 65536
  else if x.spoilt then s
  else
    let s := if dt = 0 then s else s.setN (R.HDR_Zz_MEAS z) (measured.toNat * 1000000000 / dt)
    let ratio : Rat := if predicted = 0 then 0 else ((measured : Int) : Rat) * 1000000000 / ((predicted : Int) : Rat)
    if 4 / 5 ≤ ratio && ratio ≤ 5 / 4 then s.setN (R.HDR_Zz_K z) (refineK (s.rf (R.HDR_Zz_K z) 17 0) ratio)
    else (s.setB (R.HDR_Zz_STATUS z) 3 true).raise Ev.METER_MODEL (payF z (contentNow s))

/-- Whether what spoils a correction window lasts at the present instant (R272): a brace state, a raster restart, a calibration that interrupts a
channel of the zone. -/
def spoiltNow (s : Device) (z : Nat) : Bool :=
  s.rb R.SYS_STATUS 2 || s.shw.restarting.isSome ||
  (upto 64).any (fun n => (s.meter n).cal.isSome && (calUsers s n).any (fun k => 16 ≤ k && inZoneMask s z (k - 16)))

/-- A zone at the start of a correction window. -/
def startZone (z : Nat) (s : Device) : Device :=
  s.setZone z { s.zone z with model := (s.zone z).last, spoilt := spoiltNow s z, meas := zoneEnergy s z }

/-- The count of a correction window starts at the present instant. -/
def startCount (s : Device) : Device := { s with hdr := { s.hdr with window := 1, opened := s.clock } }

/-- A correction window starts at the latch of the frame shown (R272). -/
def startWindow (s : Device) : Device := startCount (s.each (upto 64) (fun s z => startZone z s))

/-- The first latch starts the first window (R272). -/
def openWindow (s : Device) : Device := if s.hdr.window = 1 then startWindow s else s

/-- CORR_WINDOW_END (R272), at the latch instant that ends HDR_CORR_WIN frames: the factor of each zone is refined, and the next window starts. The
standby takes the active unit's factors (R405). -/
def windowEnd (s : Device) : Device :=
  if s.hdr.window ≤ s.rf R.HDR_CORR_WIN 9 0 then s
  else startWindow (if s.rb R.HDR_CTRL 3 && !inStandby s then s.each (upto 64) (fun s z => zoneWindow z s) else s)

/-- A correction window is spoilt for every zone: a brace state or a raster restart (R272). -/
def spoilAll (s : Device) : Device := s.each (upto 64) (fun s z => s.setZone z { s.zone z with spoilt := true })

/-! ### Registers -/

/-- MTR_Cn_CFG (R285, R286). -/
def meterCfgHandler (n : Nat) (w : Who) (v : Word) : Handler :=
  let off := R.MTR_Cn_CFG n
  { plainHandler w off v with
    state := fun s => if s.rb off 0 && (wfld v 6 1 ≠ s.rf off 6 1 || wfld v 11 8 ≠ s.rf off 11 8) then .state else .ok
    check := fun s =>
      if n < 16 && wfld v 31 16 ≠ 0 then .reserved
      else if 16 ≤ n && wbit v 0 && !s.rb (R.MTR_Cn_CFG (wfld v 11 8)) 0 then .conflict
      else if n < 16 && !wbit v 0 && (upto 64).any (fun k => 16 ≤ k && s.rb (R.MTR_Cn_CFG k) 0 && meterVolt s k = n) then .conflict
      else .ok
    effect := fun s =>
      let s := storeWrite w off v s
      let c := s.meter n
      let s := if wbit v 0 then s else s.setMeter n { c with n := 0, sq := 0, vsq := 0, vi := 0, qi := 0, cycN := 0, cycSq := 0, cycVi := 0,
                                                             past := [], coil := 0 }
      s.setB (R.MTR_Cn_STATUS n) 0 (meterOn s n) }

/-- MTR_Pp_CFG, EPP and WIDTH (R302, R303): fixed while EN = 1, but for EN itself. -/
def pulseHandler (p k : Nat) (w : Who) (off : Nat) (v : Word) : Handler :=
  let cfg := R.MTR_Pp_CFG p
  { plainHandler w off v with
    state := fun s =>
      if !s.rb cfg 0 then .ok
      else if k = 0 then (if wfld v 31 1 = s.rf cfg 31 1 then .ok else .state)
      else if v = s.reg off then .ok else .state
    check := fun _ => if k = 0 && !wbit v 1 && 47 < wfld v 13 8 then .range else .ok
    effect := fun s =>
      let was := s.rb cfg 0
      let gated := pulseGated s p
      let s := showPulse p gated (storeWrite w off v s)
      if k = 0 && wbit v 0 && !was then
        ((s.setN (R.MTR_Pp_RESID p) 0).setN (R.MTR_Pp_BACKLOG p) 0).setPulse p { s.pulse p with due := false } else s }

/-- The end of the gap written by the Keeper (R308): the low word waits, the high word completes the end. -/
def gapEndHandler (w : Who) (off : Nat) (v : Word) : Handler :=
  { plainHandler w off v with
    state := fun s => if s.rb R.MTR_GAP_STATUS 1 then .ok else .state
    effect := fun s =>
      let s := storeWrite w off v s
      if off = R.MTR_GAP_END_HI then gapComplete (s.get64 R.MTR_GAP_END_LO R.MTR_GAP_END_HI) true s else s }

/-- The MTR registers' own rules. -/
def mtrHandler (w : Who) (off : Nat) (v : Word) : Handler :=
  let h := plainHandler w off v
  if off = R.MTR_CTRL then
    { h with effect := fun s =>
        let s := storeWrite w off v s
        s.each (upto 64) (fun s n => s.setB (R.MTR_Cn_STATUS n) 0 (meterOn s n)) }
  else if off = R.MTR_CMD then { h with effect := fun s => if wbit v 0 then saveStart (s.setB off 0 true) else s }
  else if off = R.MTR_GAP_END_LO || off = R.MTR_GAP_END_HI then gapEndHandler w off v
  else if R.MTR_Pp_CFG 0 ≤ off && off < R.MTR_Pp_CFG 8 && off % 0x20 < 0x0C then
    pulseHandler ((off - R.MTR_Pp_CFG 0) / 0x20) (off % 0x20 / 4) w off v
  else if R.MTR_Cn_CFG 0 ≤ off && off < R.MTR_Cn_CFG 64 then
    let n := (off - R.MTR_Cn_CFG 0) / 0x40
    if off % 0x40 = 0 then meterCfgHandler n w v else if off % 0x40 = 0x3C then calHandler n v else h
  else if R.MTR_Kn_FS 0 ≤ off && off < R.MTR_Kn_FS 64 && off % 0x40 ≤ 0x18 && (specAt off).isSome then
    let n := (off - R.MTR_Kn_FS 0) / 0x40
    { h with effect := fun s =>
        ({ s with mtr := { s.mtr with staged := s.mtr.staged.put off v } }).setB (R.MTR_Cn_CAL_INFO n) 17 true }
  else h

/-- What MTR registers read as where they show live state (R297, R298, R308, R311). -/
def mtrView (s : Device) (w : Who) (off : Nat) : Option Word :=
  let n (k : Nat) : Option Word := some (BitVec.ofNat 32 k)
  if off = R.MTR_SAVE_STATUS then
    n (s.rf off 15 0 + 65536 * (if s.mtr.records.isEmpty then 0 else min 65535 ((s.clock - s.mtr.savedAt) / 1000000000)))
  else if off = R.MTR_GAP_EST then n (min 0xFFFFFFFF (s.mtr.gapEst.getD 0 (wfld (s.bankReg w R.MTR_GAP_SEL) 5 0)))
  else if R.MTR_Cn_CFG 16 ≤ off && off < R.MTR_Cn_CFG 64 then
    let c := s.meter ((off - R.MTR_Cn_CFG 0) / 0x40)
    match off % 0x40 with
    | 0x18 => n c.imp
    | 0x1C => n (c.imp / 2 ^ 32)
    | 0x20 => n c.exp
    | 0x24 => n (c.exp / 2 ^ 32)
    | 0x28 => n (c.imp / 1000)
    | 0x2C => n (c.exp / 1000)
    | 0x30 => n (c.imp / (1000 * 2 ^ 32) % 256 + 256 * (c.exp / (1000 * 2 ^ 32) % 256))
    | _ => none
  else none

/-! ### The commands -/

/-- CORR_WINDOW_END (R272). -/
def execCorrWindowEnd (st : State) : Host.Outcome State Fault Refusal :=
  st.onDevice fun s => .next (windowEnd s)

/-- METER_SAMPLE (R287). -/
def execMeterSample (samples : List Int) (crossings : List Nat) (st : State) : Host.Outcome State Fault Refusal :=
  st.onDevice fun s =>
  .next (meterSample samples crossings s)

/-- MEAS_INTERVAL_END (R291). -/
def execMeasIntervalEnd (n milliHz : Nat) (st : State) : Host.Outcome State Fault Refusal :=
  st.onDevice fun s => onUnit (n < 64) (measEnd n milliHz s)

/-- ENERGY_CYCLE_END (R292). -/
def execEnergyCycleEnd (n : Nat) (st : State) : Host.Outcome State Fault Refusal :=
  st.onDevice fun s => onUnit (16 ≤ n && n < 64) (cycleEnd n s)

/-- NO_ZERO_CROSS (R291). -/
def execNoZeroCross (n : Nat) (st : State) : Host.Outcome State Fault Refusal :=
  st.onDevice fun s => onUnit (n < 64) (noZeroCross n s)

/-- MTR_Cn_CAL_CMD.START written (R299). -/
def execCalStart (w : Who) (n : Nat) (v : Word) (st : State) : Host.Outcome State Fault Refusal :=
  st.onDevice fun s =>
  onUnit (n < 64) (regWrite s w (R.MTR_Cn_CAL_CMD n) v (mtrHandler w (R.MTR_Cn_CAL_CMD n) v))

/-- CAL_GAIN_PHASE (R299). -/
def execCalGainPhase (n : Nat) (st : State) : Host.Outcome State Fault Refusal :=
  st.onDevice fun s => onUnit (n < 64) (calPhase n s)

/-- CAL_END (R300). -/
def execCalEnd (n : Nat) (inRange : Bool) (st : State) : Host.Outcome State Fault Refusal :=
  st.onDevice fun s => onUnit (n < 64) (calEnd n inRange s)

/-- PULSE_EMIT (R302). -/
def execPulseEmit (p : Nat) (st : State) : Host.Outcome State Fault Refusal :=
  st.onDevice fun s => onUnit (p < 8) (pulseEmit p s)

/-- PULSE_WIDTH_END (R302). -/
def execPulseWidthEnd (p : Nat) (st : State) : Host.Outcome State Fault Refusal :=
  st.onDevice fun s => onUnit (p < 8) (pulseEnd p s)

/-- PERIODIC_SAVE (R304). -/
def execPeriodicSave (st : State) : Host.Outcome State Fault Refusal :=
  st.onDevice fun s =>
  .next (saveStart (s.elapseTo (s.mtr.savedAt + 1000000000 * s.rf R.MTR_SAVE_PERIOD 11 0)))

/-- MTR_CMD.SAVE_NOW written (R304). -/
def execSaveNow (w : Who) (v : Word) (st : State) : Host.Outcome State Fault Refusal :=
  st.onDevice fun s =>
  .next (regWrite s w R.MTR_CMD v (mtrHandler w R.MTR_CMD v))

/-- PERIODIC_SAVE_DONE (R304). -/
def execPeriodicSaveDone (ok : Bool) (st : State) : Host.Outcome State Fault Refusal :=
  st.onDevice fun s => .next (saveEnd ok s)

/-- WARN_SLOT_ERASE_DONE (R306). -/
def execWarnSlotEraseDone (st : State) : Host.Outcome State Fault Refusal :=
  st.onDevice fun s => .next (warnErased s)

/-- MTR_GAP_END_HI written (R308). -/
def execGapEndWrite (w : Who) (v : Word) (st : State) : Host.Outcome State Fault Refusal :=
  st.onDevice fun s =>
  .next (regWrite s w R.MTR_GAP_END_HI v (mtrHandler w R.MTR_GAP_END_HI v))

end Sys2Proof.Machine
end

