-- ==== Sys2Proof/Machine/Preview.lean ====
section
/-! DEFINITION. Preview scan-out (R315 to R327). What goes to the panel is recorded as numbers: a frame as 1, width, height and the pixel codes of
the active area in order; a mailbox packet as 2, DT, READ and its bytes; the lanes' rest in LP-11 as 3, in ULPS as 4. -/

namespace Sys2Proof.Machine

/-! ### Configuration -/

/-- Whether the port is running. -/
def pvwRuns (s : Device) : Bool := s.rb R.PVW_STATUS 0

/-- The registers that are staged (R321). -/
def pvwStaged : List Nat := [R.PVW_CROP_XY, R.PVW_CROP_WH, R.PVW_OUT_XY, R.PVW_OUT_WH, R.PVW_BORDER]

/-- The line total and frame total of the video timing (R316). -/
def pvwTotals (rd : Nat → Word) : Nat × Nat :=
  let sum (a b : Word) : Nat := wfld a 13 0 + wfld a 29 16 + wfld b 13 0 + wfld b 29 16
  (sum (rd R.PVW_H_TIMING1) (rd R.PVW_H_TIMING2), sum (rd R.PVW_V_TIMING1) (rd R.PVW_V_TIMING2))

/-- The preview rate in Hz (R316); command mode counts at 60 Hz (R321). -/
def pvwRate (rd : Nat → Word) : Rat :=
  let (h, v) := pvwTotals rd
  if wbit (rd R.PVW_CTRL) 1 then 60 else ((1000 * wfld (rd R.PVW_PCLK) 18 0 : Nat) : Rat) / ((h * v : Nat) : Rat)

/-- Whether a scaling ratio lies from 1 to 16 (R318). -/
def ratioOk (a b : Nat) : Bool := b ≤ a && a ≤ 16 * b

/-- The code of a configuration (R321). -/
def pvwCode (s : Device) (rd : Nat → Word) : Code :=
  let xy := rd R.PVW_OUT_XY
  let wh := rd R.PVW_OUT_WH
  let crop := rd R.PVW_CROP_WH
  let ctrl := rd R.PVW_CTRL
  let bpp := if wbit ctrl 4 then 24 else 16
  let link := (wfld ctrl 11 10 + 1) * wfld (rd R.PVW_LANE_RATE) 11 0
  if !(wfld xy 10 0 + wfld wh 10 0 ≤ wfld (rd R.PVW_H_TIMING1) 13 0 && wfld xy 26 16 + wfld wh 26 16 ≤ wfld (rd R.PVW_V_TIMING1) 13 0) then
    .range
  else if !(ratioOk (wfld crop 14 0) (wfld wh 10 0) && ratioOk (wfld crop 29 16) (wfld wh 26 16)) then .range
  else if !doneLineGap rd (modeOf s.reg) then .conflict
  else if !wbit ctrl 1 && 10000 * link < wfld (rd R.PVW_PCLK) 18 0 * bpp * 11 then .capacity
  else if 4000000000 < ((wfld crop 14 0 * wfld crop 29 16 * 8 : Nat) : Rat) * pvwRate rd then .capacity
  else .ok

/-! ### The image -/

/-- The crop, output size and steps that a preview frame uses (R317, R318). -/
structure PvwGeom where
  x       : Nat
  y       : Nat
  cw      : Nat
  ch      : Nat
  ow      : Nat
  oh      : Nat
  clipped : Bool
deriving DecidableEq, Repr

/-- HSTEP or VSTEP (R318). -/
def pvwStep (c o : Nat) : Nat := c * 65536 / max o 1

/-- The clamp of R317 against a canvas of w × h. -/
def pvwClamp (rd : Nat → Word) (w h : Nat) : PvwGeom :=
  let xy := rd R.PVW_CROP_XY
  let wh := rd R.PVW_CROP_WH
  let out := rd R.PVW_OUT_WH
  let x := min (wfld xy 14 0) (w - 1)
  let y := min (wfld xy 29 16) (h - 1)
  let cw := min (wfld wh 14 0) (w - x)
  let ch := min (wfld wh 29 16) (h - y)
  { x := x, y := y, cw := cw, ch := ch, ow := min (wfld out 10 0) cw, oh := min (wfld out 26 16) ch,
    clipped := x ≠ wfld xy 14 0 || y ≠ wfld xy 29 16 || cw ≠ wfld wh 14 0 || ch ≠ wfld wh 29 16 }

/-- The crop pixels that output pixel k takes: those at k · STEP ≤ i · 2^16 < (k + 1) · STEP (R318). -/
def pvwSpan (step n k : Nat) : List Nat :=
  let lo := cdiv (k * step) 65536
  let hi := cdiv ((k + 1) * step) 65536
  ((upto (hi - lo)).map (lo + ·)).filter (· < n)

/-- The first byte of a pixel of the front canvas (R120). -/
def frontAt (s : Device) (x y : Nat) : Nat :=
  4096 * s.rf R.CMP_CANVAS_BASE 21 0 + s.cmp.front * s.rf R.CMP_CANVAS_MAX 23 0 * 8 + (y * s.cmp.frontW + x) * 8

/-- The components of a pixel of the front canvas, replaced under R155. -/
def frontPixel (s : Device) (x y : Nat) : List Nat :=
  match ((upto (x + 1)).reverse).find? (fun k => !badRange s (frontAt s k y) 8) with
  | some k =>
    let b := peek s (frontAt s k y) 8
    [leAt b 0 2, leAt b 2 2, leAt b 4 2]
  | none => backPx s.reg

/-- The 4 × 4 ordered matrix of R319. -/
def bayer (x y : Nat) : Nat := [0, 8, 2, 10, 12, 4, 14, 6, 3, 11, 1, 9, 15, 7, 13, 5].getD (4 * (y % 4) + x % 4) 0

/-- A component encoded to n bits (R319). -/
def pvwEncode (ctrl : Word) (n v x y : Nat) : Nat :=
  let e := if wbit ctrl 6 then pvwGamma (v / 16) else v / 16
  let r := if wbit ctrl 5 then bayer x y * 2 ^ (12 - n) / 16 else 2 ^ (11 - n)
  min (2 ^ n - 1) ((e + r) / 2 ^ (12 - n))

/-- A pixel code from its three component codes. -/
def pvwPack (ctrl : Word) (c : List Nat) : Nat :=
  if wbit ctrl 4 then c.getD 0 0 * 65536 + c.getD 1 0 * 256 + c.getD 2 0 else c.getD 0 0 * 2048 + c.getD 1 0 * 32 + c.getD 2 0

/-- The border code of PVW_BORDER, an RGB888 value, reduced to the format by its high bits. -/
def pvwBorder (ctrl : Word) (v : Nat) : Nat :=
  if wbit ctrl 4 then v % 2 ^ 24 else fld v 23 19 * 2048 + fld v 15 10 * 32 + fld v 7 3

/-- One pixel of the active area (R317 to R319). -/
def pvwPixel (s : Device) (rd : Nat → Word) (g : PvwGeom) (x y : Nat) : Nat :=
  let ctrl := s.reg R.PVW_CTRL
  let ox := wfld (rd R.PVW_OUT_XY) 10 0
  let oy := wfld (rd R.PVW_OUT_XY) 26 16
  if ox ≤ x && x < ox + g.ow && oy ≤ y && y < oy + g.oh then
    let is := pvwSpan (pvwStep g.cw g.ow) g.cw (x - ox)
    let js := pvwSpan (pvwStep g.ch g.oh) g.ch (y - oy)
    let px := js.flatMap (fun j => is.map (fun i => frontPixel s (g.x + i) (g.y + j)))
    let bits := if wbit ctrl 4 then [8, 8, 8] else [5, 6, 5]
    pvwPack ctrl ((upto 3).map (fun k => pvwEncode ctrl (bits.getD k 8) (rdiv (sumL (px.map (fun p => p.getD k 0))) px.length) x y))
  else pvwBorder ctrl (wfld (rd R.PVW_BORDER) 23 0)

/-- The active area in row order. -/
def pvwImage (s : Device) (rd : Nat → Word) (g : PvwGeom) : List Nat :=
  let w := s.rf R.PVW_H_TIMING1 13 0
  let h := s.rf R.PVW_V_TIMING1 13 0
  (upto h).flatMap (fun y => (upto w).map (fun x => pvwPixel s rd g x y))

/-- The crop is read; replaced pixels are counted and reported (R155, R320). -/
def pvwFetch (g : PvwGeom) (content : Nat) (s : Device) : Device :=
  s.each (upto g.ch) fun s j =>
    let s := (memRead .pvw (frontAt s g.x (g.y + j)) (8 * g.cw) s).1
    noteParityRow content 0 (g.y + j) g.x ((upto g.cw).map (fun i => badRange s (frontAt s (g.x + i) (g.y + j)) 8)) 0 s

/-- The settings in use by a preview frame. -/
def pvwRd (s : Device) (off : Nat) : Word := (s.pvw.used.find off).getD (s.reg off)

/-- The staged registers that wait take effect (R321). -/
def pvwTakeStaged (s : Device) : Device :=
  match s.pvw.pending with
  | none => s
  | some t =>
    let s := { s with pvw := { s.pvw with used := t, pending := none } }
    ((s.setB R.PVW_APPLY 0 false).setB R.PVW_STATUS 4 false).raise Ev.PVW_APPLIED 0

/-- A mailbox packet that waits leaves for the panel (R323). -/
def pvwSendPacket (s : Device) : Device :=
  match s.pvw.packet with
  | some p => ({ s with pvw := { s.pvw with packet := none } }).send .panel (2 :: p)
  | none => s

/-- The duration of a preview frame in ns (R320, R322): the frame in video mode, the active lines in command mode. -/
def pvwFrameNs (s : Device) : Nat :=
  if s.rb R.PVW_CTRL 1 then s.rf R.PVW_V_TIMING1 13 0 * pvwLineNs s.reg
  else (1000000000 / pvwRate s.reg).floor.toNat

/-- A preview frame starts (R317 to R320); in brace state a video frame is black and a command-mode frame is not sent (R324). -/
def pvwFrame (s : Device) : Device :=
  if braced s && s.rb R.PVW_CTRL 1 then s
  else
  let s := pvwTakeStaged (pvwSendPacket s)
  let held := braced s
  let s := s.setB R.PVW_STATUS 3 held
  let s := { s with pvw := { s.pvw with frameEnd := s.clock + pvwFrameNs s } }
  let w := s.rf R.PVW_H_TIMING1 13 0
  let h := s.rf R.PVW_V_TIMING1 13 0
  if held then (s.send .panel ([1, w, h] ++ List.replicate (w * h) 0)).count R.PVW_FRAMES 1
  else
    let rd := pvwRd s
    let (cw, ch) := if s.cmp.frontW = 0 then canvasSize s.reg else (s.cmp.frontW, s.cmp.frontH)
    let g := pvwClamp rd cw ch
    let content := s.get64 R.CMP_DONE_FRAME_LO R.CMP_DONE_FRAME_HI
    let s := (s.setN R.PVW_HSTEP (pvwStep g.cw g.ow)).setN R.PVW_VSTEP (pvwStep g.ch g.oh)
    let s := (s.setB R.PVW_STATUS 2 g.clipped).set64 R.PVW_CANVAS_FRAME_LO R.PVW_CANVAS_FRAME_HI content
    let s := pvwFetch g content s
    (s.send .panel ([1, w, h] ++ pvwImage s rd g)).count R.PVW_FRAMES 1

/-- Whether a frame is being sent. -/
def pvwBusy (s : Device) : Bool := s.clock < s.pvw.frameEnd

/-- PVW_FRAME_START (R317). -/
def pvwFrameStart (s : Device) : Device := if pvwRuns s then pvwFrame s else s

/-- PVW_UNDERRUN (R324): one line is padded. -/
def pvwUnderrun (s : Device) : Device :=
  if pvwRuns s then (s.count R.PVW_UNDERRUN 1).raise Ev.PVW_UNDERRUN 0 else s

/-- Whether the port sends command-mode frames. -/
def pvwCommand (s : Device) : Bool := pvwRuns s && s.rb R.PVW_CTRL 1

/-- TE_EDGE (R322). -/
def pvwEdge (s : Device) : Device :=
  if !pvwCommand s then s
  else
    let lost := s.rb R.PVW_STATUS 1
    let s := { s with pvw := { s.pvw with teLast := s.clock } }
    let s := if lost then (s.setB R.PVW_STATUS 1 false).raise Ev.PVW_TE_RESTORED 0 else s
    if pvwBusy s then s.count R.PVW_TE_SKIP 1
    else pvwFrame (if lost then s else s.elapse (1000 * s.rf R.PVW_TE_CFG 15 0))

/-- PVW_TE_TIMEOUT (R322). -/
def pvwTimeout (s : Device) : Device :=
  if !pvwCommand s || s.rb R.PVW_STATUS 1 then s
  else
    let s := s.elapseTo (s.pvw.teLast + 1000000 * s.rf R.PVW_TE_CFG 25 16)
    let s := (s.setB R.PVW_STATUS 1 true).raise Ev.PVW_TE_TIMEOUT 0
    { s with pvw := { s.pvw with paced := s.clock } }

/-- PVW_INTERNAL_FRAME (R322). -/
def pvwInternal (s : Device) : Device :=
  if !pvwCommand s || !s.rb R.PVW_STATUS 1 || pvwBusy s then s
  else
    let s := s.elapseTo (s.pvw.paced + 1000000000 / max (s.rf R.PVW_CMD_RATE 5 0) 1)
    pvwFrame { s with pvw := { s.pvw with paced := s.clock } }

/-! ### Registers -/

/-- The present values of the staged registers. -/
def pvwSnapshot (s : Device) : Table Word := pvwStaged.foldl (fun (t : Table Word) o => t.put o (s.reg o)) []

/-- The lanes while the port is off (R324, R326): in LP-11, or in ULPS. -/
def pvwLanesIdle (s : Device) : Device := s.send .panel [if s.rb R.PVW_CTRL 9 then 4 else 3]

/-- PVW_CTRL (R321, R324): setting EN validates and starts the port, clearing it ends the preview; nothing else may change while it runs. -/
def pvwCtrlHandler (w : Who) (v : Word) : Handler :=
  let off := R.PVW_CTRL
  { plainHandler w off v with
    state := fun s => if s.rb off 0 && wbit v 0 then .state else .ok
    check := fun s => if wbit v 0 then pvwCode s (fun o => if o = off then v else s.reg o) else .ok
    effect := fun s =>
      let was := s.rb off 0
      let ulps := s.rb off 9
      let s := storeWrite w off v s
      if wbit v 0 then
        let s := { s with pvw := { s.pvw with used := pvwSnapshot s, pending := none, frameEnd := s.clock, teLast := s.clock } }
        ((s.setB R.PVW_STATUS 0 true).setB R.PVW_STATUS 1 false).setN R.PVW_LINE_NS (pvwLineNs s.reg)
      else if was then
        let s := { s with pvw := { s.pvw with pending := none, frameEnd := s.clock } }
        pvwSendPacket (pvwLanesIdle ((((s.setB R.PVW_STATUS 0 false).setB R.PVW_STATUS 3 false).setB R.PVW_STATUS 4 false).setB R.PVW_APPLY 0 false))
      else if wbit v 9 ≠ ulps then pvwLanesIdle s else s }

/-- PVW_APPLY (R321): validates the staged registers and lets them wait for the next preview frame. -/
def pvwApplyHandler (v : Word) : Handler :=
  { state := fun _ => .ok
    check := fun s => if wbit v 0 then pvwCode s s.reg else .ok
    effect := fun s =>
      if !wbit v 0 then s
      else if !pvwRuns s then { s with pvw := { s.pvw with used := pvwSnapshot s } }
      else
        let s := { s with pvw := { s.pvw with pending := some (pvwSnapshot s) } }
        (s.setB R.PVW_APPLY 0 true).setB R.PVW_STATUS 4 true }

/-- The first byte of the mailbox buffer. -/
def pvwBox (s : Device) : Nat := 64 * s.rf R.PVW_CMD_BUF 25 0

/-- PVW_CMD_CTRL (R323): GO queues the packet. -/
def pvwCmdHandler (w : Who) (v : Word) : Handler :=
  let off := R.PVW_CMD_CTRL
  { plainHandler w off v with
    state := fun s => if wbit v 16 && s.rb off 17 then .busy else .ok
    effect := fun s =>
      let s := (storeWrite w off v s).setB off 16 false
      if !wbit v 16 then s
      else
        let (s, r) := memRead .pvw (pvwBox s) (s.rf R.PVW_CMD_LEN 10 0) s
        let s := s.setB off 17 true
        let s := { s with pvw := { s.pvw with packet := some ([wfld v 5 0, b2n (wbit v 8)] ++ r.data.map (·.toNat)) } }
        if pvwRuns s then s else pvwSendPacket s }

/-- PVW_CMD_DONE (R323). -/
def pvwCmdDone (result : Byte) (response : List Byte) (s : Device) : Device :=
  if !s.rb R.PVW_CMD_CTRL 17 then s
  else
    let s := pvwSendPacket s
    let s := (s.setB R.PVW_CMD_CTRL 17 false).setF R.PVW_CMD_CTRL 31 24 result.toNat
    let s := if result ≠ 0 || response.isEmpty then s
      else if response.length ≤ 4 then s.setN R.PVW_CMD_RESP (leAt response 0 4)
      else memStore .pvw (pvwBox s + 1024) response s
    s.raise Ev.PVW_CMD_DONE result.toNat

/-- The PVW registers' own rules: while the port runs, only the staged registers, PVW_APPLY, the mailbox and the end of EN (R321,
R323). -/
def pvwHandler (w : Who) (off : Nat) (v : Word) : Handler :=
  let h := plainHandler w off v
  if off = R.PVW_CTRL then pvwCtrlHandler w v
  else if off = R.PVW_APPLY then pvwApplyHandler v
  else if off = R.PVW_CMD_CTRL then pvwCmdHandler w v
  else if pvwStaged.contains off || off = R.PVW_CMD_LEN || off = R.PVW_CMD_BUF then h
  else { h with state := fun s => if s.rb R.PVW_CTRL 0 then .state else .ok }

/-! ### The commands -/

/-- PVW_FRAME_START (R317). -/
def execPvwFrameStart (st : State) : Host.Outcome State Fault Refusal :=
  st.onDevice fun s => .next (pvwFrameStart s)

/-- PVW_UNDERRUN (R324). -/
def execPvwUnderrun (st : State) : Host.Outcome State Fault Refusal :=
  st.onDevice fun s => .next (pvwUnderrun s)

/-- PVW_CTRL.EN set (R321). -/
def execPvwEnable (w : Who) (v : Word) (st : State) : Host.Outcome State Fault Refusal :=
  st.onDevice fun s =>
  .next (regWrite s w R.PVW_CTRL v (pvwHandler w R.PVW_CTRL v))

/-- PVW_CTRL.EN cleared (R324). -/
def execPvwDisable (w : Who) (v : Word) (st : State) : Host.Outcome State Fault Refusal :=
  st.onDevice fun s =>
  .next (regWrite s w R.PVW_CTRL v (pvwHandler w R.PVW_CTRL v))

/-- PVW_APPLY written (R321). -/
def execPvwApply (w : Who) (v : Word) (st : State) : Host.Outcome State Fault Refusal :=
  st.onDevice fun s =>
  .next (regWrite s w R.PVW_APPLY v (pvwHandler w R.PVW_APPLY v))

/-- TE_EDGE (R322). -/
def execTeEdge (st : State) : Host.Outcome State Fault Refusal :=
  st.onDevice fun s => .next (pvwEdge s)

/-- PVW_TE_TIMEOUT (R322). -/
def execPvwTeTimeout (st : State) : Host.Outcome State Fault Refusal :=
  st.onDevice fun s => .next (pvwTimeout s)

/-- PVW_INTERNAL_FRAME (R322). -/
def execPvwInternalFrame (st : State) : Host.Outcome State Fault Refusal :=
  st.onDevice fun s => .next (pvwInternal s)

/-- PVW_CMD_CTRL.GO written (R323). -/
def execPvwCmdGo (w : Who) (v : Word) (st : State) : Host.Outcome State Fault Refusal :=
  st.onDevice fun s =>
  .next (regWrite s w R.PVW_CMD_CTRL v (pvwHandler w R.PVW_CMD_CTRL v))

/-- PVW_CMD_DONE (R323). -/
def execPvwCmdDone (result : Byte) (response : List Byte) (st : State) : Host.Outcome State Fault Refusal :=
  st.onDevice fun s =>
  .next (pvwCmdDone result response s)

end Sys2Proof.Machine
end

