-- ==== Sys2Proof/Machine/Commit.lean ====
section
/-! DEFINITION. Commits (R12, R34, R35, R371 to R374, R520 to R522): commit points, validation against the settings that pending commits leave,
submission, and application at a commit point. -/

namespace Sys2Proof.Machine

/-- The mask of a whole register. -/
def fullMask : Word := 0xFFFFFFFF

/-! ### The frame of a commit point -/

/-- A register file with the entries of the commits whose commit point meets a condition, in the order of their points. -/
def overlay (m : Table Word) (l : List (Nat × Entries)) (p : Nat → Bool) : Table Word :=
  (sortBy (fun a b => frameDiff a.1 b.1 ≤ 0) (l.filter (fun c => p c.1))).foldl (fun m c => withEntries m c.2) m

/-- The V_ACTIVE that governs a frame, as left by mode changes accepted before the frame begins (R35). -/
def vActiveFor (s : Device) (l : List (Nat × Entries)) (f : Nat) : Nat :=
  if f = s.shw.frame then s.shw.mode.vActive
  else (readFile (overlay s.regs l (fun p => frameDiff p f < 0)) R.SHOW_V_ACTIVE).toNat

/-- The frame of the commit point of a target (R34, R35). -/
def pointFrame (s : Device) (l : List (Nat × Entries)) (target : Option (Nat × Nat)) : Nat :=
  match target with
  | none => nextPoint s
  | some (f, line) => if line ≤ vActiveFor s l f then f else frameAdd f 1

/-- The pending commits with the frames of their commit points. -/
def pendingPoints (s : Device) : List (Nat × Entries) :=
  s.shw.commits.foldl (fun (l : List (Nat × Entries)) c => l ++ [(pointFrame s l c.target, c.entries)]) []

/-- The settings that the commits already pending leave at the commit point of a frame (R372, R522). -/
def settingsAt (s : Device) (point : Nat) : Table Word := overlay s.regs (pendingPoints s) (fun p => frameDiff p point ≤ 0)

/-- The settings that every commit already pending leaves. -/
def settingsLeft (s : Device) : Table Word := overlay s.regs (pendingPoints s) (fun _ => true)

/-! ### Failures -/

/-- Whether entries set a register of the timing mode. -/
def setsMode (es : Entries) : Bool := es.any (fun e => modeRegs.contains e.1)

/-- Whether a rate divided by MULT is one that LTC out may carry (R30). -/
def ltcRateOk (num den mult : Nat) : Bool :=
  [24, 25, 30].any (fun r => num = r * (den * mult)) || num * 1001 = 30000 * (den * mult)

/-- The word-clock rates of R55 in Hz. -/
def wclkHz (cfg : Word) : Nat := [44100, 48000, 88200, 96000, 176400, 192000].getD (wfld cfg 20 18) 0

/-- The word-clock equality of R21. -/
def wclkWhole (cfg : Word) (m : Mode) : Bool := wfld cfg 17 0 * m.num = wclkHz cfg * m.den

/-- The failures of a timing mode (R31, R37). -/
def modeFailures (s : Device) (rd : Nat → Word) : List Failure :=
  let m := modeOf rd
  let sched := s.shw.commits.filterMap (fun c => c.target)
  need (m.vActive + 2 ≤ m.vTotal) .conflict [R.SHOW_V_TOTAL, R.SHOW_V_ACTIVE] ++
  need (m.latch < m.vTotal) .conflict [R.SHOW_V_TOTAL, R.SHOW_LATCH_LINE] ++
  need (24000 * m.den ≤ 1001 * m.num && m.num ≤ 240 * m.den) .conflict [R.SHOW_RATE_NUM, R.SHOW_RATE_DEN] ++
  need ((rd R.CMP_DONE_LINE).toNat < m.vTotal) .conflict [R.SHOW_V_TOTAL, R.CMP_DONE_LINE] ++
  need (sched.all (fun t => t.2 < m.vTotal) && llFits s m.vTotal) .conflict [R.SHOW_V_TOTAL] ++
  need (!s.rb R.SHOW_CTRL 3 || ltcRateOk m.num m.den (s.rf R.SHOW_LTC_CFG 3 0)) .conflict [R.SHOW_RATE_NUM, R.SHOW_RATE_DEN] ++
  need (s.shw.sel ≠ 4 || wclkWhole (s.reg R.SHOW_WCLK_CFG) m) .conflict [R.SHOW_RATE_NUM, R.SHOW_RATE_DEN]

/-- Whether some entry lies in a range of offsets. -/
def touches (es : Entries) (lo hi : Nat) : Bool := es.any (fun e => lo ≤ e.1 && e.1 < hi)

/-- The failures of every block that the entries concern (R372): a mode change concerns all that depend on the raster (R37), a stream also
its layers, and the map, the rails and the chains one another. -/
def blockFailures (s : Device) (rd : Nat → Word) (es : Entries) : List Failure :=
  let mode := setsMode es
  let net := touches es 0x4C000 0x4D000
  let cmp := touches es 0x100000 0x140000
  let pho := touches es 0x140000 0x180000
  let out := touches es 0x180000 0x1C0000 || touches es 0x1D0000 0x1E0000
  let opt (o : Option (Code × List Nat)) : List Failure := o.toList
  let named := es.any (fun e => e.1 = R.CMP_DONE_LINE)
  let composed := (cmpFailures s rd).filter (fun f => !(mode && !named && f = (.range, [R.CMP_DONE_LINE])))
  (if mode then modeFailures s rd else []) ++
  (if net then opt (streamFailure s rd) ++ opt (sacnFailure s rd) else []) ++
  (if mode || net || cmp then composed else []) ++
  (if mode || pho then phoFailures s rd else []) ++
  (if mode || cmp || pho || out then batFailures s rd ++ hdrFailures s rd else [])

/-- The failure of one entry taken alone (R9, R12): alignment, encoding, own range. -/
def entryFailure (m : Table Word) (e : Nat × Word × Word) : List Failure :=
  let v := (readFile m e.1 &&& ~~~ e.2.1) ||| (e.2.2 &&& e.2.1)
  let c := firstCode [addressCheck e.1, valueAlign e.1 v, offsetValueCode e.1 v]
  need (c = .ok) c [e.1]

/-- The place of a failure in the order of reporting (R12, R520): its kind, then the first entry that takes part. -/
def failureRank (es : Entries) (f : Failure) : Nat × Nat := (kindOrder f.1, es.findIdx (fun e => f.2.contains e.1))

/-- The first failing register (R12): the first entry taking part, else the lowest offset that takes part. -/
def failingRegister (es : Entries) (f : Failure) : Nat :=
  match es.find? (fun e => f.2.contains e.1) with
  | some e => e.1
  | none => f.2.foldl min (f.2.headD 0)

/-- The first failure of entries under settings: the code and the first failing register (R12, R520). -/
def commitCode (s : Device) (m : Table Word) (es : Entries) : Option (Code × Nat) :=
  let rd := fileRd (withEntries m es)
  let fs := es.flatMap (entryFailure m) ++ blockFailures s rd es
  let le (a b : Failure) : Bool :=
    let x := failureRank es a
    let y := failureRank es b
    x.1 < y.1 || (x.1 = y.1 && x.2 ≤ y.2)
  match sortBy le fs with
  | [] => none
  | f :: _ => some (f.1, failingRegister es f)

/-- What a validation reads and reports (R179, R200, R259, R523): its reads are counted, a failure leaves its status. -/
def noteValidation (m : Table Word) (es : Entries) (bad : Bool) (s : Device) : Device :=
  let rd := fileRd (withEntries m es)
  let s := s.each (phoReads s rd) (fun s p => (memRead .pho p.1 p.2 s).1)
  let s := s.each (hdrReads s rd) (fun s p => (memRead .hdr p.1 p.2 s).1)
  let s := hdrReport rd s
  if bad then phoReport rd s else s

/-- The code of the last mode change rejected (R37). -/
def noteModeError (es : Entries) (c : Code) (s : Device) : Device :=
  s.when (setsMode es) (fun s => s.setF R.SHOW_MODE_STATE 15 8 c.num)

/-! ### Reports -/

/-- Whether a commit is one of the copies that KPR_PENDING counts (R372). -/
def countsPending (c : Commit) : Bool :=
  match c.origin with
  | .group _ => true
  | .runtime => true
  | _ => false

/-- Whether a commit is an armed light-list copy (R372). -/
def isArmed (c : Commit) : Bool :=
  match c.origin with
  | .lightList _ _ => true
  | _ => false

/-! ### Submission -/

/-- The entries that a commit group holds (R371). -/
def groupEntries (s : Device) (g : Nat) : Entries :=
  let base := base4k s.reg R.KPR_GRP_BASE + 4096 * g
  (upto (s.kpr.counts.getD 0 g)).map (fun i =>
    let b := peek s (base + 8 * i) 8
    (leAt b 0 4, fullMask, BitVec.ofNat 32 (leAt b 4 4)))

/-- The first entry of a group whose codeword cannot be read (R523). -/
def groupBad (s : Device) (g : Nat) : Option Nat :=
  let base := base4k s.reg R.KPR_GRP_BASE + 4096 * g
  ((upto (s.kpr.counts.getD 0 g)).find? (fun i => badRange s (base + 8 * i) 8)).map (fun i => leAt (peek s (base + 8 * i) 4) 0 4)

/-- What a submission answers: its code, the first failing register and the frame for which the group is applied. -/
structure Submitted where
  code  : Code
  off   : Nat := 0
  frame : Nat := 0
deriving DecidableEq, Repr

/-- The slot that an event of the Keeper block carries (R382): the session's, or 0xFF for a writer that has none. -/
def slotNamed : Who → Nat
  | .session k => k
  | _ => 0xFF

/-- Submits a commit group (R35, R372): late targets, stored data, the validation, the store of 64 copies. -/
def submitGroup (w : Who) (g : Nat) (target : Option (Nat × Nat)) (s : Device) : Device × Submitted :=
  let point := pointFrame s (pendingPoints s) target
  let es := groupEntries s g
  let s0 := (memRead .show (base4k s.reg R.KPR_GRP_BASE + 4096 * g) (8 * es.length) s).1
  let m := settingsAt s point
  if frameDiff point (nextPoint s) < 0 then ((noteModeError es .state s).raise Ev.LATE_SCHEDULE (payF g point), { code := .state })
  else go point es m s0
where
  /-- The validation of the copy and its submission. -/
  go (point : Nat) (es : Entries) (m : Table Word) (s : Device) : Device × Submitted :=
    let refuse (c : Code) (off : Nat) (s : Device) : Device × Submitted :=
      ((noteModeError es c s).raise Ev.GROUP_REJECTED (pay2 (slotNamed w + 256 * g) c.num), { code := c, off := off })
    match groupBad s g with
    | some off => refuse .check off s
    | none =>
      let r := commitCode s m es
      let s := noteValidation m es r.isSome s
      match r with
      | some (c, off) => refuse c off s
      | none =>
        if 64 ≤ (s.shw.commits.filter countsPending).length then refuse .capacity 0 s
        else (stageCommit { origin := .group g, target := target, entries := es } point s,
              { code := .ok, frame := frameAdd point 1 })

/-- The mask of the bits that a direct write sets. -/
def directMask (off : Nat) : Word :=
  match specAt off with
  | some r => BitVec.ofNat 32 (r.rw ||| r.w1s)
  | none => 0

/-- The validation of a direct write to an SH register (R522): any failure concerns the register written. -/
def directCode (s : Device) (off : Nat) (v : Word) : Code :=
  match commitCode s (settingsAt s (nextPoint s)) [(off, directMask off, v)] with
  | some (c, _) => c
  | none => .ok

/-- A direct write replaces an earlier one to the same register and is staged (R522). -/
def stageDirect (off : Nat) (v : Word) (s : Device) : Device :=
  let es : Entries := [(off, directMask off, v)]
  let s := noteValidation (settingsAt s (nextPoint s)) es false s
  let rest := s.shw.commits.filter (fun c => !(c.origin = .direct && c.entries.any (fun e => e.1 = off)))
  stageCommit { origin := .direct, target := none, entries := es } (nextPoint s) { s with shw := { s.shw with commits := rest } }

/-- The rules of a direct write to an SH register (R37, R522). -/
def directHandler (off : Nat) (v : Word) : Handler :=
  { state := fun _ => .ok
    check := fun s => directCode s off v
    effect := stageDirect off v
    reject := fun c s => noteModeError [(off, directMask off, v)] c
      (let m := settingsAt s (nextPoint s)
       let own := entryFailure m (off, directMask off, v) ≠ []
       if kindOrder c < kindOrder .reserved || own then s else noteValidation m [(off, directMask off, v)] true s) }

/-! ### The light list's commits -/

/-- The entries of a light-list commit or layer action (R43, R149). -/
def llCommitEntries (s : Device) (e : LlEntry) : Entries :=
  if e.action = 1 then groupEntries s (e.byte 0)
  else if e.action = 2 then [(R.CMP_LYR_CTRL (e.byte 0), 1, BitVec.ofNat 32 (e.byte 1))]
  else [(R.CMP_LYR_OPACITY (e.byte 0), 0xFFFF, BitVec.ofNat 32 (leAt e.arg 2 2))]

/-- The group that a light-list commit names (R59). -/
def llGroup (e : LlEntry) : Option Nat := if e.action = 1 then some (e.byte 0) else none

/-- Arms one occurrence for the commit point of a frame (R373): validated, held in the store of 64 copies, or rejected. -/
def armOne (i : Nat) (e : LlEntry) (target : Nat × Nat) (point : Nat) (s : Device) : Device :=
  let o := Origin.lightList i (llGroup e)
  let es := llCommitEntries s e
  let m := settingsAt s point
  let bad : Option Code := if e.action = 1 && (groupBad s (e.byte 0)).isSome then some .check else none
  let r : Option Code := bad.orElse (fun _ => (commitCode s m es).map (·.1))
  let s := noteValidation m es (bad.isNone && r.isSome) s
  let r := r.orElse (fun _ => if 64 ≤ (s.shw.commits.filter isArmed).length then some .capacity else none)
  match r with
  | some c => (noteModeError es c (reportCommit 3 o true c s)).raise Ev.COMMIT_REJECTED (pay2 (originGroup o) c.num)
  | none => stageCommit { origin := o, target := some target, entries := es } point s

/-- Arms the occurrences of the active bank whose commit point is that of a frame, in ascending index, but for those before the first
position given (R51, R373); not in the standby role (R397). -/
def armFor (point : Nat) (first : Nat × Nat) (s : Device) : Device :=
  if !s.rb R.SHOW_LL_CTRL 0 || inStandby s then s
  else
    let prev := frameAdd point (-1)
    let l := pendingPoints s
    let after (f line : Nat) : Bool := 0 < frameDiff f first.1 || (f = first.1 && first.2 ≤ line)
    s.each ((llEntries s (llActive s)).filter (fun p => p.2.commits)) fun s p =>
      let e := p.2
      let target : Option (Nat × Nat) :=
        if e.inFrame point && e.line ≤ vActiveFor s l point then some (point, e.line)
        else if e.inFrame prev && vActiveFor s l prev < e.line then some (prev, e.line)
        else none
      match target with
      | some t =>
        let held := s.shw.commits.any (fun c => isArmed c && c.target = some t && c.origin = .lightList p.1 (llGroup e))
        if after t.1 t.2 && !held then armOne p.1 e t point s else s
      | none => s

/-! ### Application -/

/-- Whether a pending commit is due at the commit point of the present frame (R34, R35). In the standby role the groups that the active unit
carries over wait for its commit records (R397). -/
def isDue (s : Device) (c : Commit) : Bool :=
  !(inStandby s && (countsPending c || isArmed c)) &&
  match c.target with
  | none => true
  | some (f, line) => (f = s.shw.frame && line ≤ s.shw.mode.vActive) || frameDiff f s.shw.frame < 0

/-- What the commits of one commit point have done: the registers set, whether CACHE_INVAL was written, whether a re-plan was applied, and
the groups as applied (R153, R196, R393). -/
structure Applied where
  touched : List Nat := []
  inval   : Bool := false
  planned : Bool := false
  groups  : List (Nat × Entries) := []
deriving DecidableEq, Repr

/-- Adds what applied entries did. A direct write is forwarded as such and stands in no commit record (R393, R398). -/
def Applied.add (a : Applied) (es : Entries) (o : Origin) : Applied :=
  { touched := a.touched ++ es.map (·.1), inval := a.inval || es.any (fun e => e.1 = R.CMP_CTRL && wbit (e.2.1 &&& e.2.2) 1),
    planned := a.planned || isReplan o es, groups := a.groups ++ (if isDirect o then [] else [(originGroup o, es)]) }

/-- One commit at its commit point (R374): validated again against the settings left before it, then applied or rejected. -/
def applyOne (acc : Device × Applied) (c : Commit) : Device × Applied :=
  let (s, a) := acc
  let r := commitCode s s.regs c.entries
  let s := noteValidation s.regs c.entries r.isSome s
  match r with
  | some (code, _) =>
    let s := noteModeError c.entries code (reportCommit 3 c.origin c.sched code s)
    let s := s.when (isReplan c.origin c.entries) planOver
    (s.raise Ev.COMMIT_REJECTED (pay2 (originGroup c.origin) code.num), a)
  | none =>
    let s := { s with regs := withEntries s.regs c.entries }
    let s := reportFrame s.shw.frame (reportCommit 2 c.origin c.sched .ok s)
    (s.raise Ev.COMMIT_APPLIED (payF (originGroup c.origin) (frameAdd s.shw.frame 1)), a.add c.entries c.origin)

/-- The commits due at the present commit point, in the order of submission (R374). -/
def applyDue (s : Device) : Device × Applied :=
  let due := s.shw.commits.filter (isDue s)
  let rest := s.shw.commits.filter (fun c => !isDue s c)
  due.foldl applyOne ({ s with shw := { s.shw with commits := rest } }, {})

/-! ### Gaps in the frame count (R29, R50, R521) -/

/-- The frames from a frame to an entry's last occurrence among the `n` frames after it. -/
def LlEntry.lastIn (e : LlEntry) (after n : Nat) : Option Nat :=
  let first := frameDiff (frameAdd after 1) e.frame
  let last : Int := first + ((n : Nat) : Int) - 1
  if e.countIn after n = 0 then none
  else
    let k : Nat := if e.period = 0 then 0 else if e.again = 0 then last.toNat / e.period else min e.again (last.toNat / e.period)
    some (((k * e.period : Nat) : Int) - first + 1).toNat

/-- An occurrence passed over: the frames from the frame before the gap, the line, the entry's index and tag. -/
structure Missed where
  ahead : Int
  line  : Nat
  index : Nat
  tag   : Nat
deriving DecidableEq, Repr

/-- The later of two occurrences passed over, or the second of two at one instant. -/
def Missed.later (a b : Missed) : Missed := if b.ahead < a.ahead || (b.ahead = a.ahead && b.line < a.line) then a else b

/-- The armed commits dropped with the commit point they waited for (R521) that the active bank's entries do not count already. -/
def droppedArmed (s : Device) (after : Nat) (dropped : List Commit) : List Missed :=
  let on := s.rb R.SHOW_LL_CTRL 0
  dropped.filterMap (fun c => match c.origin, c.target with
    | .lightList i _, some (f, line) =>
      let e := llEntry s (llActive s) i
      let mine := i < llCount s (llActive s) && e.valid && e.commits && e.occurs f line
      if on && mine && 0 < frameDiff f after then none
      else some ⟨frameDiff f after, line, i, if mine then e.tag else (llEntry s (1 - llActive s) i).tag⟩
    | _, _ => none)

/-- Occurrences missed in the `n` frames after a frame and armed commits dropped with them are counted (R50, R521). -/
def countMissed (after n : Nat) (dropped : List Commit) (s : Device) : Device :=
  let l := if s.rb R.SHOW_LL_CTRL 0 then llEntries s (llActive s) else []
  let armed := droppedArmed s after dropped
  let missed := sumL (l.map (fun p => p.2.countIn after n)) + armed.length
  if missed = 0 then s
  else
    let last := armed ++ l.filterMap (fun p => (p.2.lastIn after n).map (fun d => ⟨d, p.2.line, p.1, p.2.tag⟩))
    let m := last.foldl Missed.later ⟨-1, 0, 0, 0⟩
    ((s.count R.SHOW_LL_MISSED missed).setN R.SHOW_LL_LAST_MISSED (m.index % 16384 + 65536 * m.tag)).raise Ev.LL_MISSED missed

/-- Whether the frame count steps past the commit point that a commit waits for (R521): an immediate commit and what a standby takes over wait
for the next one that occurs. -/
def skipped (s : Device) (old new : Nat) (c : Commit) : Bool :=
  match c.target with
  | some (f, line) =>
    let p := if line ≤ s.shw.mode.vActive then f else frameAdd f 1
    c.sched && 0 < frameDiff p old && frameDiff p new < 0
  | none => false

/-- The commits whose commit point the frame count stepped past (R521): scheduled ones are rejected, armed occurrences counted as missed, as are
occurrences in the frames skipped (R50). -/
def skipFrames (old new : Nat) (s : Device) : Device :=
  let n := frameDiff new old - 1
  if n ≤ 0 then s
  else
    let gone := s.shw.commits.filter (skipped s old new)
    let s := { s with shw := { s.shw with commits := s.shw.commits.filter (fun c => !skipped s old new c) } }
    let s := s.each (gone.filter (fun c => !isArmed c)) fun s c =>
      (noteModeError c.entries .state (reportCommit 3 c.origin true .state s)).raise Ev.COMMIT_REJECTED
        (pay2 (originGroup c.origin) Code.state.num)
    countMissed old n.toNat (gone.filter isArmed) s

/-- The frame count steps by other than one (R29, R50, R521): the occurrences whose arming point was passed over are armed at once where their
commit point lies ahead (R373). -/
def stepCount (old new : Nat) (s : Device) : Device :=
  if new = frameAdd old 1 then s
  else armFor new (new, 0) (skipFrames old new (s.raise Ev.FRAME_JUMP (pay2 old new)))

end Sys2Proof.Machine
end

