-- ==== Sys2Proof/Machine/Session.lean ====
section
/-! DEFINITION. Management messages as the device sends them (R354 to R356, R378): framing, tags, notices. -/

namespace Sys2Proof.Machine

/-- A message body filled up to a multiple of 4 bytes (R353). -/
def padBody (b : List Byte) : List Byte := b ++ List.replicate ((4 - b.length % 4) % 4) 0

/-- The bytes of a message before its tag (R354). -/
def messageHead (type slot epoch seq : Nat) (body : List Byte) : List Byte :=
  leBytes 1 1 ++ leBytes 1 type ++ leBytes 2 (28 + body.length) ++ leBytes 1 slot ++ leBytes 1 0 ++ leBytes 2 epoch ++ leBytes 4 seq ++ body

/-- A message with its tag (R354, R356, R357): the service port's tags are zero. -/
def sealMessage (slot : Nat) (key head : List Byte) : List Byte :=
  head ++ if slot = 15 then List.replicate 16 0 else (hmac256 key head).take 16

/-- Sends a message to a session under its key. -/
def sendSession (slot type seq : Nat) (key body : List Byte) (s : Device) : Device :=
  s.sendBytes (.session slot) (sealMessage slot key (messageHead type slot (s.rn R.KPR_EPOCH % 65536) seq (padBody body)))

/-- Sends a notice to an open session with the device's own sequence number (R355, R356). -/
def sendNotice (slot type : Nat) (body : List Byte) (s : Device) : Device :=
  match s.kpr.sessions.find slot with
  | none => s
  | some e =>
    let s := sendSession slot type e.devSeq e.keyBytes body s
    { s with kpr := { s.kpr with sessions := s.kpr.sessions.put slot { e with devSeq := (e.devSeq + 1) % 2 ^ 32 } } }

/-- The Keeper role falls vacant (R363): with a request standing the election window opens at once. -/
def vacate (s : Device) : Device :=
  let stands := s.kpr.sessions.any (fun p => p.2.request.isSome)
  let ends := s.clock + 10000000 * s.rf R.KPR_CFG 15 8
  { s with kpr := { s.kpr with keeper := none, prio := 0xFF, lease := none, window := if stands then some ends else none } }

/-- A light-list MESSAGE (R46, R378): a notice to the Keeper, or dropped and counted; LL_MESSAGE is raised in either case. -/
def messageAction (code tag payload : Nat) (s : Device) : Device :=
  let body := leBytes 2 code ++ leBytes 2 tag ++ leBytes 6 s.shw.frame ++ leBytes 2 s.shw.line ++ leBytes 8 payload
  let s := s.raise Ev.LL_MESSAGE (pay2 code tag)
  match s.kpr.keeper with
  | some k => sendNotice k 0x51 body s
  | none => (s.count R.KPR_MSG_DROPPED 1).raise Ev.MSG_DROPPED 0xFF

end Sys2Proof.Machine
end

