-- ==== Sys2Proof/Machine/Keeper.lean ====
section
/-! DEFINITION. Sessions, the Keeper's election, commit groups as they are loaded, and the event router (R356 to R378, R380, R381). -/

namespace Sys2Proof.Machine

/-! ### Sessions -/

/-- Replaces an open session's entry. -/
def setSession (slot : Nat) (e : Session) (s : Device) : Device :=
  { s with kpr := { s.kpr with sessions := s.kpr.sessions.put slot e } }

/-- The session of the service port as it opens (R357). -/
def serviceSession (clock : Nat) : Session :=
  { port := 7, ip := 0, udp := 0, key := 0, keyBytes := [], highest := 0, window := [], devSeq := 1, keeperRight := true, calRight := true,
    prioMin := 0, mask := [], request := none, lastMsg := clock, lost := 0, gathered := [], gatherFrom := none, sentAt := [] }

/-- A session ends (R360, R363, R369): its selections and latched values go with it, and a Keeper's role falls vacant. -/
def endSession (slot : Nat) (s : Device) : Device :=
  if (s.kpr.sessions.find slot).isNone then s
  else
    let mine (k : Nat) : Bool := k / 0x400000 = slot
    let s := { s with kpr := { s.kpr with sessions := s.kpr.sessions.del slot }, banked := s.banked.filter (fun p => !mine p.1),
                      latches := s.latches.filter (fun p => !mine p.1) }
    let s := s.raise Ev.SESSION_CLOSE slot
    if s.kpr.keeper = some slot then vacate s else s

/-- The USB interface is configured or deconfigured (R357): slot 15 opens or ends. -/
def usbChange (on : Bool) (s : Device) : Device :=
  if !on then endSession 15 s
  else if (s.kpr.sessions.find 15).isSome then s
  else (setSession 15 (serviceSession s.clock) s).raise Ev.SESSION_OPEN 15

/-- A CLOSE of the service port (R357): its role, request and subscriptions end, and slot 15 stays open as a new session. -/
def renewService (s : Device) : Device := usbChange true (endSession 15 s)

/-- No authenticated message for SESSION_IDLE seconds (R360); slot 15 does not idle out. -/
def sessionIdle (slot : Nat) (s : Device) : Device :=
  match s.kpr.sessions.find slot with
  | none => s
  | some e => if slot = 15 then s else endSession slot (s.elapseTo (e.lastMsg + 1000000000 * s.rf R.KPR_CFG 23 16))

/-! ### The Keeper -/

/-- The length of a lease in ns (R364). -/
def leaseNs : Nat := 10000000000

/-- The role is granted (R363, R365, R366): the epoch rises, the lease runs, every open session is told. -/
def grantKeeper (slot prio : Nat) (s : Device) : Device :=
  match s.kpr.sessions.find slot with
  | none => s
  | some e =>
    let s := setSession slot { e with request := none } s
    let s := { s with kpr := { s.kpr with keeper := some slot, prio := prio, lease := some (s.clock + leaseNs), window := none } }
    let s := s.setN R.KPR_EPOCH (s.rn R.KPR_EPOCH + 1)
    let epoch := s.rn R.KPR_EPOCH
    let s := s.raise Ev.KEEPER_CHANGE (pay2 (slot + 256 * prio) epoch)
    let body := leBytes 1 slot ++ leBytes 1 prio ++ leBytes 2 0 ++ leBytes 4 epoch
    s.each (s.kpr.sessions.map (·.1)) (fun s k => sendNotice k 0x52 body s)

/-- Whether a request ranks before another (R362): the lower priority value, then the earlier receipt. -/
def ranksBefore (a b : Nat × Nat) : Bool := a.1 < b.1 || (a.1 = b.1 && a.2 < b.2)

/-- The standing requests as slot, priority and receipt. -/
def standing (s : Device) : List (Nat × Nat × Nat) :=
  s.kpr.sessions.filterMap (fun (p : Nat × Session) => p.2.request.map (fun r => (p.1, r)))

/-- The highest-ranked standing request. -/
def bestRequest (s : Device) : Option (Nat × Nat × Nat) :=
  (standing s).foldl (fun (a : Option (Nat × Nat × Nat)) r => match a with
    | none => some r
    | some b => if ranksBefore r.2 b.2 then some r else some b) none

/-- The lease runs out (R364). -/
def leaseEnd (s : Device) : Device :=
  match s.kpr.keeper, s.kpr.lease with
  | some k, some t => vacate ((s.elapseTo t).raise Ev.LEASE_EXPIRED k)
  | _, _ => s

/-- The election window ends (R363). -/
def windowClosed (s : Device) : Device :=
  match s.kpr.window with
  | none => s
  | some t =>
    let s := s.elapseTo t
    let s := { s with kpr := { s.kpr with window := none } }
    match bestRequest s with
    | none => s
    | some (slot, prio, _) => grantKeeper slot prio s

/-- With PREEMPT = 1 the standing request that ranks strictly higher than the Keeper's priority takes the role at once (R366). -/
def preempt (s : Device) : Device :=
  match s.kpr.keeper, bestRequest s with
  | some _, some (slot, prio, _) => if s.rb R.KPR_CFG 0 && prio < s.kpr.prio then grantKeeper slot prio s else s
  | _, _ => s

/-- A KEEPER_REQUEST (R362, R366): the code and whether the session is the Keeper now. -/
def keeperAsk (slot prio : Nat) (s : Device) : Device × Code × Bool :=
  match s.kpr.sessions.find slot with
  | none => (s, .noSuch, false)
  | some e =>
    if !e.keeperRight then (s, .locked, false)
    else if prio < e.prioMin then (s, .range, false)
    else if s.kpr.keeper = some slot then
      let s := preempt { s with kpr := { s.kpr with prio := prio } }
      (s, .ok, s.kpr.keeper = some slot)
    else
      let s := setSession slot { e with request := some (prio, s.kpr.receipts) } s
      let s := { s with kpr := { s.kpr with receipts := s.kpr.receipts + 1 } }
      match s.kpr.keeper with
      | some _ =>
        let s := preempt s
        (s, .ok, s.kpr.keeper = some slot)
      | none =>
        let ends := s.clock + 10000000 * s.rf R.KPR_CFG 15 8
        (if s.kpr.window.isSome then s else { s with kpr := { s.kpr with window := some ends } }, .ok, false)

/-- A KEEPER_WITHDRAW (R362). -/
def keeperBack (slot : Nat) (s : Device) : Device :=
  match s.kpr.sessions.find slot with
  | none => s
  | some e => setSession slot { e with request := none } s

/-- A KEEPER_RELEASE (R363, R365), with the successor's slot or 0xFF. -/
def keeperLeave (slot next : Nat) (s : Device) : Device × Code :=
  if s.kpr.keeper ≠ some slot then (s, .notKeeper)
  else if next = 0xFF then (vacate s, .ok)
  else match s.kpr.sessions.find next with
    | none => (s, .noSuch)
    | some e => if !e.keeperRight then (s, .locked) else (preempt (grantKeeper next ((e.request.map (·.1)).getD 255) s), .ok)

/-! ### Commit groups -/

/-- The memory offset of an entry of a group (R371). -/
def groupSlot (s : Device) (g i : Nat) : Nat := base4k s.reg R.KPR_GRP_BASE + 4096 * g + 8 * i

/-- Why an entry may not be loaded (R8, R9, R371). -/
def entryLoadCode (off : Nat) : Code :=
  if addressCheck off ≠ .ok then addressCheck off
  else if isLayer15 off then .locked
  else match specAt off with
    | some r => if r.sh then .ok else .conflict
    | none => .conflict

/-- The first failing entry of a load, in the order of R520: kind, then place. -/
def loadFailure (es : List (Nat × Word)) : Option (Code × Nat) :=
  let bad := es.filter (fun e => entryLoadCode e.1 ≠ .ok)
  (sortBy (fun a b => kindOrder (entryLoadCode a.1) ≤ kindOrder (entryLoadCode b.1)) bad).head?.map (fun e => (entryLoadCode e.1, e.1))

/-- The active unit carries a change of the commit-group table (R398); the layout is PRESUMED (log 9). -/
def tellGroup (g : Nat) (es : List (Nat × Word)) (first : Nat) (s : Device) : Device :=
  ridgeTell ridgeWrite (R.KPR_GRP_CMD :: g :: first :: es.flatMap (fun e => [e.1, e.2.toNat])) s

/-- Entries are loaded into a group behind those it keeps (R371): the code and the first failing register. -/
def loadGroup (w : Who) (g keep : Nat) (es : List (Nat × Word)) (s : Device) : Device × Code × Nat :=
  let fail (c : Code) (off : Nat) : Device × Code × Nat := (s.raise Ev.GROUP_REJECTED (pay2 (slotNamed w + 256 * g) c.num), c, off)
  match loadFailure es with
  | some (c, off) => fail c off
  | none =>
    if 512 < keep + es.length then fail .capacity ((es.map (·.1)).getD (512 - keep) 0)
    else
      let s := memStore .show (groupSlot s g keep) (es.flatMap (fun e => leBytes 4 e.1 ++ leBytes 4 e.2.toNat)) s
      let s := { s with kpr := { s.kpr with counts := s.kpr.counts.setD 0 g (keep + es.length) } }
      (tellGroup g es keep s, .ok, 0)

/-- The outcome of a load or submission, in the registers of the writer (R372, R380). -/
def noteGroup (w : Who) (g : Nat) (c : Code) (off : Nat) (s : Device) : Device :=
  (s.setBank w R.KPR_COMMIT_RESULT (BitVec.ofNat 32 (c.num + 256 * g))).setBank w R.KPR_COMMIT_ERR_ADDR (BitVec.ofNat 32 off)

/-- KPR_GRP_CMD (R371): CLEAR, then ADD. -/
def groupRun (w : Who) (v : Word) (s : Device) : Device :=
  let g := (s.bankReg w R.KPR_GRP_SEL).toNat % 256
  let s := if wbit v 0 then
      let (s, c, off) := loadGroup w g 0 [] s
      noteGroup w g c off s
    else s
  if wbit v 1 then
    let e := ((s.bankReg w R.KPR_GRP_OFS).toNat, s.bankReg w R.KPR_GRP_VAL)
    let (s, c, off) := loadGroup w g (s.kpr.counts.getD 0 g) [e] s
    noteGroup w g c off s
  else s

/-- A submission by COMMIT or KPR_COMMIT (R372), which the active unit carries over. -/
def submitBy (w : Who) (g : Nat) (target : Option (Nat × Nat)) (s : Device) : Device × Submitted :=
  let (s, r) := submitGroup w g target s
  let s := noteGroup w g r.code r.off s
  (if r.code = .ok then ridgeTell ridgeWrite [R.KPR_COMMIT, g, frameAdd r.frame (-1)] s else s, r)

/-- KPR_COMMIT written (R372, R380): GO submits the group that the word names. -/
def commitRun (w : Who) (v : Word) (s : Device) : Device :=
  let s := s.setBank w R.KPR_COMMIT (v &&& 0x1FF)
  if !wbit v 31 then s
  else
    let frame := (s.bankReg w R.KPR_COMMIT_FRAME_LO).toNat + 2 ^ 32 * ((s.bankReg w R.KPR_COMMIT_FRAME_HI).toNat % 65536)
    let target := if wbit v 8 then some (frame, (s.bankReg w R.KPR_COMMIT_LINE).toNat % 8192) else none
    (submitBy w (wfld v 7 0) target s).1

/-- The KPR registers' own rules (R367, R371, R372, R380). -/
def kprHandler (w : Who) (off : Nat) (v : Word) : Handler :=
  let h := plainHandler w off v
  if off = R.KPR_UPDATE_LOCK then
    { h with effect := fun s => (storeWrite w off v s).raiseIf (s.rb off 0 ≠ wbit v 0) Ev.UPDATE_LOCK_CHANGE (pay2 (slotNamed w) (b2n (wbit v 0))) }
  else if off = R.KPR_GRP_CMD then { h with effect := groupRun w v }
  else if off = R.KPR_COMMIT then { h with effect := commitRun w v }
  else h

/-- What KPR registers read as where they show live state (R380). -/
def kprView (s : Device) (w : Who) (off : Nat) : Option Word :=
  let n (k : Nat) : Option Word := some (BitVec.ofNat 32 k)
  let slot := (s.bankReg w R.KPR_SESS_SEL).toNat % 16
  let e := s.kpr.sessions.find slot
  let isK : Bool := s.kpr.keeper = some slot
  if off = R.KPR_STATUS then
    let dflt := s.sys.released.isSome && !s.sys.sections.any (fun x => x.kind = 2 && x.loaded)
    n (s.kpr.keeper.getD 0x1F + 256 * s.kpr.prio + 65536 * b2n s.kpr.window.isSome + 131072 * b2n dflt)
  else if off = R.KPR_LEASE_LEFT then
    n (match s.kpr.lease with
      | some t => min 0x3FFF ((t - s.clock) / 1000000)
      | none => 0)
  else if off = R.KPR_SESSIONS then n (sumL (s.kpr.sessions.map (fun p => 2 ^ p.1)))
  else if off = R.KPR_KEY_COUNT then n s.kpr.keys.length
  else if off = R.KPR_SESS_INFO then
    n (match e with
      | none => 0
      | some e =>
        let prio := (e.request.map (·.1)).getD (if isK then s.kpr.prio else 0)
        1 + 2 * b2n (slot = 15) + 256 * (e.key % 32) + 65536 * prio + 2 ^ 24 * b2n e.request.isSome + 2 ^ 25 * b2n isK)
  else if off = R.KPR_SESS_ADDR then n ((e.map (fun e => e.ip.toNat)).getD 0)
  else if off = R.KPR_SESS_PORT then n ((e.map (fun e => e.udp.toNat + 65536 * e.port)).getD 0)
  else if off = R.KPR_GRP_COUNT then n (s.kpr.counts.getD 0 ((s.bankReg w R.KPR_GRP_SEL).toNat % 256))
  else if off = R.KPR_GRP_CMD then n 0
  else if off = R.KPR_PENDING then n (s.shw.commits.filter countsPending).length
  else none

/-! ### The event router -/

/-- The next raised event that the router receives (R375): of those raised at the earliest clock, in sweeps of ascending number, one per event
and sweep. -/
def nextEvent (s : Device) : Option Raised :=
  match s.evt.raised with
  | [] => none
  | h :: _ =>
    let now := s.evt.raised.filter (fun r => r.clock = h.clock)
    let later := now.filter (fun (r : Raised) => match s.evt.last with
      | some (n, c) => c = h.clock && n < r.ev
      | none => false)
    (sortBy (fun a b => a.ev ≤ b.ev) (if later.isEmpty then now else later)).head?

/-- The bytes of a log record (R377). -/
def recordBytes (r : Raised) (seq : Nat) : List Byte :=
  leBytes 1 r.ev ++ leBytes 3 0 ++ leBytes 4 seq ++ leBytes 8 r.time ++ leBytes 6 r.frame ++ leBytes 2 r.line ++ leBytes 8 r.payload

/-- Sends the records a session has gathered (R378). -/
def sendRecords (slot : Nat) (s : Device) : Device :=
  match s.kpr.sessions.find slot with
  | none => s
  | some e =>
    if e.gathered.isEmpty then s
    else
      let body := leBytes 1 e.gathered.length ++ leBytes 1 0 ++ leBytes 2 (min 65535 e.lost) ++ e.gathered.flatMap id
      let recent := e.sentAt.filter (fun t => s.clock < t + 1000000000)
      let s := setSession slot { e with gathered := [], gatherFrom := none, lost := 0, sentAt := recent ++ [s.clock] } s
      sendNotice slot 0x50 body s

/-- A record for a subscribed session (R378): gathered, or dropped while a further notice would exceed the limit. -/
def gatherRecord (slot : Nat) (rec_ : List Byte) (s : Device) : Device :=
  let full : Bool := ((s.kpr.sessions.find slot).map (fun e => decide (32 ≤ e.gathered.length))).getD false
  let s := if full then sendRecords slot s else s
  match s.kpr.sessions.find slot with
  | none => s
  | some e =>
    let recent := e.sentAt.filter (fun t => s.clock < t + 1000000000)
    if e.gathered.isEmpty && s.rf R.EVT_SESS_RATE 9 0 ≤ recent.length then
      (setSession slot { e with lost := e.lost + 1 } s).count R.KPR_EVT_LOST 1
    else setSession slot { e with gathered := e.gathered ++ [rec_], gatherFrom := if e.gathered.isEmpty then some s.clock else e.gatherFrom } s

/-- NOTICE_EVENT (R378): what a session has gathered goes out, 10 ms after its first record or with 32 records. -/
def noticeDue (slot : Nat) (s : Device) : Device :=
  match s.kpr.sessions.find slot with
  | none => s
  | some e =>
    match e.gatherFrom with
    | none => s
    | some t => sendRecords slot (if 32 ≤ e.gathered.length then s else s.elapseTo (t + 10000000))

/-- A record enters the event log (R377): its sequence number, and the record as stored. -/
def logRecord (r : Raised) (s : Device) : Device × List Byte :=
  let seq := (s.rn R.EVT_LOG_SEQ + 1) % 2 ^ 32
  let size := s.rf R.EVT_LOG_SIZE 16 0
  let head := s.rf R.EVT_LOG_HEAD 15 0
  let b := recordBytes r seq
  let s := s.setN R.EVT_LOG_SEQ seq
  (if size = 0 then s else (memStore .show (base4k s.reg R.EVT_LOG_BASE + 32 * head) b s).setN R.EVT_LOG_HEAD ((head + 1) % size), b)

/-- The pending words of a core. -/
def corePend (s : Device) (c : Nat) : List Nat := (upto 8).map (fun j => s.rn (R.EVT_Cc_PENDj c j))

/-- A core's pending bit is set; its interrupt is asserted while any is 1 (R375). -/
def pendCore (e c : Nat) (s : Device) : Device :=
  let was := (corePend s c).any (fun w => w ≠ 0)
  let s := s.setB (R.EVT_Cc_PENDj c (e / 32)) (e % 32) true
  if was then s else s.send (.core c) [e]

/-- The router takes one event (R375 to R378, R494). -/
def routeEvent (r : Raised) (s : Device) : Device :=
  let route := s.reg (R.EVT_ROUTEe r.ev)
  let s := s.setB (R.EVT_PENDj (r.ev / 32)) (r.ev % 32) true
  let s := s.each ((upto 8).filter (fun c => wbit route c)) (fun s c => pendCore r.ev c s)
  let s := if wbit route 8 then s.send .safety [r.ev, r.payload] else s
  let s := if wbit route 9 then fogRefresh (s.setN R.HKP_FOG_LAST r.ev) else s
  if wfld route 7 0 = 0 && !wbit route 10 && !wbit route 11 then s
  else
    let (s, b) := logRecord r s
    if !wbit route 10 then s
    else s.each ((s.kpr.sessions.filter (fun p => p.2.mask.contains r.ev)).map (·.1)) (fun s k => gatherRecord k b s)

/-- EVENT_RAISE (R375): the next raised event is received. -/
def eventReceived (s : Device) : Device :=
  match nextEvent s with
  | none => s
  | some r => routeEvent r { s with evt := { raised := s.evt.raised.erase r, last := some (r.ev, r.clock) } }

/-- The EVT registers' own rules (R376): a fog request is withdrawn with its pending bit. -/
def evtHandler (w : Who) (off : Nat) (v : Word) : Handler :=
  let h := plainHandler w off v
  if R.EVT_PENDj 0 ≤ off && off < R.EVT_PENDj 8 then { h with effect := fun s => fogRefresh (storeWrite w off v s) } else h

/-- What EVT registers read as where they show live state (R381). -/
def evtView (s : Device) (off : Nat) : Option Word :=
  if R.EVT_Cc_NEXT 0 ≤ off && off < R.EVT_Cc_NEXT 8 && (off - R.EVT_Cc_NEXT 0) % 0x40 = 0 then
    let c := (off - R.EVT_Cc_NEXT 0) / 0x40
    some (BitVec.ofNat 32 (((upto 256).find? (fun e => s.rb (R.EVT_Cc_PENDj c (e / 32)) (e % 32))).getD 0x100))
  else none

/-! ### The commands without a message -/

/-- NOTICE_EVENT (R378). -/
def execNoticeEvent (slot : Nat) (st : State) : Host.Outcome State Fault Refusal :=
  st.onDevice fun s => onUnit (slot < 16) (noticeDue slot s)

/-- SESSION_IDLE_TIMEOUT (R360). -/
def execSessionIdleTimeout (slot : Nat) (st : State) : Host.Outcome State Fault Refusal :=
  st.onDevice fun s => onUnit (slot < 16) (sessionIdle slot s)

/-- LEASE_EXPIRED (R364). -/
def execLeaseExpired (st : State) : Host.Outcome State Fault Refusal :=
  st.onDevice fun s => .next (leaseEnd s)

/-- ELECTION_WINDOW_END (R363). -/
def execElectionWindowEnd (st : State) : Host.Outcome State Fault Refusal :=
  st.onDevice fun s => .next (windowClosed s)

/-- USB_CONFIGURED (R357). -/
def execUsbConfigured (on : Bool) (st : State) : Host.Outcome State Fault Refusal :=
  st.onDevice fun s => .next (usbChange on s)

/-- KPR_GRP_CMD.CLEAR written (R371). -/
def execKprGrpClear (w : Who) (v : Word) (st : State) : Host.Outcome State Fault Refusal :=
  st.onDevice fun s =>
  .next (regWrite s w R.KPR_GRP_CMD v (kprHandler w R.KPR_GRP_CMD v))

/-- KPR_GRP_CMD.ADD written (R371). -/
def execKprGrpAdd (w : Who) (v : Word) (st : State) : Host.Outcome State Fault Refusal :=
  st.onDevice fun s =>
  .next (regWrite s w R.KPR_GRP_CMD v (kprHandler w R.KPR_GRP_CMD v))

/-- KPR_COMMIT.GO written (R372). -/
def execKprCommitGo (w : Who) (v : Word) (st : State) : Host.Outcome State Fault Refusal :=
  st.onDevice fun s =>
  .next (regWrite s w R.KPR_COMMIT v (kprHandler w R.KPR_COMMIT v))

/-- EVENT_RAISE (R375). -/
def execEventRaise (st : State) : Host.Outcome State Fault Refusal :=
  st.onDevice fun s => .next (eventReceived s)

end Sys2Proof.Machine
end

