-- ==== Sys2Proof/Machine/Digest.lean ====
section
/-! DEFINITION. The digests of a content frame (R401): canvas, chain banks, output, inputs, and the output record. -/

namespace Sys2Proof.Machine

/-- Whether a chain issues its latch for a content frame as things stand (R228, R242, R276). -/
def latchPlanned (s : Device) (d : FrameCtx) (c : Nat) : Bool :=
  (d.marks.getD 0 c).testBit 0 ||
  (!d.dealt c && chainSends s c d && chainMode d.rd c ≠ 2 && !noLatches s && (d.chains.find c).isSome &&
    !(d.withheld.contains c && chainMode d.rd c < 2) && !underrunHold d c)

/-- The byte of a chain in its bank digest (R401): latch issued, RAIL issued, frame filled. -/
def chainMark (s : Device) (d : FrameCtx) (c : Nat) : Byte :=
  let latch := latchPlanned s d c
  let rail := (d.marks.getD 0 c).testBit 1 || (latch && chainMode d.rd c = 0)
  BitVec.ofNat 8 (b2n latch + 2 * b2n rail + 4 * b2n ((d.marks.getD 0 c).testBit 2))

/-- The digest of a bank of 32 chains but for the excluded ones (R401). -/
def bankDigest (s : Device) (d : FrameCtx) (excluded : List Nat) (b : Nat) : Nat :=
  crc32c ((upto 32).flatMap (fun i =>
    let c := 32 * b + i
    if excluded.contains c || (d.chains.find c).isNone then [] else d.chains.getD [] c ++ [chainMark s d c]))

/-- The bank digests (R401). -/
def bankDigests (s : Device) (d : FrameCtx) (excluded : List Nat) : List Nat := (upto 16).map (bankDigest s d excluded)

/-- The output digest (R401). -/
def outputDigest (canvas : Nat) (banks : List Nat) : Nat := crc32c (leBytes 4 canvas ++ banks.flatMap (leBytes 4))

/-- The output record of a content frame (R401, R408): with the scales of the next content frame and, as far as its pass has ended, its guard
decisions. -/
def outputRecord (s : Device) (d : FrameCtx) : OutputRecord :=
  let excluded := excludedChains s d
  let banks := bankDigests s d excluded
  { content := d.content, canvas := BitVec.ofNat 32 d.canvas, banks := banks.map (BitVec.ofNat 32),
    output := BitVec.ofNat 32 (outputDigest d.canvas banks), excluded := excluded,
    latched := (witnesses s).filter (latchPlanned s d), withheld := d.withheld,
    scales := (upto 64).map (fun z => s.rf (R.HDR_Zz_SCALE z) 16 0),
    guards := ((s.pipe.find? (fun e => e.content = frameAdd d.content 1)).map (·.withheld)).getD [] }

/-- An output record as numbers (PRESUMED, log 9). -/
def outputNums (r : OutputRecord) : List Nat :=
  r.content :: r.canvas.toNat :: r.banks.map (·.toNat) ++ r.output.toNat :: r.excluded.length :: r.excluded ++
  r.latched.length :: r.latched ++ r.withheld.length :: r.withheld ++ r.scales ++ r.guards

/-- Sends the output record of a content frame, once (R393). -/
def sendOutput (d : FrameCtx) (s : Device) : Device :=
  if !pairActive s || d.recorded then s
  else ridgeSend ridgeOutput (outputNums (outputRecord s d)) (s.modCtx d.content (fun e => { e with recorded := true }))

/-- Whether every chain that sends a content frame has built its frame. -/
def allBuilt (s : Device) (d : FrameCtx) : Bool :=
  (upto 512).all (fun c => (d.chains.find c).isSome || d.dealt c || !chainSends s c d ||
    (chainMode d.rd c = 2 && d.content % (wfld (d.rd (R.BAT_CHn_MODECFG c)) 13 10 + 1) ≠ 0))

/-- After a chain frame is built the record goes out with the last one (R393). -/
def afterBuild (c : Nat) (s : Device) : Device :=
  if !pairActive s then s
  else match s.pipe.find? (fun d => !d.recorded && (d.chains.find c).isSome) with
    | some d => if allBuilt s d then sendOutput d s else s
    | none => s

/-- CHAIN_FRAME_START (R230). -/
def execChainFrameStart (c : Nat) (st : State) : Host.Outcome State Fault Refusal :=
  st.onDevice fun s =>
  onUnit (c < 512) (afterBuild c (chainFrameStart c s))

/-- DMX_FRAME_START (R245). -/
def execDmxFrameStart (c : Nat) (st : State) : Host.Outcome State Fault Refusal :=
  st.onDevice fun s =>
  onUnit (c < 512) (afterBuild c (dmxFrameStart c s))

end Sys2Proof.Machine
end

