-- ==== Sys2Proof/Machine/Redundancy.lean ====
section
/-! DEFINITION. Active and standby operation (R383 to R423): roles, heartbeats, witnesses and the fail-over decision, capture and output
records, checkpoints, the health record, takeover and handover. -/

namespace Sys2Proof.Machine

/-! ### Roles -/

/-- The role of a state (R387): 0 solo, 1 none, 2 active, 3 standby. -/
def roleOf (state : Nat) : Nat := if state = 0 then 0 else if state = 1 then 1 else if state = 2 || state = 7 then 2 else 3

/-- A resync is counted, and a sweep is owed (R394). -/
def owesSweep (s : Device) : Device :=
  ({ s.count R.RDG_RESYNCS 1 with rdg := { s.rdg with sweepDue := true, matched := false } }).setN R.RDG_SYNC_STATUS 3

/-- The present frame with another count; a commit point that has passed stays passed. -/
def renumber (f : Nat) (s : Device) : Device :=
  { s with shw := { s.shw with frame := f, rasterFrame := frameAdd s.shw.rasterFrame (frameDiff f s.shw.frame),
                               lastPoint := if s.shw.lastPoint = some s.shw.frame then some f else none } }

/-- The present frame takes the peer's count (R406): the frames between are skipped. -/
def takeFrame (f : Nat) (s : Device) : Device :=
  if s.shw.frame = f then s else skipFrames s.shw.frame f ((renumber f s).raise Ev.FRAME_JUMP (pay2 s.shw.frame f))

/-- A resync starts (R394, R406): a sweep is owed, and the peer's frame count and timing mode are taken. -/
def startResync (s : Device) : Device :=
  match s.rdg.peer with
  | none => owesSweep s
  | some h => (takeFrame h.frame (owesSweep s)).each (rasterRegs.zip h.raster) (fun s p => s.setReg p.1 p.2)

/-- The payload of an event of this block (R423): the state, the cause, the lane, bank or chain, and the content frame (log 6). -/
def pairPay (s : Device) (cause place content : Nat) : Nat := payF (rdgState s + 8 * cause + 128 * place) content

/-- Enters a state (R387): ROLE_CHANGE when the role changes, IN_STEP on entry to IN_STEP, a resync on entry to SYNCING. -/
def enterState (state cause : Nat) (s : Device) : Device :=
  let old := rdgState s
  let s := s.setF R.RDG_STATUS 3 0 state
  let s := { s with rdg := { s.rdg with stateAt := s.clock } }
  let s := s.when (roleOf old ≠ roleOf state) fun s =>
    ({ s with rdg := { s.rdg with roleAt := s.shw.time, evidence := none, listenRun := none } }).raise Ev.ROLE_CHANGE
      (pairPay s cause 0 s.shw.frame)
  let s := s.raiseIf (state = 4) Ev.IN_STEP (pairPay s cause 0 s.shw.frame)
  let s := if state = 2 then wakeChains s else if sends s then s else quietChains s
  let was := 3 ≤ old && old ≤ 6
  let s := pulsesForRole was (bucksForRole was s)
  if state = 3 then startResync s else s

/-- The lowest bank of a mask (R402), 0 for none. -/
def firstBit (mask : Nat) : Nat := ((upto 16).find? mask.testBit).getD 0

/-- The standby enters DIVERGED (R402): the frame and cause are recorded, the entry is counted, a resync is requested. In ADRIFT there are no
records to compare. -/
def diverge (cause content canvas mask : Nat) (s : Device) : Device :=
  if !(rdgState s = 3 || rdgState s = 4 || rdgState s = 5) then s
  else
    let s := s.set64 R.RDG_DIVERGE_FRAME_LO R.RDG_DIVERGE_FRAME_HI content
    let s := s.setN R.RDG_DIVERGE_INFO (cause + 8 * canvas + 65536 * mask)
    let s := { s with rdg := { s.rdg with matched := false } }
    if rdgState s = 5 then s
    else
      let s := { s.count R.RDG_DIVERGES 1 with
                 rdg := { s.rdg with diverged := s.rdg.diverged.filter (fun t => s.clock < t + 3600000000000) ++ [s.clock] } }
      let s := enterState 5 cause s
      startResync (s.raise Ev.DIVERGED (pairPay s (cause + 8 * canvas) (firstBit mask) content))

/-- Whether a fresh HOLDING of the peer stands (R411). -/
def holdingStands (s : Device) : Bool := match s.rdg.holdAt with
  | some t => s.clock ≤ t + 3000000
  | none => false

/-- Whether a heartbeat of a peer that drives is no more than 3 ms old (R409, R415). -/
def peerDrives (s : Device) : Bool := match s.rdg.driveAt with
  | some t => s.clock ≤ t + 3000000
  | none => false

/-- A gratuitous ARP for RDG_ROLE_ADDR on a port (R413). -/
def gratuitousArp (p : Nat) (s : Device) : Device :=
  let mac := beBytes 6 (stationMac s p)
  let ip := beBytes 4 (s.rn R.RDG_ROLE_ADDR)
  let f := beBytes 6 (2 ^ 48 - 1) ++ mac ++ beBytes 2 0x0806 ++ beBytes 2 1 ++ beBytes 2 0x0800 ++ beBytes 1 6 ++ beBytes 1 4 ++
    beBytes 2 1 ++ mac ++ ip ++ beBytes 6 0 ++ ip
  emitFrame p f s

/-- The carried ranges are corrected by the difference of the two units' own transmit path delays (R413, R234). -/
def correctRanges (s : Device) : Device :=
  s.each s.bat.chains fun s p =>
    let ext := R.BAT_BANKb_EXT (p.1 / 32)
    match s.rdg.peerExt.find (p.1 / 32) with
    | none => s
    | some v =>
      let d : Int := ((s.rf ext 15 0 : Nat) : Int) - ((wfld v 15 0 : Nat) : Int)
      if d = 0 then s
      else
        let x := s.chain p.1
        let shift (t : Nat) : Nat := (((t : Nat) : Int) + d).toNat
        let s := s.setChain p.1 { x with delays := x.delays.map shift, fullComp := shift x.fullComp }
        writeRanges p.1 (s.setF (R.BAT_CHn_COMP p.1) 21 0 (shift (s.rf (R.BAT_CHn_COMP p.1) 21 0)))

/-- Whether some chain is enabled. -/
def anyChain (s : Device) : Bool := (upto 512).any (fun c => chainOn s.reg c)

/-- Takeover (R413): `rule` as RDG_TAKEOVER_INFO numbers it. Chain frames built without being sent are built again. -/
def takeOver (rule : Nat) (s : Device) : Device :=
  let s := s.setN R.RDG_TAKEOVER_INFO (rule + 256 * b2n s.rdg.wasInStep)
  let s := enterState 7 rule (s.count R.RDG_TAKEOVERS 1)
  let s := { s with rdg := { s.rdg with missed := if rule < 3 then s.rdg.silent else 0, evidence := none, awaiting := none },
                    pipe := s.pipe.map (fun d => { d with chains := d.chains.filter (fun p => d.dealt p.1) }) }
  let s := correctRanges s
  let s := s.each ([4, 5].filter (fun p => s.rb (R.NET_STATUS p) 0)) (fun s p => gratuitousArp p s)
  let s := vacate (s.setN R.KPR_EPOCH (s.rn R.KPR_EPOCH + 1))
  let s := armFor (nextPoint s) (s.shw.frame, s.shw.line) s
  if anyChain s then s else enterState 2 rule s

/-! ### Witnesses and the decision -/

/-- The readback witness is available (R408). -/
def witnessOk (s : Device) : Bool := !(witnessesOk s).isEmpty

/-- The rules of R409, as RDG_TAKEOVER_INFO numbers those that end in a takeover: evidence is complete, or a contrary sign stands. -/
def decide_ (s : Device) : Device :=
  if rdgState s ≠ 6 then { s with rdg := { s.rdg with evidence := none } }
  else
    let rule : Option Nat :=
      if s.rdg.sawLatch then none
      else if (!ridgeUp s && peerDrives s && s.rdg.netAt = s.rdg.driveAt) || holdingStands s then none
      else if witnessOk s then
        if !s.rdg.netGone then (if 1 ≤ s.rdg.silent then some 0 else none)
        else if 3 ≤ s.rdg.silent then some 1 else none
      else if !s.rb R.RDG_STATUS 7 && !s.rb R.RDG_POLICY 2 then some 2
      else none
    match rule with
    | none => { s with rdg := { s.rdg with evidence := none } }
    | some r => if s.rdg.evidence.isSome then s else { s with rdg := { s.rdg with evidence := some (r, s.clock) } }

/-- TAKEOVER_WAIT_EXPIRY (R409, R386): 1 ms after the evidence was complete, without a contrary sign. -/
def waitExpired (s : Device) : Device :=
  match s.rdg.evidence with
  | none => s
  | some (rule, t) =>
    let s := s.elapseTo (t + 1000000)
    if s.rb R.RDG_POLICY 0 && (s.rdg.wasInStep || s.rb R.RDG_POLICY 1) && !s.rb R.RDG_STATUS 11 then takeOver rule s else s

/-- WITNESS_LATCH_SEEN (R407): a latch on a witness chain near its issue instant. -/
def witnessSeen (c : Nat) (s : Device) : Device :=
  if !(witnesses s).contains c then s
  else
    let s := { s with rdg := { s.rdg with seenNow := if s.rdg.seenNow.contains c then s.rdg.seenNow else s.rdg.seenNow ++ [c] } }
    let seen := (s.pipe.head?.map (·.content)).getD (lastLatched s)
    let s := s.set64 R.RDG_LATCH_SEEN_LO R.RDG_LATCH_SEEN_HI seen
    if (s.rdg.witness.getD {} c).bad then s else decide_ { s with rdg := { s.rdg with sawLatch := true } }

/-- A stated latch was seen or not (R408): three misses in a row disqualify, sixteen in a row seen qualify again. -/
def judgeStated (c : Nat) (s : Device) : Device :=
  let x := s.rdg.witness.getD {} c
  let seen := s.rdg.seenNow.contains c
  let y : WitnessState := if seen then { x with missRun := 0, seenRun := x.seenRun + 1, bad := x.bad && x.seenRun + 1 < 16 }
    else { x with missRun := x.missRun + 1, seenRun := 0, bad := x.bad || 3 ≤ x.missRun + 1 }
  let s := { s with rdg := { s.rdg with witness := s.rdg.witness.setD {} c y } }
  s.raiseIf (y.bad && !x.bad) Ev.WITNESS_FAULT (pairPay s 0 c s.shw.frame)

/-- The active unit's own latches echoed on its witness chains (R417): a chain without the echo is flagged. -/
def judgeEcho (d : FrameCtx) (c : Nat) (s : Device) : Device :=
  if !(d.marks.getD 0 c).testBit 0 then s
  else
    let x := s.rdg.witness.getD {} c
    let lost := !s.rdg.seenNow.contains c
    let s := { s with rdg := { s.rdg with witness := s.rdg.witness.setD {} c { x with flagged := lost } } }
    s.raiseIf (lost && !x.flagged) Ev.WITNESS_FAULT (pairPay s 0 c s.shw.frame)

/-- The witnesses at a latch instant (R408, R409). The latches of an instant are seen before it is judged (log 22). -/
def judgeWitnesses (d : Option FrameCtx) (s : Device) : Device :=
  let rec_ := d.bind (fun d => s.rdg.records.find? (fun r => r.content = d.content))
  let s := match rec_ with
    | some r => s.each ((witnesses s).filter r.latched.contains) (fun s c => judgeStated c s)
    | none => s
  let s := match d with
    | some d => if pairActive s then s.each (witnesses s) (fun s c => judgeEcho d c s) else s
    | none => s
  let ok := witnessesOk s
  let announced : Bool := match rec_ with
    | some r => ok.all (fun c => !r.latched.contains c)
    | none => false
  let silent := !ok.isEmpty && !ok.any s.rdg.seenNow.contains && !holdingStands s && !announced
  let run := if silent then s.rdg.silent + 1 else if ok.any s.rdg.seenNow.contains then 0 else s.rdg.silent
  decide_ { s with rdg := { s.rdg with silent := run, seenNow := [] } }

/-! ### Heartbeats -/

/-- The ridge heartbeat tells a standby the show time and the source to follow (R394). -/
def followPeer (h : Heartbeat) (s : Device) : Device :=
  let ok := h.source < 4 && (s.shw.srcs.getD {} h.source).qualified
  let s := s.setB R.RDG_STATUS 10 (!ok)
  if !ok then { s with shw := { s.shw with time := h.stamp, rateAt := s.clock } }
  else if s.shw.sel = h.source then s
  else ({ s with shw := { s.shw with sel := h.source, phase := .acquire, locks := 0, measured := false, holdSince := none, stepDue := false,
                                     rates := [] } }).raise Ev.SRC_CHANGE h.source

/-- What every heartbeat of the peer does (R386, R388, R389, R391, R415). -/
def hearPeer (h : Heartbeat) (net : Bool) (s : Device) : Device :=
  let was := s.rdg.peer.map (·.state)
  let drives := h.state = 2 || h.state = 7
  let s := { s with rdg := { s.rdg with
    peer := some h, driveAt := if drives then some s.clock else s.rdg.driveAt,
    holdAt := if h.holding && drives then some s.clock else s.rdg.holdAt,
    netAt := if net then some s.clock else s.rdg.netAt, ridgeAt := if net then s.rdg.ridgeAt else some s.clock } }
  let s := (s.setB R.RDG_UNIT 1 true).setF R.RDG_PEER 5 0 (h.state % 16 + 16 * b2n h.unitB + 32 * b2n h.holding)
  let clash := h.unitB = s.rb R.RDG_STATUS 4
  let fresh := clash && !s.rb R.RDG_STATUS 11
  let s := (s.setB R.RDG_STATUS 11 clash).raiseIf fresh Ev.DUAL_ACTIVE (pairPay s 1 0 s.shw.frame)
  let later := wrapDiff 64 s.rdg.roleAt h.roleTime
  let s :=
    if pairActive s && drives && (0 < later || (later = 0 && s.rb R.RDG_STATUS 4)) then
      let s := enterState 3 6 (s.count R.RDG_DUAL_ACTIVE 1)
      s.raise Ev.DUAL_ACTIVE (pairPay s 0 0 s.shw.frame)
    else if rdgState s = 1 && drives && s.rdg.listenRun.isSome then enterState 3 3 s
    else if rdgState s = 4 && h.state = 3 && (was = some 2 || was = some 7) then takeOver 5 s
    else s
  decide_ s

/-- RIDGE_HEARTBEAT_RX (R391): the ridge is restored at the first heartbeat after a loss, and a standby resyncs (R406). -/
def ridgeHeard (h : Heartbeat) (s : Device) : Device :=
  if rdgState s = 0 then s
  else
    let again := s.rdg.ridgeAt.isSome && !ridgeUp s
    let s := { s with rdg := { s.rdg with ridgeMiss := 0, sawLatch := false, silent := 0, resends := [] } }
    let s := ((s.setB R.RDG_STATUS 5 true).setN R.RDG_LAST_HB_RIDGE s.shw.time).raiseIf again Ev.RIDGE_RESTORED (pairPay s 0 0 s.shw.frame)
    let s := hearPeer h false s
    let s := if inStandby s then followPeer h s else s
    if rdgState s = 6 then enterState 3 0 s
    else if again && inStandby s then startResync s else s

/-- An active unit that hears its standby on no path stops waiting for it (R410). -/
def standbyGone (s : Device) : Device :=
  if pairActive s && !ridgeUp s && !s.rb R.RDG_STATUS 7 then
    let s := s.raise Ev.STANDBY_LOST (pairPay s 0 0 s.shw.frame)
    let s := s.each s.rdg.held (fun s p => s.sendBytes (.session p.1) p.2)
    { s with rdg := { s.rdg with held := [] } }
  else s

/-- RIDGE_HEARTBEAT_MISS (R391, R392, R409): the third in a row loses the ridge, a network heartbeat goes out at once, and a standby enters ADRIFT. -/
def ridgeMissed (s : Device) : Device :=
  if rdgState s = 0 then s
  else
    let run := s.rdg.ridgeMiss + 1
    let s := { s.count R.RDG_RIDGE_MISS 1 with rdg := { s.rdg with ridgeMiss := run } }
    if ridgeUp s && 3 ≤ run then
      let s := (s.setB R.RDG_STATUS 5 false).raise Ev.RIDGE_LOST (pairPay s 0 0 s.shw.frame)
      let s := { s with rdg := { s.rdg with netGone := !s.rb R.RDG_STATUS 7, awaiting := none } }
      let s := if inStandby s then enterState 6 0 s else s
      standbyGone (decide_ (sendNetHeartbeat s))
    else decide_ s

/-- NET_HEARTBEAT_RX (R392): a heartbeat whose tag verifies. -/
def netHeard (h : Heartbeat) (tag : List Byte) (s : Device) : Device :=
  if rdgState s = 0 || !s.rb R.RDG_CTRL 2 || tag ≠ hbTag s h then s
  else hearPeer h true ((s.setB R.RDG_STATUS 7 true).setN R.RDG_LAST_HB_NET s.shw.time)

/-- NET_PATH_LOST (R392, R410): three expected heartbeats were missed, or neither port is linked. -/
def netLost (s : Device) : Device :=
  if rdgState s = 0 then s
  else
    let linked := s.rb (R.NET_STATUS 4) 0 || s.rb (R.NET_STATUS 5) 0
    let s := (s.count R.RDG_NET_MISS (if linked then 3 else 0)).setB R.RDG_STATUS 7 false
    standbyGone (decide_ (s.raise Ev.NET_PATH_LOST (pairPay s 0 0 s.shw.frame)))

/-- RIDGE_HEARTBEAT_TX (R391): the next whole millisecond of show time. -/
def ridgeBeat (s : Device) : Device :=
  if rdgState s = 0 then s
  else sendRidgeHeartbeat (refreshHolding (s.elapse ((1000000 - s.shw.time % 1000000) % 1000000)))

/-- NET_HEARTBEAT_TX (R392): each multiple of 10 ms of show time, or of 1 ms while the ridge is lost or the unit holds. -/
def netBeat (s : Device) : Device :=
  let step := if ridgeUp s && !s.rb R.RDG_STATUS 9 then 10000000 else 1000000
  if rdgState s = 0 then s else sendNetHeartbeat (s.elapse ((step - s.shw.time % step) % step))

/-! ### Lanes -/

/-- A lane goes down (R390). -/
def laneDown (k : Nat) (s : Device) : Device :=
  if !s.rb R.RDG_LINK k then s
  else
    let s := (s.setB R.RDG_LINK k false).raise Ev.RIDGE_DEGRADED (pairPay s 0 k s.shw.frame)
    { s with rdg := { s.rdg with resends := s.rdg.resends.del k, downAt := s.rdg.downAt.put k s.clock } }

/-- RIDGE_RESEND_TIMEOUT (R390): the message goes again, and after three resends the lane is down. -/
def resend (k : Nat) (s : Device) : Device :=
  if !s.rb R.RDG_LINK k then s
  else if 3 ≤ s.rdg.resends.getD 0 k then laneDown k s
  else
    let s := { s with rdg := { s.rdg with resends := s.rdg.resends.put k (s.rdg.resends.getD 0 k + 1) } }
    let s := s.setF R.RDG_LINK 15 8 (min 255 (s.rf R.RDG_LINK 15 8 + 1))
    match s.sent.reverse.find? (fun m => m.out = .ridge) with
    | some m => s.send .ridge m.data
    | none => s

/-- RIDGE_LANE_RETRAIN (R390): a lane that has held block lock for 1 s returns. -/
def retrain (k : Nat) (held : Bool) (s : Device) : Device :=
  if s.rb R.RDG_LINK k || !held then s
  else { s.setB R.RDG_LINK k true with rdg := { s.rdg with downAt := s.rdg.downAt.del k } }

/-! ### Capture records -/

/-- The merged values of the enabled universes, in table order (R395). -/
def universeValues (s : Device) : List (List Byte) :=
  ((upto (s.rf R.NET_SACN_COUNT 12 0)).filter (fun i => (uniEntry s i).flags.testBit 0)).map (fun i => peek s (uniEntry s i).values 512)

/-- The streams' part of a capture: the RTP timestamp and digest of the frame taken of each enabled stream (R395). -/
def capStreams (s : Device) (own : Table (Nat × BitVec 32)) : List CapStream :=
  ((upto 32).filter (fun n => s.rb (R.STRM_CTRL n) 0)).map (fun n =>
    match own.find n with
    | some (b, rtp) => { stream := n, rtp := some rtp, digest := (((s.stream n).held.find b).map (·.2)).getD 0 }
    | none => { stream := n, rtp := none, digest := 0 })

/-- The universe values that a content frame has taken (R32). -/
def takenValues (s : Device) (content : Nat) : List (List Byte) := ((s.pipe.find? (fun d => d.content = content)).map (·.unis)).getD []

/-- The capture record of a content frame (R395). -/
def captureRecord (s : Device) (content : Nat) (own : Table (Nat × BitVec 32)) : CaptureRecord :=
  let u := takenValues s content
  { content := content, streams := capStreams s own, universes := BitVec.ofNat 32 (crc32c u.flatten),
    uniXor := (u.foldl (fun (a : BitVec 32) v => a ^^^ BitVec.ofNat 32 (crc32c v)) 0), deltaSeq := s.rn R.RDG_DELTA_SEQ }

/-- A capture record as numbers (PRESUMED, log 9). -/
def captureNums (r : CaptureRecord) : List Nat :=
  r.content :: r.universes.toNat :: r.uniXor.toNat :: r.deltaSeq ::
  r.streams.flatMap (fun c => [c.stream, b2n c.rtp.isSome, (c.rtp.getD 0).toNat, c.digest.toNat])

/-- The digest of a capture's inputs (R420). -/
def inputDigest (r : CaptureRecord) : Nat :=
  crc32c (r.streams.flatMap (fun c => leBytes 4 (c.rtp.getD 0).toNat ++ leBytes 4 c.digest.toNat) ++ leBytes 4 r.universes.toNat)

/-- The newest complete frame of each stream at the capture instant. -/
def ownFrames (s : Device) : Table (Nat × BitVec 32) :=
  (upto 32).foldl (fun (t : Table (Nat × BitVec 32)) n => match (s.stream n).newest with
    | some f => t.put n f
    | none => t) []

/-- The frame of a stream that a standby composes (R395): the active's where a buffer holds it with an equal digest, else its own; and whether
that is a miss. -/
def chooseFrame (s : Device) (own : Table (Nat × BitVec 32)) (c : CapStream) : Option (Nat × BitVec 32) × Bool :=
  match c.rtp with
  | none => (none, false)
  | some rtp =>
    match (s.stream c.stream).held.find? (fun (p : Nat × BitVec 32 × BitVec 32) => p.2.1 = rtp && p.2.2 = c.digest) with
    | some (b, _, _) => (some (b, rtp), false)
    | none => (own.find c.stream, true)

/-- A content frame that reads a stream's newest frame reads it by the format, size and buffers it was received under (R81). -/
def receivedAs (s : Device) (d : FrameCtx) (own : Table (Nat × BitVec 32)) : FrameCtx :=
  (upto 32).foldl (fun (d : FrameCtx) n => match (s.stream n).cfg, own.find n with
    | some (ctrl, size, buf), some _ =>
      { d with regs := writeFile (writeFile (writeFile d.regs (R.STRM_CTRL n) ctrl) (R.STRM_SIZE n) size) (R.STRM_BUF n) buf }
    | _, _ => d) d

/-- The frames of a capture are taken (R32, R141): the layers capture, the buffers are in use, the composition starts. -/
def takeFrames (content : Nat) (own : Table (Nat × BitVec 32)) (missed noRecord : Bool) (s : Device) : Device :=
  match s.pipe.find? (fun d => d.content = content) with
  | none => s
  | some d =>
    let s := s.each (upto 32) fun s n =>
      if s.net.streams.find n = none then s else s.setStream n { s.stream n with inUse := (own.find n).map (·.1) }
    let d := receivedAs s d own
    let (s, takes) := captureLayers d.rd (fun n => own.find n) content s
    let d := { d with takes := takes, missed := missed, noRecord := noRecord, digest := inputDigest (captureRecord s content own) }
    startComposition d (s.setCtx d)

/-- A standby composes with the record of the active unit, or without one (R395, R402). -/
def finishCapture (r : Option CaptureRecord) (s : Device) : Device :=
  match s.rdg.awaiting with
  | none => s
  | some content =>
    let own := s.rdg.own
    let s := { s with rdg := { s.rdg with awaiting := none, capRecord := none, own := [] } }
    match r with
    | none => diverge 5 content 0 0 (takeFrames content own false true s)
    | some r =>
      let picks := r.streams.map (fun c => (c.stream, chooseFrame s own c))
      let used := picks.foldl (fun (t : Table (Nat × BitVec 32)) p => match p.2.1 with
        | some f => t.put p.1 f
        | none => t.del p.1) own
      let misses := (picks.filter (fun p => p.2.2)).length
      let s := takeFrames content used (0 < misses) false (s.count R.RDG_CAP_LATE misses)
      let mine := captureRecord s content used
      let differ := mine.universes ≠ r.universes || mine.uniXor ≠ r.uniXor
      let s := if differ then
          s.each ((upto (s.rf R.NET_SACN_COUNT 12 0)).filter (fun i => (uniEntry s i).flags.testBit 0)) (fun s i =>
            ridgeSend ridgeRepairReq [0xFF, i] (s.count R.RDG_REPAIR_REQ 1))
        else s
      if 0 < misses then diverge 1 content 0 0 s else s

/-- Whether the delta that a capture record names has been applied (R205, R395). -/
def deltaTaken (s : Device) (r : CaptureRecord) : Bool := 0 ≤ wrapDiff 32 (s.rn R.RDG_DELTA_SEQ) r.deltaSeq

/-- The status table and the group corrections as a capture takes them (R205, R264). -/
def retake (content : Nat) (s : Device) : Device :=
  match s.pipe.find? (fun d => d.content = content) with
  | some c => s.setCtx { c with temps := s.bat.status, corr := groupCorrs s }
  | none => s

/-- A capture record meets the capture it is of (R205, R395): once the standby has the delta it names, with that delta's statuses and corrections,
else it waits. -/
def meetRecord (r : CaptureRecord) (s : Device) : Device :=
  if s.rdg.awaiting = some r.content && deltaTaken s r then finishCapture (some r) (retake r.content s)
  else { s with rdg := { s.rdg with capRecord := some r } }

/-- The capture of a content frame whose settings are in the pipeline (R32, R395): the active unit reports it, a standby with the ridge up
awaits the active unit's record. -/
def captureFrame (content : Nat) (s : Device) : Device :=
  let own := ownFrames s
  if inStandby s && ridgeUp s then
    let s := { s with rdg := { s.rdg with awaiting := some content, own := own } }
    match s.rdg.capRecord with
    | some r => if r.content = content && deltaTaken s r then finishCapture (some r) (retake content s) else s
    | none => s
  else
    let s := takeFrames content own false (inStandby s) s
    ridgeTell ridgeCapture (captureNums (captureRecord s content own)) s

/-- CAPTURE_RECORD_RX (R395). -/
def captureHeard (r : CaptureRecord) (s : Device) : Device := if !inStandby s then s else meetRecord r s

/-- CAP_WAIT_EXPIRY (R395): CAP_WAIT after the capture instant. -/
def captureExpired (s : Device) : Device :=
  if s.rdg.awaiting.isNone then s
  else
    let start := ((s.pipe.find? (fun d => some d.content = s.rdg.awaiting)).map (·.start)).getD s.clock
    finishCapture (s.rdg.capRecord.filter (fun r => some r.content = s.rdg.awaiting)) (s.elapseTo (start + 1000 * s.rf R.RDG_TIMING 7 0))

/-! ### Output records -/

/-- OUTPUT_RECORD_RX (R401, R273, R276): the standby takes the scales and guard decisions and leaves the excluded chains out. -/
def outputHeard (r : OutputRecord) (s : Device) : Device :=
  if !inStandby s then s
  else
    let s := { s with rdg := { s.rdg with records := (s.rdg.records ++ [r]).reverse.take 4 |>.reverse } }
    let s := s.each r.scales.zipIdx (fun s p => (s.setN (R.HDR_Zz_SCALE p.2) p.1).setB (R.HDR_Zz_STATUS p.2) 1 (p.1 < 65536))
    let s := s.modCtx r.content (fun d => { d with excluded := r.excluded, withheld := r.withheld })
    s.modCtx (frameAdd r.content 1) (fun d => { d with withheld := r.guards })

/-- The comparison at the latch instant of a content frame (R401, R402). -/
def compareOutput (d : FrameCtx) (s : Device) : Device :=
  let rec_ := s.rdg.records.find? (fun r => r.content = d.content)
  let banks := bankDigests s d (match rec_ with
    | some r => r.excluded
    | none => excludedChains s d)
  let out := outputDigest d.canvas banks
  let s := (s.set64 R.RDG_DIG_FRAME_LO R.RDG_DIG_FRAME_HI d.content).setN R.RDG_DIG_IN_LOCAL d.digest
  let s := s.setN R.RDG_DIG_OUT_LOCAL out
  if !inStandby s then s
  else match rec_ with
    | none => if ridgeUp s then diverge 5 d.content 0 0 s else s
    | some r =>
      let s := { s with rdg := { s.rdg with records := s.rdg.records.filter (fun x => x.content ≠ d.content) } }
      let s := s.setReg R.RDG_DIG_OUT_PEER r.output
      if r.output.toNat = out then
        { s.set64 R.RDG_INSTEP_FRAME_LO R.RDG_INSTEP_FRAME_HI d.content with
          rdg := { s.rdg with matched := !s.pipe.any (fun e => e.missed) } }
      else
        let mask := sumL ((banks.zip r.banks).zipIdx.map (fun p => if p.1.1 = p.1.2.toNat then 0 else 2 ^ p.2))
        diverge 0 d.content (b2n (decide (r.canvas.toNat ≠ d.canvas))) mask s

/-- What the latch instant of a content frame does for the pair (R401, R408, R409, R413, R415). -/
def pairLatch (d : Option FrameCtx) (s : Device) : Device :=
  if rdgState s = 0 then s
  else
    let s := match d with
      | some d => sendOutput d s
      | none => s
    let s := judgeWitnesses d s
    let s := match d with
      | some d => compareOutput d s
      | none => s
    let any := d.any (fun d => d.marks.any (fun p => p.2.testBit 0))
    let all := d.any (fun d => (upto 512).all (fun c => !chainOn d.rd c || (d.marks.getD 0 c).testBit 3))
    let content := (d.map (·.content)).getD 0
    let s :=
      if rdgState s ≠ 7 then s
      else if !any then { s with rdg := { s.rdg with missed := s.rdg.missed + 1 } }
      else
        let s := if s.rf R.RDG_TAKEOVER_INFO 7 4 = 0 && s.get64 R.RDG_TAKEOVER_FRAME_LO R.RDG_TAKEOVER_FRAME_HI ≠ content then
          (s.set64 R.RDG_TAKEOVER_FRAME_LO R.RDG_TAKEOVER_FRAME_HI content).setF R.RDG_TAKEOVER_INFO 7 4 (min 15 s.rdg.missed) else s
        if all then enterState 2 (s.rf R.RDG_TAKEOVER_INFO 2 0) s else s
    if pairActive s && d.isSome && s.rdg.yieldAt = some content then
      let s := { s with rdg := { s.rdg with yieldAt := none } }
      sendRidgeHeartbeat (enterState 3 5 (s.setB R.RDG_CMD 2 false))
    else s

/-! ### Checkpoints -/

/-- An item of carried state as numbers (PRESUMED, log 9). -/
def carriedNums : Carried → List Nat
  | .status f r n t => 1 :: f :: n :: b2n t :: r.map (·.toNat)
  | .corr g c m h => [2, g, trunc 16 c, m, h]
  | .placement f c p mv v => [3, f, c, p, b2n mv, b2n v]
  | .position c p f d u t tr => [4, c, p, (f.map (· + 1)).getD 0, b2n d, u, t, trunc 32 tr]
  | .ranging c n k h r => [5, c, n, k, h, b2n r]
  | .derate f t => [6, f, trunc 32 t]
  | .ageSum f e w => [7, f, e, w]
  | .demand g l => 8 :: g :: l
  | .meterK z k => [9, z, k]
  | .pulse p c r => [10, p, c, r]
  | .sacn u v => 11 :: u :: v.map (·.toNat)
  | .group g es => 12 :: g :: es.flatMap (fun e => [e.1, e.2.toNat])
  | .commit g t es => 13 :: g :: (match t with
      | some (f, l) => [1, f, l]
      | none => [0]) ++ es.flatMap (fun e => [e.1, e.2.1.toNat, e.2.2.toNat])
  | .epoch e => [14, e.toNat]
  | .updateLock b => [15, b2n b]
  | .bankExt b v => [16, b, v.toNat]

/-- The carried state as it stands. -/
def carriedNow (s : Device) : List Carried :=
  s.bat.status.map (fun p => .status p.1 p.2.record p.2.frame p.2.temp) ++
  s.hdr.groups.map (fun p => .corr p.1 p.2.corr p.2.meas (trunc 16 p.2.hmod)) ++
  s.bat.places.map (fun p => .placement p.1 p.2.chain p.2.pos p.2.moved true) ++
  s.bat.chains.flatMap (fun p => p.2.positions.zipIdx.map (fun q =>
    .position p.1 q.2 q.1.fixture q.1.dark q.1.uid (p.2.delays.getD q.2 0) q.1.trim)) ++
  s.bat.chains.map (fun p => .ranging p.1 p.2.positions.length (s.rf (R.BAT_CHn_COMP p.1) 21 0) (s.rf (R.BAT_CHn_HOP p.1) 15 0)
    (s.rb (R.BAT_CHn_STATUS p.1) 6)) ++
  s.pho.td.map (fun p => .derate p.1 p.2) ++
  s.pho.ageW.map (fun p => .ageSum (p.1 / 6) (p.1 % 6) p.2) ++
  s.hdr.demands.map (fun p => .demand p.1 p.2) ++
  (upto 64).map (fun z => .meterK z (s.rn (R.HDR_Zz_K z))) ++
  ((upto 8).filter (fun p => s.rb (R.MTR_Pp_CFG p) 3)).map (fun p => .pulse p (s.rn (R.MTR_Pp_COUNT p)) (s.rn (R.MTR_Pp_RESID p))) ++
  s.net.universes.map (fun p => .sacn p.1 (peek s (uniEntry s p.1).values 512)) ++
  s.kpr.counts.map (fun p => .group p.1 ((groupEntries s p.1).map (fun e => (e.1, e.2.2)))) ++
  s.shw.commits.filterMap (fun c => match c.origin with
    | .group g => some (.commit g c.target c.entries)
    | _ => none) ++
  [.epoch (s.reg R.KPR_EPOCH), .updateLock (s.rb R.KPR_UPDATE_LOCK 0)] ++
  (upto 16).map (fun b => .bankExt b (s.reg (R.BAT_BANKb_EXT b)))

/-- The changes of the carried state since the last delta, with the placements that have ended. -/
def carriedDelta (s : Device) (now : List Carried) : List Carried :=
  now.filter (fun c => !s.rdg.carried.contains c) ++
  s.rdg.carried.filterMap (fun c => match c with
    | .placement f ch p mv true => if (placeOf s f).isNone then some (.placement f ch p mv false) else none
    | _ => none)

/-- A sweep (R405): every item of carried state, then every dirty page of the mirrored regions (R399). -/
def sendSweep (s : Device) : Device :=
  let s := ridgeSend ridgeSweep ((carriedNow s).flatMap (fun c => let l := carriedNums c; l.length :: l)) s
  let s := s.each s.rdg.dirty fun s p =>
    let (s, r) := memRead .rdg (65536 * p.1) 65536 s
    ridgeSend ridgeMirror (65536 * p.1 :: r.data.map (·.toNat)) s
  { s.setN R.RDG_SWEEP_COUNT (s.rn R.RDG_SWEEP_COUNT + 1) with rdg := { s.rdg with dirty := [] } }

/-- The delta at a frame boundary (R405); a peer that resyncs is sent a sweep (R406). -/
def sendDelta (s : Device) : Device :=
  if !pairActive s || !ridgeUp s then s
  else
    let now := carriedNow s
    let d := carriedDelta s now
    let seq := (s.rn R.RDG_DELTA_SEQ + 1) % 2 ^ 32
    let s := ridgeSend ridgeDelta (seq :: d.flatMap (fun c => let l := carriedNums c; l.length :: l)) (s.setN R.RDG_DELTA_SEQ seq)
    let s := { s with rdg := { s.rdg with carried := now } }
    match s.rdg.peer with
    | some h => if h.state = 3 || h.state = 5 then sendSweep s else s
    | none => s

/-- Writes a table of the standby that its own agents may not write. -/
def pairStore (off : Nat) (data : List Byte) (s : Device) : Device := memStore .rdg off data s

/-- The position of a chain as the active unit carries it. -/
def carryPosition (c p : Nat) (q : Position) (delay : Nat) (s : Device) : Device :=
  let x := s.chain c
  let ps := x.positions ++ List.replicate (p + 1 - x.positions.length) { fixture := none }
  let ds := x.delays ++ List.replicate (p + 1 - x.delays.length) 0
  s.setChain c { x with positions := ps.set p q, delays := ds.set p delay }

/-- A standby takes an item of carried state (R405). -/
def carry (s : Device) : Carried → Device
  | .status f r n t =>
    let s := { s with bat := { s.bat with status := s.bat.status.put f { record := r, frame := n, temp := t } } }
    pairStore (base4k s.reg R.BAT_STAT_BASE + 32 * f) (r ++ leBytes 6 n ++ leBytes 1 1 ++ List.replicate 9 0) s
  | .corr g c m h =>
    let s := s.setGroup g { s.group g with corr := c, meas := m, hmod := sext 16 h }
    pairStore (base4k s.reg R.HDR_CORR_BASE + 8 * g) (leBytes 2 (trunc 16 c) ++ leBytes 2 m ++ leBytes 2 h ++ leBytes 2 0) s
  | .placement f c p mv v =>
    writePlace f { s with bat := { s.bat with places := if v then s.bat.places.put f { chain := c, pos := p, moved := mv } else s.bat.places.del f } }
  | .position c p f d u t tr => carryPosition c p { fixture := f, dark := d, uid := u, trim := tr } t s
  | .ranging c n k h r =>
    let x := s.chain c
    let s := s.setChain c { x with positions := x.positions.take n, delays := x.delays.take n, fullComp := k }
    let s := ((s.setN (R.BAT_CHn_COMP c) k).setN (R.BAT_CHn_HOP c) (h + 65536 * n)).setB (R.BAT_CHn_STATUS c) 6 r
    writeRanges c (writePositions c s)
  | .derate f t => { s with pho := { s.pho with td := s.pho.td.put f t } }
  | .ageSum f e w => { s with pho := { s.pho with ageW := s.pho.ageW.put (6 * f + e) w } }
  | .demand g l => { s with hdr := { s.hdr with demands := s.hdr.demands.put g l } }
  | .meterK z k => s.setN (R.HDR_Zz_K z) k
  | .pulse p c r => carryPulse p c r s
  | .sacn u v => publish u v s
  | .group g es =>
    let base := base4k s.reg R.KPR_GRP_BASE + 4096 * g
    let s := s.each es.zipIdx (fun s p => pairStore (base + 8 * p.2) (leBytes 4 p.1.1 ++ leBytes 4 p.1.2.toNat) s)
    { s with kpr := { s.kpr with counts := s.kpr.counts.setD 0 g es.length } }
  | .commit g t es =>
    let c : Commit := { origin := .group g, target := t, entries := es }
    if s.shw.commits.contains c then s else { s with shw := { s.shw with commits := s.shw.commits ++ [c] } }
  | .epoch e => s.setReg R.KPR_EPOCH e
  | .updateLock b =>
    (s.setB R.KPR_UPDATE_LOCK 0 b).raiseIf (s.rb R.KPR_UPDATE_LOCK 0 ≠ b) Ev.UPDATE_LOCK_CHANGE (b2n b)
  | .bankExt b v => { s with rdg := { s.rdg with peerExt := s.rdg.peerExt.put b v } }

/-- DELTA_RX (R405): deltas are applied in order; while a sweep is owed any later one is taken. -/
def deltaHeard (seq : Nat) (items : List Carried) (s : Device) : Device :=
  let d := wrapDiff 32 seq (s.rn R.RDG_DELTA_SEQ)
  if !inStandby s || !(d = 1 || (s.rdg.sweepDue && 0 < d)) then s
  else
    let s := (items.foldl carry s).setN R.RDG_DELTA_SEQ seq
    match s.rdg.capRecord with
    | some r => meetRecord r s
    | none => s

/-- SWEEP_RX (R399, R405, R406): the last part completes the sweep. Dirty pages on a unit in step put it in SYNCING with cause MIRROR. -/
def sweepHeard (items : List Carried) (pages : List (Nat × List Byte)) (last : Bool) (s : Device) : Device :=
  if !inStandby s then s
  else
    let s := if !pages.isEmpty && rdgState s = 4 then
        let s := s.set64 R.RDG_DIVERGE_FRAME_LO R.RDG_DIVERGE_FRAME_HI s.shw.frame
        enterState 3 4 (s.setN R.RDG_DIVERGE_INFO 4)
      else s
    let s := items.foldl carry s
    let s := s.each pages (fun s p => pairStore (65536 * p.1) p.2 s)
    if last then
      { (s.setN R.RDG_SWEEP_COUNT (s.rn R.RDG_SWEEP_COUNT + 1)).setB R.RDG_SYNC_STATUS 0 false with rdg := { s.rdg with sweepDue := false } }
    else s

/-- MIRROR_WRITE_RX (R399). -/
def mirrorHeard (off : Nat) (data : List Byte) (s : Device) : Device := if inStandby s then pairStore off data s else s

/-! ### Repair -/

/-- REPAIR_REQUEST_RX (R396): a packet of the last 50 ms, or the values of a universe, asked for as stream 0xFF (log 9). A packet that is gone
is answered empty. -/
def repairAsked (stream seq : Nat) (s : Device) : Device :=
  if !pairActive s then s
  else if stream = 0xFF then
    ridgeSend ridgeRepairData (0xFF :: seq :: (peek s (uniEntry s seq).values 512).map (·.toNat)) s
  else match s.net.kept.find? (fun k => k.1 = stream && k.2.1 = seq && s.clock ≤ k.2.2.1 + 50000000) with
    | some (_, _, _, pkt) => ridgeSend ridgeRepairData (stream :: seq :: pkt.map (·.toNat)) s
    | none => ridgeSend ridgeRepairData [stream, seq] s

/-- REPAIR_DATA_RX (R396). -/
def repairHeard (stream seq : Nat) (packet : List Byte) (univ : Nat) (values : List Byte) (s : Device) : Device :=
  if !inStandby s then s
  else if stream = 0xFF then publish univ values s
  else
    let x := s.stream stream
    let rtp : BitVec 32 := BitVec.ofNat 32 (beAt packet 4 4)
    if packet.isEmpty || x.rtp ≠ some rtp then s.count R.RDG_REPAIR_LATE 1
    else if (x.seen.find seq).isSome then s
    else streamPacket stream 4 packet (s.count R.RDG_REPAIR_OK 1)

/-! ### The health record -/

/-- The growth of a counter that a read may have cleared. -/
def grown (now before : Nat) : Nat := if now < before then now else now - before

/-- The health record (R418). -/
def healthBytes (s : Device) : List Byte :=
  let chains (k : Nat) : Nat := ((upto 512).filter (fun c => chainState s c = k)).length
  let flags := b2n (s.shw.phase = .locked) + 2 * b2n (braced s) +
    4 * b2n (s.rb R.SYS_STATUS 0) + 8 * b2n (witnessOk s) +
    16 * b2n (s.rf R.RDG_LINK 1 0 = 3) + 32 * b2n (s.rb R.RDG_STATUS 7) + 64 * b2n (rdgState s = 4) +
    128 * b2n (s.rb R.HKP_FOG_STATUS 0) + 256 * b2n (s.rb R.RDG_STATUS 9)
  let body := leBytes 2 3 ++ leBytes 1 (b2n (s.rb R.RDG_STATUS 4)) ++ leBytes 1 (rdgState s) ++ leBytes 4 s.rdg.healthSeq ++
    leBytes 8 s.shw.time ++ leBytes 6 (lastLatched s) ++ leBytes 2 flags ++ leBytes 2 (s.rf R.HKP_TJ_MAX 15 0) ++
    leBytes 2 (s.rf R.HKP_MARGIN 15 0) ++ leBytes 2 (min 65535 (grown (s.rn R.MEM_CORR_TOTAL) s.rdg.corrAt)) ++
    leBytes 2 (min 65535 (grown (s.rn R.MEM_UNCORR_TOTAL) s.rdg.uncorrAt)) ++ leBytes 2 (chains 3) ++ leBytes 2 (chains 5) ++
    leBytes 2 (min 65535 (s.rdg.diverged.filter (fun t => s.clock < t + 3600000000000)).length) ++
    leBytes 2 (min 65535 (grown (s.rn R.RDG_REPAIR_OK) s.rdg.repairAt)) ++ leBytes 4 (s.rn R.UPD_RUN_FW) ++
    leBytes 4 ((s.clock - s.sys.released.getD 0) / 1000000000) ++ List.replicate 12 0
  body ++ leBytes 4 (crc32c body)

/-- Stores a health record in 16 registers. -/
def putHealth (off : Nat → Nat) (r : List Byte) (s : Device) : Device := s.each (upto 16) (fun s j => s.setN (off j) (leAt r (4 * j) 4))

/-- HEALTH_RECORD (R417, R418, R405): each second of show time, with the sweep of normal service. -/
def healthTick (s : Device) : Device :=
  if rdgState s = 0 then s
  else
    let s := s.elapse ((1000000000 - s.shw.time % 1000000000) % 1000000000)
    let s := { s with rdg := { s.rdg with healthSeq := (s.rdg.healthSeq + 1) % 2 ^ 32 } }
    let r := healthBytes s
    let s := (putHealth R.RDG_HEALTH_LOCALj r s).raise Ev.HEALTH_RECORD (pairPay s 0 0 s.shw.frame)
    let s := { s with rdg := { s.rdg with corrAt := s.rn R.MEM_CORR_TOTAL, uncorrAt := s.rn R.MEM_UNCORR_TOTAL, repairAt := s.rn R.RDG_REPAIR_OK } }
    let s := ridgeSend ridgeHealth (r.map (·.toNat)) (s.setF R.RDG_LINK 15 8 0)
    if pairActive s && ridgeUp s then sendSweep s else s

/-- HEALTH_RECORD_RX (R418): a record whose CRC fails is discarded. -/
def healthHeard (r : List Byte) (s : Device) : Device :=
  if rdgState s ≠ 0 && r.length = 64 && leAt r 60 4 = crc32c (r.take 60) then putHealth R.RDG_HEALTH_PEERj r s else s

/-! ### Start-up and frame boundaries -/

/-- ROLE_DECISION (R388): at each frame boundary in LISTEN. -/
def roleDecision (s : Device) : Device :=
  if rdgState s ≠ 1 then s
  else
    let start (s : Device) : Device := enterState 2 3 (s.setN R.RDG_TAKEOVER_INFO 3)
    let unitB := s.rb R.RDG_STATUS 4
    match s.rdg.peer.map (·.state) with
    | some st =>
      if st = 2 || st = 7 then enterState 3 3 s
      else if s.rb R.RDG_STATUS 11 then s
      else if !unitB then start s
      else if st = 1 then { s with rdg := { s.rdg with listenRun := some 0, sawLatch := false } }
      else quiet start s
    | none => if !unitB then start s else quiet start s
where
  /-- Unit B waits for three frame periods in which every witness is silent. -/
  quiet (start : Device → Device) (s : Device) : Device :=
    let run : Nat := match s.rdg.listenRun with
      | none => 0
      | some n => if s.rdg.sawLatch then 0 else n + 1
    let s := { s with rdg := { s.rdg with listenRun := some run, sawLatch := false } }
    if 3 ≤ run && (!(witnesses s).isEmpty || !s.rb R.RDG_POLICY 2) then start s else s

/-- What a frame boundary does for the pair (R403, R405): the active unit's delta, the standby's judgement whether it is in step. -/
def pairBoundary (s : Device) : Device :=
  if rdgState s = 0 then s
  else
    let s := refreshHolding s
    if !inStandby s then s
    else
      let caught : Bool := match s.rdg.peer with
        | some h => decide (0 ≤ wrapDiff 32 (s.rn R.RDG_DELTA_SEQ) h.deltaSeq)
        | none => false
      let inStep := s.rdg.matched && caught && !s.rdg.sweepDue && s.rdg.dirty.isEmpty && !s.pipe.any (fun d => d.missed)
      let s := if inStep && (rdgState s = 3 || rdgState s = 5) then
        enterState 4 0 ((s.setN R.RDG_SYNC_STATUS 0).setB R.RDG_CMD 0 false) else s
      if rdgState s = 6 then s else { s with rdg := { s.rdg with wasInStep := rdgState s = 4 } }

/-- Reset with EN = 1 enters LISTEN (R387, R421). -/
def pairStart (s : Device) : Device := if s.rb R.RDG_CTRL 0 && rdgState s = 0 then enterState 1 0 s else s

/-! ### Registers -/

/-- RDG_CMD (R406, R415): RESYNC, TAKE, YIELD. -/
def rdgCmdHandler (v : Word) : Handler :=
  { state := fun s =>
      if wbit v 0 && !inStandby s then .state
      else if wbit v 1 && (!(inStandby s || rdgState s = 1) || peerDrives s) then .state
      else if wbit v 2 && !(pairActive s && (s.rdg.peer.map (·.state)) = some 4) then .state
      else .ok
    check := fun _ => .ok
    effect := fun s =>
      let s := s.when (wbit v 0) (fun s => enterState 3 0 (s.setB R.RDG_CMD 0 true))
      let s := s.when (wbit v 1) (takeOver 4)
      s.when (wbit v 2) fun s =>
        let next := match s.pipe.find? (fun d => d.chains.isEmpty) with
          | some d => d.content
          | none => s.shw.frame
        { s.setB R.RDG_CMD 2 true with rdg := { s.rdg with yieldAt := some next } } }

/-- The RDG registers' own rules (R407). -/
def rdgHandler (w : Who) (off : Nat) (v : Word) : Handler :=
  if off = R.RDG_CMD then rdgCmdHandler v
  else if R.RDG_WITNESSj 0 ≤ off && off ≤ R.RDG_WITNESSj 15 then
    let j := (off - R.RDG_WITNESSj 0) / 4
    { plainHandler w off v with
      check := fun s => if (upto 32).any (fun i => wbit v i && 1 < chainMode s.reg (32 * j + i)) then .conflict else .ok
      effect := fun s =>
        let s := storeWrite w off v s
        { s with rdg := { s.rdg with witness := s.rdg.witness.filter (fun p => p.1 / 32 ≠ j || wbit v (p.1 % 32)) } } }
  else plainHandler w off v

/-- Milliseconds since an instant, saturating. -/
def msSince (s : Device) (top : Nat) (t : Option Nat) : Nat := match t with
  | some t => min top ((s.clock - t) / 1000000)
  | none => top

/-- What the RDG registers read as where they show live state (R408, R420, R422). -/
def rdgView (s : Device) (off : Nat) : Option Word :=
  let n (k : Nat) : Option Word := some (BitVec.ofNat 32 k)
  if off = R.RDG_STATUS then
    some (setBit (setBit (s.reg off) 6 (s.rf R.RDG_LINK 1 0 = 3)) 8 (rdgState s ≠ 0 && witnessOk s))
  else if off = R.RDG_PEER then
    let last := match s.rdg.ridgeAt, s.rdg.netAt with
      | some a, some b => some (max a b)
      | some a, none => some a
      | none, b => b
    n (s.rf off 15 0 + 65536 * (if s.rdg.peer.isNone then 0 else msSince s 65535 last))
  else if off = R.RDG_LINK then some (if s.rdg.healthSeq = 0 then s.reg off else setFld (s.reg off) 31 16 (Config.ridgeLoad s.rdg.healthSeq).toNat)
  else if off = R.RDG_WITNESS_STATUS then n ((witnessesOk s).length + 65536 * (witnesses s).length)
  else if off = R.RDG_STATE_TIME then n (if rdgState s = 0 then 0 else msSince s (2 ^ 32 - 1) (some s.rdg.stateAt))
  else if off = R.RDG_DIRTY_PAGES then n s.rdg.dirty.length
  else none

/-! ### The commands -/

/-- RIDGE_HEARTBEAT_TX (R391). -/
def execRidgeHeartbeatTx (st : State) : Host.Outcome State Fault Refusal :=
  st.onDevice fun s => .next (ridgeBeat s)

/-- RIDGE_HEARTBEAT_RX (R391). -/
def execRidgeHeartbeatRx (hb : Heartbeat) (st : State) : Host.Outcome State Fault Refusal :=
  st.onDevice fun s => .next (ridgeHeard hb s)

/-- RIDGE_HEARTBEAT_MISS (R391). -/
def execRidgeHeartbeatMiss (st : State) : Host.Outcome State Fault Refusal :=
  st.onDevice fun s => .next (ridgeMissed s)

/-- RIDGE_RESEND_TIMEOUT (R390). -/
def execRidgeResendTimeout (lane : Nat) (st : State) : Host.Outcome State Fault Refusal :=
  st.onDevice fun s => onUnit (lane < 2) (resend lane s)

/-- RIDGE_BLOCK_LOCK_LOSS (R390). -/
def execRidgeBlockLockLoss (lane : Nat) (st : State) : Host.Outcome State Fault Refusal :=
  st.onDevice fun s =>
  onUnit (lane < 2) (laneDown lane (s.count R.RDG_LINK_ERR 1))

/-- RIDGE_LANE_RETRAIN (R390). -/
def execRidgeLaneRetrain (lane : Nat) (lockHeld : Bool) (st : State) : Host.Outcome State Fault Refusal :=
  st.onDevice fun s =>
  onUnit (lane < 2) (retrain lane lockHeld s)

/-- NET_HEARTBEAT_TX (R392). -/
def execNetHeartbeatTx (st : State) : Host.Outcome State Fault Refusal :=
  st.onDevice fun s => .next (netBeat s)

/-- NET_HEARTBEAT_RX (R392). -/
def execNetHeartbeatRx (hb : Heartbeat) (tag : List Byte) (st : State) : Host.Outcome State Fault Refusal :=
  st.onDevice fun s => .next (netHeard hb tag s)

/-- NET_PATH_LOST (R392). -/
def execNetPathLost (st : State) : Host.Outcome State Fault Refusal :=
  st.onDevice fun s => .next (netLost s)

/-- CAPTURE_RECORD_RX (R395). -/
def execCaptureRecordRx (r : CaptureRecord) (st : State) : Host.Outcome State Fault Refusal :=
  st.onDevice fun s => .next (captureHeard r s)

/-- CAP_WAIT_EXPIRY (R395). -/
def execCapWaitExpiry (st : State) : Host.Outcome State Fault Refusal :=
  st.onDevice fun s => .next (captureExpired s)

/-- OUTPUT_RECORD_RX (R401). -/
def execOutputRecordRx (r : OutputRecord) (st : State) : Host.Outcome State Fault Refusal :=
  st.onDevice fun s => .next (outputHeard r s)

/-- MIRROR_WRITE_RX (R399). -/
def execMirrorWriteRx (off : Nat) (data : List Byte) (st : State) : Host.Outcome State Fault Refusal :=
  st.onDevice fun s => .next (mirrorHeard off data s)

/-- DELTA_RX (R405). -/
def execDeltaRx (seq : Nat) (items : List Carried) (st : State) : Host.Outcome State Fault Refusal :=
  st.onDevice fun s => .next (deltaHeard seq items s)

/-- SWEEP_RX (R405). -/
def execSweepRx (items : List Carried) (pages : List (Nat × List Byte)) (last : Bool) (st : State) :
    Host.Outcome State Fault Refusal :=
  st.onDevice fun s => .next (sweepHeard items pages last s)

/-- REPAIR_REQUEST_RX (R396). -/
def execRepairRequestRx (stream seq : Nat) (st : State) : Host.Outcome State Fault Refusal :=
  st.onDevice fun s => .next (repairAsked stream seq s)

/-- REPAIR_DATA_RX (R396). -/
def execRepairDataRx (stream seq : Nat) (packet : List Byte) (univ : Nat) (values : List Byte) (st : State) :
    Host.Outcome State Fault Refusal :=
  st.onDevice fun s => .next (repairHeard stream seq packet univ values s)

/-- HEALTH_RECORD (R418). -/
def execHealthRecord (st : State) : Host.Outcome State Fault Refusal :=
  st.onDevice fun s => .next (healthTick s)

/-- HEALTH_RECORD_RX (R418). -/
def execHealthRecordRx (record : List Byte) (st : State) : Host.Outcome State Fault Refusal :=
  st.onDevice fun s => .next (healthHeard record s)

/-- ROLE_DECISION (R388). -/
def execRoleDecision (st : State) : Host.Outcome State Fault Refusal :=
  st.onDevice fun s => .next (roleDecision s)

/-- WITNESS_LATCH_SEEN (R407). -/
def execWitnessLatchSeen (c : Nat) (st : State) : Host.Outcome State Fault Refusal :=
  st.onDevice fun s => onUnit (c < 512) (witnessSeen c s)

/-- TAKEOVER_WAIT_EXPIRY (R409). -/
def execTakeoverWaitExpiry (st : State) : Host.Outcome State Fault Refusal :=
  st.onDevice fun s => .next (waitExpired s)

/-- RDG_CMD.RESYNC (R406). -/
def execResync (w : Who) (v : Word) (st : State) : Host.Outcome State Fault Refusal :=
  st.onDevice fun s =>
  .next (regWrite s w R.RDG_CMD v (rdgHandler w R.RDG_CMD v))

/-- RDG_CMD.TAKE (R415). -/
def execTake (w : Who) (v : Word) (st : State) : Host.Outcome State Fault Refusal :=
  st.onDevice fun s =>
  .next (regWrite s w R.RDG_CMD v (rdgHandler w R.RDG_CMD v))

/-- RDG_CMD.YIELD (R415). -/
def execYieldRole (w : Who) (v : Word) (st : State) : Host.Outcome State Fault Refusal :=
  st.onDevice fun s =>
  .next (regWrite s w R.RDG_CMD v (rdgHandler w R.RDG_CMD v))

end Sys2Proof.Machine
end

