-- ==== Sys2Proof/Machine/Snapshot.lean ====
section
/-! DEFINITION. Snapshots (R46, R49): the values of the snapshot sets, the layout of a slot, and its writing. -/

namespace Sys2Proof.Machine

/-- The value of a register as a snapshot copies it. -/
def snapReg (s : Device) (off : Nat) : Nat :=
  let v := ((((cmpView s off).orElse fun _ => phoView s off).orElse fun _ => batView s off).orElse fun _ => mtrView s .repair off).orElse
    fun _ => rdgView s off
  (v.getD (s.reg off)).toNat

/-- A register as a part holds it. -/
def snapWord (s : Device) (off : Nat) : List Byte := leBytes 4 (snapReg s off)

/-- A value held in two registers, low word first (R49). -/
def snapPair (s : Device) (lo hi : Nat) : List Byte := snapWord s lo ++ snapWord s hi

/-- A register of every instance (R49). -/
def snapAll (s : Device) (n : Nat) (off : Nat → Nat) : List Byte := (upto n).flatMap (fun i => snapWord s (off i))

/-- A register of every current channel (R49, R310). -/
def snapMeters (s : Device) (off : Nat → Nat) : List Byte := (upto 48).flatMap (fun i => snapWord s (off (16 + i)))

/-- A part: base offset, length, values (R49). -/
def snapPart (base : Nat) (data : List Byte) : List Byte := leBytes 4 base ++ leBytes 4 (data.length + 8) ++ data

/-- CMP and CHK (R162). DESIGN CHOICE (log 59): the values of CHK unit by unit. -/
def snapCmp (s : Device) : List Byte :=
  snapPair s R.CMP_DONE_FRAME_LO R.CMP_DONE_FRAME_HI ++
  [R.CMP_STATUS, R.CMP_LAST_TIME, R.CMP_LATE, R.CMP_PARITY, R.CMP_CACHE_BUILDS, R.CMP_SRC_MISSING].flatMap (snapWord s) ++
  (upto 64).flatMap (fun u => snapWord s (R.CHK_RESULT_PREV u) ++ snapPair s (R.CHK_RESULT_FRAME_LO u) (R.CHK_RESULT_FRAME_HI u) ++
    snapWord s (R.CHK_MISMATCHES u))

/-- PHO (R207). -/
def snapPho (s : Device) : List Byte :=
  snapPair s R.PHO_DONE_FRAME_LO R.PHO_DONE_FRAME_HI ++ snapPair s R.PHO_ZONE_FRAME_LO R.PHO_ZONE_FRAME_HI ++
  snapAll s 64 R.PHO_ZONE_PRED_z ++ snapAll s 64 R.PHO_ZONE_SAFE_z ++ snapPair s R.PHO_REPLAN_FRAME_LO R.PHO_REPLAN_FRAME_HI ++
  [R.PHO_AGE_STATUS, R.PHO_GAIN_CLIP, R.PHO_GAMUT_CLIP, R.PHO_TEMP_STALE, R.PHO_LATE, R.PHO_READ_ERR,
    R.PHO_TRIM_REJECTED].flatMap (snapWord s)

/-- BAT (R250). -/
def snapBat (s : Device) : List Byte :=
  [R.BAT_UNDERRUN, R.BAT_RB_CRC, R.BAT_MOVED, R.BAT_NOT_FOUND].flatMap (snapWord s) ++ snapAll s 512 R.BAT_CHn_STATUS ++
  snapAll s 512 R.BAT_CHn_ERR

/-- HDR (R282). DESIGN CHOICE (log 59): one array for each quantity, as in BAT's and MTR's parts. -/
def snapHdr (s : Device) : List Byte :=
  snapPair s R.HDR_FRAME_LO R.HDR_FRAME_HI ++
  [R.HDR_Zz_BUDGET, R.HDR_Zz_BEFF, R.HDR_Zz_PRED, R.HDR_Zz_MEAS, R.HDR_Zz_K, R.HDR_Zz_SCALE, R.HDR_Zz_STATUS].flatMap (snapAll s 64) ++
  [R.HDR_RAIL_CLIP, R.HDR_HR_LOW, R.HDR_GUARD_HOLDS, R.HDR_RAIL_SLOW].flatMap (snapWord s)

/-- MTR (R310). DESIGN CHOICE (log 59): one array for each quantity. -/
def snapMtr (s : Device) : List Byte :=
  (upto 48).flatMap (fun i => snapPair s (R.MTR_Cn_IMP_LO (16 + i)) (R.MTR_Cn_IMP_HI (16 + i))) ++
  (upto 48).flatMap (fun i => snapPair s (R.MTR_Cn_EXP_LO (16 + i)) (R.MTR_Cn_EXP_HI (16 + i))) ++
  [R.MTR_Cn_WIN_IMP, R.MTR_Cn_WIN_EXP, R.MTR_Cn_WRAP, R.MTR_Cn_P].flatMap (snapMeters s) ++
  snapAll s 8 R.MTR_Pp_COUNT ++ snapAll s 8 R.MTR_Pp_BACKLOG ++ snapWord s R.MTR_SAVE_SEQ

/-- MEM (R348). -/
def snapMem (s : Device) : List Byte :=
  [R.MEM_CORR_TOTAL, R.MEM_UNCORR_TOTAL, R.MEM_POISON_READS, R.MEM_SRAM_CORR, R.MEM_SRAM_UNCORR, R.MEM_SCRUB_PASSES,
    R.MEM_SHARE_SHORT_CNT].flatMap (snapWord s) ++
  [R.MEM_Rr_CORR, R.MEM_Rr_UNCORR, R.MEM_Rr_POISON].flatMap (snapAll s 32)

/-- RDG (R419). -/
def snapRdg (s : Device) : List Byte :=
  [R.RDG_STATUS, R.RDG_PEER].flatMap (snapWord s) ++ snapPair s R.RDG_INSTEP_FRAME_LO R.RDG_INSTEP_FRAME_HI ++
  snapPair s R.RDG_DIVERGE_FRAME_LO R.RDG_DIVERGE_FRAME_HI ++ snapWord s R.RDG_DIVERGE_INFO ++
  (upto 11).flatMap (fun i => snapWord s (R.RDG_RIDGE_MISS + 4 * i))

/-- The parts of a slot in their order (R49). -/
def snapParts (s : Device) : List Byte :=
  snapPart 0x100000 (snapCmp s) ++ snapPart 0x140000 (snapPho s) ++ snapPart 0x180000 (snapBat s) ++ snapPart 0x1D0000 (snapHdr s) ++
  snapPart 0x1E0000 (snapMtr s) ++ snapPart 0x200000 (snapMem s) ++ snapPart 0x210000 (snapRdg s)

/-- A slot's bytes but for the CRC, which lies between the two lists (R49). -/
def snapBytes (s : Device) (seq slot tag : Nat) : List Byte × List Byte :=
  let parts := snapParts s
  (leBytes 4 seq ++ leBytes 8 s.shw.time ++ leBytes 6 s.shw.frame ++ leBytes 2 s.shw.line ++ leBytes 2 tag ++ leBytes 1 slot ++
    leBytes 1 0 ++ leBytes 4 (32 + parts.length), parts)

/-- The address of a slot (R49). -/
def snapAt (s : Device) (slot : Nat) : Nat := base4k s.reg R.SHOW_SNAP_BASE + 16384 * slot

/-- A slot that begins to be written: what it will hold, but for a CRC that fails (R49). DESIGN CHOICE (log 20): the complement of the CRC. -/
def beginSlot (j : SnapJob) (s : Device) : Device :=
  let bad := (j.bytes.drop 28).take 4 |>.map (fun b => ~~~ b)
  (memStore .show (snapAt s j.slot) (j.bytes.take 28 ++ bad ++ j.bytes.drop 32) s).setB R.SHOW_SNAP_STATUS (12 + j.slot) true

/-- A SNAPSHOT (R46, R49): the values are frozen and wait for the slot to be written. -/
def snapshotAction (slot tag : Nat) (s : Device) : Device :=
  let seq := (s.shw.snapSeq + 1) % 2 ^ 32
  let (head, parts) := snapBytes s seq slot tag
  let j : SnapJob := { slot := slot, tag := tag, bytes := head ++ leBytes 4 (crc32c (head ++ parts)) ++ parts }
  let busy := s.shw.snaps.any (fun k => k.slot = slot)
  let s := { s with shw := { s.shw with snapSeq := seq, snaps := s.shw.snaps ++ [j] } }
  let s := s.when (s.rb R.SHOW_SNAP_STATUS (4 + slot)) (fun s => s.setB R.SHOW_SNAP_STATUS (8 + slot) true)
  if busy then s else beginSlot j s

/-- SNAPSHOT_TAKEN (R49): the oldest job of the slot completes, and a further one begins. -/
def snapshotDone (slot : Nat) (s : Device) : Device :=
  match s.shw.snaps.find? (fun k => k.slot = slot) with
  | none => s
  | some j =>
    let s := memStore .show (snapAt s slot) j.bytes s
    let s := { s with shw := { s.shw with snaps := s.shw.snaps.erase j } }
    let s := s.when (s.rb R.SHOW_SNAP_STATUS (4 + slot)) (fun s => s.setB R.SHOW_SNAP_STATUS (8 + slot) true)
    let s := ((s.setB R.SHOW_SNAP_STATUS slot true).setB R.SHOW_SNAP_STATUS (4 + slot) true).setB R.SHOW_SNAP_STATUS (12 + slot) false
    let s := s.raise Ev.SNAPSHOT_TAKEN (pay2 slot j.tag)
    match s.shw.snaps.find? (fun k => k.slot = slot) with
    | none => s
    | some k => beginSlot k s

/-- SNAPSHOT_TAKEN: a snapshot slot is complete. -/
def execSnapshotTaken (slot : Nat) (st : State) : Host.Outcome State Fault Refusal :=
  st.onDevice fun s => onUnit (slot < 4) (snapshotDone slot s)

end Sys2Proof.Machine
end

