-- ==== Sys2Proof/Machine/Flash.lean ====
section
/-! DEFINITION. The configuration flash (R429, R431, R432, R457): its bytes, the directory, the firmware slots, and the staging area of the field
update. -/

namespace Sys2Proof.Machine

/-! ### Bytes -/

/-- A byte of the flash; an erased byte reads 0xFF. -/
def flashByte (s : Device) (a : Nat) : Byte := s.sys.flash.getD 0xFF a

/-- Bytes of the flash. -/
def flashRead (s : Device) (a n : Nat) : List Byte := (upto n).map (fun i => flashByte s (a + i))

/-- A little-endian number in the flash. -/
def flashNum (s : Device) (a n : Nat) : Nat := ofLe (flashRead s a n)

/-- Writes bytes to the flash. -/
def flashWrite (a : Nat) (data : List Byte) (s : Device) : Device :=
  let flash := data.zipIdx.foldl (fun (t : Table Byte) p => t.setD 0xFF (a + p.2) p.1) s.sys.flash
  { s with sys := { s.sys with flash := flash } }

/-- Erases a range of the flash. -/
def flashErase (a n : Nat) (s : Device) : Device :=
  { s with sys := { s.sys with flash := s.sys.flash.filter (fun p => p.1 < a || a + n ≤ p.1) } }

/-! ### The directory (R429) -/

/-- An area of the directory: KIND, OFFSET, SIZE. -/
structure Area where
  kind : Nat
  off  : Nat
  size : Nat
deriving DecidableEq, Repr

/-- The offset of a directory copy. -/
def dirOff (k : Nat) : Nat := if k = 0 then 0 else 0x8000

/-- Whether a directory copy is good. PRESUMED: MAGIC, SEQ and COUNT are the first three words, the entries follow from byte 16, and the CRC is
the last word of the 4 KiB. -/
def dirGood (s : Device) (k : Nat) : Bool :=
  let b := flashRead s (dirOff k) 4096
  leAt b 0 4 = 0x5249444E && leAt b 4092 4 = crc32c (b.take 4092)

/-- The SEQ of a directory copy. -/
def dirSeq (s : Device) (k : Nat) : Nat := flashNum s (dirOff k + 4) 4

/-- The directory copy in use: the good one, or of two good ones that with the higher SEQ. -/
def dirUsed (s : Device) : Option Nat :=
  match dirGood s 0, dirGood s 1 with
  | true, true => some (if dirSeq s 0 < dirSeq s 1 then 1 else 0)
  | true, false => some 0
  | false, true => some 1
  | false, false => none

/-- The areas that a directory copy lists. PRESUMED: an entry is KIND, OFFSET, SIZE and a reserved word. -/
def dirAreas (s : Device) (k : Nat) : List Area :=
  (upto (min 255 (flashNum s (dirOff k + 8) 4))).map (fun i =>
    let b := flashRead s (dirOff k + 16 + 16 * i) 16
    { kind := leAt b 0 4, off := leAt b 4 4, size := leAt b 8 4 })

/-- The areas of a KIND in the directory in use, in its order. -/
def areasOf (s : Device) (kind : Nat) : List Area :=
  match dirUsed s with
  | some k => (dirAreas s k).filter (fun a => a.kind = kind)
  | none => []

/-- The first area of a KIND. -/
def areaOf (s : Device) (kind : Nat) : Option Area := (areasOf s kind).head?

/-! ### Firmware slots (R431, R432) -/

/-- A firmware slot as its header gives it: whether MAGIC is right, VERSION, SEQ, STATE, ATTEMPT, the body, and whether it verifies. -/
structure Slot where
  magic    : Bool
  version  : Nat
  seq      : Nat
  state    : Nat
  attempt  : Nat
  body     : List Byte
  verifies : Bool
deriving DecidableEq, Repr

/-- The slot that its bytes are, under a fuse MIN_VER (R431). -/
def slotOf (minVer : Nat) (head : List Byte) (rest : List Byte) : Slot :=
  let body := rest.take (leAt head 16 4)
  let pub := (head.drop 52).take 64
  let over_ := head.take 12 ++ (head.drop 16).take 100
  let magic := leAt head 0 4 = 0x57464E50
  { magic := magic, version := leAt head 4 4, seq := leAt head 8 4, state := leAt head 12 1, attempt := leAt head 13 1, body := body,
    verifies := magic && leAt head 16 4 ≤ 0xFFF000 && leAt head 16 4 ≤ rest.length && sha256 pub = Config.rootHash &&
      Config.signed pub (sha256 over_) ((head.drop 116).take 64) && sha256 body = (head.drop 20).take 32 && minVer ≤ leAt head 4 4 }

/-- Slot A (0) or B (1) of the flash, when the directory names it. -/
def slotAt (s : Device) (k : Nat) : Option Slot :=
  (areaOf s (k + 1)).map (fun a =>
    let head := flashRead s a.off 180
    slotOf s.sys.minVer head (flashRead s (a.off + 4096) (leAt head 16 4)))

/-- Writes STATE and ATTEMPT of a slot. -/
def markSlot (k state attempt : Nat) (s : Device) : Device :=
  match areaOf s (k + 1) with
  | some a => flashWrite (a.off + 12) (leBytes 1 state ++ leBytes 1 attempt) s
  | none => s

/-- Whether a slot qualifies (R432). -/
def Slot.qualifies (x : Slot) : Bool := x.verifies && (x.state = 0x3F || (x.state = 0x7F && x.attempt = 0xFF))

/-- Whether a slot found at boot is a trial that was consumed (R432). -/
def Slot.consumed (x : Slot) : Bool := x.magic && x.state = 0x7F && x.attempt = 0

/-- Whether a slot that would be chosen by its SEQ fails to verify (R432). DEDUCED: a slot that is TRIAL or VALID. -/
def Slot.spoilt (x : Slot) : Bool := x.magic && !x.verifies && (x.state = 0x3F || x.state = 0x7F)

/-- The slot that the boot ROM chooses (R432): the one that qualifies, of two the one with the higher SEQ. -/
def chooseSlot (a b : Option Slot) : Option Nat :=
  match a, b with
  | some x, some y =>
    if x.qualifies && y.qualifies then some (if x.seq < y.seq then 1 else 0)
    else if x.qualifies then some 0
    else if y.qualifies then some 1 else none
  | some x, none => if x.qualifies then some 0 else none
  | none, some y => if y.qualifies then some 1 else none
  | none, none => none

/-- What the BOOT block reports of the slots (R450). -/
def reportSlots (s : Device) : Device :=
  let ver (x : Option Slot) : Nat := match x with
    | some y => y.version
    | none => 0
  let st (x : Option Slot) : Nat := match x with
    | some y => y.state + 256 * y.attempt
    | none => 0
  let a := slotAt s 0
  let b := slotAt s 1
  ((s.setN R.BOOT_FW_VER_A (ver a)).setN R.BOOT_FW_VER_B (ver b)).setN R.BOOT_FW_STATE (st a + 65536 * st b)

/-! ### The staging area (R457) -/

/-- The offset of a place in the staging area. -/
def stageAt (s : Device) (o : Nat) : Nat := (match areaOf s 4 with
  | some a => a.off
  | none => 0) + o

/-- The offset of the driver version table. -/
def stageTable : Nat := 36 * 1024

/-- The offset of the blocks. -/
def stageBlocks : Nat := 36 * 1024 + 2 * 1024 * 1024

/-- UPD_CAPACITY: the blocks that the area holds. -/
def stageCapacity (s : Device) : Nat := match areaOf s 4 with
  | some a => min 262144 ((a.size - stageBlocks) / 4096)
  | none => 0

/-- The update state (R461). -/
def updState (s : Device) : Nat := s.rf R.UPD_STATE 3 0

/-- The staging header. PRESUMED: PKG_ID, BLOCKS and state are its first three words, their CRC-32C its fourth. -/
def writeStageHeader (s : Device) : Device :=
  let h := leBytes 4 (s.rn R.UPD_PKG_ID) ++ leBytes 4 (s.rn R.UPD_BLOCKS) ++ leBytes 4 (updState s)
  flashWrite (stageAt s 0) (h ++ leBytes 4 (crc32c h)) s

/-- Enters an update state, with the error code of a failure and the part in progress (R475); a staged package's header follows. -/
def setUpd (state : Nat) (code : Code) (part : Nat) (s : Device) : Device :=
  let s := ((s.setF R.UPD_STATE 3 0 state).setF R.UPD_STATE 18 16 part)
  let s := if code = .ok then s else s.setF R.UPD_STATE 15 8 code.num
  if state = 0 then s else writeStageHeader s

/-- Whether a block is missing by the bitmap. -/
def blockMissing (s : Device) (b : Nat) : Bool := (flashByte s (stageAt s (4096 + b / 8))).toNat.testBit (b % 8)

/-- Sets or clears a block's bitmap bit. -/
def markBlock (b : Nat) (missing : Bool) (s : Device) : Device :=
  let a := stageAt s (4096 + b / 8)
  flashWrite a [BitVec.ofNat 8 (setBit (BitVec.ofNat 32 (flashByte s a).toNat) (b % 8) missing).toNat] s

/-- The missing blocks of the staged package. -/
def missingBlocks (s : Device) : List Nat := (upto (s.rn R.UPD_BLOCKS)).filter (blockMissing s)

/-- UPD_MISSING and UPD_NEXT_MISSING. -/
def reportMissing (s : Device) : Device :=
  let l := missingBlocks s
  (s.setN R.UPD_MISSING l.length).setN R.UPD_NEXT_MISSING (l.headD 0x7FFFF)

/-- The package stream of the stored blocks (R454). -/
def stream (s : Device) (a n : Nat) : List Byte :=
  (upto n).map (fun i => flashByte s (stageAt s (stageBlocks + 4096 * ((a + i) / 4092) + (a + i) % 4092)))

/-- A part entry of the manifest (R455). -/
structure Part where
  index   : Nat
  kind    : Nat
  equal   : Bool
  target  : Nat
  version : Nat
  off     : Nat
  len     : Nat
  digest  : List Byte
  ranges  : List (Nat × Nat)
deriving DecidableEq, Repr

/-- The number of parts of the staged package. -/
def partCount (s : Device) : Nat := min 8 (leAt (stream s 6 2) 0 2)

/-- The parts of the staged package. -/
def partsOf (s : Device) : List Part :=
  (upto (partCount s)).map (fun k =>
    let b := stream s (152 + 96 * k) 96
    { index := k, kind := leAt b 0 1, equal := (leAt b 1 1).testBit 0, target := leAt b 2 2, version := leAt b 4 4, off := leAt b 8 4,
      len := leAt b 12 4, digest := (b.drop 16).take 32,
      ranges := (upto 6).map (fun j => (leAt b (48 + 8 * j) 4, leAt b (52 + 8 * j) 4)) })

/-- Shows the parts in UPD_PARTk_INFO and UPD_PARTk_VER (R475). -/
def reportParts (s : Device) : Device :=
  let s := s.each (upto 8) (fun s k => (s.setN (R.UPD_PARTk_INFO k) 0).setN (R.UPD_PARTk_VER k) 0)
  s.each (partsOf s) fun s p =>
    (s.setN (R.UPD_PARTk_INFO p.index) (p.kind + 256 * b2n p.equal + 512 * b2n (s.rb R.UPD_DONE_MASK p.index) + 1024 + 65536 * p.target)).setN
      (R.UPD_PARTk_VER p.index) p.version

/-- The staging area is found at boot (R457, R474): reception resumes from the bitmap. DEDUCED: a package whose installation or activation a
reset ended is verified and installed anew. -/
def stageBoot (s : Device) : Device :=
  let h := flashRead s (stageAt s 0) 16
  let st := leAt h 8 4
  if (areaOf s 4).isNone || leAt h 12 4 ≠ crc32c (h.take 12) || st = 0 || 8 < st then s
  else
    let s := (s.setN R.UPD_PKG_ID (leAt h 0 4)).setN R.UPD_BLOCKS (leAt h 4 4)
    let s := reportMissing (s.setF R.UPD_STATE 3 0 (if st = 3 || st = 5 || st = 6 then 2 else st))
    if blockMissing s 0 then s else reportParts s

end Sys2Proof.Machine
end

