-- ==== Sys2Proof/Machine/Boot.lean ====
section
/-! DEFINITION. Reset causes, start-up from the configuration flash, supply warnings and brace state, holdup test, settings (R424 to R451). -/

namespace Sys2Proof.Machine

/-! ### Resets (R424, R425) -/

/-- RAIL_RESET (R424, R451): the rail is a bit of SYS_RAIL_STATUS; VDD_AON gives a full reset, SD and MTR_A clear their bit alone. -/
def railReset (rail : Nat) (s : Device) : Device :=
  if rail = 2 then fullReset s
  else if rail = 5 || rail = 6 then (s.setB R.SYS_RAIL_STATUS rail false).raise Ev.RAIL_WARN rail
  else coreReset 1 s

/-- Milliseconds since the reset release. -/
def sinceRelease (s : Device) : Nat := (s.clock - s.sys.released.getD s.clock) / 1000000

/-- The clock at which the watchdog expires (R448). -/
def wdtDue (s : Device) : Nat := s.sys.kicked + 1000000 * s.rf R.SYS_WDT_CFG 15 0

/-- WDT_EXPIRY (R424). -/
def wdtExpiry (s : Device) : Device := if s.rb R.SYS_WDT_CFG 16 then coreReset 3 (s.elapseTo (wdtDue s)) else s

/-- WDT_WARN (R451). -/
def wdtWarn (s : Device) : Device :=
  if s.rb R.SYS_WDT_CFG 16 then
    (s.elapseTo (s.sys.kicked + 500000 * s.rf R.SYS_WDT_CFG 15 0)).raise Ev.WDT_WARN 0
  else s

/-! ### Reset release and the boot ROM (R425, R427, R432, R433) -/

/-- The service loader (R433): only the service port works; FOG_N is asserted but for BOOT_SVC. -/
def serviceLoader (fog : Bool) (s : Device) : Device :=
  let s := ((s.setF R.BOOT_STATUS 3 0 15).setB R.BOOT_STATUS 6 true).setB R.SYS_STATUS 3 true
  if fog then fogBoot s else s

/-- The boot ROM chooses a slot (R432). -/
def chooseBoot (s : Device) : Device :=
  let found := fun (s : Device) (k : Nat) => match slotAt s k with
    | some x => if x.consumed then (markSlot k 0 0 s).raise Ev.SLOT_FALLBACK k else s
    | none => s
  let s := found (found s 0) 1
  let a := slotAt s 0
  let b := slotAt s 1
  match chooseSlot a b with
  | none => serviceLoader true (reportSlots s)
  | some k =>
    let other := if k = 0 then b else a
    let mine := if k = 0 then a else b
    let spoilt : Bool := match mine, other with
      | some x, some y => y.spoilt && x.seq < y.seq
      | _, _ => false
    let s := if spoilt then (s.setB R.BOOT_STATUS 5 true).raise Ev.SLOT_FALLBACK (1 - k) else s
    let trial : Bool := match mine with
      | some x => x.state = 0x7F
      | none => false
    let s := if trial then (markSlot k 0x7F 0 s).setB R.BOOT_TRIAL 0 true else s
    reportSlots ({ s with sys := { s.sys with slot := some k } }.setB R.BOOT_STATUS 4 (k = 1))

/-- RESET_RELEASE (R425, R427, R429, R432, R433): the straps are sampled, the directory read and a slot chosen. -/
def resetRelease (unitB bootSvc : Bool) (s : Device) : Device :=
  if s.sys.released.isSome || s.sys.hot then s
  else
    let s := { s with sys := { s.sys with released := some s.clock, kicked := s.clock } }
    let s := s.setN R.BOOT_STRAPS (b2n unitB + 2 * b2n bootSvc)
    let s := ((s.setB R.RDG_UNIT 0 unitB).setB R.RDG_STATUS 4 unitB).setN R.SYS_RAIL_STATUS 0x7F
    if bootSvc then serviceLoader false s
    else
      let s := s.setN R.BOOT_DIR_STATUS (b2n (dirGood s 0) + 2 * b2n (dirGood s 1) + 4 * b2n (dirUsed s = some 1))
      if (dirUsed s).isNone then serviceLoader true s else stageBoot (chooseBoot s)

/-! ### The show image (R434 to R438) -/

/-- The byte where the show image begins and its area's size. -/
def imageArea (s : Device) : Nat × Nat := match areaOf s 3 with
  | some a => (a.off, a.size)
  | none => (0, 0)

/-- The COUNT of the image header. -/
def imageCount (s : Device) : Nat := flashNum s ((imageArea s).1 + 6) 2

/-- A section's table entry. -/
def sectionEntry (s : Device) (j : Nat) : List Byte := flashRead s ((imageArea s).1 + 64 + 32 * j) 32

/-- Whether the header holds (R434, R436). -/
def headerGood (s : Device) : Bool :=
  let (a, size) := imageArea s
  let h := flashRead s a 64
  let n := leAt h 6 2
  leAt h 0 4 = 0x49534E50 && leAt h 4 2 = 1 && 1 ≤ n && n ≤ 64 &&
  leAt h 60 4 = crc32c (h.take 60 ++ flashRead s (a + 64) (32 * n)) &&
  (upto n).all (fun j => leAt (sectionEntry s j) 4 4 + leAt (sectionEntry s j) 8 4 ≤ size)

/-- The sections of the image, each as its entry tells (R434). -/
def imageSections (s : Device) : List Section :=
  (upto (imageCount s)).map (fun j =>
    let e := sectionEntry s j
    let u := leAt e 1 1 / 2 % 4
    { kind := leAt e 0 1, mine := u = 0 || u = (if s.rb R.BOOT_STRAPS 0 then 2 else 1), unit := u, deflate := (leAt e 1 1).testBit 0,
      len := leAt e 12 4, depends := leAt e 20 8 })

/-- A section of the image. -/
def Device.section (s : Device) (j : Nat) : Section :=
  s.sys.sections.getD j { kind := 0, mine := false, unit := 0, deflate := false, len := 0, depends := 0 }

/-- Changes a section. -/
def Device.modSection (s : Device) (j : Nat) (f : Section → Section) : Device :=
  { s with sys := { s.sys with sections := s.sys.sections.zipIdx.map (fun p => if p.2 = j then f p.1 else p.1) } }

/-- The content of a section, none when its check word fails, or it does not decompress to LEN bytes (R435, R436). -/
def sectionData (s : Device) (j : Nat) : Option (List Byte) :=
  let e := sectionEntry s j
  let stored := flashRead s ((imageArea s).1 + leAt e 4 4) (leAt e 8 4)
  if leAt e 28 4 ≠ crc32cFrom (0xFFFFFFFF ^^^ j) stored then none
  else
    let data := if (s.section j).deflate then Config.inflate stored else some stored
    data.filter (fun d => d.length = (s.section j).len)

/-- The registers that a section sets: REGS holds pairs of offset and value. DEDUCED: each in 4 bytes, as in a commit group (R371). -/
def sectionRegs (kind : Nat) (data : List Byte) : Option (List (Nat × Word)) :=
  if kind = 6 then
    if data.length % 8 ≠ 0 then none
    else some ((upto (data.length / 8)).map (fun i => (leAt data (8 * i) 4, BitVec.ofNat 32 (leAt data (8 * i + 4) 4))))
  else Config.sectionRegs kind data

/-- The range of memory that a TABLE section fills (R434). -/
def sectionRange (s : Device) (j : Nat) : Nat × Nat :=
  let dest := leAt (sectionEntry s j) 16 4
  (regionBase s (dest % 32) + 4096 * fld dest 31 8, (s.section j).len)

/-- A register at boot, with its LK and RW bits taken (R8, R10). -/
def bootStore (off : Nat) (v : Word) (s : Device) : Device :=
  match specAt off with
  | none => s
  | some r =>
    let m : Word := BitVec.ofNat 32 (r.rw ||| r.lk)
    s.setReg off ((s.reg off &&& ~~~ m) ||| (v &&& m))

/-- The value a register has with no section that sets it: BOOT_SRC_WAIT is 2,500 when defaulted (R450). -/
def bootReset (off : Nat) : Word := if off = R.BOOT_SRC_WAIT then 2500 else resetOf off

/-- The default region table (R438). -/
def defaultRegions (s : Device) : Device :=
  let s := s.each (upto 32) (fun s r => ((s.setN (R.MEM_Rr_BASE r) 0).setN (R.MEM_Rr_SIZE r) 0).setN (R.MEM_Rr_CFG r) 0)
  let put (r base size cfg : Nat) (s : Device) : Device :=
    ((s.setN (R.MEM_Rr_BASE r) (256 * base)).setN (R.MEM_Rr_SIZE r) (256 * size)).setReg (R.MEM_Rr_CFG r) (BitVec.ofNat 32 cfg)
  let s := put 0 0 256 (1 + 64) s
  let s := put 1 256 2048 (1 + 2 + 8) s
  let s := put 2 2304 64 (1 + 8) s
  let s := put 3 2368 128 (1 + 4 + 16) s
  s.setN R.MEM_CARVE_BASE (15 * 262144)

/-- A section is not loaded, or no longer: what it set takes its default (R437). -/
def undoSection (j : Nat) (s : Device) : Device :=
  let x := s.section j
  if !x.loaded then s
  else
    let regs := ((sectionData s j).bind (sectionRegs x.kind)).getD []
    let s := s.each regs (fun s p => s.setReg p.1 (bootReset p.1))
    let s := s.modSection j (fun x => { x with loaded := false })
    match x.kind with
    | 1 => defaultRegions s
    | 2 => { s with kpr := { s.kpr with keys := [] }, rdg := { s.rdg with pairKey := [] } }
    | _ => s

/-- The range of a defaulted TABLE section (R437): unwritten in a tracked region, zeros in another. -/
def blankTable (j : Nat) (s : Device) : Device :=
  let (b, n) := sectionRange s j
  if (s.section j).kind ≠ 4 || n = 0 || !inOneRegion s b n then s
  else
    let m := s.mem.clear b n
    { s with mem := if (regionOf s b).any (regionTracked s) then
        { m with valid := m.valid.filter (fun p => p.1 < b / 256 || (b + n) / 256 < p.1) } else { m with filled := (b, n) :: m.filled } }

/-- A section fails, with its code, or takes its defaults by cascade (R436). -/
def failSection (j : Nat) (c : Code) (cascade : Bool) (s : Device) : Device :=
  if (s.section j).failed then s
  else
    let s := (blankTable j (undoSection j s)).modSection j (fun x => { x with failed := true, cascade := cascade, code := c })
    let d := if j < 32 then R.BOOT_SECTION_DEFAULTED_LO else R.BOOT_SECTION_DEFAULTED_HI
    let k := if j < 32 then R.BOOT_SECTION_CASCADE_LO else R.BOOT_SECTION_CASCADE_HI
    let s := (s.setB d (j % 32) true).setB R.SYS_STATUS 0 true
    (if cascade then s.setB k (j % 32) true else s).raise Ev.CFG_DEFAULTED j

/-- Sections that depend on defaulted ones are defaulted with them, through every step of dependence (R436). -/
def cascadeAll (s : Device) : Device :=
  let round (s : Device) : Device :=
    let bad := (upto s.sys.sections.length).filter (fun j => (s.section j).failed)
    s.each (upto s.sys.sections.length) fun s j =>
      let x := s.section j
      if x.mine && !x.failed && bad.any (fun k => x.depends.testBit k) then failSection j .ok true s else s
  s.each s.sys.sections (fun s _ => round s)

/-- Fails a section and those that depend on it. -/
def dropSection (j : Nat) (c : Code) (s : Device) : Device := cascadeAll (failSection j c false s)

/-- The registers that name the base of a table in memory, with the bytes of a unit and the class its chapter asks for (R330, R332). -/
def tableBases : List (Nat × Nat × Nat) :=
  [(R.SHOW_LL_BASE, 4096, 0), (R.SHOW_SNAP_BASE, 4096, 1), (R.NET_SACN_BASE, 1, 0), (R.CMP_CANVAS_BASE, 4096, 2), (R.CMP_CACHE_BASE, 4096, 2),
   (R.PHO_MAP_BASE, 4096, 0), (R.PHO_PROF_BASE, 4096, 0), (R.PHO_LAT_BASE, 4096, 0), (R.PHO_GAIN_BASE, 4096, 0), (R.PHO_TRIM_BASE, 4096, 0),
   (R.PHO_SENS_BASE, 4096, 0), (R.PHO_AGE_BASE, 4096, 0), (R.BAT_PATCH_BASE, 4096, 0), (R.BAT_PLACE_BASE, 4096, 1), (R.BAT_STAT_BASE, 4096, 1),
   (R.BAT_OUT_BASE, 4096, 2), (R.BAT_CFG_BASE, 4096, 0), (R.HDR_GRP_BASE, 4096, 0), (R.HDR_CORR_BASE, 4096, 1), (R.KPR_GRP_BASE, 4096, 1),
   (R.EVT_LOG_BASE, 4096, 1), (R.RDG_CACHE_BASE, 4096, 2), (R.UPD_WIN_BASE, 4096, 1)]

/-- The check of a table base register (R330): inside a region of the class required. -/
def tableBaseCode (s : Device) (off : Nat) (v : Word) : Code :=
  match tableBases.find? (fun t => t.1 = off) with
  | some (_, unit, cls) => if inClass s cls (unit * v.toNat) 1 then .ok else .range
  | none => .ok

/-- The show image's own limits (R381, R399): the event log holds a power of 2 of records, mirrored regions total at most 4 GiB. -/
def imageLimit (s : Device) (off : Nat) (v : Word) : Code :=
  if off = R.EVT_LOG_SIZE && v &&& (v - 1) ≠ 0 then .range
  else if off = R.RDG_MIRROR && 2 ^ 32 < sumL (((upto 32).filter (fun r => regionOn s r && wbit v r)).map (regionSize s)) then .capacity
  else .ok

/-- The validation of registers that a section sets: each by itself and, for REGS, the blocks they concern (R12, R436, R520). -/
def bootCode (before after : Device) (kind : Nat) (regs : List (Nat × Word)) : Code :=
  let es : Entries := regs.map (fun p => (p.1, fullMask, p.2))
  let own := (firstKind (es.map (fun e => (match entryFailure before.regs e with
    | [] => firstCode [tableBaseCode after e.1 e.2.2, imageLimit after e.1 e.2.2, if e.1 = R.SHOW_SRC_ORDER then srcOrderCode e.2.2 else .ok]
    | f :: _ => f.1, e.1)))).1
  let writable := regs.all (fun p => match specAt p.1 with
    | some r => r.access ≠ .ro && r.access ≠ .rc
    | none => true)
  if own ≠ .ok then own
  else if !writable then .locked
  else if kind = 6 then
    match commitCode after after.regs es with
    | some f => f.1
    | none => .ok
  else .ok

/-- Loads one section (R436, R437). -/
def loadSection (j : Nat) (s : Device) : Device :=
  let x := s.section j
  if !x.mine || x.failed then s
  else match sectionData s j with
    | none => dropSection j .check s
    | some data =>
      let done (s : Device) : Device := s.modSection j (fun x => { x with loaded := true })
      if x.kind = 4 then
        let (b, n) := sectionRange s j
        let r := leAt (sectionEntry s j) 16 4 % 32
        if n = 0 then done s
        else if !regionOn s r || !inOneRegion s b n || regionOf s b ≠ some r then dropSection j .range s
        else done (memStore (.who .repair) b data s)
      else if x.kind = 0 || 6 < x.kind then dropSection j .reserved s
      else match sectionRegs x.kind data with
        | none => dropSection j .check s
        | some regs =>
          let t := s.each regs (fun s p => bootStore p.1 p.2 s)
          let c := bootCode s t x.kind regs
          if c ≠ .ok then dropSection j c s
          else if x.kind = 1 then
            match regionTableCheck t with
            | some (c, r) => dropSection j c ((defaultRegions s).setReg R.MEM_STATUS
                (setFld (setFld (s.reg R.MEM_STATUS) 15 8 c.num) 20 16 r))
            | none => done (t.setB R.MEM_STATUS 0 true)
          else if x.kind = 2 then
            let keys := (Config.clientKeys data).foldl (fun (m : Table ClientKey) p =>
              m.put p.1 { key := p.2.1, rights := p.2.2.1, prioMin := p.2.2.2 }) []
            done { t with kpr := { t.kpr with keys := keys }, rdg := { t.rdg with pairKey := Config.pairKey data } }
          else done t

/-- Loads the sections of a KIND in index order. -/
def loadKind (k : Nat) (s : Device) : Device :=
  s.each ((upto s.sys.sections.length).filter (fun j => (s.section j).kind = k)) fun s j => loadSection j s

/-- The whole configuration takes its defaults (R436, R437). -/
def imageDefaults (s : Device) : Device :=
  let s := ((s.setB R.BOOT_STATUS 7 true).setB R.SYS_STATUS 0 true).setB R.SYS_STATUS 1 true
  let s := (s.setN R.BOOT_SECTION_DEFAULTED_LO 0xFFFFFFFF).setN R.BOOT_SECTION_DEFAULTED_HI 0xFFFFFFFF
  defaultRegions (s.raise Ev.CFG_DEFAULTED 0xFF)

/-- Regions that no TABLE section fills are zero-filled where ZF_BOOT asks for it (R338). -/
def bootFill (s : Device) : Device :=
  let loads := (upto s.sys.sections.length).filterMap (fun j =>
    let x := s.section j
    if x.kind = 4 && x.mine && !x.failed then some (leAt (sectionEntry s j) 16 4 % 32) else none)
  s.each ((upto 32).filter (fun r => regionOn s r && !regionTracked s r && s.rb (R.MEM_Rr_CFG r) 4 && !loads.contains r)) fun s r =>
    let m := s.mem.clear (regionBase s r) (regionSize s r)
    { s with mem := { m with filled := (regionBase s r, regionSize s r) :: m.filled } }

/-- The runtime of a slot: its versions and the settings FORMAT it reads (R468, R475). -/
def runVersions (x : Slot) (s : Device) : Device :=
  let s := ((s.setN R.UPD_RUN_FW x.version).setReg R.UPD_RUN_UCODE (Config.partVersion 2 x.body)).setReg R.UPD_RUN_SAFETY
    (Config.partVersion 3 x.body)
  s.setF R.UPD_SETTINGS_FMT 15 0 (Config.settingsFormat x.body).toNat

/-- RUNTIME_START (R330, R338, R432, R439): runtime and safety pair start, the image header is read and the region table validated. -/
def runtimeStart (s : Device) : Device :=
  match s.sys.slot with
  | none => s
  | some k =>
    if s.rf R.BOOT_STATUS 3 0 ≠ 0 then s
    else
      let s := (s.setF R.BOOT_STATUS 3 0 1).setN R.BOOT_T_ROM (sinceRelease s)
      let s := match slotAt s k with
        | some x => runVersions x s
        | none => s
      let s := s.setF R.UPD_SETTINGS_FMT 31 16 (match s.sys.settings with
        | some p => p.1
        | none => 0)
      let s := s.setReg R.BOOT_SRC_WAIT (bootReset R.BOOT_SRC_WAIT)
      if !headerGood s then bootFill (assignCheckAreas (imageDefaults s))
      else
        let h := flashRead s (imageArea s).1 16
        let s := ((s.setN R.BOOT_IMAGE_VER (leAt h 8 4)).setN R.BOOT_IMAGE_ID (leAt h 12 4)).setN R.BOOT_SECTIONS (leAt h 6 2)
        let s := { s with sys := { s.sys with sections := imageSections s } }
        let s := loadKind 1 (defaultRegions s)
        bootFill (assignCheckAreas s)

/-! ### The load of the show image -/

/-- What a patch entry breaks of R214 and R215, in the order of R520. -/
def patchCode (s : Device) (f : Nat) : Code :=
  let b := peek s (base4k s.reg R.BAT_PATCH_BASE + 16 * f) 16
  let p := patchOf s f
  let mode := chainMode s.reg p.chain
  let spare := 512 ≤ leAt b 8 2 || 2 ^ 14 ≤ leAt b 10 2 || 512 ≤ leAt b 12 2
  if spare then .reserved
  else if p.uid = 0 then .ok
  else if p.words = 0 || 256 < p.words || (if mode = 2 then p.home = 0 || 512 < p.home else 255 < p.home) then .range
  else if (!p.fixed && (mode = 1 || mode = 3 || (mode = 2 && p.uid / 2 ^ 48 ≠ 0xFFFE))) || (mode = 2 && 512 < p.home + 2 * p.words - 1) then
    .conflict
  else .ok

/-- The TABLE sections whose content an offset lies in. -/
def sectionsAt (s : Device) (off n : Nat) : List Nat :=
  (upto s.sys.sections.length).filter (fun j =>
    let (b, len) := sectionRange s j
    (s.section j).kind = 4 && (s.section j).loaded && b < off + n && off < b + len)

/-- The patch is checked when it is loaded (R214, R436): each section with a bad entry takes its defaults, with the code of its first failure. -/
def checkPatch (s : Device) : Device :=
  let base := base4k s.reg R.BAT_PATCH_BASE
  let bad := ((upto 131072).map (fun f => (patchCode s f, f))).filter (fun p => p.1 ≠ .ok)
  s.each (upto s.sys.sections.length) fun t j =>
    let c := (firstKind (bad.filter (fun p => (sectionsAt s (base + 16 * p.2) 16).contains j))).1
    if c = .ok then t else dropSection j c t

/-- Bank 0 of the map is validated when the REGS section has been applied (R171, R173): where it fails, the sections that loaded it take their
defaults and its count is 0. -/
def checkMap (s : Device) : Device :=
  match mapBankCode s s.reg 0 with
  | some (c, i) =>
    let n := mapCount s.reg 0
    (s.each (sectionsAt s (mapAt s.reg 0 0) (16 * n)) (fun t j => dropSection j c t)).setN R.PHO_MAP_COUNT0 0 |> setTblStatus 0 i c
  | none => s

/-- The registers that settings hold: plain RW bits of registers that are not kept per reader. DEDUCED: no rule lists them (R446). -/
def isSetting (off : Nat) : Bool :=
  match specAt off with
  | some r => r.rw ≠ 0 && !r.banked && r.w1s = 0
  | none => false

/-- The persisted settings are applied, or not when their FORMAT differs (R446, R468). -/
def applySettings (s : Device) : Device :=
  match s.sys.settings with
  | none => s
  | some (fmt, m) =>
    if fmt ≠ s.rf R.UPD_SETTINGS_FMT 15 0 then (s.setB R.SYS_SETTINGS_STATUS 1 true).raise Ev.SETTINGS_RESET fmt
    else
      let s := s.each m fun s p => match specAt p.1 with
        | some r =>
          let w : Word := BitVec.ofNat 32 r.rw
          s.setReg p.1 ((s.reg p.1 &&& ~~~ w) ||| (p.2 &&& w))
        | none => s
      ((s.setB R.SYS_STATUS 7 true).setB R.SYS_SETTINGS_STATUS 0 true).setF R.SYS_SETTINGS_STATUS 31 16 m.length

/-- The power-event slots with a record: slot and sequence number. -/
def pwrRecords (s : Device) : List (Nat × Nat) :=
  s.sys.pwr.filterMap (fun (p : Nat × PwrSlot) => match p.2 with
    | .record q _ _ _ _ _ => some (p.1, q)
    | _ => none)

/-- The erased power-event slots. -/
def pwrErased (s : Device) : Nat := ((upto 16).filter (fun k => s.sys.pwr.getD .erased k = .erased)).length

/-- The slot of the newest record. -/
def pwrNewest (s : Device) : Option (Nat × Nat) :=
  (pwrRecords s).foldl (fun (a : Option (Nat × Nat)) p => match a with
    | some q => if q.2 < p.2 then some p else some q
    | none => some p) none

/-- At boot: the newest power-event record is read, slots whose CRC fails are erased (R443, R446). -/
def pwrBoot (s : Device) : Device :=
  let s := if !s.sys.full then s else match pwrNewest s with
    | some (k, _) => (match s.sys.pwr.find k with
      | some (.record _ t _ l _ _) =>
        (s.set64 R.SYS_PWREVT_TIME_LO R.SYS_PWREVT_TIME_HI t).set64 R.SYS_PWREVT_FRAME_LO R.SYS_PWREVT_FRAME_HI l
      | _ => s)
    | none => s
  { s with sys := { s.sys with pwr := s.sys.pwr.filter (fun p => p.2 ≠ .broken) } }

/-- A holdup test begins (R444): HU_ISO and HU_TEST are driven. -/
def holdupStart (s : Device) : Device :=
  if s.sys.holdup then s
  else (({ s with sys := { s.sys with holdup := true, tested := s.clock } }).send (.pin pinHuIso) [1]).send (.pin pinHuTest) [1]

/-- The pins of the holdup test are released (R444). -/
def holdupRelease (s : Device) : Device :=
  (({ s with sys := { s.sys with holdup := false } }).send (.pin pinHuTest) [0]).send (.pin pinHuIso) [0]

/-- SHOW_IMAGE_LOAD (R307, R436 to R439, R444, R446): the sections, the restores, the holdup test. -/
def showImageLoad (s : Device) : Device :=
  if s.rf R.BOOT_STATUS 3 0 ≠ 1 then s
  else
    let s := s.setF R.BOOT_STATUS 3 0 2
    let s := [2, 3, 4, 5, 6].foldl (fun s k => loadKind k s) (cascadeAll s)
    let s := checkMap (checkPatch s)
    let s := pwrBoot (applySettings s)
    let s := if s.sys.full then meterRestore s else if s.mtr.tally then tallyAdd s else s
    let s := if (s.pho.ageNewest.orElse (fun _ => s.pho.ageOlder)).isSome && s.rf R.PHO_AGE_BASE 21 0 ≠ 0 then
        let t := (s.pho.ageNewest.orElse (fun _ => s.pho.ageOlder)).getD []
        (memStore .pho (base4k s.reg R.PHO_AGE_BASE) ((upto (131072 * 6)).flatMap (fun k => leBytes 8 (t.getD 0 k))) s).setB R.PHO_AGE_STATUS 1 true
      else s
    let s := placeFixed (noteEstimates s)
    let s := { s with before := s.regs, pho := { s.pho with ageFrom := s.clock } }
    let s := s.setN R.BOOT_T_IMAGE (sinceRelease s)
    pairStart (holdupStart s)

/-! ### Slot confirmation (R432, R466) -/

/-- BOOT_TRIAL.CONFIRM: the running slot is written VALID. -/
def confirmSlot (s : Device) : Device :=
  if !s.rb R.BOOT_TRIAL 0 then s
  else
    let k := s.sys.slot.getD 0
    let s := (markSlot k 0x3F ((slotAt s k).map (·.attempt) |>.getD 0) s).setB R.BOOT_TRIAL 0 false
    let floor := if 6 ≤ updState s || updState s = 5 then leAt (stream s 16 4) 0 4 else 0
    reportSlots { s with sys := { s.sys with trialFrom := none, minVer := max s.sys.minVer floor } }

/-- SLOT_CONFIRM (R432, R466): 60 s after the first latch, or after the last part of the slot was activated. -/
def slotConfirm (s : Device) : Device :=
  match s.sys.trialFrom with
  | some t => confirmSlot (s.elapseTo (t + 60000000000))
  | none => s

/-! ### Supply (R440 to R445) -/

/-- SUPPLY_WARNING (R441, R442): the captures and abandoned writes of the save, and brace state once the raster runs. A dip while a save runs
or brace state lasts changes nothing (R445). -/
def supplyWarning (s : Device) : Device :=
  if s.mtr.tally then s
  else
    let s := (meterCapture s).set64 R.SYS_LAST_BRACE_LO R.SYS_LAST_BRACE_HI s.shw.time
    let lost := s.pho.ageSaving.isSome
    let s := { s with pho := { s.pho with ageSaving := none, ageOlder := if lost then none else s.pho.ageOlder } }
    let s := (s.setF R.SYS_CMD 3 3 0).setF R.UPD_CMD 1 1 (if s.upd.writing.isSome then 0 else s.rf R.UPD_CMD 1 1)
    let s := { s with upd := { s.upd with writing := none },
                      sys := { s.sys with warned := s.clock, saving := true, saveOk := true } }
    let s := s.setB R.SYS_VMON 16 true
    let s := (s.setN R.SYS_PWR_SAVE_STATUS 0).setN R.SYS_FLASH_STATUS (4 + 2 * b2n s.sys.pwrErase + 1)
    let s := if s.sys.holdup then { holdupRelease s with upd := { s.upd with checking := false } } else s
    if !s.shw.running then s
    else
      let s := spoilAll (((s.setB R.SYS_STATUS 2 true).setB R.PVW_STATUS 3 (s.rb R.PVW_STATUS 0)).raise Ev.SUPPLY_WARN 0)
      let s := { s with pipe := [], cmp := { s.cmp with lineBad := [] } }
      let s := if s.upd.handover.isSome then
          setUpd 6 .ok (s.rf R.UPD_STATE 18 16) { s with upd := { s.upd with handover := none } }
        else s
      refreshHolding s

/-- WARN_RECORD_DONE (R305, R442). -/
def warnRecordDone (ok : Bool) (s : Device) : Device :=
  if !s.sys.saving then s
  else
    let (s, good) := warnWrite ok s
    let s := { s with mtr := { s.mtr with capture := none }, sys := { s.sys with saveOk := s.sys.saveOk && good } }
    s.setB R.SYS_PWR_SAVE_STATUS 0 good

/-- The next erased power-event slot after that of the newest record (R443). -/
def pwrNext (s : Device) : Option Nat :=
  let start : Nat := match pwrNewest s with
    | some (k, _) => k + 1
    | none => 0
  ((upto 16).map (fun i => (start + i) % 16)).find? (fun k => s.sys.pwr.getD .erased k = .erased)

/-- POWER_SAVE_DONE (R442, R443): the power-event record is written, or cannot be; the sequence ends. -/
def powerSaveDone (ok : Bool) (micros : Nat) (s : Device) : Device :=
  if !s.sys.saving then s
  else
    let s := s.elapseTo (s.sys.warned + 1000 * micros)
    let seq : Nat := match pwrNewest s with
      | some (_, q) => q + 1
      | none => 1
    let rec_ := PwrSlot.record seq s.shw.time s.shw.frame (lastLatched s) (rdgState s) ((s.clock - s.pho.ageFrom) / 60000000000)
    let slot := pwrNext s
    let good := ok && slot.isSome
    let pwr := match slot with
      | some k => s.sys.pwr.put k (if ok then rec_ else .broken)
      | none => s.sys.pwr
    let all := s.sys.saveOk && good && s.mtr.capture.isNone
    let s := { s with sys := { s.sys with saving := false, pwr := pwr, saveOk := all } }
    let s := { s with sys := { s.sys with pwrErase := s.sys.pwrErase || pwrErased s < 2 } }
    let s := (s.setB R.SYS_PWR_SAVE_STATUS 1 good).setF R.SYS_PWR_SAVE_STATUS 31 16 (min 65535 micros)
    let s := s.setN R.SYS_FLASH_STATUS (2 * b2n s.sys.pwrErase + b2n s.sys.pwrErase)
    (s.raise Ev.POWER_SAVE_DONE (s.rn R.SYS_PWR_SAVE_STATUS)).raiseIf (!all) Ev.POWER_SAVE_FAIL (s.rn R.SYS_PWR_SAVE_STATUS)

/-- PWR_SLOT_ERASE_DONE (R443): the slot of the oldest record is erased; suspended erases wait for recovery (R442, R445). -/
def pwrEraseDone (s : Device) : Device :=
  if !s.sys.pwrErase || s.mtr.tally then s
  else
    let oldest := (pwrRecords s).foldl (fun (a : Option (Nat × Nat)) p => match a with
      | some q => if p.2 < q.2 then some p else some q
      | none => some p) none
    let dead := (s.sys.pwr.find? (fun p => p.2 = .broken)).map (·.1)
    let s := match dead.orElse (fun _ => oldest.map (·.1)) with
      | some k => { s with sys := { s.sys with pwr := s.sys.pwr.del k } }
      | none => s
    let more := decide (pwrErased s < 2)
    ({ s with sys := { s.sys with pwrErase := more } }).setN R.SYS_FLASH_STATUS (b2n more)

/-- BROWNOUT (R305, R445): the supply has recovered and the save is complete. Before the raster starts, only the tally is added. -/
def brownout (s : Device) : Device :=
  if s.sys.saving || !s.mtr.tally then s
  else
    let s := (tallyAdd s).setB R.SYS_VMON 16 false
    let s := s.setB R.SYS_FLASH_STATUS 1 false
    if !braced s then s
    else
      let s := (s.setB R.SYS_STATUS 2 false).setN R.SYS_BRACE_TIME (min 0xFFFFFFFF ((s.clock - s.sys.warned) / 1000000))
      refreshHolding ((s.count R.SYS_BROWNOUTS 1).raise Ev.BROWNOUT 0)

/-- The capacitance in µF and t_hold in 10 µs of a holdup test (R444): Δt in ns; a test that did not reach V1 counts its 5 ms. -/
def holdupResult (s : Device) (dtNs : Option Nat) : Rat × Rat :=
  let dt : Nat := dtNs.getD 5000000
  let r := s.rf R.SYS_HU_CFG2 15 0
  let p := s.rf R.SYS_HU_CFG2 31 16
  let ln : Rat := (Fixed.lnRatio 10 9 : Rat) / (Fixed.one : Rat)
  let c : Rat := if r = 0 then 0 else (((dt : Nat) : Rat) / 100) / (((r : Nat) : Rat) * ln)
  let vs : Rat := 9 / 10 * ((s.rf R.SYS_HU_CFG1 15 0 : Nat) : Rat)
  let vm : Rat := ((s.rf R.SYS_HU_CFG1 31 16 : Nat) : Rat)
  (c, if p = 0 then 0 else c * (vs * vs - vm * vm) / (200000 * ((p : Nat) : Rat)))

/-- A holdup test ends (R444): HOLDUP_OK, HOLDUP_VALID and the results; whether it passed. -/
def holdupEnd (v0 : Nat) (dtNs : Option Nat) (s : Device) : Device × Bool :=
  let s := holdupRelease (s.elapseTo (s.sys.tested + dtNs.getD 5000000))
  let (c, t) := holdupResult s dtNs
  let pass := decide (300 ≤ t)
  let near (x : Rat) : Nat := min 65535 (nearest x).toNat
  let s := (s.setN R.SYS_HU_RESULT (near c + 65536 * near t)).setN R.SYS_HU_SENSE (min 65535 v0)
  let s := ((s.setB R.SYS_STATUS 5 pass).setB R.SYS_STATUS 6 true).setF R.SYS_CMD 2 2 0
  ((s.raise Ev.HOLDUP_DONE (b2n pass)).raiseIf (!pass) Ev.HOLDUP_FAIL (near t), pass)

/-- HOLDUP_TEST_PERIODIC (R444): HU_PERIOD minutes after the last test. -/
def holdupPeriodic (s : Device) : Device :=
  let m := s.rf R.SYS_HU_PERIOD 10 0
  if m = 0 then s
  else
    let s := s.elapseTo (s.sys.tested + 60000000000 * m)
    if braced s then s else holdupStart s

/-! ### Settings -/

/-- SAVE_SETTINGS (R446): the settings in effect are written in the runtime's FORMAT. -/
def saveSettings (s : Device) : Device :=
  let m : Table Word := (s.regs.filter (fun p => isSetting p.1)).map (fun p => (p.1, p.2))
  let fmt := s.rf R.UPD_SETTINGS_FMT 15 0
  let s := { s with sys := { s.sys with settings := some (fmt, m) } }
  ((s.setF R.UPD_SETTINGS_FMT 31 16 fmt).setB R.SYS_SETTINGS_STATUS 1 false).raise Ev.SETTINGS_SAVED m.length

/-! ### Registers -/

/-- SYS_CMD (R444, R446, R448): each bit starts its operation. A holdup test is refused with E_STATE in brace state, as are saves, for which the
flash stays idle (R442). -/
def sysCmdHandler (v : Word) : Handler :=
  { state := fun s =>
      if (wbit v 2 && braced s) || ((wbit v 1 || wbit v 3) && s.mtr.tally) then .state
      else if wbit v 3 && s.pho.ageSaving.isSome then .busy else .ok
    check := fun _ => .ok
    effect := fun s =>
      let s := if wbit v 1 then saveSettings s else s
      let s := if wbit v 2 then holdupStart (s.setB R.SYS_CMD 2 true) else s
      let s := if wbit v 3 then ageSaveStart (s.setB R.SYS_CMD 3 true) else s
      if wbit v 0 then coreReset 4 s else s }

/-- The SYS and BOOT registers' own rules (R432, R448, R450). -/
def sysHandler (w : Who) (off : Nat) (v : Word) : Handler :=
  let h := plainHandler w off v
  if off = R.SYS_CMD then sysCmdHandler v
  else if off = R.SYS_WDT_KICK then { h with effect := fun s => { s with sys := { s.sys with kicked := s.clock } } }
  else if off = R.SYS_WDT_CFG then
    { h with effect := fun s =>
        let s := storeWrite w off v s
        { s with sys := { s.sys with kicked := s.clock } } }
  else if off = R.BOOT_TRIAL then { h with effect := fun s => if wbit v 1 then confirmSlot s else s }
  else h

/-- What SYS and BOOT registers read as where they show fuses and live state (R448, R450). -/
def sysView (s : Device) (w : Who) (off : Nat) : Option Word :=
  let sel := (s.bankReg w R.BOOT_SECTION_SEL).toNat % 64
  let x := s.section sel
  if off = R.SYS_ID_LO then some (Config.dieId 0)
  else if off = R.SYS_ID_HI then some (Config.dieId 1)
  else if off = R.BOOT_FUSE_MIN_VER || off = R.UPD_FUSE_MIN_VER then some (BitVec.ofNat 32 s.sys.minVer)
  else if off = R.BOOT_ROOT_HASH_ID then some (BitVec.ofNat 32 (leAt Config.rootHash 0 4))
  else if off = R.SYS_UPTIME then some (BitVec.ofNat 32 (min 0xFFFFFFFF ((s.clock - s.sys.released.getD s.clock) / 1000000000)))
  else if off = R.SYS_VMON && s.sys.released.isSome then some (s.reg off ||| (Config.vmon s.clock).zeroExtend 32)
  else if off = R.SYS_SAVE_SLOTS then some (BitVec.ofNat 32 (min 15 (pwrErased s) + 16 * min 3 s.mtr.erased))
  else if off = R.BOOT_SECTION_INFO then
    some (BitVec.ofNat 32 (x.kind + 256 * x.code.num + 65536 * b2n x.failed + 131072 * b2n x.cascade + 262144 * b2n x.deflate + 524288 * x.unit))
  else if off = R.BOOT_SECTION_LEN then some (BitVec.ofNat 32 x.len)
  else none

/-! ### The commands -/

/-- POR (R424). -/
def execPor (st : State) : Host.Outcome State Fault Refusal :=
  st.onDevice fun s => .next (fullReset s)

/-- RAIL_RESET (R424). -/
def execRailReset (rail : Nat) (st : State) : Host.Outcome State Fault Refusal :=
  st.onDevice fun s => onUnit (rail < 7) (railReset rail s)

/-- PIN_RESET (R424). -/
def execPinReset (st : State) : Host.Outcome State Fault Refusal :=
  st.onDevice fun s => .next (coreReset 2 s)

/-- WDT_EXPIRY (R424). -/
def execWdtExpiry (st : State) : Host.Outcome State Fault Refusal :=
  st.onDevice fun s => .next (wdtExpiry s)

/-- WDT_WARN (R451). -/
def execWdtWarn (st : State) : Host.Outcome State Fault Refusal :=
  st.onDevice fun s => .next (wdtWarn s)

/-- SYS_WDT_KICK written (R448). -/
def execWdtKick (w : Who) (v : Word) (st : State) : Host.Outcome State Fault Refusal :=
  st.onDevice fun s =>
  .next (regWrite s w R.SYS_WDT_KICK v (sysHandler w R.SYS_WDT_KICK v))

/-- SYS_CMD.RESET written (R424). -/
def execSoftReset (w : Who) (v : Word) (st : State) : Host.Outcome State Fault Refusal :=
  st.onDevice fun s =>
  .next (regWrite s w R.SYS_CMD v (sysHandler w R.SYS_CMD v))

/-- SAFETY_RESET (R424). -/
def execSafetyReset (st : State) : Host.Outcome State Fault Refusal :=
  st.onDevice fun s => .next (coreReset 5 s)

/-- RESET_RELEASE (R425). -/
def execResetRelease (unitB bootSvc : Bool) (st : State) : Host.Outcome State Fault Refusal :=
  st.onDevice fun s => .next (resetRelease unitB bootSvc s)

/-- RUNTIME_START (R439). -/
def execRuntimeStart (st : State) : Host.Outcome State Fault Refusal :=
  st.onDevice fun s => .next (runtimeStart s)

/-- SHOW_IMAGE_LOAD (R436). -/
def execShowImageLoad (st : State) : Host.Outcome State Fault Refusal :=
  st.onDevice fun s => .next (showImageLoad s)

/-- SLOT_CONFIRM (R432, R466). -/
def execSlotConfirm (st : State) : Host.Outcome State Fault Refusal :=
  st.onDevice fun s => .next (slotConfirm s)

/-- SUPPLY_WARNING (R441). -/
def execSupplyWarning (st : State) : Host.Outcome State Fault Refusal :=
  st.onDevice fun s => .next (supplyWarning s)

/-- WARN_RECORD_DONE (R442). -/
def execWarnRecordDone (ok : Bool) (st : State) : Host.Outcome State Fault Refusal :=
  st.onDevice fun s => .next (warnRecordDone ok s)

/-- POWER_SAVE_DONE (R442). -/
def execPowerSaveDone (ok : Bool) (micros : Nat) (st : State) : Host.Outcome State Fault Refusal :=
  st.onDevice fun s => .next (powerSaveDone ok micros s)

/-- PWR_SLOT_ERASE_DONE (R443). -/
def execPwrSlotEraseDone (st : State) : Host.Outcome State Fault Refusal :=
  st.onDevice fun s => .next (pwrEraseDone s)

/-- BROWNOUT (R445). -/
def execBrownout (st : State) : Host.Outcome State Fault Refusal :=
  st.onDevice fun s => .next (brownout s)

/-- SYS_CMD.HOLDUP_TEST written (R444). -/
def execHoldupTest (w : Who) (v : Word) (st : State) : Host.Outcome State Fault Refusal :=
  st.onDevice fun s =>
  .next (regWrite s w R.SYS_CMD v (sysHandler w R.SYS_CMD v))

/-- HOLDUP_TEST_PERIODIC (R444). -/
def execHoldupTestPeriodic (st : State) : Host.Outcome State Fault Refusal :=
  st.onDevice fun s => .next (holdupPeriodic s)

/-- SYS_CMD.SAVE_SETTINGS written (R446). -/
def execSaveSettings (w : Who) (v : Word) (st : State) : Host.Outcome State Fault Refusal :=
  st.onDevice fun s =>
  .next (regWrite s w R.SYS_CMD v (sysHandler w R.SYS_CMD v))

/-- SYS_CMD.AGE_SAVE written (R446). -/
def execAgeSave (w : Who) (v : Word) (st : State) : Host.Outcome State Fault Refusal :=
  st.onDevice fun s =>
  .next (regWrite s w R.SYS_CMD v (sysHandler w R.SYS_CMD v))

/-- BOOT_TRIAL.CONFIRM written (R432). -/
def execBootTrialConfirm (w : Who) (v : Word) (st : State) : Host.Outcome State Fault Refusal :=
  st.onDevice fun s =>
  .next (regWrite s w R.BOOT_TRIAL v (sysHandler w R.BOOT_TRIAL v))

end Sys2Proof.Machine
end

