-- ==== Sys2Proof/Machine/Update.lean ====
section
/-! DEFINITION. Field update (R452 to R476): staging, verification, installation, activation of the parts in a valid order. -/

namespace Sys2Proof.Machine

/-! ### Staging (R454, R457, R458) -/

/-- Whether the unit is in the service loader. -/
def inService (s : Device) : Bool := s.rf R.BOOT_STATUS 3 0 = 15

/-- Whether a block's CRC fits its number (R454). -/
def blockGood (b : Nat) (data : List Byte) : Bool :=
  data.length = 4096 && leAt data 4092 4 = crc32cFrom (0xFFFFFFFF ^^^ b) (data.take 4092)

/-- The bytes accepted within the last second (R458). -/
def rateBytes (s : Device) : Nat := sumL ((s.upd.rate.filter (fun p => s.clock < p.1 + 1000000000)).map (·.2))

/-- What a delivered block is answered: the code and DUP (R458). -/
def blockCode (s : Device) (b : Nat) (data : List Byte) (net : Bool) : Code × Bool :=
  let st := updState s
  let manifest := leAt data 0 4 = 0x4B504E50 && leAt data 4 2 = 1
  let slow := net && s.rf R.UPD_RATE 14 0 * 1024 < rateBytes s + 4096
  if (net && !s.rb R.UPD_CTRL 0) || st = 2 || st = 3 || st = 5 then (.state, false)
  else if s.upd.writing.isSome then (.busy, false)
  else if st = 0 then
    if b ≠ 0 then (.state, false)
    else if !blockGood 0 data || !manifest then (.check, false)
    else if leAt data 12 4 = 0 then (.range, false)
    else if stageCapacity s < leAt data 12 4 then (.capacity, false)
    else if slow then (.busy, false) else (.ok, false)
  else if s.rn R.UPD_BLOCKS ≤ b then (.range, false)
  else if b = 0 && blockGood 0 data && leAt data 8 4 ≠ s.rn R.UPD_PKG_ID then (.conflict, false)
  else if !blockMissing s b then (.ok, true)
  else if !blockGood b data then (.check, false)
  else if slow then (.busy, false) else (.ok, false)

/-- A block is delivered (R458, R459): the outcome is shown in UPD_BLK_RESULT; an accepted block begins to be written. -/
def deliverBlock (b : Nat) (data : List Byte) (net : Bool) (s : Device) : Device :=
  let (c, dup) := blockCode s b data net
  let s := s.setN R.UPD_BLK_RESULT (c.num + 256 * b2n dup)
  let stored := s.upd.writing.isSome
  if c = .check then s.count R.UPD_BLK_CRC_ERR 1
  else if c = .busy && !stored then s.count R.UPD_BLK_BUSY 1
  else if dup then s.count R.UPD_BLK_DUP 1
  else if c ≠ .ok then s
  else
    let rate := (s.upd.rate.filter (fun p => s.clock < p.1 + 1000000000)) ++ [(s.clock, 4096)]
    ({ s with upd := { s.upd with writing := some (b, data), rate := if net then rate else s.upd.rate } }).setB R.UPD_CMD 1 true

/-- A package begins to be staged with its block 0 (R458): every other block is missing. -/
def stageOpen (data : List Byte) (s : Device) : Device :=
  let n := leAt data 12 4
  let s := flashWrite (stageAt s 4096) ((upto 32768).map (fun i => BitVec.ofNat 8
    (sumL ((upto 8).map (fun k => b2n (decide (8 * i + k < n)) * 2 ^ k))))) s
  let s := (s.setN R.UPD_PKG_ID (leAt data 8 4)).setN R.UPD_BLOCKS n
  setUpd 1 .ok 0 s

/-- BLOCK_WRITE_DONE (R457, R461): the block is stored, or stays missing; with the last one verification begins. -/
def blockWritten (ok : Bool) (s : Device) : Device :=
  match s.upd.writing with
  | none => s
  | some (b, data) =>
    let s := ({ s with upd := { s.upd with writing := none } }).setB R.UPD_CMD 1 false
    if !ok then s
    else
      let s := if updState s = 0 then stageOpen data s else s
      let s := reportMissing (markBlock b false (flashWrite (stageAt s (stageBlocks + 4096 * b)) data s))
      let s := if b = 0 then reportParts s else s
      if s.rn R.UPD_MISSING = 0 && updState s = 1 then setUpd 2 .ok 0 s else s

/-- DISCARD (R458): the staging header and bitmap are erased. -/
def updDiscard (s : Device) : Device :=
  let s := flashErase (stageAt s 0) (36 * 1024) s
  let s := s.each [R.UPD_PKG_ID, R.UPD_BLOCKS, R.UPD_MISSING, R.UPD_DONE_MASK, R.UPD_STATE, R.UPD_DRV_PENDING] (fun s o => s.setN o 0)
  let s := s.each (upto 8) (fun s k => (s.setN (R.UPD_PARTk_INFO k) 0).setN (R.UPD_PARTk_VER k) 0)
  let s := (s.setN R.UPD_NEXT_MISSING 0x7FFFF).setN R.UPD_ORDER 0xFFFFFFFF
  ({ s with upd := { s.upd with writing := none, order := [], checking := false, delivered := [], delivering := [] } }).setF R.UPD_CMD 2 1 0

/-! ### Verification and installation (R456, R461, R470) -/

/-- The bytes of a part. -/
def partBytes (s : Device) (p : Part) : List Byte := stream s p.off p.len

/-- Whether the parts are those that R456 allows. -/
def partsLawful (l : List Part) : Bool :=
  let own := l.filter (fun p => p.kind ≤ 3)
  let drivers := l.filter (fun p => p.kind = 5)
  l.all (fun p => 1 ≤ p.kind && p.kind ≤ 5) && !l.isEmpty && (l.filter (fun p => p.kind = 4)).length ≤ 1 &&
  drivers.all (fun p => (drivers.filter (fun q => q.target = p.target)).length = 1) &&
  (own.isEmpty || (own.map (·.kind) = [1, 2, 3] &&
    (own.zip (own.drop 1)).all (fun p => p.1.off + p.1.len = p.2.off && p.1.index + 1 = p.2.index)))

/-- The slot that a package carries, as its bytes, if it carries one (R456). -/
def packageSlot (s : Device) : Option (List Byte) :=
  let own := (partsOf s).filter (fun p => p.kind ≤ 3)
  if own.isEmpty then none else some (own.flatMap (partBytes s))

/-- The first failure of the verification, with the part when it is a digest (R461). -/
def packageCode (s : Device) : Code × Option Part :=
  let ps := partsOf s
  let pub := stream s 24 64
  let over_ := stream s 0 88 ++ stream s 152 (96 * ps.length)
  let slotOk : Bool := match packageSlot s with
    | some b => (slotOf s.sys.minVer (b.take 180) (b.drop 4096)).verifies
    | none => true
  if !(sha256 pub = Config.rootHash && Config.signed pub (sha256 over_) (stream s 88 64)) then (.signature, none)
  else match ps.find? (fun p => sha256 (partBytes s p) ≠ p.digest) with
    | some p => (.check, some p)
    | none => if partsLawful ps && ps.all (fun p => s.sys.minVer ≤ p.version) && slotOk then (.ok, none) else (.version, none)

/-- UPD_VERIFIED (R461): FAILED, or a part's blocks again missing, or installation begins; it is refused while the running slot is TRIAL. -/
def verified (s : Device) : Device :=
  if updState s ≠ 2 then s
  else match packageCode s with
    | (.ok, _) =>
      if s.rb R.BOOT_TRIAL 0 then (s.setF R.UPD_STATE 15 8 Code.state.num).raise Ev.UPD_VERIFIED (256 * Code.state.num)
      else setUpd 3 .ok 0 s
    | (.check, some p) =>
      let blocks := (upto ((p.off + p.len - 1) / 4092 - p.off / 4092 + 1)).map (fun i => p.off / 4092 + i)
      let s := reportMissing (s.each blocks (fun s b => markBlock b true s))
      (setUpd 1 .check p.index s).raise Ev.UPD_VERIFIED (p.index + 256 * Code.check.num)
    | (c, _) => (setUpd 8 c 0 s).raise Ev.UPD_VERIFIED (256 * c.num)

/-- The slot that installation writes (R460, R461): the inactive one; in the service loader one that does not qualify. -/
def installSlot (s : Device) : Nat :=
  match s.sys.slot with
  | some k => 1 - k
  | none => match slotAt s 0 with
    | some x => if x.qualifies then 1 else 0
    | none => 1

/-- Writes the package's slot with a STATE and ATTEMPT (R456, R460, R461). -/
def writeSlot (state : Nat) (s : Device) : Device :=
  match packageSlot s, areaOf s (installSlot s + 1) with
  | some b, some a =>
    let s := flashWrite a.off b (flashErase a.off a.size s)
    reportSlots (flashWrite (a.off + 12) [BitVec.ofNat 8 state, 0xFF] s)
  | _, _ => s

/-- Writes the IMAGE part into the install area (R469). -/
def writeImage (s : Device) : Device :=
  match (partsOf s).find? (fun p => p.kind = 4), (areasOf s 3)[1]? with
  | some p, some a => flashWrite a.off (partBytes s p) (flashErase a.off a.size s)
  | _, _ => s

/-- Writes the directory copy not in use with SEQ one higher and the two KIND 0x03 entries exchanged (R469). -/
def exchangeImages (s : Device) : Device :=
  match dirUsed s with
  | none => s
  | some k =>
    let b := flashRead s (dirOff k) 4096
    let n := min 255 (leAt b 8 4)
    let images := (upto n).filter (fun i => leAt b (16 + 16 * i) 4 = 3)
    let entry (i : Nat) : List Byte := (b.drop (16 + 16 * i)).take 16
    let swap (i : Nat) : List Byte := match images with
      | [x, y] => if i = x then entry y else if i = y then entry x else entry i
      | _ => entry i
    let body := b.take 4 ++ leBytes 4 (leAt b 4 4 + 1) ++ (b.drop 8).take 8 ++ (upto n).flatMap swap ++ (b.drop (16 + 16 * n)).take (4076 - 16 * n)
    flashWrite (dirOff (1 - k)) (body ++ leBytes 4 (crc32c body)) s

/-- The fixtures placed on HLK chains whose driver has a TYPE (R470). -/
def driverTargets (s : Device) (type : Nat) : List (Nat × Place) :=
  s.bat.places.filter (fun p => s.bat.types.find p.1 = some type && chainMode s.reg p.2.chain = 0)

/-- The key of a delivery. -/
def deliveryKey (p : Part) (f : Nat) : Nat := p.index * 131072 + f

/-- The target drivers that lack some of a DRV part (R470). -/
def undelivered (s : Device) : List (Part × Nat × Place) :=
  ((partsOf s).filter (fun p => p.kind = 5)).flatMap (fun p =>
    ((driverTargets s p.target).filter (fun f => s.upd.delivered.getD 0 (deliveryKey p f.1) < p.len)).map (fun f => (p, f.1, f.2)))

/-- UPD_DRV_PENDING and the chains that deliver. -/
def reportDrivers (s : Device) : Device :=
  let l := undelivered s
  ({ s with upd := { s.upd with delivering := (l.map (fun (x : Part × Nat × Place) => x.2.2.chain)).dedup } }).setN R.UPD_DRV_PENDING l.length

/-- INSTALL_DONE (R460, R461): slot and image are written, delivery begins, the state is READY; the service loader makes the slot a trial,
exchanges the images and resets. -/
def installDone (ok : Bool) (s : Device) : Device :=
  if updState s ≠ 3 then s
  else
    let ps := partsOf s
    let fits := (ps.all (fun p => p.kind ≠ 4 || ((areasOf s 3)[1]?).any (fun a => p.len ≤ a.size))) &&
      ((packageSlot s).all (fun b => (areaOf s (installSlot s + 1)).any (fun a => b.length ≤ a.size)))
    if !ok || !fits then
      ((setUpd 8 (if ok then .capacity else .check) 0 s).count R.UPD_FAILURES 1).raise Ev.UPD_FAILED
        (256 * (if ok then Code.capacity else Code.check).num)
    else if inService s then
      let s := writeImage (writeSlot 0x7F s)
      let s := if ps.any (fun p => p.kind = 4) then exchangeImages s else s
      coreReset 4 (setUpd (if ps.any (fun p => p.kind = 5) then 4 else 7) .ok 0 s)
    else
      let running (p : Part) : Bool :=
        (p.kind = 1 && s.rn R.UPD_RUN_FW = p.version) || (p.kind = 2 && s.rn R.UPD_RUN_UCODE = p.version) ||
        (p.kind = 3 && s.rn R.UPD_RUN_SAFETY = p.version)
      let s := if ((ps.filter (fun p => p.kind ≤ 3)).all running) then s else writeSlot 0xFF s
      let s := if ps.any (fun p => p.kind = 4 && s.rn R.BOOT_IMAGE_VER ≠ p.version) then writeImage s else s
      (reportDrivers (setUpd 4 .ok 0 s)).raise Ev.UPD_VERIFIED 0

/-! ### Combinations and orders (R453, R463) -/

/-- The combination key of a DRV TYPE; the other kinds are their own keys, PEER is 6. -/
def drvKey (type : Nat) : Nat := 5 * 65536 + type

/-- The kind of a combination key. -/
def keyKind (k : Nat) : Nat := if k < 65536 then k else 5

/-- A fixture's record in the driver version table: VERSION, 0 when the UID is another's (R457, R471). PRESUMED: record f is fixture f's. -/
def driverVersion (s : Device) (f : Nat) : Nat :=
  let a := stageAt s (stageTable + 16 * f)
  if flashNum s a 8 = (patchOf s f).uid && (areaOf s 4).isSome then flashNum s (a + 8) 4 else 0

/-- The TYPE codes of the placed drivers. -/
def placedTypes (s : Device) : List Nat := ((s.bat.places.filterMap (fun p => s.bat.types.find p.1))).dedup

/-- The combination of the unit (R453): versions by key, ascending. -/
def combination (s : Device) : Table Nat :=
  let base : Table Nat := [(1, s.rn R.UPD_RUN_FW), (2, s.rn R.UPD_RUN_UCODE), (3, s.rn R.UPD_RUN_SAFETY), (4, s.rn R.BOOT_IMAGE_VER)]
  let base := if s.rb R.RDG_CTRL 0 && s.rdg.peer.isSome then base.put 6 (s.rn (R.RDG_HEALTH_PEERj 10)) else base
  (placedTypes s).foldl (fun (m : Table Nat) t =>
    let vs := (s.bat.places.filter (fun p => s.bat.types.find p.1 = some t)).map (fun p => driverVersion s p.1)
    m.put (drvKey t) (vs.foldl min (vs.headD 0))) base

/-- The combination key of a part. -/
def Part.key (p : Part) : Nat := if p.kind = 5 then drvKey p.target else p.kind

/-- The place of a kind in the ranges of a manifest entry: DRV and PEER follow IMAGE. -/
def rangeIndex (kind : Nat) : Nat := kind - 1

/-- The range that the part under a key declares for the kind of another key (R453). -/
def declared (s : Device) (ps : List Part) (key version other : Nat) : Nat × Nat :=
  match ps.find? (fun p => p.key = key && p.version = version) with
  | some p => p.ranges.getD (rangeIndex (keyKind other)) (0, 0)
  | none => match s.upd.ranges.find key with
    | some l => l.getD (rangeIndex (keyKind other)) (0, 0)
    | none =>
      let r := Config.partRange key version other
      (r.1.toNat, r.2.toNat)

/-- Whether a combination is valid (R453). -/
def combinationValid (s : Device) (ps : List Part) (m : Table Nat) : Bool :=
  m.all (fun x => x.1 = 6 || m.all (fun y =>
    keyKind x.1 = keyKind y.1 ||
    (let r := declared s ps x.1 x.2 y.1
     r.1 ≤ y.2 && y.2 ≤ r.2)))

/-- Whether a part may be activated over a combination: its own-kind range holds the version it replaces (R455). -/
def mayReplace (m : Table Nat) (p : Part) : Bool :=
  match m.find p.key with
  | none => true
  | some v => v = p.version || (let r := p.ranges.getD (rangeIndex p.kind) (0, 0); r.1 ≤ v && v ≤ r.2)

/-- The first valid order of the remaining parts, in lexicographic order of part index (R463). -/
def orderFrom (s : Device) (ps : List Part) : Nat → List Part → Table Nat → Option (List Nat)
  | _, [], _ => some []
  | 0, _ :: _, _ => none
  | n + 1, rest, m => rest.findSome? (fun p =>
    let m' := if (m.find p.key).isSome || p.kind ≠ 5 then m.put p.key p.version else m
    if mayReplace m p && combinationValid s ps m' then
      (orderFrom s ps n (rest.filter (fun q => q.index ≠ p.index)) m').map (p.index :: ·)
    else none)

/-- The order of the parts not yet active (R463). -/
def findOrder (s : Device) : Option (List Nat) :=
  let ps := partsOf s
  orderFrom s ps 8 (ps.filter (fun p => !s.rb R.UPD_DONE_MASK p.index)) (combination s)

/-- UPD_ORDER shows an order. -/
def showOrder (l : List Nat) (s : Device) : Device :=
  s.setN R.UPD_ORDER (sumL ((upto 8).map (fun i => l.getD i 15 * 16 ^ i)))

/-! ### Refusals (R464, R472, R473) -/

/-- A DMX chain with MOTION that is non-idle. -/
def motionChain (s : Device) : Option Nat :=
  (upto 512).find? (fun c => chainMode s.reg c = 2 && s.rb (R.BAT_CHn_CFG c) 7 && s.rb (R.BAT_CHn_STATUS c) 5)

/-- The checks of R464 that need no test, and those of R473: the code and the chain. -/
def refusal (s : Device) : Code × Nat :=
  let left := (partsOf s).filter (fun p => !s.rb R.UPD_DONE_MASK p.index)
  let pair := s.rb R.UPD_CTRL 2 && s.rb R.RDG_CTRL 0
  let peerInStep : Bool := (s.rdg.peer.map (·.state)) = some 4
  if braced s || s.shw.restarting.isSome then (.state, 0)
  else if s.rb R.KPR_UPDATE_LOCK 0 then (.refusedLock, 0)
  else if s.rb R.UPD_CTRL 1 then (.refusedShow, 0)
  else match motionChain s with
    | some c => (.refusedShow, c)
    | none =>
      if pair && left.any (fun p => p.kind = 4 || ((p.kind = 2 || p.kind = 3) && !p.equal) || (p.kind = 5 && !peerInStep && pairActive s)) then
        (.conflict, 0)
      else if pair && pairActive s && !peerInStep then (.state, 0)
      else (.ok, 0)

/-- A refusal is recorded (R464): before the first part nothing has begun, before a later one the state becomes PAUSED. -/
def refuse (c : Code) (chain : Nat) (s : Device) : Device :=
  let part := s.upd.order.headD 0
  let s := { s with upd := { s.upd with checking := false, yielding := false } }
  let s := (s.setN R.UPD_REFUSE (c.num + 65536 * chain)).raise Ev.UPD_REFUSED (part + 256 * c.num + 65536 * chain)
  let s := s.setB R.UPD_CMD 2 false
  if updState s = 5 then setUpd 6 c part s else s.setF R.UPD_STATE 15 8 c.num

/-- The checks before a part (R464): refused at once, or a holdup test begins and its end decides. -/
def startChecks (s : Device) : Device :=
  match refusal s with
  | (.ok, _) => holdupStart { s with upd := { s.upd with checking := true } }
  | (c, chain) => refuse c chain s

/-! ### Activation (R462, R465 to R471) -/

/-- The staged part of an index. -/
def partAt (s : Device) (k : Nat) : Option Part := (partsOf s).find? (fun p => p.index = k)

/-- A part is active (R462): the next part's checks follow, or the activation is DONE. -/
def finishPart (k : Nat) (s : Device) : Device :=
  match partAt s k with
  | none => s
  | some p =>
    let s := s.setB R.UPD_DONE_MASK k true
    let s := match p.kind with
      | 1 => s.setN R.UPD_RUN_FW p.version
      | 2 => s.setN R.UPD_RUN_UCODE p.version
      | 3 => s.setN R.UPD_RUN_SAFETY p.version
      | _ => s
    let rest := s.upd.order.filter (fun j => j ≠ k)
    let s := { s with upd := { s.upd with order := rest, ranges := s.upd.ranges.put p.key p.ranges } }
    let s := ((reportParts s).count R.UPD_ACTIVATIONS 1).raise Ev.UPD_PART_ACTIVATED k
    let slot := (partsOf s).filter (fun q => q.kind ≤ 3)
    let s := if p.kind ≤ 3 && s.rb R.BOOT_TRIAL 0 && slot.all (fun q => s.rb R.UPD_DONE_MASK q.index) then
        { s with sys := { s.sys with trialFrom := some s.clock } } else s
    if rest.isEmpty then ((setUpd 7 .ok k s).setB R.UPD_CMD 2 false).raise Ev.UPD_DONE k
    else if s.upd.imageReset then s
    else startChecks s

/-- Whether a part already runs at its VERSION: a no-op step (R463). -/
def alreadyActive (s : Device) (p : Part) : Bool := (combination s).find p.key = some p.version

/-- A part begins (R462): FW waits for its handover, UCODE and SAFETY for the next commit point, IMAGE for its exchange, DRV for its chains. -/
def beginPart (k : Nat) (s : Device) : Device :=
  match partAt s k with
  | none => s
  | some p =>
    let s := setUpd 5 .ok k s
    if alreadyActive s p then finishPart k s
    else match p.kind with
      | 1 => { s with upd := { s.upd with handover := some s.clock } }
      | 2 => { s with upd := { s.upd with swap := some k } }
      | 3 => { s with upd := { s.upd with swap := some k } }
      | 5 =>
        let chains := ((driverTargets s p.target).map (fun f => f.2.chain)).dedup
        if chains.isEmpty then finishPart k s else { s with upd := { s.upd with drvChains := chains, drvNow := none } }
      | _ => s

/-- The checks have passed but for the order (R463, R464, R472): it is found, the role is handed over where PAIR asks for it, and the part
begins. -/
def checksPassed (s : Device) : Device :=
  let s := { s with upd := { s.upd with checking := false } }
  match findOrder s with
  | none => refuse .version 0 s
  | some l =>
    let s := showOrder l { s with upd := { s.upd with order := l } }
    if s.rb R.UPD_CTRL 2 && s.rb R.RDG_CTRL 0 && pairActive s then
      match (rdgCmdHandler 4).state s with
      | .ok => (rdgCmdHandler 4).effect { s with upd := { s.upd with yielding := true } }
      | c => refuse c 0 s
    else match l with
      | k :: _ => beginPart k s
      | [] => (setUpd 7 .ok 0 s).setB R.UPD_CMD 2 false |>.raise Ev.UPD_DONE 0

/-- HOLDUP_DONE (R444, R464): the test ends; an activation that waits for it goes on, or is refused. -/
def holdupDone (v0 : Nat) (dtNs : Option Nat) (s : Device) : Device :=
  if !s.sys.holdup then s
  else
    let (s, pass) := holdupEnd v0 dtNs s
    if !s.upd.checking then s
    else if pass then checksPassed s else refuse .refusedHoldup 0 s

/-- FW_HANDOVER (R465, R468): the new runtime takes the dispatch; its slot becomes a trial, settings in another FORMAT are reset. -/
def fwHandover (settingsFmt : Nat) (s : Device) : Device :=
  match s.upd.handover, s.sys.slot with
  | some _, some old =>
    let s := { s with upd := { s.upd with handover := none }, sys := { s.sys with slot := some (1 - old) } }
    let s := s.set64 R.UPD_HANDOVER_FRAME_LO R.UPD_HANDOVER_FRAME_HI s.shw.frame
    let s := reportSlots (((markSlot (1 - old) 0x7F 0 s).setB R.BOOT_TRIAL 0 true).setB R.BOOT_STATUS 4 (old = 0))
    let fmt := settingsFmt % 65536
    let found : Nat := match s.sys.settings with
      | some p => p.1
      | none => fmt
    let s := if found = fmt then s.setF R.UPD_SETTINGS_FMT 15 0 fmt
      else (({ s with sys := { s.sys with settings := none } }).setN R.UPD_SETTINGS_FMT fmt |>.setB R.SYS_SETTINGS_STATUS 1 true).raise
        Ev.SETTINGS_RESET found
    finishPart (s.rf R.UPD_STATE 18 16) s
  | _, _ => s

/-- A failure of a step (R465, R467): PAUSED with its code, UPD_FAILED. -/
def stepFailed (c : Code) (k : Nat) (s : Device) : Device :=
  ((setUpd 6 c k (s.setB R.UPD_CMD 2 false)).count R.UPD_FAILURES 1).raise Ev.UPD_FAILED (k + 256 * c.num)

/-- HANDOVER_TIMEOUT (R465): ready has not come within 500 ms. -/
def handoverTimeout (s : Device) : Device :=
  match s.upd.handover with
  | none => s
  | some t => stepFailed .timeout (s.rf R.UPD_STATE 18 16) ({ s with upd := { s.upd with handover := none } }.elapseTo (t + 500000000))

/-- SAFETY_START_TIMEOUT (R467): within 1 ms of the swap the pair returns to its old program and asserts FOG_N. -/
def safetyTimeout (s : Device) : Device :=
  match s.upd.safetyOld with
  | none => s
  | some (old, k, t) =>
    if t + 1000000 < s.clock then s
    else
      let s := if s.upd.checking && s.sys.holdup then holdupRelease s else s
      let s := s.elapseTo (t + 1000000)
      let left := k :: s.upd.order
      let s := { s with upd := { s.upd with safetyOld := none, checking := false, swap := none, handover := none, order := left } }
      let s := (s.setN R.UPD_RUN_SAFETY old).setB R.UPD_DONE_MASK k false
      let s := { s with upd := { s.upd with ranges := s.upd.ranges.del 3 }, sys := { s.sys with trialFrom := none } }
      stepFailed .check k (fogPair (reportParts s))

/-- IMAGE_ACTIVATE (R469): the directory copy not in use is written; a core reset follows at the next commit point. -/
def imageActivate (s : Device) : Device :=
  let k := s.rf R.UPD_STATE 18 16
  match partAt s k with
  | some p =>
    if updState s ≠ 5 || p.kind ≠ 4 || s.upd.imageReset || s.rb R.UPD_DONE_MASK k then s
    else finishPart k { exchangeImages s with upd := { s.upd with imageReset := true } }
  | none => s

/-- DRV_PIECE_DELIVERY (R470): a CONFIG frame carries the next piece to a driver; a piece found bad is sent again. -/
def drvPiece (c pos : Nat) (good : Bool) (s : Device) : Device :=
  match (undelivered s).find? (fun x => x.2.2.chain = c && x.2.2.pos = pos) with
  | none => s
  | some (p, f, _) =>
    if updState s < 3 || 7 < updState s || !sends s || !chainLive s c || (s.chain c).job.isSome then s
    else
      let key := deliveryKey p f
      let done := s.upd.delivered.getD 0 key
      let piece := stream s (p.off + done) (min 510 (p.len - done))
      let blocks := (upto (s.chain c).positions.length).map (fun i => hlkBlock 0xFF (if i = pos then piece else [0, 0]))
      let s := (sendFrame .config c blocks.length blocks s).1
      if !good then s
      else reportDrivers { s with upd := { s.upd with delivered := s.upd.delivered.put key (done + piece.length) } }

/-- DRV_ACTIVATE (R471): the next chain with target drivers is brought up, one at a time. -/
def drvActivate (c : Nat) (s : Device) : Device :=
  if updState s ≠ 5 || s.upd.drvNow.isSome || s.upd.drvChains.head? ≠ some c then s
  else
    let s := startBringup c s
    if (s.chain c).job.isSome then { s with upd := { s.upd with drvNow := some c } } else s

/-- The new VERSION is recorded for each target UID on a chain (R457, R471). -/
def recordDrivers (c : Nat) (p : Part) (s : Device) : Device :=
  s.each ((driverTargets s p.target).filter (fun f => f.2.chain = c)) fun s f =>
    flashWrite (stageAt s (stageTable + 16 * f.1)) (leBytes 8 (patchOf s f.1).uid ++ leBytes 4 p.version ++ leBytes 2 p.target ++ [0, 0]) s

/-- A chain that a DRV activation brought up is done once its job and stage are (R471). -/
def drvPoint (s : Device) : Device :=
  match s.upd.drvNow, partAt s (s.rf R.UPD_STATE 18 16) with
  | some c, some p =>
    if (s.chain c).job.isSome || (s.chain c).stage.isSome then s
    else
      let s := recordDrivers c p s
      let rest := s.upd.drvChains.drop 1
      let s := { s with upd := { s.upd with drvNow := none, drvChains := rest } }
      if rest.isEmpty then finishPart p.index s else s
  | _, _ => s

/-- The swap of a UCODE or SAFETY part at a commit point (R467). -/
def swapPoint (s : Device) : Device :=
  match s.upd.swap with
  | none => s
  | some k =>
    let s := { s with upd := { s.upd with swap := none } }
    match partAt s k with
    | some p =>
      let s := if p.kind = 3 then { s with upd := { s.upd with safetyOld := some (s.rn R.UPD_RUN_SAFETY, k, s.clock) } } else s
      finishPart k s
    | none => s

/-- What field update does at a commit point (R467, R471, R472). -/
def updPoint (s : Device) : Device :=
  let s := if s.upd.yielding && inStandby s then
      match s.upd.order with
      | k :: _ => beginPart k { s with upd := { s.upd with yielding := false } }
      | [] => { s with upd := { s.upd with yielding := false } }
    else swapPoint s
  drvPoint s

/-! ### Registers -/

/-- UPD_CMD (R458, R462, R464, R473). A staging window that cannot be read holds no good block (R336). -/
def updCmdHandler (v : Word) : Handler :=
  { state := fun s =>
      if wbit v 0 && updState s = 5 then .busy
      else if wbit v 2 && !((updState s = 4 || updState s = 6) && !s.upd.checking && !s.upd.yielding) then .state
      else if wbit v 2 then (refusal s).1 else .ok
    check := fun _ => .ok
    effect := fun s =>
      let s := if wbit v 0 then updDiscard s else s
      let s := if wbit v 1 then
          let (s, rd) := memRead .upd (4096 * s.rf R.UPD_WIN_BASE 21 0) 4096 s
          deliverBlock (s.rf R.UPD_BLK_INDEX 17 0) (if rd.good then rd.data else []) true s
        else s
      if wbit v 2 then startChecks (s.setB R.UPD_CMD 2 true) else s
    reject := fun c s => if wbit v 2 && (updState s = 4 || updState s = 6) && !s.upd.checking && !s.upd.yielding && c = (refusal s).1 then
        refuse c (refusal s).2 s else s }

/-- The UPD registers' own rules. -/
def updHandler (w : Who) (off : Nat) (v : Word) : Handler :=
  if off = R.UPD_CMD then updCmdHandler v else plainHandler w off v

/-- What UPD registers read as where they show live state (R475). -/
def updView (s : Device) (w : Who) (off : Nat) : Option Word :=
  let f := (s.bankReg w R.UPD_DRV_SEL).toNat % 131072
  if off = R.UPD_CAPACITY then some (BitVec.ofNat 32 (stageCapacity s))
  else if off = R.UPD_PEER_FW then
    some (if s.rb R.RDG_CTRL 0 && s.rdg.peer.isSome then s.reg (R.RDG_HEALTH_PEERj 10) else 0)
  else if off = R.UPD_DRV_VER then some (BitVec.ofNat 32 (driverVersion s f))
  else if off = R.UPD_DRV_TYPE then some (BitVec.ofNat 32 (s.bat.types.getD 0 f))
  else none

/-! ### The commands -/

/-- HOLDUP_DONE (R444, R464). -/
def execHoldupDone (v0 : Nat) (dtNs : Option Nat) (st : State) : Host.Outcome State Fault Refusal :=
  st.onDevice fun s => .next (holdupDone v0 dtNs s)

/-- UPD_CMD.BLOCK written (R458). -/
def execBlock (w : Who) (v : Word) (st : State) : Host.Outcome State Fault Refusal :=
  st.onDevice fun s =>
  .next (regWrite s w R.UPD_CMD v (updHandler w R.UPD_CMD v))

/-- BLOCK_WRITE_DONE (R457). -/
def execBlockWriteDone (ok : Bool) (st : State) : Host.Outcome State Fault Refusal :=
  st.onDevice fun s => .next (blockWritten ok s)

/-- DFU_DNLOAD (R459): a block through the service port. -/
def execDfuDnload (index : Nat) (data : List Byte) (st : State) : Host.Outcome State Fault Refusal :=
  st.onDevice fun s =>
  .next (let c := (blockCode s index data false).1
         (deliverBlock index data false s).answer c)

/-- DFU_DNLOAD_END (R459): the state of R461 is the DFU status. -/
def execDfuDnloadEnd (st : State) : Host.Outcome State Fault Refusal :=
  st.onDevice fun s =>
  .next ((s.send .service [updState s]).answerD .ok [s.reg R.UPD_STATE])

/-- UPD_CMD.DISCARD written (R458). -/
def execUpdDiscard (w : Who) (v : Word) (st : State) : Host.Outcome State Fault Refusal :=
  st.onDevice fun s =>
  .next (regWrite s w R.UPD_CMD v (updHandler w R.UPD_CMD v))

/-- UPD_VERIFIED (R461). -/
def execUpdVerified (st : State) : Host.Outcome State Fault Refusal :=
  st.onDevice fun s => .next (verified s)

/-- INSTALL_DONE (R461). -/
def execInstallDone (ok : Bool) (st : State) : Host.Outcome State Fault Refusal :=
  st.onDevice fun s => .next (installDone ok s)

/-- UPD_CMD.ACTIVATE written (R462). -/
def execActivate (w : Who) (v : Word) (st : State) : Host.Outcome State Fault Refusal :=
  st.onDevice fun s =>
  .next (regWrite s w R.UPD_CMD v (updHandler w R.UPD_CMD v))

/-- FW_HANDOVER (R465). -/
def execFwHandover (settingsFmt : Nat) (st : State) : Host.Outcome State Fault Refusal :=
  st.onDevice fun s => .next (fwHandover settingsFmt s)

/-- HANDOVER_TIMEOUT (R465). -/
def execHandoverTimeout (st : State) : Host.Outcome State Fault Refusal :=
  st.onDevice fun s => .next (handoverTimeout s)

/-- SAFETY_START_TIMEOUT (R467). -/
def execSafetyStartTimeout (st : State) : Host.Outcome State Fault Refusal :=
  st.onDevice fun s => .next (safetyTimeout s)

/-- IMAGE_ACTIVATE (R469). -/
def execImageActivate (st : State) : Host.Outcome State Fault Refusal :=
  st.onDevice fun s => .next (imageActivate s)

/-- DRV_PIECE_DELIVERY (R470). -/
def execDrvPieceDelivery (c pos : Nat) (good : Bool) (st : State) : Host.Outcome State Fault Refusal :=
  st.onDevice fun s => onUnit (c < 512) (drvPiece c pos good s)

/-- DRV_ACTIVATE (R471). -/
def execDrvActivate (c : Nat) (st : State) : Host.Outcome State Fault Refusal :=
  st.onDevice fun s => onUnit (c < 512) (drvActivate c s)

end Sys2Proof.Machine
end

