-- ==== Sys2Proof/Machine/Show.lean ====
section
/-! DEFINITION. The show-phase timebase (R16 to R61): the raster, its frame boundaries, commit points and latch instants, time sources, frame
numbering, timing-mode changes, the execution of the light list. -/

namespace Sys2Proof.Machine

/-! ### Instants -/

/-- The next multiple of 4 ns at or after a / b (R17): a CLK_SHOW cycle. -/
def ceil4 (a b : Nat) : Nat := 4 * cdiv a (4 * b)

/-- The show time at which a line of the present frame starts, exact from the raster start (R17). -/
def lineInstant (s : Device) (l : Nat) : Nat :=
  let m := s.shw.mode
  let k := (frameDiff s.shw.frame s.shw.rasterFrame).toNat
  (s.shw.rasterStart + ceil4 ((k * m.vTotal + l) * m.frameNum) (m.num * m.vTotal)) % 2 ^ 64

/-- A show time moved by an offset (R18). -/
def movedTime (d : Int) (t : Nat) : Nat := ((((t : Nat) : Int) + d) % (2 ^ 64 : Nat)).toNat

/-- Whether a show time is not after another (R18). -/
def notAfter (a b : Nat) : Bool := wrapDiff 64 a b ≤ 0

/-- Time passes up to a show time, if it lies ahead (R18). -/
def elapseShow (t : Nat) (s : Device) : Device :=
  let d := wrapDiff 64 t s.shw.time
  if 0 < d then s.elapse d.toNat else s

/-- The start of a line of the present frame (R16). -/
def atLine (l : Nat) (s : Device) : Device :=
  let s := elapseShow (lineInstant s l) s
  { s with shw := { s.shw with line := l, sub := 0 } }

/-! ### Light-list execution (R43 to R51, R397) -/

/-- Executes one immediate action (R43, R46); in the standby role no MESSAGE is sent (R397). -/
def runAction (e : LlEntry) (s : Device) : Device :=
  match e.action with
  | 4 => gpioLight (leAt e.arg 0 4) (leAt e.arg 4 4) s
  | 5 => fogLight (e.byte 0 = 1) s
  | 6 => if inStandby s then s else messageAction (leAt e.arg 0 2) e.tag (leAt e.arg 8 8) s
  | 7 => snapshotAction (e.byte 0) e.tag s
  | _ => s

/-- Executes the immediate actions due at the present line, in ascending index (R46, R47, R51). -/
def runEntries (s : Device) : Device :=
  if !s.rb R.SHOW_LL_CTRL 0 then s
  else s.each (((llEntries s (llActive s)).filter (fun p => !p.2.commits && p.2.occurs s.shw.frame s.shw.line)).map (·.2)) fun s e => runAction e s

/-! ### PTP numbering (R27) -/

/-- SHOW_PTP_PHASE_OFFSET. -/
def ptpOffset (s : Device) : Int := sext 32 (s.rn R.SHOW_PTP_PHASE_OFFSET)

/-- SHOW_FRAME_BASE. -/
def frameBase (s : Device) : Nat := s.get64 R.SHOW_FRAME_BASE_LO R.SHOW_FRAME_BASE_HI

/-- The number of frame periods of a mode in the show time since the phase offset, rounded down. -/
def ptpPeriods (s : Device) (m : Mode) (t : Nat) : Int := (((t : Nat) : Int) - ptpOffset s) * m.num / m.frameNum

/-- The frame count that PTP gives at a boundary near a show time: that of the nearest aligned boundary. -/
def ptpFrame (s : Device) (m : Mode) (t : Nat) : Nat := frameAdd (frameBase s) (ptpPeriods s m (t + m.frameNs / 2))

/-- The first aligned boundary at or after a show time, in whole CLK_SHOW cycles. -/
def ptpAligned (s : Device) (m : Mode) (t : Nat) : Nat :=
  let n := ptpPeriods s m t
  let at_ (k : Int) : Nat := 4 * (-((-(ptpOffset s * m.num + k * m.frameNum)) / (4 * m.num : Nat))).toNat
  (if t ≤ at_ n then at_ n else at_ (n + 1)) % 2 ^ 64

/-- What is left of a time, counted in the mode's periods times NUM, against the nearest whole period. -/
def nearestPhase (m : Mode) (x : Int) : Int :=
  let r := x * m.num % m.frameNum
  (if 2 * r ≤ m.frameNum then r else r - m.frameNum) / m.num

/-! ### Sources (R20 to R26) -/

/-- The sources in order, free-run last where it is not listed (R20, R57). -/
def srcOrder (s : Device) : List Nat :=
  let l := ((upto 6).map (fun i => s.rf R.SHOW_SRC_ORDER (4 * i + 3) (4 * i))).filter (fun k => k < 6)
  if l.contains 5 then l else l ++ [5]

/-- What is held of a source. -/
def Device.src (s : Device) (k : Nat) : SrcState := s.shw.srcs.getD {} k

/-- Replaces what is held of a source. -/
def Device.setSrc (s : Device) (k : Nat) (x : SrcState) : Device := { s with shw := { s.shw with srcs := s.shw.srcs.setD {} k x } }

/-- Whether a source is qualified (R21): free-run always is, word clock only while it makes whole frames. -/
def srcOk (s : Device) (k : Nat) : Bool :=
  k = 5 || ((s.src k).qualified && (k ≠ 4 || wclkWhole (s.reg R.SHOW_WCLK_CFG) s.shw.mode))

/-- The first qualified source in the order. -/
def firstSource (s : Device) : Nat := ((srcOrder s).find? (srcOk s)).getD 5

/-- Show time catches up with the rate of CLK_SHOW since it was last taken into account (R16, R22). -/
def settleRate (s : Device) : Device :=
  let d := s.shw.rate * ((s.clock - s.shw.rateAt : Nat) : Int) / 10000000000
  { s with shw := { s.shw with time := movedTime d s.shw.time, rateAt := s.clock, ptp := s.shw.ptp.moved d } }

/-- Selects a source (R22): its phase is measured anew. The rate stays the one last in use. -/
def selectSource (k : Nat) (s : Device) : Device :=
  let other := s.shw.sel ≠ k
  let s := { s with shw := { s.shw with sel := k, phase := if k = 5 then .freerun else .acquire, locks := 0, measured := false,
                                        holdSince := none, stepDue := false, rates := [] } }
  s.raiseIf other Ev.SRC_CHANGE k

/-- The mean of the rates of the last 16 s of lock, each weighted by its time (R22); `newest first, until` the present clock. -/
def meanRate (now : Nat) (l : List (Nat × Int)) : Option Int :=
  let from_ := now - 16000000000
  let r := l.foldl (fun (a : Nat × Int × Nat) p =>
    let start := max p.1 from_
    (min a.1 p.1, a.2.1 + p.2 * ((a.1 - start : Nat) : Int), a.2.2 + (a.1 - start))) (now, 0, 0)
  if r.2.2 = 0 then l.head?.map (·.2) else some (r.2.1 / ((r.2.2 : Nat) : Int))

/-- A source has qualified (R20, R24): in holdover the lost source is reselected; before the raster starts the order decides. -/
def srcQualified (k : Nat) (s : Device) : Device :=
  if (s.src k).qualified then s
  else
    let s := s.setSrc k { s.src k with qualified := true, bad := 0, since := s.clock }
    if s.shw.phase = .holdover then (if s.shw.sel = k then selectSource k s else s)
    else if !s.shw.running && firstSource s ≠ s.shw.sel then selectSource (firstSource s) s
    else s

/-- Holdover begins (R22, R24): CLK_SHOW runs on at the mean rate of the last 16 s of lock. -/
def beginHoldover (s : Device) : Device :=
  let s := settleRate s
  let rate := (meanRate s.clock s.shw.rates).getD s.shw.rate
  ({ s with shw := { s.shw with phase := .holdover, holdSince := some s.clock, locks := 0, measured := false, stepDue := false,
                                rate := rate, rates := [] } }).setN R.SHOW_RATE_ADJ (trunc 32 (clampI (-2000000) 2000000 rate))

/-- A source is lost (R21, R24): the selected one begins holdover. -/
def srcLost (k : Nat) (s : Device) : Device :=
  let was := (s.src k).qualified
  let s := s.setSrc k { s.src k with qualified := false, good := 0, bad := 0, lastEdge := none }
  if s.shw.sel ≠ k || !was then s else (beginHoldover s).raise Ev.LOCK_LOST k

/-- The locked accuracy of a source in ns (R21). -/
def srcAccuracy (k : Nat) : Nat := if k = 0 then 50 else if k = 3 then 1000 else if k = 4 then 0 else 20

/-- The offset at selection above which the phase is removed by slewing (R22). -/
def slewAbove (k : Nat) : Nat := if k = 3 then 1000 else 100

/-- The phase of the raster against an edge at a show time, nearest to zero (R18, R21). -/
def rasterOffset (s : Device) (edge : Nat) : Int := nearestPhase s.shw.mode (wrapDiff 64 s.shw.rasterStart edge)

/-- Show time, and with it the raster, moves at once. -/
def moveShow (d : Int) (s : Device) : Device :=
  { s with shw := { s.shw with time := movedTime d s.shw.time, rasterStart := movedTime d s.shw.rasterStart, ptp := s.shw.ptp.moved d } }

/-- The first phase measurement of PTP after its selection, with the offset that is left (R22, R27). DEDUCED (log 60): show time takes the
grandmaster's time; a raster that runs moves with it to the nearest place aligned under R27 and keeps its own phase, which is the offset. -/
def adoptTime (off : Int) (s : Device) : Device × Int :=
  if !s.shw.running then (moveShow (-off) s, 0)
  else
    let phase := nearestPhase s.shw.mode (((s.shw.rasterStart : Nat) : Int) - off - ptpOffset s)
    (moveShow (-off - phase) s, -phase)

/-- The state that the offset at selection leads to (R22, R23): within the limit none, else a step where it is enabled, else slewing. -/
def firstOffset (k : Nat) (off : Int) (s : Device) : Device :=
  let s := { s with shw := { s.shw with measured := true } }
  if off.natAbs ≤ slewAbove k then s
  else if s.rb R.SHOW_CTRL 0 && 1000 * s.rf R.SHOW_SLEW 31 16 < off.natAbs && s.shw.running then
    { s with shw := { s.shw with stepDue := true } }
  else { s with shw := { s.shw with phase := .slewing } }

/-- The measurements inside the locked accuracy are counted (R22): the first ends slewing, 16 in a row lock. -/
def countLock (k : Nat) (off : Int) (s : Device) : Device :=
  if off.natAbs ≤ srcAccuracy k then
    let s := if s.shw.phase = .slewing then ({ s with shw := { s.shw with phase := .acquire } }).raise Ev.PHASE_ALIGNED k else s
    let s := { s with shw := { s.shw with locks := min 16 (s.shw.locks + 1) } }
    if s.shw.locks = 16 && s.shw.phase ≠ .locked then
      gapLockedNow (({ s with shw := { s.shw with phase := .locked } }).raise Ev.LOCK_ACQUIRED k)
    else s
  else { s with shw := { s.shw with locks := 0 } }

/-- The largest rate against REFCLK in 0.1 ppb (R22): MAX_PPM while slewing, else 200 ppm. -/
def rateBound (s : Device) : Int := if s.shw.phase = .slewing then (10000 * s.rf R.SHOW_SLEW 9 0 : Nat) else 2000000

/-- The servo sets the rate (R22, R23): a free value within its bound. SHOW_RATE_ADJ shows it within its own range; the rates of the lock are kept. -/
def steer (s : Device) : Device :=
  let (i, s) := s.takeFree
  let rate := clampI (-rateBound s) (rateBound s) (Config.rateAdj i).toInt
  let keep := s.shw.rates.takeWhile (fun p => s.clock < p.1 + 16000000000)
  let older := (s.shw.rates.drop keep.length).take 1
  let rates := if s.shw.phase = .locked then (s.clock, rate) :: keep ++ older else []
  ({ s with shw := { s.shw with rate := rate, rates := rates } }).setN R.SHOW_RATE_ADJ (trunc 32 (clampI (-2000000) 2000000 rate))

/-- A phase measurement of the selected source (R22, R23): the offset at selection decides between slewing and a step, 16 in a row inside the
accuracy lock. -/
def measure (k : Nat) (off : Int) (s : Device) : Device :=
  if s.shw.sel ≠ k || s.shw.phase = .holdover then s
  else
    let s := settleRate s
    let p : Device × Int := if s.shw.measured || k ≠ 0 then (s, off) else adoptTime off s
    let s := { p.1 with shw := { p.1.shw with offset := p.2 } }
    let s := s.setN R.SHOW_OFFSET (trunc 32 (clampI (-(2 ^ 31 - 1)) (2 ^ 31 - 1) p.2))
    let s := if s.shw.measured then s else firstOffset k p.2 s
    steer (countLock k p.2 s)

/-! ### The PTP ordinary clock (R21, R74, R77; log 60) -/

/-- Whether a message belongs to the clock that SHOW_PTP_CFG sets. -/
def ptpMine (s : Device) (port domain : Nat) : Bool := port = s.rf R.SHOW_PTP_CFG 10 8 && domain = s.rf R.SHOW_PTP_CFG 7 0

/-- Replaces what is held of the PTP clock. -/
def Device.setPtp (s : Device) (p : PtpState) : Device := { s with shw := { s.shw with ptp := p } }

/-- A Sync whose origin time is known, by times in 1/256 ns: the offset from the grandmaster is what remains after the mean path delay. A change of
less than 1 µs against the offset expected, 8 times in a row, qualifies PTP. -/
def ptpTimed (origin rx : Int) (s : Device) : Device :=
  let p := s.shw.ptp
  let ms := rx - origin
  let off := ms - p.delay
  let still : Bool := match p.last with
    | some e => (off - e).natAbs < 256000
    | none => false
  let x := s.src 0
  let s := (s.setPtp { p with waits := none, ms := some ms, last := some off }).setSrc 0 { x with good := if still then min 8 (x.good + 1) else 0 }
  let s := if (s.src 0).good = 8 then srcQualified 0 s else s
  measure 0 (off / 256) s

/-- A link delay measured on a port: half of what the answer's turnaround leaves of the round trip. -/
def ptpLink (port : Nat) (d : Int) (s : Device) : Device :=
  let s := { s with net := { s.net with linkDelay := s.net.linkDelay.setD 0 port d } }
  if port = s.rf R.SHOW_PTP_CFG 10 8 && s.rb R.SHOW_PTP_CFG 11 then s.setPtp { s.shw.ptp with delay := d } else s

/-- Whether the device answers a neighbour's Pdelay_Req on a port: peer-to-peer, on its own PTP port, and on the cascade ports as a transparent
clock (R77). -/
def ptpAnswers (s : Device) (port : Nat) : Bool :=
  s.rb R.SHOW_PTP_CFG 11 && (port = s.rf R.SHOW_PTP_CFG 10 8 || (s.rb R.NET_CASCADE_CTRL 1 && (port = 2 || port = 3)))

/-- PTP_MESSAGE_RX (R21, R74, R77). -/
def ptpHeard (m : PtpMsg) (s : Device) : Device :=
  match m with
  | .announce port domain inDomain =>
    if !ptpMine s port domain then s
    else if inDomain then s.setSrc 0 { s.src 0 with lastEdge := some s.clock } else srcLost 0 s
  | .sync port domain seq twoStep origin rx =>
    if !ptpMine s port domain then s
    else if twoStep then s.setPtp { s.shw.ptp with waits := some (seq, rx) } else ptpTimed origin rx s
  | .followUp port domain seq origin =>
    match s.shw.ptp.waits with
    | some (n, rx) => if ptpMine s port domain && n = seq then ptpTimed origin rx s else s
    | none => s
  | .delayResp port domain tx rx =>
    match s.shw.ptp.ms with
    | some ms =>
      if ptpMine s port domain && !s.rb R.SHOW_PTP_CFG 11 then s.setPtp { s.shw.ptp with delay := (ms + (rx - tx)) / 2 } else s
    | none => s
  | .pdelay port t1 t2 t3 t4 => if ptpAnswers s port then ptpLink port (((t4 - t1) - (t3 - t2)) / 2) s else s
  | .pdelayReq port rx tx => if ptpAnswers s port then s.send (.port port) [trunc 64 rx, trunc 64 tx] else s

/-- GLK_V_PULSE (R21): the period since the last edge is judged, the raster measured against the edge. -/
def glkPulse (input edge : Nat) (s : Device) : Device :=
  let k := input + 1
  let x := s.src k
  let m := s.shw.mode
  let fits : Bool := match x.lastEdge with
    | some e =>
      let d : Int := wrapDiff 64 edge e * m.num - m.frameNum
      d.natAbs * 10000 ≤ m.frameNum
    | none => true
  let first := x.lastEdge.isNone
  let x := { x with lastEdge := some edge }
  let x := if first then x else if fits then { x with good := min 8 (x.good + 1), bad := 0 } else { x with good := 0, bad := x.bad + 1 }
  let s := s.setSrc k x
  if 2 ≤ x.bad then (srcLost k s).setSrc k { (srcLost k s).src k with lastEdge := some edge }
  else
    let s := if x.good = 8 then srcQualified k s else s
    if s.shw.running then measure k (rasterOffset s (movedTime (sext 32 (s.rn R.SHOW_GLK_DELAY)) edge)) s else s

/-- LTC_FRAME_RX (R21): valid frames at the right rate qualify, 2 bad ones in a row lose the source. -/
def ltcHeard (valid : Bool) (num den edge : Nat) (s : Device) : Device :=
  let x := s.src 3
  let m := s.shw.mode
  let ok := valid && m.num * den = s.rf R.SHOW_LTC_CFG 3 0 * num * m.den
  let x := if ok then { x with good := min 4 (x.good + 1), bad := 0, lastEdge := some edge } else { x with good := 0, bad := x.bad + 1 }
  let s := s.setSrc 3 x
  if 2 ≤ x.bad then srcLost 3 s
  else
    let s := if x.good = 4 then srcQualified 3 s else s
    if ok && s.shw.running then measure 3 (rasterOffset s edge) s else s

/-- WCLK_QUALIFY_WINDOW (R21): the frequency over 10 ms within ±500 ppm of RATE, and whole frames. -/
def wclkWindow (milliHz : Nat) (s : Device) : Device :=
  let cfg := s.reg R.SHOW_WCLK_CFG
  let hz := 1000 * wclkHz cfg
  let d : Int := ((milliHz : Nat) : Int) - hz
  if d.natAbs * 2000 ≤ hz && wclkWhole cfg s.shw.mode then measure 4 0 (srcQualified 4 s) else s

/-- HOLDOVER_EXPIRED (R24). -/
def holdoverExpired (s : Device) : Device :=
  match s.shw.phase, s.shw.holdSince with
  | .holdover, some t =>
    let s := s.elapseTo (t + 1000000000 * s.rf R.SHOW_HOLD_CFG 11 0)
    (selectSource (firstSource s) s).raise Ev.HOLDOVER_EXPIRED s.shw.sel
  | _, _ => s

/-- SOURCE_REVERT (R26): an earlier source that stays qualified for REVERT_S is reselected: the first in the order that has, else the one that will first. -/
def sourceRevert (s : Device) : Device :=
  let wait := s.rf R.SHOW_HOLD_CFG 27 16
  let earlier := ((srcOrder s).takeWhile (fun k => k ≠ s.shw.sel)).filter (srcOk s)
  let due (k : Nat) : Nat := (s.src k).since + 1000000000 * wait
  if !s.rb R.SHOW_CTRL 1 || wait = 0 then s
  else match earlier.find? (fun k => due k ≤ s.clock) with
    | some k => selectSource k s
    | none => match sortBy (fun a b => due a ≤ due b) earlier with
      | k :: _ => selectSource k (s.elapseTo (due k))
      | [] => s

/-! ### The commit point (R34, R45, R171, R374, R467) -/

/-- The swap of the light-list banks at a commit point (R45). -/
def llSwapPoint (s : Device) : Device :=
  if s.shw.llSwap ≠ .pending then s
  else
    let s := { s with shw := { s.shw with llSwap := .idle } }
    let s := s.setN R.SHOW_LL_CTRL (b2n (s.rb R.SHOW_LL_CTRL 0) + 16 * (1 - llActive s))
    s.raise Ev.LL_SWAPPED (llActive s)

/-- The mode that commits have left (R31, R38, R39): with a new period, or for a step or REALIGN, the raster restarts. -/
def modePoint (a : Applied) (s : Device) : Device :=
  let old := s.shw.mode
  let m := modeOf s.reg
  let changed := a.touched.any (fun o => modeRegs.contains o)
  let period := changed && m.num * old.den ≠ old.num * m.den
  if period || s.shw.stepDue || s.rb R.SHOW_CTRL 2 then
    let limit := (s.shw.time + 2 * old.frameNum / old.num) % 2 ^ 64
    let s := { s with shw := { s.shw with restarting := some limit, restartFrom := lineInstant s old.vTotal }, pipe := [] }
    refreshHolding (spoilAll (s.setB R.SHOW_MODE_STATE 1 true))
  else { s with shw := { s.shw with modeApplied := s.shw.modeApplied || changed } }

/-- Streams whose registers changed drop the frame in progress (R81). -/
def streamPoint (old : Nat → Word) (s : Device) : Device :=
  s.each ((upto 32).filter (fun n => [0, 4, 8, 12, 16, 20].any (fun o => old (0x4C400 + 0x40 * n + o) ≠ s.reg (0x4C400 + 0x40 * n + o)))) fun s n =>
    streamReconfigured old n s

/-- The commit record of a commit point (R393): the groups applied with their entries, the digest of the safety-pair commit. -/
def tellCommits (a : Applied) (s : Device) : Device :=
  ridgeTell ridgeCommit ([s.shw.frame, s.cmp.safeDigest, a.groups.length] ++ a.groups.flatMap (fun g =>
    g.1 :: g.2.length :: g.2.flatMap (fun e => [e.1, (entryValue (readFile s.before e.1) e.1 e.2.1 e.2.2).toNat]))) s

/-- What a standby's own safety-pair commit is compared with (R397, R402). -/
def compareSafety (s : Device) : Device :=
  match s.rdg.safeties.find s.shw.frame with
  | some d =>
    let s := { s with rdg := { s.rdg with safeties := s.rdg.safeties.del s.shw.frame } }
    if d.toNat = s.cmp.safeDigest then s else diverge 3 (frameAdd s.shw.frame 1) 0 0 s
  | none => s

/-- What the blocks do once settings have been applied for a content frame (R33, R81, R145, R171, R196, R240, R257). `old` are the settings before. -/
def afterApplied (old : Nat → Word) (a : Applied) (content : Nat) (s : Device) : Device :=
  let s := cmpAfterPoint old a.touched a.inval content s
  let s := hdrAfterPoint old content (phoAfterPoint old content a.planned (chkAfterPoint old s))
  noteEstimates (streamPoint old (batAfterPoint old s))

/-- COMMIT_POINT: the start of line V_ACTIVE of the present frame. -/
def commitPoint (s : Device) : Device :=
  let f := s.shw.frame
  let content := frameAdd f 1
  let old := s.reg
  let s := { cmpBeforePoint s with before := s.regs }
  let s := llSwapPoint s
  let s := if s.pho.mapSwap = .pending then mapSwapped content s else s
  let (s, a) := applyDue s
  let s := updPoint (afterApplied old a content (safePoint s))
  let s := compareSafety (tellCommits a (modePoint a s))
  let s := runEntries s
  let s := refreshHolding (armFor content (f, s.shw.mode.vActive) { s with shw := { s.shw with lastPoint := some f } })
  if s.upd.imageReset then coreReset 4 s else s

/-! ### Lines -/

/-- The next line of the present frame at which something happens, up to a line: an immediate occurrence or the commit point. -/
def nextStop (s : Device) (upTo : Nat) : Option Nat :=
  let point := if s.shw.lastPoint ≠ some s.shw.frame then [s.shw.mode.vActive] else []
  let entries := if s.rb R.SHOW_LL_CTRL 0 then
      (llEntries s (llActive s)).filterMap (fun p => if !p.2.commits && p.2.inFrame s.shw.frame then some p.2.line else none) else []
  ((point ++ entries).filter (fun l => s.shw.line < l && l ≤ upTo)).foldl (fun (a : Option Nat) l => match a with
    | some b => some (min b l)
    | none => some l) none

/-- The raster reaches a line at which something happens. -/
def visitLine (l : Nat) (s : Device) : Device :=
  let s := atLine l s
  if l = s.shw.mode.vActive && s.shw.lastPoint ≠ some s.shw.frame then commitPoint s else runEntries s

/-- The raster runs on to a line of the present frame, and everything due on the way takes place. -/
def runLines : Nat → Nat → Device → Device
  | 0, upTo, s => if s.shw.line < upTo then atLine upTo s else s
  | n + 1, upTo, s =>
    match nextStop s upTo with
    | some l => runLines n upTo (visitLine l s)
    | none => if s.shw.line < upTo then atLine upTo s else s

/-- The raster runs to a line, if it runs and the line lies ahead in the frame. -/
def runTo (l : Nat) (s : Device) : Device :=
  if s.shw.running && s.shw.line < l && l < s.shw.mode.vTotal then runLines s.shw.mode.vTotal l s else s

/-- LINE_START (R17): the next line of the frame. -/
def lineStart (s : Device) : Device := runTo (s.shw.line + 1) s

/-- COMMIT_POINT (R34): line V_ACTIVE is reached. -/
def pointReached (s : Device) : Device := runTo s.shw.mode.vActive s

/-! ### Frame boundaries -/

/-- The register file that governs the content captured at a boundary (R33): without the last commit point's settings when that lies in the frame
that ends; the timing mode is the frame's own (R38). -/
def captureRegs (old : Nat) (s : Device) : Table Word :=
  let m := if s.shw.lastPoint = some old then s.before else s.regs
  modeRegs.foldl (fun m o => writeFile m o (s.reg o)) m

/-- The content frame that a boundary captures (R32, R33), with what the blocks take at the capture instant. -/
def newFrame (old content : Nat) (s : Device) : FrameCtx :=
  let late := s.shw.lastPoint = some old
  { content := content, regs := captureRegs old s, start := s.clock,
    coef := if late then s.cmp.coefBefore else s.cmp.coef,
    valid := if late then s.cmp.validBefore else s.cmp.valid,
    epochs := if late then s.cmp.epochsBefore else s.cmp.epochs,
    temps := s.bat.status, unis := universeValues s,
    scales := (upto 64).foldl (fun (t : Table Nat) z => t.setD 65536 z (s.rn (R.HDR_Zz_SCALE z))) [],
    corr := groupCorrs s }

/-- The timecode that LTC out carries at a boundary (R30): hours, minutes, seconds, frames, drop-frame flag. -/
def ltcCode (s : Device) : List Nat :=
  let m := s.shw.mode
  let mult := s.rf R.SHOW_LTC_CFG 3 0
  let num := m.num
  let den := m.den * mult
  let tod := (s.shw.time + 1000000000 * s.rf R.SHOW_LTC_CFG 31 8) % 86400000000000
  let drop := num * 1001 = 30000 * den
  let rate := cdiv num den
  let n := tod * num / (den * 1000000000)
  let n := if drop then n + 18 * (n / 17982) + (if 2 ≤ n % 17982 then 2 * ((n % 17982 - 2) / 1798) else 0) else n
  [n / (rate * 3600) % 24, n / (rate * 60) % 60, n / rate % 60, n % rate, b2n drop]

/-- The actions of a frame's start (R17, R30, R32, R61): the present frame follows frame `old` of the raster. -/
def frameActions (old : Nat) (s : Device) : Device :=
  let s := s.raise Ev.FRAME_START s.shw.frame
  let s := if s.rb R.SHOW_CTRL 3 && s.shw.frame % s.rf R.SHOW_LTC_CFG 3 0 = 0 then s.send (.pin pinLtc) (ltcCode s) else s
  let content := frameAdd s.shw.frame (-1)
  let passed := s.pipe.any (fun d => d.passed && d.content = frameAdd content (-1))
  let s := if passed then s else idlePass s
  let s := { s with pho := { s.pho with badNodes := [] } }
  let s := if rdgState s = 0 then s else sendDelta s
  let s := if braced s then s
    else captureFrame content (idleDemands content (batCapture content { s with pipe := s.pipe ++ [newFrame old content s] }))
  let s := if s.shw.lastPoint = some s.shw.frame then { s with shw := { s.shw with lastPoint := none } } else s
  runEntries (pairBoundary (frameTicks s))

/-- The frame count after the present frame (R27 to R29): a FRAME_SET that is due, the count of PTP, or one more; and whether it is a FRAME_SET. -/
def nextCount (t : Nat) (s : Device) : Nat × Bool :=
  let armed := s.shw.armedAt.isSome && (!s.rb R.SHOW_FRAME_SET_CTRL 1 || s.shw.ppsSeen)
  if s.shw.sel = 0 && s.shw.phase ≠ .holdover then
    if s.shw.measured && s.shw.offset.natAbs ≤ srcAccuracy 0 then (ptpFrame s s.shw.mode t, false) else (frameAdd s.shw.frame 1, false)
  else if armed then (s.get64 R.SHOW_FRAME_SET_LO R.SHOW_FRAME_SET_HI % 2 ^ 48, true)
  else (frameAdd s.shw.frame 1, false)

/-- The next frame starts at the present instant (R17, R27 to R31): its count, its mode, its actions. -/
def startFrame (s : Device) : Device :=
  let old := s.shw.frame
  let k := frameDiff old s.shw.rasterFrame + 1
  let next := nextCount s.shw.time s
  let s := if next.2 then ({ s with shw := { s.shw with armedAt := none, ppsSeen := false } }).setB R.SHOW_FRAME_SET_CTRL 0 false else s
  let applied := s.shw.modeApplied
  let s := { s with shw := { s.shw with frame := next.1, line := 0, sub := 0, rasterFrame := frameAdd next.1 (-k), mode := modeOf s.reg,
                                        modeApplied := false } }
  frameActions old ((stepCount old next.1 s).raiseIf applied Ev.MODE_APPLIED next.1)

/-- FRAME_BOUNDARY (R17): the lines that remain, then the start of the next frame. In a restart the new raster starts by RASTER_RESTART. -/
def frameBoundary (s : Device) : Device :=
  if !s.shw.running || s.shw.restarting.isSome then s
  else
    let s := runTo (s.shw.mode.vTotal - 1) s
    if !s.shw.running || s.shw.restarting.isSome then s
    else startFrame (elapseShow (lineInstant s s.shw.mode.vTotal) s)

/-- LATCH_INSTANT (R228): the content frame due is latched and leaves the pipeline; in brace state and restarts nothing is (R39, R441). -/
def latchInstant (s : Device) : Device :=
  if !s.shw.running then s
  else
    let s := runTo s.shw.mode.latch s
    if noLatches s then pairLatch none s
    else
      let newest := frameAdd s.shw.frame (-1)
      let due := s.pipe.filter (fun d => d.content ≠ newest)
      match due.getLast? with
      | some d =>
        let s := pairLatch (some d) (openWindow (hdrLatch d s))
        bootCheck { s with pipe := s.pipe.filter (fun e => !due.any (fun x => x.content = e.content)) }
      | none => bootCheck (pairLatch none s)

/-! ### Raster start and restart (R39, R439) -/

/-- The raster starts with a frame at the present instant under the mode in the registers. -/
def rasterAt (frame : Nat) (s : Device) : Device :=
  { s with shw := { s.shw with running := true, rasterStart := s.shw.time, rasterFrame := frame, frame := frame, line := 0, sub := 0,
                               mode := modeOf s.reg, modeApplied := false, restarting := none } }

/-- The raster starts with a frame at a show time under the mode in the registers. -/
def startRaster (frame t : Nat) (s : Device) : Device := rasterAt frame (elapseShow t s)

/-- The source-aligned boundary at which a new raster starts (R39): under PTP the first aligned one, under GLK and LTC the next edge, else the end
of the old frame; at the limit when none comes inside it, and then not aligned. -/
def restartInstant (m : Mode) (from_ limit : Nat) (s : Device) : Nat × Bool :=
  match s.shw.sel with
  | 0 =>
    let t := ptpAligned s m from_
    if notAfter t limit then (t, true) else (limit, false)
  | 4 => (from_, true)
  | 5 => (from_, true)
  | k =>
    let edge := movedTime (if k = 3 then 0 else sext 32 (s.rn R.SHOW_GLK_DELAY)) ((s.src k).lastEdge.getD 0)
    if (s.src k).lastEdge.isSome && notAfter from_ edge && notAfter edge limit then (edge, true) else (limit, false)

/-- Makes the raster that starts the aligned one under R27 (R39): at the limit the phase offset moves, and the base keeps the frame count. -/
def rebasePtp (m : Mode) (frame t : Nat) (aligned : Bool) (s : Device) : Device :=
  let s := if aligned then s
    else
      let rest := (((t : Nat) : Int) - ptpOffset s) * m.num % m.frameNum / m.num
      s.setN R.SHOW_PTP_PHASE_OFFSET (trunc 32 (ptpOffset s + rest))
  let n := ptpPeriods s m (t + m.frameNs / 2)
  s.set64 R.SHOW_FRAME_BASE_LO R.SHOW_FRAME_BASE_HI (frameAdd frame (-n))

/-- What a restart moves the show time by: the PTP phase where a step is due (R23). -/
def restartOffset (s : Device) : Int := if s.shw.stepDue && s.shw.sel = 0 then -s.shw.offset else 0

/-- The device of a restart before its start is known: the show time has moved, REALIGN has cleared the base and the phase offset (R39). -/
def restartMoved (s : Device) : Device :=
  let d := restartOffset s
  let s := { s with shw := { s.shw with time := movedTime d s.shw.time, ptp := s.shw.ptp.moved d, stepDue := false } }
  if s.rb R.SHOW_CTRL 2 then (s.setN R.SHOW_PTP_PHASE_OFFSET 0).set64 R.SHOW_FRAME_BASE_LO R.SHOW_FRAME_BASE_HI 0 else s

/-- How a restart goes (R27, R39): a raster that starts off the source's alignment makes itself the aligned one or, outside holdover, is re-acquired;
with the new frame's count and its start. DESIGN CHOICE (log 59): a FRAME_SET that is armed waits for the frame boundary after the restart. -/
def restartPlan (limit : Nat) (s : Device) : Device × Nat × Nat :=
  let m := modeOf s.reg
  let period := m.num * s.shw.mode.den ≠ s.shw.mode.num * m.den
  let realign := s.rb R.SHOW_CTRL 2
  let t := restartMoved s
  let start := restartInstant m (movedTime (restartOffset s) s.shw.restartFrom) (movedTime (restartOffset s) limit) t
  let ptp := s.shw.sel = 0
  let new := if ptp && realign && start.2 then ptpFrame t m start.1 else frameAdd s.shw.frame 1
  let t := if ptp && (!start.2 || (period && !realign)) then rebasePtp m new start.1 start.2 t else t
  let t := if start.2 || ptp || t.shw.phase = .holdover then t
    else { t with shw := { t.shw with phase := .acquire, measured := false, locks := 0 } }
  ((t.setB R.SHOW_MODE_STATE 1 false).setB R.SHOW_CTRL 2 false, new, start.1)

/-- RASTER_RESTART (R39): the old frame ends, the new raster starts with frame F + 1, or under REALIGN with the count of the epoch. -/
def rasterRestart (s : Device) : Device :=
  let s := if s.shw.restarting.isSome then runTo (s.shw.mode.vTotal - 1) s else s
  match s.shw.restarting with
  | none => s
  | some limit =>
    let p := restartPlan limit s
    let t := stepCount s.shw.frame p.2.1 (startRaster p.2.1 p.2.2 p.1)
    frameActions s.shw.frame (refreshHolding (t.raise Ev.MODE_APPLIED p.2.1))

/-- The first raster (R239, R373, R439): BOOT_STATUS, the chains' bring-up, the light-list commits, the first frame's actions. -/
def rasterBegun (s : Device) : Device :=
  let s := (s.setF R.BOOT_STATUS 3 0 3).setN R.BOOT_T_RASTER (sinceRelease s)
  let s := { s with sys := { s.sys with latched := [] } }
  let s := s.each ((upto 512).filter (fun c => chainOn s.reg c)) (fun s c => startBringup c s)
  let s := armFor s.shw.frame (s.shw.frame, 0) s
  frameActions (frameAdd s.shw.frame (-1)) s

/-- The raster starts after boot on the first qualified source (R239, R373, R439): chains are brought up, light-list commits armed. -/
def rasterFirst (s : Device) : Device :=
  if s.shw.running || s.rf R.BOOT_STATUS 3 0 ≠ 2 then s
  else
    let k := firstSource s
    let s := if k = s.shw.sel then s else selectSource k s
    let m := modeOf s.reg
    let ptp := k = 0
    let s := { s with shw := { s.shw with mode := m } }
    let t := if ptp then ptpAligned s m s.shw.time else s.shw.time
    rasterBegun (startRaster (if ptp then ptpFrame s m t else s.shw.frame) t s)

/-- RASTER_START (R439): before BOOT_SRC_WAIT has passed the raster waits while free-run, not listed first, is the only qualified source. -/
def rasterStart (s : Device) : Device :=
  let waits := firstSource s = 5 && (srcOrder s).head? ≠ some 5 &&
    s.clock < s.sys.released.getD 0 + 1000000 * s.rf R.BOOT_SRC_WAIT 12 0
  if waits then s else rasterFirst s

/-- SRC_WAIT_EXPIRED (R439): no source has qualified in time; the raster starts on the first qualified one. -/
def srcWaitExpired (s : Device) : Device :=
  if s.shw.running || s.rf R.BOOT_STATUS 3 0 ≠ 2 then s
  else
    let s := s.elapseTo (s.sys.released.getD 0 + 1000000 * s.rf R.BOOT_SRC_WAIT 12 0)
    rasterFirst (s.raise Ev.SRC_WAIT_EXPIRED (firstSource s))

/-! ### PPS (R28, R30) -/

/-- PPS_IN_MISSING (R28): 1.5 s after ARM the request stays armed. -/
def ppsMissing (s : Device) : Device :=
  match s.shw.armedAt with
  | some t => if s.rb R.SHOW_FRAME_SET_CTRL 1 && !s.shw.ppsSeen then (s.elapseTo (t + 1500000000)).raise Ev.PPS_IN_MISSING 0 else s
  | none => s

/-- PPS_OUT_RISE (R30): at the next whole second of show time. -/
def ppsRise (s : Device) : Device :=
  if !s.rb R.SHOW_CTRL 4 || s.shw.ppsOut then s
  else
    let s := s.elapse ((1000000000 - s.shw.time % 1000000000) % 1000000000)
    ({ s with shw := { s.shw with ppsOut := true } }).send (.pin pinPps) [1]

/-- PPS_OUT_FALL (R30): 100 ms after the rise. -/
def ppsFall (s : Device) : Device :=
  if !s.shw.ppsOut then s
  else
    let s := s.elapse (100000000 - s.shw.time % 1000000000)
    ({ s with shw := { s.shw with ppsOut := false } }).send (.pin pinPps) [0]

/-! ### Registers -/

/-- The rates that LTC out must fit (R30): in effect, and as the mode changes accepted will leave it. -/
def ltcFits (s : Device) (mult : Nat) : Bool :=
  let left := modeOf (fileRd (settingsLeft s))
  ltcRateOk s.shw.mode.num s.shw.mode.den mult && ltcRateOk left.num left.den mult

/-- SHOW_LL_CTRL (R45, R51, R60, R373). -/
def llCtrlHandler (w : Who) (v : Word) : Handler :=
  { state := fun s => if wbit v 1 && s.shw.llSwap ≠ .idle then .busy else .ok
    check := fun _ => .ok
    effect := fun s =>
      let was := s.rb R.SHOW_LL_CTRL 0
      let s := storeWrite w R.SHOW_LL_CTRL v s
      let s := if wbit v 1 then { s with shw := { s.shw with llSwap := .validating } } else s
      if !was && wbit v 0 && s.shw.running then armFor (nextPoint s) (s.shw.frame, s.shw.line + 1) s else s }

/-- LL_VALIDATION_DONE (R45): the swap waits for its commit point, or is abandoned. -/
def llValidated (s : Device) : Device :=
  if s.shw.llSwap ≠ .validating then s
  else
    let bank := 1 - llActive s
    let left := (readFile (settingsLeft s) R.SHOW_V_TOTAL).toNat
    let code := llBankCode s bank s.shw.mode.vTotal left
    let s := s.each (upto (llCount s bank)) (fun s i => (memRead .show (llAt s bank i) 32 s).1)
    match code with
    | some (c, i) =>
      ({ s with shw := { s.shw with llSwap := .idle } }).setB R.SHOW_LL_CTRL 1 false |>.setN R.SHOW_LL_STATUS (i + 65536 * c.num)
    | none => (({ s with shw := { s.shw with llSwap := .pending } }).setB R.SHOW_LL_CTRL 5 true).setN R.SHOW_LL_STATUS 0

/-- The SHOW registers' own rules (R20, R21, R28, R30, R41, R56 to R60). DESIGN CHOICE (log 59): PTP in HOLDOVER does not count as a raster under
PTP for REALIGN and FRAME_SET. -/
def showHandler (w : Who) (off : Nat) (v : Word) : Handler :=
  let h := plainHandler w off v
  if off = R.SHOW_CTRL then
    { h with
      state := fun s => if wbit v 2 && !(s.shw.sel = 0 && s.shw.phase ≠ .holdover) then .state else .ok
      check := fun s => if wbit v 3 && !s.rb R.SHOW_CTRL 3 && !ltcFits s (s.rf R.SHOW_LTC_CFG 3 0) then .conflict else .ok }
  else if off = R.SHOW_SRC_ORDER then
    { h with
      check := fun _ => srcOrderCode v
      effect := fun s =>
        let s := storeWrite w off v s
        if s.shw.phase = .holdover || firstSource s = s.shw.sel then s else selectSource (firstSource s) s }
  else if off = R.SHOW_LTC_CFG then
    { h with check := fun s => if s.rb R.SHOW_CTRL 3 && !ltcFits s (wfld v 3 0) then .conflict else .ok }
  else if off = R.SHOW_WCLK_CFG then
    { h with check := fun s =>
        if s.shw.sel = 4 && !(wclkWhole v s.shw.mode && wclkWhole v (modeOf (fileRd (settingsLeft s)))) then .conflict else .ok }
  else if off = R.SHOW_FRAME_SET_CTRL then
    { h with
      state := fun s => if s.shw.sel = 0 && s.shw.phase ≠ .holdover then .state else .ok
      effect := fun s =>
        let s := storeWrite w off v s
        if wbit v 0 then { s with shw := { s.shw with armedAt := some s.clock, ppsSeen := false } } else s }
  else if off = R.SHOW_LL_CTRL then llCtrlHandler w v
  else if off = R.SHOW_LL_COUNT0 || off = R.SHOW_LL_COUNT1 then
    let bank := if off = R.SHOW_LL_COUNT0 then 0 else 1
    { h with state := fun s => if llActive s = bank || s.shw.llSwap ≠ .idle then .state else .ok }
  else h

/-- SHOW_POS (R55). -/
def showPos (s : Device) : Word := BitVec.ofNat 32 (s.shw.line % 8192 + 8192 * (s.shw.sub % 2 ^ 18))

/-- SHOW_SRC_STATUS (R58). -/
def srcStatus (s : Device) : Word :=
  let st : Nat := match s.shw.phase with
    | .freerun => 0
    | .acquire => 1
    | .slewing => 2
    | .locked => 3
    | .holdover => 4
  let held : Nat := match s.shw.phase, s.shw.holdSince with
    | .holdover, some t => min 65535 ((s.clock - t) / 1000000000)
    | _, _ => 0
  BitVec.ofNat 32 (s.shw.sel + 16 * st + 256 * sumL ((upto 6).map (fun k => b2n (srcOk s k) * 2 ^ k)) +
    16384 * b2n (!wclkWhole (s.reg R.SHOW_WCLK_CFG) s.shw.mode) + 65536 * held)

/-- SHOW_LL_NEXT (R55). -/
def llNextWord (s : Device) : Word :=
  if !s.rb R.SHOW_LL_CTRL 0 then 0x80000000
  else match llNext s with
    | some (_, _, i) => BitVec.ofNat 32 i
    | none => 0x80000000

/-- What SHOW registers read as where they show live state (R55). -/
def showView (s : Device) (off : Nat) : Option Word :=
  let n (k : Nat) : Option Word := some (BitVec.ofNat 32 k)
  if off = R.SHOW_SRC_STATUS then some (srcStatus s)
  else if off = R.SHOW_TIME_LO then n s.shw.time
  else if off = R.SHOW_TIME_HI then n (s.shw.time / 2 ^ 32)
  else if off = R.SHOW_FRAME_LO then n s.shw.frame
  else if off = R.SHOW_FRAME_HI then n (s.shw.frame / 2 ^ 32)
  else if off = R.SHOW_POS then some (showPos s)
  else if off = R.SHOW_MODE_STATE then some (setBit (s.reg off) 0 (s.shw.commits.any (fun c => setsMode c.entries)))
  else if off = R.SHOW_LL_NEXT then some (llNextWord s)
  else none

/-- A read of SHOW_FRAME_LO (R19): the low word, with the four latches for the reader. -/
def readFrameLo (w : Who) (s : Device) : Device × Word :=
  let n (k : Nat) : Word := BitVec.ofNat 32 k
  let t := s.latch w R.SHOW_FRAME_HI (n (s.shw.frame / 2 ^ 32))
  let t := (t.latch w R.SHOW_POS (showPos s)).latch w R.SHOW_TIME_LO (n s.shw.time)
  (t.latch w R.SHOW_TIME_HI (n (s.shw.time / 2 ^ 32)), n s.shw.frame)

/-- A read of SHOW_TIME_LO (R19): a latched word and nothing anew, or the live word with SHOW_TIME_HI latched. -/
def readTimeLo (w : Who) (s : Device) : Device × Word :=
  match s.latched w R.SHOW_TIME_LO with
  | some v => (s.unlatch w R.SHOW_TIME_LO, v)
  | none => (s.latch w R.SHOW_TIME_HI (BitVec.ofNat 32 (s.shw.time / 2 ^ 32)), BitVec.ofNat 32 s.shw.time)

/-! ### The commands -/

/-- FRAME_BOUNDARY (R17). -/
def execFrameBoundary (st : State) : Host.Outcome State Fault Refusal :=
  st.onDevice fun s => .next (frameBoundary s)

/-- LINE_START (R17). -/
def execLineStart (st : State) : Host.Outcome State Fault Refusal :=
  st.onDevice fun s => .next (lineStart s)

/-- COMMIT_POINT (R34). -/
def execCommitPoint (st : State) : Host.Outcome State Fault Refusal :=
  st.onDevice fun s => .next (pointReached s)

/-- LATCH_INSTANT (R228). -/
def execLatchInstant (st : State) : Host.Outcome State Fault Refusal :=
  st.onDevice fun s => .next (latchInstant s)

/-- PTP_MESSAGE_RX (R74). -/
def execPtpMessageRx (m : PtpMsg) (st : State) : Host.Outcome State Fault Refusal :=
  st.onDevice fun s => .next (ptpHeard m s)

/-- GLK_V_PULSE (R21). -/
def execGlkVPulse (input : Nat) (edge : Nat) (st : State) : Host.Outcome State Fault Refusal :=
  st.onDevice fun s => onUnit (input < 2) (glkPulse input edge s)

/-- LTC_FRAME_RX (R21). -/
def execLtcFrameRx (valid : Bool) (rateNum rateDen : Nat) (edge : Nat) (st : State) : Host.Outcome State Fault Refusal :=
  st.onDevice fun s =>
  .next (ltcHeard valid rateNum rateDen edge s)

/-- WCLK_QUALIFY_WINDOW (R21). -/
def execWclkQualifyWindow (milliHz : Nat) (st : State) : Host.Outcome State Fault Refusal :=
  st.onDevice fun s => .next (wclkWindow milliHz s)

/-- PTP_ANNOUNCE_TIMEOUT (R21). -/
def execPtpAnnounceTimeout (st : State) : Host.Outcome State Fault Refusal :=
  st.onDevice fun s => .next (srcLost 0 s)

/-- GLK_LOSS_TIMEOUT (R21). -/
def execGlkLossTimeout (input : Nat) (st : State) : Host.Outcome State Fault Refusal :=
  st.onDevice fun s => onUnit (input < 2) (srcLost (input + 1) s)

/-- LTC_LOSS (R21). -/
def execLtcLoss (st : State) : Host.Outcome State Fault Refusal :=
  st.onDevice fun s => .next (srcLost 3 s)

/-- WCLK_LOSS (R21). -/
def execWclkLoss (st : State) : Host.Outcome State Fault Refusal :=
  st.onDevice fun s => .next (srcLost 4 s)

/-- HOLDOVER_EXPIRED (R24). -/
def execHoldoverExpired (st : State) : Host.Outcome State Fault Refusal :=
  st.onDevice fun s => .next (holdoverExpired s)

/-- SOURCE_REVERT (R26). -/
def execSourceRevert (st : State) : Host.Outcome State Fault Refusal :=
  st.onDevice fun s => .next (sourceRevert s)

/-- SHOW_FRAME_SET_CTRL written (R28). -/
def execFrameSetArm (w : Who) (v : Word) (st : State) : Host.Outcome State Fault Refusal :=
  st.onDevice fun s =>
  .next (regWrite s w R.SHOW_FRAME_SET_CTRL v (showHandler w R.SHOW_FRAME_SET_CTRL v))

/-- PPS_IN_EDGE (R28). -/
def execPpsInEdge (st : State) : Host.Outcome State Fault Refusal :=
  st.onDevice fun s =>
  .next { s with shw := { s.shw with ppsSeen := s.shw.ppsSeen || s.shw.armedAt.isSome } }

/-- PPS_IN_MISSING (R28). -/
def execPpsInMissing (st : State) : Host.Outcome State Fault Refusal :=
  st.onDevice fun s => .next (ppsMissing s)

/-- PPS_OUT_RISE (R30). -/
def execPpsOutRise (st : State) : Host.Outcome State Fault Refusal :=
  st.onDevice fun s => .next (ppsRise s)

/-- PPS_OUT_FALL (R30). -/
def execPpsOutFall (st : State) : Host.Outcome State Fault Refusal :=
  st.onDevice fun s => .next (ppsFall s)

/-- SHOW_CTRL written with REALIGN (R39, R56). -/
def execRealign (w : Who) (v : Word) (st : State) : Host.Outcome State Fault Refusal :=
  st.onDevice fun s =>
  .next (regWrite s w R.SHOW_CTRL v (showHandler w R.SHOW_CTRL v))

/-- A timing-mode register written (R37, R522). -/
def execTimingModeWrite (w : Who) (off : Nat) (v : Word) (st : State) : Host.Outcome State Fault Refusal :=
  st.onDevice fun s =>
  onUnit (modeRegs.contains off) (regWrite s w off v (directHandler off v))

/-- RASTER_RESTART (R39). -/
def execRasterRestart (st : State) : Host.Outcome State Fault Refusal :=
  st.onDevice fun s => .next (rasterRestart s)

/-- SHOW_FRAME_LO read (R19). -/
def execShowFrameLoRead (w : Who) (st : State) : Host.Outcome State Fault Refusal :=
  st.onDevice fun s =>
  .next ((readFrameLo w s).1.answerD .ok [(readFrameLo w s).2])

/-- SHOW_TIME_LO read (R19). -/
def execShowTimeLoRead (w : Who) (st : State) : Host.Outcome State Fault Refusal :=
  st.onDevice fun s =>
  .next ((readTimeLo w s).1.answerD .ok [(readTimeLo w s).2])

/-- SHOW_LL_CTRL.SWAP written (R45). -/
def execLlSwap (w : Who) (v : Word) (st : State) : Host.Outcome State Fault Refusal :=
  st.onDevice fun s =>
  .next (regWrite s w R.SHOW_LL_CTRL v (showHandler w R.SHOW_LL_CTRL v))

/-- LL_VALIDATION_DONE (R45). -/
def execLlValidationDone (st : State) : Host.Outcome State Fault Refusal :=
  st.onDevice fun s => .next (llValidated s)

/-- SHOW_LL_CTRL.ENABLE written (R51). -/
def execLlEnable (w : Who) (v : Word) (st : State) : Host.Outcome State Fault Refusal :=
  st.onDevice fun s =>
  .next (regWrite s w R.SHOW_LL_CTRL v (showHandler w R.SHOW_LL_CTRL v))

/-- SRC_WAIT_EXPIRED (R439). -/
def execSrcWaitExpired (st : State) : Host.Outcome State Fault Refusal :=
  st.onDevice fun s => .next (srcWaitExpired s)

/-- RASTER_START (R439). -/
def execRasterStart (st : State) : Host.Outcome State Fault Refusal :=
  st.onDevice fun s => .next (rasterStart s)

end Sys2Proof.Machine
end

