-- ==== Sys2Proof/Machine/Access.lean ====
section
/-! DEFINITION. Register access over the whole map (R8 to R13, R19, R86, R93, R368, R369, R379): each block's rules in one place, reads with
their latches and clears; and the memory and SRAM events that reach into several blocks (R198, R334, R341, R342, R346). -/

namespace Sys2Proof.Machine

/-! ### Writes -/

/-- The rules of the block that an offset lies in (R13, R379). -/
def blockHandler (w : Who) (off : Nat) (v : Word) : Handler :=
  if (specAt off).isNone then plainHandler w off v
  else if off < 0x20000 then sysHandler w off v
  else if off < 0x30000 then kprHandler w off v
  else if off < 0x40000 then evtHandler w off v
  else if off < 0x60000 then netHandler w off v
  else if off < 0x70000 then showHandler w off v
  else if off < 0x80000 then queHandler w off v
  else if off < 0x100000 then schHandler w off v
  else if off < 0x140000 then cmpHandler w off v
  else if off < 0x180000 then phoHandler w off v
  else if off < 0x1C0000 then batHandler w off v
  else if off < 0x1D0000 then pvwHandler w off v
  else if off < 0x1E0000 then hdrHandler w off v
  else if off < 0x200000 then mtrHandler w off v
  else if off < 0x210000 then memHandler w off v
  else if off < 0x220000 then rdgHandler w off v
  else if off < 0x240000 then updHandler w off v
  else hkpHandler w off v

/-- The safety pair stages a layer 15 write for its own channel (R142). -/
def safetyHandler (off : Nat) (v : Word) : Handler :=
  { state := fun _ => .ok, check := fun _ => .ok,
    effect := fun s => { s with cmp := { s.cmp with safeStage := s.cmp.safeStage ++ [(off, v)] } } }

/-- Whether a register is shadowed (R10). -/
def isShadowed (off : Nat) : Bool := (specAt off).any (fun r => r.sh)

/-- The rules of a write by any writer: staged where the register is shadowed (R142, R522), else its block's. -/
def writeHandler (w : Who) (off : Nat) (v : Word) : Handler :=
  if isShadowed off then (if w = .safety && isLayer15 off then safetyHandler off v else directHandler off v)
  else blockHandler w off v

/-- A write to a register by any writer (R10, R522). -/
def writeReg (w : Who) (off : Nat) (v : Word) (s : Device) : Device := regWrite s w off v (writeHandler w off v)

/-! ### Reads -/

/-- What a register reads as where it shows live state. -/
def blockView (s : Device) (w : Who) (off : Nat) : Option Word :=
  if off < 0x20000 then sysView s w off
  else if off < 0x30000 then kprView s w off
  else if off < 0x40000 then evtView s off
  else if off < 0x60000 then netView s off
  else if off < 0x70000 then showView s off
  else if off < 0x100000 then queView s w off
  else if off < 0x140000 then cmpView s off
  else if off < 0x180000 then phoView s off
  else if off < 0x1C0000 then batView s off
  else if off < 0x1D0000 then none
  else if off < 0x1E0000 then hdrView s w off
  else if off < 0x200000 then mtrView s w off
  else if off < 0x210000 then memView s off
  else if off < 0x220000 then rdgView s off
  else if off < 0x240000 then updView s w off
  else hkpView s off

/-- The live value of a register for a reader: its view, or the value kept; write-only bits read 0, a reserved offset reads 0 (R9, R10). -/
def liveValue (s : Device) (w : Who) (off : Nat) : Word :=
  match specAt off with
  | none => 0
  | some r =>
    let kept := if r.banked then s.bankReg w off else s.reg off
    (blockView s w off).getD kept &&& ~~~ BitVec.ofNat 32 r.wo

/-- The registers that a read of a latching register latches for its reader (R369). -/
def companions (off : Nat) : List Nat :=
  let next (n : Nat) : List Nat := (upto n).map (fun i => off + 4 * (i + 1))
  if off = R.CMP_DONE_FRAME_LO || off = R.PHO_DONE_FRAME_LO || off = R.PVW_CANVAS_FRAME_LO || off = R.UPD_HANDOVER_FRAME_LO ||
    off = R.HKP_REPLAN_TIME_LO || off = R.SYS_LAST_BRACE_LO || off = R.RDG_LATCH_SEEN_LO || off = R.RDG_INSTEP_FRAME_LO then next 1
  else if off = R.RDG_DIVERGE_FRAME_LO || off = R.RDG_TAKEOVER_FRAME_LO || off = R.MEM_ERR_ADDR_LO then next 2
  else if off = R.RDG_DIG_FRAME_LO then next 4
  else if off = R.RDG_HEALTH_LOCALj 0 || off = R.RDG_HEALTH_PEERj 0 then next 15
  else if off = R.SYS_PWREVT_TIME_LO then [R.SYS_PWREVT_TIME_HI, R.SYS_PWREVT_FRAME_LO, R.SYS_PWREVT_FRAME_HI]
  else if off = R.MTR_GAP_START_LO then next 3
  else if off = R.PHO_ZONE_FRAME_LO then
    R.PHO_ZONE_FRAME_HI :: (upto 64).flatMap (fun z => [R.PHO_ZONE_PRED_z z, R.PHO_ZONE_SAFE_z z])
  else if off = R.HDR_FRAME_LO then
    R.HDR_FRAME_HI :: (upto 64).flatMap (fun z => (upto 7).map (fun k => R.HDR_Zz_K z + 4 * k))
  else if 0x120000 ≤ off && off < 0x121000 && off % 0x40 = 0x18 then [off + 4, off - 4]
  else if R.MTR_Cn_CFG 16 ≤ off && off < R.MTR_Cn_CFG 64 then
    (if off % 0x40 = 0x18 || off % 0x40 = 0x20 then next 1 else if off % 0x40 = 0x28 then next 2 else [])
  else if 0x1E3000 ≤ off && off < 0x1E4000 && off % 0x40 = 0x1C then next 1
  else []

/-- The registers whose latched value serves one read (R19, R86). -/
def oneRead (off : Nat) : Bool :=
  off = R.SHOW_FRAME_HI || off = R.SHOW_POS || off = R.SHOW_TIME_HI ||
    (0x40000 ≤ off && off < 0x4C000 && (off % 0x2000 = 0x408 || off % 0x2000 = 0x430))

/-- Whether a read by this reader clears read-to-clear registers (R10, R368). -/
def clears (s : Device) : Who → Bool
  | .session k => isKeeper s (.session k)
  | _ => true

/-- The octet counters of R86. -/
def isOctetsLo (off : Nat) : Bool := 0x40000 ≤ off && off < 0x4C000 && (off % 0x2000 = 0x404 || off % 0x2000 = 0x42C)

/-- Whether a register is read-to-clear (R10). -/
def isRc (off : Nat) : Bool := (specAt off).any (fun r => r.access = .rc)

/-- Clears a register that was read (R10); a peak or lowest register then takes its next sample (R494). -/
def clearRead (off : Nat) (s : Device) : Device :=
  let s := s.setReg off 0
  { s with hkp := { s.hkp with seen := s.hkp.seen.del off } }

/-- A read of an _OCTETS_LO counter (R86): its value, with _OCTETS_HI latched for the next read; a reader that clears clears both. -/
def readOctets (w : Who) (off : Nat) (s : Device) : Device × Word :=
  let t := s.latch w (off + 4) (s.reg (off + 4))
  (if clears s w then (t.setReg off 0).setReg (off + 4) 0 else t, s.reg off)

/-- The value of a register for a reader that may hold a latched one (R369). -/
def heldValue (s : Device) (w : Who) (off : Nat) : Word := (s.latched w off).getD (liveValue s w off)

/-- A read of a register by any reader: the code, the value, and what the read latches or clears (R8, R9, R19, R86, R93, R368, R369). -/
def readReg (w : Who) (off : Nat) (s : Device) : Device × Code × Word :=
  let refused : Bool := match w with
    | .session _ => agentsOnly off
    | _ => false
  let ok (p : Device × Word) : Device × Code × Word := (p.1, .ok, p.2)
  if addressCheck off ≠ .ok then (s, addressCheck off, 0)
  else if refused then (s, .locked, 0)
  else if off = R.SHOW_FRAME_LO then ok (readFrameLo w s)
  else if off = R.SHOW_TIME_LO then ok (readTimeLo w s)
  else if 0x40000 ≤ off && off < 0x4C000 && off % 0x2000 = R.NET_TXTS_TAG 0 % 0x2000 then
    let t := readTxts w ((off - 0x40000) / 0x2000) s
    (t, .ok, t.resp.data.headD 0)
  else if isOctetsLo off then ok (readOctets w off s)
  else if oneRead off && (s.latched w off).isSome then (s.unlatch w off, .ok, heldValue s w off)
  else if !(companions off).isEmpty then
    (s.each (companions off) (fun t c => t.latch w c (liveValue s w c)), .ok, liveValue s w off)
  else if isRc off then (if clears s w then clearRead off s else s, .ok, liveValue s w off)
  else (s, .ok, heldValue s w off)

/-- The device's answer to a read of one register. -/
def answerRead (p : Device × Code × Word) : Device := if p.2.1 = .ok then p.1.answerD .ok [p.2.2] else p.1.answer p.2.1

/-! ### Memory -/

/-- The poisoned codewords of the regions that are restored from flash (R342). -/
def poisonedAges (s : Device) : List Nat :=
  (s.mem.cond.filter (fun p => p.2 = .poison && (match regionOf s p.1 with
    | some r => s.rf (R.MEM_Rr_CFG r) 13 12 = 2
    | none => false))).map (·.1)

/-- Restores the ageing accumulators once a codeword of theirs has been found uncorrectable (R198, R342). -/
def recoverAges (before s : Device) : Device :=
  if (poisonedAges s).any (fun o => !(poisonedAges before).contains o) then ageRestore s else s

/-- MEM_READ_ACCESS (R329, R334, R336): an agent reads the codeword that holds a byte. A canvas, cache or source pixel read with an error is replaced
(R155). -/
def readAccess (a : MemAgent) (off : Nat) (u : Upset) (s : Device) : Device :=
  match regionOf s off with
  | none => accessOutside a off s
  | some r => if lineLost s a off then lineFault off s else
    let cw := cwOf s r off
    let (t, d) := memReadU a cw (cwBytes (regionClass s r)) u s
    let words := (upto (d.data.length / 4)).map (fun i => BitVec.ofNat 32 (leAt d.data (4 * i) 4))
    let t := t.when (d.poison || d.parity) (replaceAt a cw)
    (if d.poison then t.answer .check else t.answerD .ok words)

/-! ### On-chip SRAMs -/

/-- The granule of the valid-bit table at an index (R337): the tracked regions take their slices in ascending number. -/
def slicedGranule (s : Device) : List Nat → Nat → Option Nat
  | [], _ => none
  | r :: rs, i => if i < regionSize s r / 256 then some (regionBase s r / 256 + i) else slicedGranule s rs (i - regionSize s r / 256)

/-- An uncorrectable error in an on-chip SRAM (R346): counted and reported, and its consumer acts. `place` says where the error lies, as the SRAM is
laid out in the model (log 25). -/
def sramError (sram place : Nat) (s : Device) : Device :=
  let s := ((s.count R.MEM_SRAM_UNCORR 1).setN R.MEM_SRAM_LAST sram).raise Ev.SRAM_UNCORRECTABLE sram
  match sram with
  | 0 => if place % 2 = 1 then { s with mem := { s.mem with lostLines := s.mem.lostLines ++ [place / 2] } } else s
  | 1 =>
    let q := place % 64
    let x := s.queue q
    let items := x.items.eraseIdx (place / 64)
    (drainWaiting q (s.updQueue q { x with items := items })).answerD .ok [0]
  | 2 =>
    match s.que.tasks.find (place % 4096) with
    | some t => s.setTask { t with held := t.held.eraseIdx (place / 4096) }
    | none => s
  | 3 =>
    let tracked := (upto 32).filter (fun r => regionOn s r && regionTracked s r)
    let gs := (upto 64).filterMap (fun i => slicedGranule s tracked (64 * place + i))
    let valid := gs.foldl (fun (t : Table Bool) g => t.setD false g true) s.mem.valid
    ({ s with mem := { s.mem with valid := valid } }).raise Ev.VALID_TABLE_ERR place
  | 4 => { s with cmp := { s.cmp with lineBad := s.cmp.lineBad ++ [(place % 16, place / 16 % 16384, place / 262144)] } }
  | 5 => { s with pho := { s.pho with badNodes := s.pho.badNodes.setD false place true } }
  | 6 => fogPair (s.send .safety [Ev.SRAM_UNCORRECTABLE, place])
  | 7 => s.countLeave (R.NET_CASCADE_DROP (2 + place % 2)) Ev.CASCADE_DROP (2 + place % 2)
  | _ => s

/-! ### The commands -/

/-- SH_DIRECT_WRITE (R522). -/
def execShDirectWrite (w : Who) (off : Nat) (v : Word) (st : State) : Host.Outcome State Fault Refusal :=
  st.onDevice fun s => .next (writeReg w off v s)

/-- REGISTER_WRITE (R10). -/
def execRegisterWrite (w : Who) (off : Nat) (v : Word) (st : State) : Host.Outcome State Fault Refusal :=
  st.onDevice fun s => .next (writeReg w off v s)

/-- RC_REGISTER_READ (R10, R368). -/
def execRcRegisterRead (w : Who) (off : Nat) (st : State) : Host.Outcome State Fault Refusal :=
  st.onDevice fun s => .next (answerRead (readReg w off s))

/-- OCTETS_LO_READ (R86). -/
def execOctetsLoRead (w : Who) (off : Nat) (st : State) : Host.Outcome State Fault Refusal :=
  st.onDevice fun s => .next (answerRead (readReg w off s))

/-- LATCHING_LO_READ (R369). -/
def execLatchingLoRead (w : Who) (off : Nat) (st : State) : Host.Outcome State Fault Refusal :=
  st.onDevice fun s => .next (answerRead (readReg w off s))

/-- MEM_READ_ACCESS (R334). -/
def execMemReadAccess (a : MemAgent) (off : Nat) (u : Upset) (st : State) : Host.Outcome State Fault Refusal :=
  st.onDevice fun s =>
  .next (recoverAges s (readAccess a off u s))

/-- MEM_PARTIAL_WRITE (R335): a write of part of a codeword by an agent. -/
def execMemPartialWrite (a : MemAgent) (off : Nat) (data : List Byte) (u : Upset) (st : State) :
    Host.Outcome State Fault Refusal :=
  st.onDevice fun s =>
  .next (recoverAges s (memWriteBy a off data u s))

/-- SCRUB_CODEWORD (R341, R342). -/
def execScrubCodeword (u : Upset) (raced : Bool) (st : State) : Host.Outcome State Fault Refusal :=
  st.onDevice fun s =>
  .next (recoverAges s (scrubStep u raced s))

/-- SRAM_UNCORRECTABLE (R346). -/
def execSramUncorrectable (sram place : Nat) (st : State) : Host.Outcome State Fault Refusal :=
  st.onDevice fun s => onUnit (sram < 8) (sramError sram place s)

end Sys2Proof.Machine
end

