-- ==== Sys2Proof/Machine/Management.lean ====
section
/-! DEFINITION. Management messages as the device receives them (R353 to R372, R378, R400): authentication, sessions, register and memory access,
group loads and submissions, and the responses. -/

namespace Sys2Proof.Machine

/-! ### Receipt -/

/-- The bytes of a received message that its tag covers (R354). -/
def coveredBytes (type : Nat) (m : Msg) : List Byte :=
  [m.version] ++ leBytes 1 type ++ leBytes 2 m.length.toNat ++ [m.session, m.key] ++ leBytes 2 m.epoch.toNat ++ leBytes 4 m.seq.toNat ++ m.body

/-- Whether VERSION and LENGTH are good (R353, R354, R356). -/
def shapely (m : Msg) : Bool :=
  m.version = 1 && m.length.toNat = 28 + m.body.length && m.length.toNat ≤ 1472 && m.length.toNat % 4 = 0

/-- Whether a message's tag is that of a key (R354, R356). -/
def tagOk (type : Nat) (m : Msg) (key : List Byte) : Bool := m.tag = (hmac256 key (coveredBytes type m)).take 16

/-- AUTH_FAIL, at most once per second (R356). -/
def authFailed (slot : Nat) (s : Device) : Device :=
  let due : Bool := match s.kpr.authAt with
    | some t => decide (t + 1000000000 ≤ s.clock)
    | none => true
  if due then ({ s with kpr := { s.kpr with authAt := some s.clock } }).raise Ev.AUTH_FAIL slot else s

/-- Whether a client's SEQ is acceptable (R356). -/
def seqOk (e : Session) (n : Nat) : Bool := e.highest < n || (e.highest ≤ n + 64 && n < e.highest && !e.window.contains n)

/-- A message of a session is accepted (R356, R360, R364): its SEQ is noted, the idle time starts anew, and so does a Keeper's lease. -/
def acceptMessage (slot seq : Nat) (e : Session) (s : Device) : Device :=
  let top := max e.highest seq
  let s := setSession slot { e with highest := top, window := (seq :: e.window).filter (fun n => top ≤ n + 64), lastMsg := s.clock } s
  if s.kpr.keeper = some slot then { s with kpr := { s.kpr with lease := some (s.clock + leaseNs) } } else s

/-- A message of an open session passes R356 and R357 or is dropped; the slot that it belongs to. -/
def gate (type : Nat) (m : Msg) (s : Device) : Device × Option Nat :=
  let slot := m.session.toNat
  if !shapely m then (s, none)
  else match s.kpr.sessions.find slot with
    | none => (s, none)
    | some e =>
      if m.port = 7 then (if slot = 15 then (acceptMessage slot 0 e s, some slot) else (s, none))
      else if slot = 15 || (m.port ≠ 4 && m.port ≠ 5) then (s, none)
      else if !tagOk type m e.keyBytes then (authFailed slot (s.count R.KPR_AUTH_FAIL 1), none)
      else if !seqOk e m.seq.toNat then (authFailed slot (s.count R.KPR_REPLAY 1), none)
      else (acceptMessage slot m.seq.toNat e s, some slot)

/-! ### Responses -/

/-- The body of a response (R355). -/
def responseBody (c : Code) (data : List Byte) : List Byte := leBytes 1 c.num ++ leBytes 3 0 ++ data

/-- Whether a response waits for the standby's acknowledgement (R400, R410): something was sent to a standby that is not adrift. -/
def waitsForPeer (before s : Device) : Bool :=
  let peer := (s.rdg.peer.map (fun h => h.state)).getD 0
  s.rb R.RDG_CTRL 1 && pairActive s && ridgeUp s && 3 ≤ peer && peer ≤ 5 &&
    (s.sent.drop before.sent.length).any (fun m => m.out = .ridge)

/-- A response to a session, unless a reset has ended it; held where `hold` says so. -/
def respond (slot type : Nat) (m : Msg) (key : List Byte) (hold : Bool) (c : Code) (data : List Byte) (s : Device) : Device :=
  let s := s.answer c
  if hold then
    let b := sealMessage slot key (messageHead (type + 0x80) slot (s.rn R.KPR_EPOCH % 65536) m.seq.toNat (padBody (responseBody c data)))
    { s with rdg := { s.rdg with held := s.rdg.held ++ [(slot, b)] } }
  else if (s.kpr.sessions.find slot).isSome then sendSession slot (type + 0x80) m.seq.toNat key (responseBody c data) s
  else s

/-- A request of a session: received, handled, answered. The handler answers the state, the code and the data. `held` tells whether R400 concerns
the type. -/
def request (type : Nat) (held : Bool) (m : Msg) (f : Nat → Device → Device × Code × List Byte) (s : Device) : Device :=
  match gate type m s with
  | (s, none) => s
  | (s, some slot) =>
    let key := ((s.kpr.sessions.find slot).map (fun e => e.keyBytes)).getD []
    let (t, c, data) := f slot s
    respond slot type m key (held && c = .ok && waitsForPeer s t) c data t

/-- E_ALIGN for a body that is not as long as its type's (R355, R520): `n` bytes, filled up to a multiple of 4. -/
def bodyCode (m : Msg) (n : Nat) : Code := if m.body.length = 4 * cdiv n 4 then .ok else .align

/-- A number in the body. -/
def bodyNum (m : Msg) (i n : Nat) : Nat := leAt m.body i n

/-! ### Sessions -/

/-- "PN8512" in ASCII (R356). -/
def keyLabel : List Byte := [0x50, 0x4E, 0x38, 0x35, 0x31, 0x32]

/-- A device nonce: 16 bytes the device chooses (R355). -/
def freshNonce (s : Device) : Device × List Byte :=
  let (i, s) := s.takeFree
  (s, (Config.nonce i ++ List.replicate 16 0).take 16)

/-- The rights byte of a key (R359). -/
def rightsByte (keeper cal : Bool) : Nat := b2n keeper + 2 * b2n cal

/-- An OPEN with a valid tag (R360): a session of the same source ends first, then the lowest free slot is taken. -/
def openSlot (m : Msg) (k : ClientKey) (s : Device) : Device :=
  let reply (slot : Nat) (c : Code) (data : List Byte) (s : Device) : List Byte :=
    sealMessage slot k.key (messageHead 0x81 slot (s.rn R.KPR_EPOCH % 65536) m.seq.toNat (padBody (responseBody c data)))
  if bodyCode m 16 ≠ .ok then (s.sendBytes (.port m.port) (reply 0xFF .align [] s)).answer .align
  else
    let same := s.kpr.sessions.filter (fun p => p.1 ≠ 15 && p.2.ip = m.ip && p.2.udp = m.udp)
    let s := s.each (same.map (·.1)) (fun s j => endSession j s)
    match (upto 15).find? (fun j => (s.kpr.sessions.find j).isNone) with
    | none => (s.sendBytes (.port m.port) (reply 0xFF .capacity [] s)).answer .capacity
    | some slot =>
      let (s, nonce) := freshNonce s
      let keeper := bit k.rights 0
      let cal := bit k.rights 1
      let e : Session :=
        { port := m.port, ip := m.ip, udp := m.udp, key := m.key.toNat, keyBytes := hmac256 k.key (keyLabel ++ m.body ++ nonce ++ leBytes 1 slot),
          highest := m.seq.toNat, window := [m.seq.toNat], devSeq := 1, keeperRight := keeper, calRight := cal, prioMin := k.prioMin, mask := [],
          request := none, lastMsg := s.clock, lost := 0, gathered := [], gatherFrom := none, sentAt := [] }
      let s := (setSession slot e s).raise Ev.SESSION_OPEN slot
      let data := leBytes 1 slot ++ leBytes 1 (rightsByte keeper cal) ++ leBytes 2 0 ++ nonce
      (s.sendBytes (.session slot) (reply slot .ok data s)).answer .ok

/-- An OPEN (R356, R357, R360). On the service port it is answered for slot 15, which is open. -/
def openMessage (m : Msg) (s : Device) : Device :=
  if !shapely m || m.session ≠ 0xFF then s
  else if m.port = 7 then
    if (s.kpr.sessions.find 15).isNone then s
    else
      let (s, nonce) := freshNonce s
      (sendSession 15 0x81 m.seq.toNat [] (responseBody .ok (leBytes 1 15 ++ leBytes 1 3 ++ leBytes 2 0 ++ nonce)) s).answer .ok
  else if m.port ≠ 4 && m.port ≠ 5 then s
  else match s.kpr.keys.find m.key.toNat with
    | none => authFailed 0xFF (s.count R.KPR_AUTH_FAIL 1)
    | some k => if tagOk 1 m k.key then openSlot m k s else authFailed 0xFF (s.count R.KPR_AUTH_FAIL 1)

/-- A CLOSE (R357, R360): answered, then the session ends. -/
def closeMessage (m : Msg) (s : Device) : Device :=
  match gate 2 m s with
  | (s, none) => s
  | (s, some slot) =>
    let key := ((s.kpr.sessions.find slot).map (fun e => e.keyBytes)).getD []
    let c := bodyCode m 0
    let s := respond slot 2 m key false c [] s
    if c ≠ .ok then s else if slot = 15 then renewService s else endSession slot s

/-- A KEEPALIVE (R364). -/
def aliveRequest (m : Msg) (slot : Nat) (s : Device) : Device × Code × List Byte :=
  if bodyCode m 0 ≠ .ok then (s, .align, [])
  else (s, .ok, leBytes 4 (liveValue s (.session slot) R.KPR_STATUS).toNat ++ leBytes 4 (s.rn R.KPR_EPOCH))

/-- A SUBSCRIBE (R378). -/
def subscribeRequest (m : Msg) (slot : Nat) (s : Device) : Device × Code × List Byte :=
  if bodyCode m 32 ≠ .ok then (s, .align, [])
  else
    let mask := (upto 256).filter (fun e => bit (bodyNum m (e / 8) 1) (e % 8))
    match s.kpr.sessions.find slot with
    | some e => (setSession slot { e with mask := mask } s, .ok, [])
    | none => (s, .ok, [])

/-! ### The Keeper -/

/-- The standby's refusal of a session's writes and requests (R398). -/
def standbyCode (s : Device) (slot : Nat) : Code := if inStandby s && slot ≠ 15 then .state else .ok

/-- The refusal of a session that is not the Keeper, or writes for an earlier term (R361). -/
def keeperCode (s : Device) (slot : Nat) (m : Msg) : Code :=
  if s.kpr.keeper = some slot && m.epoch.toNat = s.rn R.KPR_EPOCH % 65536 then .ok else .notKeeper

/-- A KEEPER_REQUEST (R362, R366, R398). -/
def keeperRequest (m : Msg) (slot : Nat) (s : Device) : Device × Code × List Byte :=
  let pre := firstCode [bodyCode m 1, standbyCode s slot]
  if pre ≠ .ok then (s, pre, [])
  else
    let (s, c, won) := keeperAsk slot (bodyNum m 0 1) s
    (s, c, if c = .ok then leBytes 1 (b2n won) else [])

/-- A KEEPER_WITHDRAW (R362). -/
def withdrawRequest (m : Msg) (slot : Nat) (s : Device) : Device × Code × List Byte :=
  if bodyCode m 0 ≠ .ok then (s, .align, []) else (keeperBack slot s, .ok, [])

/-- A KEEPER_RELEASE (R365). -/
def releaseRequest (m : Msg) (slot : Nat) (s : Device) : Device × Code × List Byte :=
  if bodyCode m 1 ≠ .ok then (s, .align, [])
  else
    let (s, c) := keeperLeave slot (bodyNum m 0 1) s
    (s, c, [])

/-! ### Registers and memory -/

/-- Reads registers from an offset upward until one is refused (R368): the code of that one, and the values before it. -/
def readRun (w : Who) : Nat → Nat → Device → Device × Code × List Word
  | 0, _, s => (s, .ok, [])
  | n + 1, off, s =>
    match readReg w off s with
    | (t, c, v) =>
      if c ≠ .ok then (t, c, [])
      else
        let (t, c, vs) := readRun w n (off + 4) t
        (t, c, v :: vs)

/-- A READ (R368). -/
def readRequest (m : Msg) (slot : Nat) (s : Device) : Device × Code × List Byte :=
  let n := bodyNum m 4 2
  if bodyCode m 6 ≠ .ok then (s, .align, [])
  else if n = 0 || 256 < n then (s, .range, leBytes 2 0)
  else
    let (s, c, vs) := readRun (.session slot) n (bodyNum m 0 4) s
    (s, c, leBytes 2 vs.length ++ vs.flatMap (fun v => leBytes 4 v.toNat))

/-- A failing value of a WRITE: the place of its kind in R520, its code and its offset. -/
structure WriteFailure where
  rank : Nat
  code : Code
  off  : Nat
deriving DecidableEq, Repr

/-- The code of one value of a WRITE: as for any write, and E_NOT_KEEPER for a Keeper's write of an earlier term to anything but its own
selectors (R361, R368). -/
def valueCode (m : Msg) (slot off : Nat) (v : Word) (s : Device) : Code :=
  let c := writeCode s (.session slot) off v (writeHandler (.session slot) off v)
  let first := firstCode [valueAlign off v, addressCheck off, standbyCheck s (.session slot) off]
  if first = .ok && !isSelector off then firstCode [keeperCode s slot m, c] else c

/-- The values of a WRITE are taken in offset order (R368), each on what the ones before it leave; a failing one is noted, with its place in the
order of R520. -/
def writeRun (m : Msg) (slot : Nat) : Nat → List Word → Device → Device × List WriteFailure
  | _, [], s => (s, [])
  | off, v :: vs, s =>
    let c := valueCode m slot off v s
    if c = .ok then writeRun m slot (off + 4) vs (writeReg (.session slot) off v s)
    else
      let rank := if standbyCheck s (.session slot) off ≠ .ok && c = .state then 3 else kindOrder c
      let (t, fs) := writeRun m slot (off + 4) vs s
      (t, { rank := rank, code := c, off := off } :: fs)

/-- A WRITE (R361, R368, R520): one failing value rejects all, and the first kind that fails is reported. -/
def writeRequest (m : Msg) (slot : Nat) (s : Device) : Device × Code × List Byte :=
  let n := (m.body.length - 4) / 4
  let off := bodyNum m 0 4
  if m.body.length < 4 then (s, .align, leBytes 4 0)
  else if n = 0 || 256 < n then (s, .range, leBytes 4 off)
  else
    let values := (upto n).map (fun i => BitVec.ofNat 32 (bodyNum m (4 + 4 * i) 4))
    let (t, fs) := writeRun m slot off values s
    match sortBy (fun a b => a.rank ≤ b.rank) fs with
    | [] => (t, .ok, [])
    | f :: _ =>
      let v := values.getD ((f.off - off) / 4) 0
      let s := (writeHandler (.session slot) f.off v).reject f.code s
      (s, f.code, leBytes 4 f.off)

/-- Offset, length and region of a memory access by message (R329, R370): alignment and existence first. -/
def memPlaceCode (s : Device) (off n : Nat) : Code :=
  if off % 4 ≠ 0 || n % 4 ≠ 0 then .align else if (regionOf s off).isNone then .noSuch else .ok

/-- The range of a memory access by message (R355, R370). -/
def memRangeCode (s : Device) (off n : Nat) : Code := if n < 4 || 1024 < n || !inOneRegion s off n then .range else .ok

/-- A MEM_READ (R370). -/
def memReadRequest (m : Msg) (slot : Nat) (s : Device) : Device × Code × List Byte :=
  let off := bodyNum m 0 8
  let n := bodyNum m 8 2
  let place := memPlaceCode s off n
  let c := firstCode [bodyCode m 10, place, memRangeCode s off n]
  if c ≠ .ok then (if bodyCode m 10 = .ok && place = .noSuch then accessFault off s else s, c, [])
  else
    let (t, d) := memRead (.who (.session slot)) off n s
    let t := recoverAges s t
    if d.poison then (t, .check, []) else (t, .ok, d.data)

/-- A MEM_WRITE (R361, R370, R398). -/
def memWriteRequest (m : Msg) (slot : Nat) (s : Device) : Device × Code × List Byte :=
  let off := bodyNum m 0 8
  let data := m.body.drop 8
  let n := data.length
  let place := if m.body.length < 8 then .align else memPlaceCode s off n
  let protect : Code := if writeRefused s (.who (.session slot)) off n then .locked else .ok
  let c := firstCode [place, standbyCode s slot, keeperCode s slot m, protect, memRangeCode s off n]
  if c ≠ .ok then (if place = .noSuch then accessFault off s else s, c, [])
  else
    let (t, bad) := memWriteU (.who (.session slot)) off data .none s
    (recoverAges s t, if bad then .check else .ok, [])

/-! ### Commit groups -/

/-- The standby's refusal of loads and submissions, from the service port too (R398). -/
def carryCode (s : Device) : Code := if inStandby s then .state else .ok

/-- A GROUP_LOAD (R361, R371): an entry may fail in a kind of R520 that comes before another check. -/
def groupLoadRequest (m : Msg) (slot : Nat) (s : Device) : Device × Code × List Byte :=
  let g := bodyNum m 0 1
  let mode := bodyNum m 1 1
  let n := (m.body.length - 4) / 8
  let es := (upto n).map (fun i => (bodyNum m (4 + 8 * i) 4, BitVec.ofNat 32 (bodyNum m (8 + 8 * i) 4)))
  let len : Code := if m.body.length < 4 || (m.body.length - 4) % 8 ≠ 0 then .align else .ok
  let bad := ((loadFailure es).map (·.1)).getD .ok
  let early (lo hi : Nat) : Code := if lo ≤ kindOrder bad && kindOrder bad ≤ hi then bad else .ok
  let own := firstCode [early 1 2, carryCode s, keeperCode s slot m, early 4 5, if 1 < mode then .reserved else .ok,
    if n = 0 || 128 < n then .range else .ok]
  if len ≠ .ok then (s, len, [])
  else if own ≠ .ok && own ≠ bad then (s, own, [])
  else
    let (s, c, off) := loadGroup (.session slot) g (if mode = 1 then s.kpr.counts.getD 0 g else 0) es s
    (noteGroup (.session slot) g c off s, c, if c = .ok then leBytes 2 (s.kpr.counts.getD 0 g) else [])

/-- A COMMIT (R34, R35, R361, R372). -/
def commitRequest (m : Msg) (slot : Nat) (s : Device) : Device × Code × List Byte :=
  let c := firstCode [bodyCode m 10, carryCode s, keeperCode s slot m, if 1 < bodyNum m 1 1 then .reserved else .ok]
  if c ≠ .ok then (s, c, leBytes 8 0 ++ leBytes 4 0)
  else
    let target := if bodyNum m 1 1 = 1 then some (bodyNum m 2 6, bodyNum m 8 2) else none
    let (s, r) := submitBy (.session slot) (bodyNum m 0 1) target s
    (s, r.code, leBytes 8 r.frame ++ leBytes 4 r.off)

/-! ### The commands -/

/-- OPEN (R360). -/
def execOpenSession (m : Msg) (st : State) : Host.Outcome State Fault Refusal :=
  st.onDevice fun s => .next (openMessage m s)

/-- CLOSE (R360). -/
def execCloseSession (m : Msg) (st : State) : Host.Outcome State Fault Refusal :=
  st.onDevice fun s => .next (closeMessage m s)

/-- KEEPALIVE (R364). -/
def execKeepalive (m : Msg) (st : State) : Host.Outcome State Fault Refusal :=
  st.onDevice fun s => .next (request 0x03 false m (aliveRequest m) s)

/-- READ (R368). -/
def execMsgRead (m : Msg) (st : State) : Host.Outcome State Fault Refusal :=
  st.onDevice fun s => .next (request 0x10 false m (readRequest m) s)

/-- WRITE (R368). -/
def execMsgWrite (m : Msg) (st : State) : Host.Outcome State Fault Refusal :=
  st.onDevice fun s => .next (request 0x11 true m (writeRequest m) s)

/-- MEM_READ (R370). -/
def execMemRead (m : Msg) (st : State) : Host.Outcome State Fault Refusal :=
  st.onDevice fun s => .next (request 0x12 false m (memReadRequest m) s)

/-- MEM_WRITE (R370). -/
def execMemWrite (m : Msg) (st : State) : Host.Outcome State Fault Refusal :=
  st.onDevice fun s => .next (request 0x13 true m (memWriteRequest m) s)

/-- KEEPER_REQUEST (R362). -/
def execKeeperRequest (m : Msg) (st : State) : Host.Outcome State Fault Refusal :=
  st.onDevice fun s => .next (request 0x20 false m (keeperRequest m) s)

/-- KEEPER_WITHDRAW (R362). -/
def execKeeperWithdraw (m : Msg) (st : State) : Host.Outcome State Fault Refusal :=
  st.onDevice fun s => .next (request 0x21 false m (withdrawRequest m) s)

/-- KEEPER_RELEASE (R365). -/
def execKeeperRelease (m : Msg) (st : State) : Host.Outcome State Fault Refusal :=
  st.onDevice fun s => .next (request 0x22 false m (releaseRequest m) s)

/-- GROUP_LOAD (R371). -/
def execGroupLoad (m : Msg) (st : State) : Host.Outcome State Fault Refusal :=
  st.onDevice fun s => .next (request 0x30 true m (groupLoadRequest m) s)

/-- COMMIT (R372). -/
def execCommitGroup (m : Msg) (st : State) : Host.Outcome State Fault Refusal :=
  st.onDevice fun s => .next (request 0x31 true m (commitRequest m) s)

/-- SUBSCRIBE (R378). -/
def execSubscribe (m : Msg) (st : State) : Host.Outcome State Fault Refusal :=
  st.onDevice fun s => .next (request 0x40 false m (subscribeRequest m) s)

end Sys2Proof.Machine
end

