-- ==== Sys2Proof/Machine/Standby.lean ====
section
/-! DEFINITION. What a standby takes from its active unit at commit points (R397, R398), and the acknowledgement that releases a response
(R400). -/

namespace Sys2Proof.Machine

/-- Whether the commit point of a frame has begun on this unit (R398). -/
def pointBegun (s : Device) (f : Nat) : Bool := frameDiff f (nextPoint s) < 0

/-- Whether a change for the commit point of a frame comes after the first capture instant that it governs (R33, R398): the start of the second
frame after it. -/
def tooLate (s : Device) (f : Nat) : Bool := 2 ≤ frameDiff s.shw.frame f

/-- Settings applied on receipt, as if at the commit point of a frame that has begun (R398): those of the last commit point, or those that were in
effect before it too. -/
def applyLate (f : Nat) (o : Origin) (es : Entries) (s : Device) : Device :=
  let old := s.reg
  let earlier : Bool := s.shw.lastPoint ≠ some f
  let s := { s with regs := withEntries s.regs es, before := if earlier then withEntries s.before es else s.before }
  let s := (reportFrame f (reportCommit 2 o false .ok s)).raise Ev.COMMIT_APPLIED (payF (originGroup o) (frameAdd f 1))
  let a := ({} : Applied).add es o
  modePoint a (afterApplied old a (frameAdd f 1) s)

/-- A change of settings for the commit point of a frame (R397, R398): staged and reported, applied on receipt, or too late. A direct write replaces
an earlier one to its register that waits for the same commit point (R522). -/
def takeChange (f : Nat) (o : Origin) (es : Entries) (s : Device) : Device :=
  if es.isEmpty then s
  else if tooLate s f then diverge 2 (frameAdd f 1) 0 0 s
  else if pointBegun s f then applyLate f o es s
  else
    let same (c : Commit) : Bool := isDirect o && c.origin = o && c.target = some (f, 0) && c.entries.map (·.1) = es.map (·.1)
    stageCommit { origin := o, target := some (f, 0), entries := es } f
      { s with shw := { s.shw with commits := s.shw.commits.filter (fun c => !same c) } }

/-- The pending commits carried from the active unit that its commit record settles are dropped (R397). -/
def dropSettled (f : Nat) (s : Device) : Device :=
  let l := (s.shw.commits.zip (pendingPoints s)).filter (fun p => !((countsPending p.1 || isArmed p.1) && frameDiff p.2.1 f ≤ 0))
  { s with shw := { s.shw with commits := l.map (·.1) } }

/-- The safety-pair digest of a commit record (R397, R402): compared with this unit's own, now or at its commit point. -/
def takeSafety (f : Nat) (d : BitVec 32) (s : Device) : Device :=
  if !pointBegun s f then { s with rdg := { s.rdg with safeties := s.rdg.safeties.put f d } }
  else if s.shw.lastPoint = some f && d.toNat ≠ s.cmp.safeDigest then diverge 3 (frameAdd f 1) 0 0 s
  else s

/-- COMMIT_RECORD_RX (R393, R397): the standby applies the active unit's commits. -/
def recordHeard (r : CommitRecord) (s : Device) : Device :=
  if !inStandby s then s
  else
    let s := takeSafety r.frame r.safety (dropSettled r.frame s)
    s.each r.groups (fun s g => takeChange r.frame (.standby g.1) (g.2.map (fun e => (e.1, fullMask, e.2))) s)

/-- The registers that start an operation on the chains, which the standby does not drive (R384, R398). -/
def chainOperation (off : Nat) : Bool :=
  off = R.BAT_RDM_CTRL || (R.BAT_CHn_CFG 0 ≤ off && off < R.BAT_CHn_CFG 512 && off % 0x80 = 0x1C)

/-- FORWARDED_WRITE_RX (R398): a shadowed register takes the change at the commit point named, another at once with its effect. -/
def forwardHeard (off : Nat) (v : Word) (frame : Nat) (s : Device) : Device :=
  if !inStandby s || !forwarded off || isSelector off || chainOperation off then s
  else if isShadowed off then takeChange frame .direct [(off, directMask off, v)] s
  else (blockHandler (.core 0 true) off v).effect s

/-- FORWARDED_CHANGE_ACKNOWLEDGED (R390, R400): the oldest response held goes out, and the lanes' resends are over. -/
def changeAcknowledged (s : Device) : Device :=
  let s := { s with rdg := { s.rdg with resends := [] } }
  match s.rdg.held with
  | [] => s
  | (slot, b) :: rest =>
    let s := { s with rdg := { s.rdg with held := rest } }
    if (s.kpr.sessions.find slot).isSome then s.sendBytes (.session slot) b else s

/-! ### The commands -/

/-- COMMIT_RECORD_RX (R397). -/
def execCommitRecordRx (r : CommitRecord) (st : State) : Host.Outcome State Fault Refusal :=
  st.onDevice fun s => .next (recordHeard r s)

/-- FORWARDED_WRITE_RX (R398). -/
def execForwardedWriteRx (off : Nat) (v : Word) (frame : Nat) (st : State) : Host.Outcome State Fault Refusal :=
  st.onDevice fun s =>
  .next (forwardHeard off v frame s)

/-- FORWARDED_CHANGE_ACKNOWLEDGED (R400). -/
def execForwardedChangeAcknowledged (st : State) : Host.Outcome State Fault Refusal :=
  st.onDevice fun s => .next (changeAcknowledged s)

end Sys2Proof.Machine
end

