-- ==== Sys2Proof/Machine/Dispatch.lean ====
section
/-! DEFINITION. The one place where a command meets its meaning: one arm for each constructor of `Instr`. -/

namespace Sys2Proof.Machine

/-- The effect of a command on everything but the queue of waiting commands. -/
def exec (i : Instr) (s : State) : Host.Outcome State Fault Refusal :=
  match i with
  | .frameBoundary => Sys2Proof.Machine.execFrameBoundary s
  | .lineStart => Sys2Proof.Machine.execLineStart s
  | .commitPoint => Sys2Proof.Machine.execCommitPoint s
  | .latchInstant => Sys2Proof.Machine.execLatchInstant s
  | .snapshotTaken slot => Sys2Proof.Machine.execSnapshotTaken slot s
  | .ptpMessageRx m => Sys2Proof.Machine.execPtpMessageRx m s
  | .glkVPulse input edge => Sys2Proof.Machine.execGlkVPulse input edge s
  | .ltcFrameRx valid rateNum rateDen edge => Sys2Proof.Machine.execLtcFrameRx valid rateNum rateDen edge s
  | .wclkQualifyWindow milliHz => Sys2Proof.Machine.execWclkQualifyWindow milliHz s
  | .ptpAnnounceTimeout => Sys2Proof.Machine.execPtpAnnounceTimeout s
  | .glkLossTimeout input => Sys2Proof.Machine.execGlkLossTimeout input s
  | .ltcLoss => Sys2Proof.Machine.execLtcLoss s
  | .wclkLoss => Sys2Proof.Machine.execWclkLoss s
  | .holdoverExpired => Sys2Proof.Machine.execHoldoverExpired s
  | .sourceRevert => Sys2Proof.Machine.execSourceRevert s
  | .frameSetArm w v => Sys2Proof.Machine.execFrameSetArm w v s
  | .ppsInEdge => Sys2Proof.Machine.execPpsInEdge s
  | .ppsInMissing => Sys2Proof.Machine.execPpsInMissing s
  | .ppsOutRise => Sys2Proof.Machine.execPpsOutRise s
  | .ppsOutFall => Sys2Proof.Machine.execPpsOutFall s
  | .realign w v => Sys2Proof.Machine.execRealign w v s
  | .timingModeWrite w off v => Sys2Proof.Machine.execTimingModeWrite w off v s
  | .rasterRestart => Sys2Proof.Machine.execRasterRestart s
  | .showFrameLoRead w => Sys2Proof.Machine.execShowFrameLoRead w s
  | .showTimeLoRead w => Sys2Proof.Machine.execShowTimeLoRead w s
  | .llSwap w v => Sys2Proof.Machine.execLlSwap w v s
  | .llValidationDone => Sys2Proof.Machine.execLlValidationDone s
  | .llEnable w v => Sys2Proof.Machine.execLlEnable w v s
  | .shDirectWrite w off v => Sys2Proof.Machine.execShDirectWrite w off v s
  | .registerWrite w off v => Sys2Proof.Machine.execRegisterWrite w off v s
  | .rcRegisterRead w off => Sys2Proof.Machine.execRcRegisterRead w off s
  | .octetsLoRead w off => Sys2Proof.Machine.execOctetsLoRead w off s
  | .latchingLoRead w off => Sys2Proof.Machine.execLatchingLoRead w off s
  | .netFrameRx port frame codeErr ts256 => Sys2Proof.Machine.execNetFrameRx port frame codeErr ts256 s
  | .classifierItemPush port ring => Sys2Proof.Machine.execClassifierItemPush port ring s
  | .netRxTailWrite w port ring v => Sys2Proof.Machine.execNetRxTailWrite w port ring v s
  | .netTxTailWrite w port q v => Sys2Proof.Machine.execNetTxTailWrite w port q v s
  | .netFrameTx port ts256 => Sys2Proof.Machine.execNetFrameTx port ts256 s
  | .txtsTagRead w port => Sys2Proof.Machine.execTxtsTagRead w port s
  | .cascadeForward inPort frame rxTs256 txTs256 codeErr => Sys2Proof.Machine.execCascadeForward inPort frame rxTs256 txTs256 codeErr s
  | .linkChange port status => Sys2Proof.Machine.execLinkChange port status s
  | .streamSkewWaitEnd stream => Sys2Proof.Machine.execStreamSkewWaitEnd stream s
  | .streamLost stream => Sys2Proof.Machine.execStreamLost stream s
  | .pathLost stream path => Sys2Proof.Machine.execPathLost stream path s
  | .sacnSourceLost univ cid => Sys2Proof.Machine.execSacnSourceLost univ cid s
  | .sacnSyncLost univ => Sys2Proof.Machine.execSacnSyncLost univ s
  | .quePush agent q v => Sys2Proof.Machine.execQuePush agent q v s
  | .quePop agent q => Sys2Proof.Machine.execQuePop agent q s
  | .queDataRead agent q => Sys2Proof.Machine.execQueDataRead agent q s
  | .queMark agent q => Sys2Proof.Machine.execQueMark agent q s
  | .queRewind agent q => Sys2Proof.Machine.execQueRewind agent q s
  | .queRelease agent q scope => Sys2Proof.Machine.execQueRelease agent q scope s
  | .queFlush w q v => Sys2Proof.Machine.execQueFlush w q v s
  | .queStale q => Sys2Proof.Machine.execQueStale q s
  | .doorbellSubmit q => Sys2Proof.Machine.execDoorbellSubmit q s
  | .taskSubmit agent w3 => Sys2Proof.Machine.execTaskSubmit agent w3 s
  | .taskEligible slot => Sys2Proof.Machine.execTaskEligible slot s
  | .taskDispatch => Sys2Proof.Machine.execTaskDispatch s
  | .affinityWaitExpiry slot => Sys2Proof.Machine.execAffinityWaitExpiry slot s
  | .taskDone agent core v => Sys2Proof.Machine.execTaskDone agent core v s
  | .delayListTick d => Sys2Proof.Machine.execDelayListTick d s
  | .taskCancel agent v => Sys2Proof.Machine.execTaskCancel agent v s
  | .cmpDone micros => Sys2Proof.Machine.execCmpDone micros s
  | .cmpLate => Sys2Proof.Machine.execCmpLate s
  | .chkExpectFrameWrite w off v => Sys2Proof.Machine.execChkExpectFrameWrite w off v s
  | .coefLoad w v => Sys2Proof.Machine.execCoefLoad w v s
  | .safeLayerCommit entries => Sys2Proof.Machine.execSafeLayerCommit entries s
  | .phoDone micros => Sys2Proof.Machine.execPhoDone micros s
  | .phoLate => Sys2Proof.Machine.execPhoLate s
  | .mapSwap w v => Sys2Proof.Machine.execMapSwap w v s
  | .mapValidationDone => Sys2Proof.Machine.execMapValidationDone s
  | .replanNow w v => Sys2Proof.Machine.execReplanNow w v s
  | .replanDue => Sys2Proof.Machine.execReplanDue s
  | .sensorPoll point reading => Sys2Proof.Machine.execSensorPoll point reading s
  | .ageSaveTimer => Sys2Proof.Machine.execAgeSaveTimer s
  | .ageSaveDone ok => Sys2Proof.Machine.execAgeSaveDone ok s
  | .chainFrameStart c => Sys2Proof.Machine.execChainFrameStart c s
  | .railStrobe c => Sys2Proof.Machine.execRailStrobe c s
  | .chainLatchIssue c => Sys2Proof.Machine.execChainLatchIssue c s
  | .readbackTurn c ack => Sys2Proof.Machine.execReadbackTurn c ack s
  | .readbackStreamRx c records => Sys2Proof.Machine.execReadbackStreamRx c records s
  | .headroomStale group => Sys2Proof.Machine.execHeadroomStale group s
  | .chainEnum w c v => Sys2Proof.Machine.execChainEnum w c v s
  | .bringupCycle c records => Sys2Proof.Machine.execBringupCycle c records s
  | .identityCheck c records => Sys2Proof.Machine.execIdentityCheck c records s
  | .chainRange w c v => Sys2Proof.Machine.execChainRange w c v s
  | .rangeDone c rt0 rtN records => Sys2Proof.Machine.execRangeDone c rt0 rtN records s
  | .driftRanging c rt0 rtN => Sys2Proof.Machine.execDriftRanging c rt0 rtN s
  | .eyecal w c v => Sys2Proof.Machine.execEyecal w c v s
  | .eyeCalDone c clean checkOk => Sys2Proof.Machine.execEyeCalDone c clean checkOk s
  | .dmxFrameStart c => Sys2Proof.Machine.execDmxFrameStart c s
  | .rdmWindow c found refused => Sys2Proof.Machine.execRdmWindow c found refused s
  | .rdmGo w v => Sys2Proof.Machine.execRdmGo w v s
  | .rdmDone result response => Sys2Proof.Machine.execRdmDone result response s
  | .motionHoldExpiry c => Sys2Proof.Machine.execMotionHoldExpiry c s
  | .bankSupply bank milliVolt => Sys2Proof.Machine.execBankSupply bank milliVolt s
  | .buckReferenceChange c => Sys2Proof.Machine.execBuckReferenceChange c s
  | .buckPeriod c vsns isns => Sys2Proof.Machine.execBuckPeriod c vsns isns s
  | .buckEnable w c v => Sys2Proof.Machine.execBuckEnable w c v s
  | .buckFaultClear w c v => Sys2Proof.Machine.execBuckFaultClear w c v s
  | .corrWindowEnd => Sys2Proof.Machine.execCorrWindowEnd s
  | .meterSample samples crossings => Sys2Proof.Machine.execMeterSample samples crossings s
  | .measIntervalEnd n milliHz => Sys2Proof.Machine.execMeasIntervalEnd n milliHz s
  | .energyCycleEnd n => Sys2Proof.Machine.execEnergyCycleEnd n s
  | .noZeroCross n => Sys2Proof.Machine.execNoZeroCross n s
  | .calStart w n v => Sys2Proof.Machine.execCalStart w n v s
  | .calGainPhase n => Sys2Proof.Machine.execCalGainPhase n s
  | .calEnd n inRange => Sys2Proof.Machine.execCalEnd n inRange s
  | .pulseEmit p => Sys2Proof.Machine.execPulseEmit p s
  | .pulseWidthEnd p => Sys2Proof.Machine.execPulseWidthEnd p s
  | .periodicSave => Sys2Proof.Machine.execPeriodicSave s
  | .saveNow w v => Sys2Proof.Machine.execSaveNow w v s
  | .periodicSaveDone ok => Sys2Proof.Machine.execPeriodicSaveDone ok s
  | .warnSlotEraseDone => Sys2Proof.Machine.execWarnSlotEraseDone s
  | .gapEndWrite w v => Sys2Proof.Machine.execGapEndWrite w v s
  | .pvwFrameStart => Sys2Proof.Machine.execPvwFrameStart s
  | .pvwUnderrun => Sys2Proof.Machine.execPvwUnderrun s
  | .pvwEnable w v => Sys2Proof.Machine.execPvwEnable w v s
  | .pvwDisable w v => Sys2Proof.Machine.execPvwDisable w v s
  | .pvwApply w v => Sys2Proof.Machine.execPvwApply w v s
  | .teEdge => Sys2Proof.Machine.execTeEdge s
  | .pvwTeTimeout => Sys2Proof.Machine.execPvwTeTimeout s
  | .pvwInternalFrame => Sys2Proof.Machine.execPvwInternalFrame s
  | .pvwCmdGo w v => Sys2Proof.Machine.execPvwCmdGo w v s
  | .pvwCmdDone result response => Sys2Proof.Machine.execPvwCmdDone result response s
  | .memReadAccess a off u => Sys2Proof.Machine.execMemReadAccess a off u s
  | .memPartialWrite a off data u => Sys2Proof.Machine.execMemPartialWrite a off data u s
  | .memFullWrite a off data => Sys2Proof.Machine.execMemFullWrite a off data s
  | .scrubCodeword u raced => Sys2Proof.Machine.execScrubCodeword u raced s
  | .zeroFill w v => Sys2Proof.Machine.execZeroFill w v s
  | .zeroFillDone => Sys2Proof.Machine.execZeroFillDone s
  | .discard w region v => Sys2Proof.Machine.execDiscard w region v s
  | .discardDone region => Sys2Proof.Machine.execDiscardDone region s
  | .writeRaw w v => Sys2Proof.Machine.execWriteRaw w v s
  | .readRaw w v => Sys2Proof.Machine.execReadRaw w v s
  | .sramUncorrectable sram place => Sys2Proof.Machine.execSramUncorrectable sram place s
  | .memShareShort => Sys2Proof.Machine.execMemShareShort s
  | .openSession m => Sys2Proof.Machine.execOpenSession m s
  | .closeSession m => Sys2Proof.Machine.execCloseSession m s
  | .keepalive m => Sys2Proof.Machine.execKeepalive m s
  | .msgRead m => Sys2Proof.Machine.execMsgRead m s
  | .msgWrite m => Sys2Proof.Machine.execMsgWrite m s
  | .memRead m => Sys2Proof.Machine.execMemRead m s
  | .memWrite m => Sys2Proof.Machine.execMemWrite m s
  | .keeperRequest m => Sys2Proof.Machine.execKeeperRequest m s
  | .keeperWithdraw m => Sys2Proof.Machine.execKeeperWithdraw m s
  | .keeperRelease m => Sys2Proof.Machine.execKeeperRelease m s
  | .groupLoad m => Sys2Proof.Machine.execGroupLoad m s
  | .commitGroup m => Sys2Proof.Machine.execCommitGroup m s
  | .subscribe m => Sys2Proof.Machine.execSubscribe m s
  | .noticeEvent slot => Sys2Proof.Machine.execNoticeEvent slot s
  | .sessionIdleTimeout slot => Sys2Proof.Machine.execSessionIdleTimeout slot s
  | .leaseExpired => Sys2Proof.Machine.execLeaseExpired s
  | .electionWindowEnd => Sys2Proof.Machine.execElectionWindowEnd s
  | .usbConfigured on => Sys2Proof.Machine.execUsbConfigured on s
  | .kprGrpClear w v => Sys2Proof.Machine.execKprGrpClear w v s
  | .kprGrpAdd w v => Sys2Proof.Machine.execKprGrpAdd w v s
  | .kprCommitGo w v => Sys2Proof.Machine.execKprCommitGo w v s
  | .eventRaise => Sys2Proof.Machine.execEventRaise s
  | .ridgeHeartbeatTx => Sys2Proof.Machine.execRidgeHeartbeatTx s
  | .ridgeHeartbeatRx hb => Sys2Proof.Machine.execRidgeHeartbeatRx hb s
  | .ridgeHeartbeatMiss => Sys2Proof.Machine.execRidgeHeartbeatMiss s
  | .ridgeResendTimeout lane => Sys2Proof.Machine.execRidgeResendTimeout lane s
  | .ridgeBlockLockLoss lane => Sys2Proof.Machine.execRidgeBlockLockLoss lane s
  | .ridgeLaneRetrain lane lockHeld => Sys2Proof.Machine.execRidgeLaneRetrain lane lockHeld s
  | .netHeartbeatTx => Sys2Proof.Machine.execNetHeartbeatTx s
  | .netHeartbeatRx hb tag => Sys2Proof.Machine.execNetHeartbeatRx hb tag s
  | .netPathLost => Sys2Proof.Machine.execNetPathLost s
  | .captureRecordRx r => Sys2Proof.Machine.execCaptureRecordRx r s
  | .capWaitExpiry => Sys2Proof.Machine.execCapWaitExpiry s
  | .outputRecordRx r => Sys2Proof.Machine.execOutputRecordRx r s
  | .commitRecordRx r => Sys2Proof.Machine.execCommitRecordRx r s
  | .forwardedWriteRx off v frame => Sys2Proof.Machine.execForwardedWriteRx off v frame s
  | .mirrorWriteRx off data => Sys2Proof.Machine.execMirrorWriteRx off data s
  | .deltaRx seq items => Sys2Proof.Machine.execDeltaRx seq items s
  | .sweepRx items pages last => Sys2Proof.Machine.execSweepRx items pages last s
  | .repairRequestRx stream seq => Sys2Proof.Machine.execRepairRequestRx stream seq s
  | .repairDataRx stream seq packet univ values => Sys2Proof.Machine.execRepairDataRx stream seq packet univ values s
  | .healthRecord => Sys2Proof.Machine.execHealthRecord s
  | .healthRecordRx record => Sys2Proof.Machine.execHealthRecordRx record s
  | .roleDecision => Sys2Proof.Machine.execRoleDecision s
  | .witnessLatchSeen c => Sys2Proof.Machine.execWitnessLatchSeen c s
  | .takeoverWaitExpiry => Sys2Proof.Machine.execTakeoverWaitExpiry s
  | .resync w v => Sys2Proof.Machine.execResync w v s
  | .take w v => Sys2Proof.Machine.execTake w v s
  | .yieldRole w v => Sys2Proof.Machine.execYieldRole w v s
  | .por => Sys2Proof.Machine.execPor s
  | .railReset rail => Sys2Proof.Machine.execRailReset rail s
  | .pinReset => Sys2Proof.Machine.execPinReset s
  | .wdtExpiry => Sys2Proof.Machine.execWdtExpiry s
  | .wdtWarn => Sys2Proof.Machine.execWdtWarn s
  | .wdtKick w v => Sys2Proof.Machine.execWdtKick w v s
  | .softReset w v => Sys2Proof.Machine.execSoftReset w v s
  | .safetyReset => Sys2Proof.Machine.execSafetyReset s
  | .resetRelease unitB bootSvc => Sys2Proof.Machine.execResetRelease unitB bootSvc s
  | .runtimeStart => Sys2Proof.Machine.execRuntimeStart s
  | .showImageLoad => Sys2Proof.Machine.execShowImageLoad s
  | .srcWaitExpired => Sys2Proof.Machine.execSrcWaitExpired s
  | .rasterStart => Sys2Proof.Machine.execRasterStart s
  | .slotConfirm => Sys2Proof.Machine.execSlotConfirm s
  | .supplyWarning => Sys2Proof.Machine.execSupplyWarning s
  | .warnRecordDone ok => Sys2Proof.Machine.execWarnRecordDone ok s
  | .powerSaveDone ok micros => Sys2Proof.Machine.execPowerSaveDone ok micros s
  | .pwrSlotEraseDone => Sys2Proof.Machine.execPwrSlotEraseDone s
  | .brownout => Sys2Proof.Machine.execBrownout s
  | .holdupTest w v => Sys2Proof.Machine.execHoldupTest w v s
  | .holdupTestPeriodic => Sys2Proof.Machine.execHoldupTestPeriodic s
  | .holdupDone v0 dtNs => Sys2Proof.Machine.execHoldupDone v0 dtNs s
  | .saveSettings w v => Sys2Proof.Machine.execSaveSettings w v s
  | .ageSave w v => Sys2Proof.Machine.execAgeSave w v s
  | .bootTrialConfirm w v => Sys2Proof.Machine.execBootTrialConfirm w v s
  | .block w v => Sys2Proof.Machine.execBlock w v s
  | .blockWriteDone ok => Sys2Proof.Machine.execBlockWriteDone ok s
  | .dfuDnload index data => Sys2Proof.Machine.execDfuDnload index data s
  | .dfuDnloadEnd => Sys2Proof.Machine.execDfuDnloadEnd s
  | .updDiscard w v => Sys2Proof.Machine.execUpdDiscard w v s
  | .updVerified => Sys2Proof.Machine.execUpdVerified s
  | .installDone ok => Sys2Proof.Machine.execInstallDone ok s
  | .activate w v => Sys2Proof.Machine.execActivate w v s
  | .fwHandover settingsFmt => Sys2Proof.Machine.execFwHandover settingsFmt s
  | .handoverTimeout => Sys2Proof.Machine.execHandoverTimeout s
  | .safetyStartTimeout => Sys2Proof.Machine.execSafetyStartTimeout s
  | .imageActivate => Sys2Proof.Machine.execImageActivate s
  | .drvPieceDelivery c pos good => Sys2Proof.Machine.execDrvPieceDelivery c pos good s
  | .drvActivate c => Sys2Proof.Machine.execDrvActivate c s
  | .thermSample temps => Sys2Proof.Machine.execThermSample temps s
  | .thermalResetRelease temps => Sys2Proof.Machine.execThermalResetRelease temps s
  | .pdmSample slacks => Sys2Proof.Machine.execPdmSample slacks s
  | .vcoreStep => Sys2Proof.Machine.execVcoreStep s
  | .avsReadback ack milliVolt => Sys2Proof.Machine.execAvsReadback ack milliVolt s
  | .pmbusPoll vout iout temp status => Sys2Proof.Machine.execPmbusPoll vout iout temp status s
  | .marginReplan delays => Sys2Proof.Machine.execMarginReplan delays s
  | .safeNChange level => Sys2Proof.Machine.execSafeNChange level s
  | .fogMinExpiry => Sys2Proof.Machine.execFogMinExpiry s
  | .gpioEdge pin level time => Sys2Proof.Machine.execGpioEdge pin level time s
  | .gpioSet w v => Sys2Proof.Machine.execGpioSet w v s
  | .gpioClr w v => Sys2Proof.Machine.execGpioClr w v s
  | .forwardedChangeAcknowledged => Sys2Proof.Machine.execForwardedChangeAcknowledged s

end Sys2Proof.Machine
end

