-- ==== Sys2Proof/Machine/Step.lean ====
section
/-! DEFINITION. One step of the block: the command at the front of the queue, or one cycle of time where none waits. -/

namespace Sys2Proof.Machine

/-- One CLK_SHOW cycle in ns (R17): what passes while no command waits (DESIGN CHOICE, log 1). -/
def cycleNs : Nat := 4

/-- One step: the command at the front of the queue takes effect on the state with the queue's rest; with an empty queue one cycle of
time passes and nothing else (log 1). -/
def step (s : State) : Host.Outcome State Fault Refusal :=
  match s.pending with
  | [] => .next { s with dev := s.dev.elapse cycleNs }
  | c :: rest => exec c { s with pending := rest }

/-- The state with the command that a word spells put at the front of its queue. The table gives no bits to any row, so no word spells a
command. -/
def State.withFetchWord (s : State) (nbits w : Nat) : State :=
  match Sys2Proof.decodeTableWord nbits w with
  | some c => { s with pending := c :: s.pending }
  | none => s

end Sys2Proof.Machine
end

