-- ==== Sys2Proof/WellFormed.lean ====
section
/-! DEFINITION. Which commands can occur at all: those that name a unit the device has. Every other operand, a register's value or an
address outside the map among them, is the device's to answer, so nothing else is checked here. -/

namespace Sys2Proof

/-- The offsets of the registers that define the timing mode (R31): SHOW_V_TOTAL, SHOW_V_ACTIVE, SHOW_LATCH_LINE, SHOW_RATE_NUM and
SHOW_RATE_DEN. -/
def timingOffsets : List Nat := [0x60040, 0x60044, 0x60048, 0x6004c, 0x60050]

/-- Whether the units that a command names exist: ports 0 to 5 and their rings, streams, universes, queues, agents, task slots, cores,
sensor points, chains, banks, groups, bucks, metering channels, pulse outputs, regions, memories, session slots, lanes, rails and pins, each
numbered as the chapter of its unit numbers it; CHK_EXPECT_FRAME_WRITE and TIMING_MODE_WRITE name one of their own registers. -/
def Instr.wellFormed : Instr → Bool
  | .frameBoundary => true
  | .lineStart => true
  | .commitPoint => true
  | .latchInstant => true
  | .snapshotTaken slot => slot < 4
  | .ptpMessageRx _ => true
  | .glkVPulse input _ => input < 2
  | .ltcFrameRx _ _ _ _ => true
  | .wclkQualifyWindow _ => true
  | .ptpAnnounceTimeout => true
  | .glkLossTimeout input => input < 2
  | .ltcLoss => true
  | .wclkLoss => true
  | .holdoverExpired => true
  | .sourceRevert => true
  | .frameSetArm _ _ => true
  | .ppsInEdge => true
  | .ppsInMissing => true
  | .ppsOutRise => true
  | .ppsOutFall => true
  | .realign _ _ => true
  | .timingModeWrite _ off _ => timingOffsets.contains off
  | .rasterRestart => true
  | .showFrameLoRead _ => true
  | .showTimeLoRead _ => true
  | .llSwap _ _ => true
  | .llValidationDone => true
  | .llEnable _ _ => true
  | .shDirectWrite _ _ _ => true
  | .registerWrite _ _ _ => true
  | .rcRegisterRead _ _ => true
  | .octetsLoRead _ _ => true
  | .latchingLoRead _ _ => true
  | .netFrameRx port _ _ _ => port < 6
  | .classifierItemPush port ring => port < 6 && ring < 16
  | .netRxTailWrite _ port ring _ => port < 6 && ring < 16
  | .netTxTailWrite _ port q _ => port < 6 && q < 8
  | .netFrameTx port _ => port < 6
  | .txtsTagRead _ port => port < 6
  | .cascadeForward inPort _ _ _ _ => inPort = 2 || inPort = 3
  | .linkChange port _ => port < 6
  | .streamSkewWaitEnd stream => stream < 32
  | .streamLost stream => stream < 32
  | .pathLost stream path => stream < 32 && (path = 1 || path = 2)
  | .sacnSourceLost univ _ => univ < 4096
  | .sacnSyncLost univ => univ < 4096
  | .quePush agent q _ => agent < 14 && q < 32
  | .quePop agent q => agent < 14 && q < 32
  | .queDataRead agent q => agent < 14 && q < 32
  | .queMark agent q => agent < 14 && q < 32
  | .queRewind agent q => agent < 14 && q < 32
  | .queRelease agent q _ => agent < 14 && q < 32
  | .queFlush _ q _ => q < 32
  | .queStale q => q < 32
  | .doorbellSubmit q => q < 32
  | .taskSubmit agent _ => agent < 9
  | .taskEligible slot => slot < 4096
  | .taskDispatch => true
  | .affinityWaitExpiry slot => slot < 4096
  | .taskDone agent core _ => agent < 9 && core < 8
  | .delayListTick d => d < 8
  | .taskCancel agent _ => agent < 9
  | .cmpDone _ => true
  | .cmpLate => true
  | .chkExpectFrameWrite _ off _ => 0x120000 ≤ off && off < 0x121000 && (off % 0x40 = 0x24 || off % 0x40 = 0x28)
  | .coefLoad _ _ => true
  | .safeLayerCommit _ => true
  | .phoDone _ => true
  | .phoLate => true
  | .mapSwap _ _ => true
  | .mapValidationDone => true
  | .replanNow _ _ => true
  | .replanDue => true
  | .sensorPoll point _ => point < 1024
  | .ageSaveTimer => true
  | .ageSaveDone _ => true
  | .chainFrameStart c => c < 512
  | .railStrobe c => c < 512
  | .chainLatchIssue c => c < 512
  | .readbackTurn c _ => c < 512
  | .readbackStreamRx c _ => c < 512
  | .headroomStale group => group < 4095
  | .chainEnum _ c _ => c < 512
  | .bringupCycle c _ => c < 512
  | .identityCheck c _ => c < 512
  | .chainRange _ c _ => c < 512
  | .rangeDone c _ _ _ => c < 512
  | .driftRanging c _ _ => c < 512
  | .eyecal _ c _ => c < 512
  | .eyeCalDone c _ _ => c < 512
  | .dmxFrameStart c => c < 512
  | .rdmWindow c _ _ => c < 512
  | .rdmGo _ _ => true
  | .rdmDone _ _ => true
  | .motionHoldExpiry c => c < 512
  | .bankSupply bank _ => bank < 16
  | .buckReferenceChange c => c < 16
  | .buckPeriod c _ _ => c < 16
  | .buckEnable _ c _ => c < 16
  | .buckFaultClear _ c _ => c < 16
  | .corrWindowEnd => true
  | .meterSample _ _ => true
  | .measIntervalEnd n _ => n < 64
  | .energyCycleEnd n => 16 ≤ n && n < 64
  | .noZeroCross n => n < 64
  | .calStart _ n _ => n < 64
  | .calGainPhase n => n < 64
  | .calEnd n _ => n < 64
  | .pulseEmit p => p < 8
  | .pulseWidthEnd p => p < 8
  | .periodicSave => true
  | .saveNow _ _ => true
  | .periodicSaveDone _ => true
  | .warnSlotEraseDone => true
  | .gapEndWrite _ _ => true
  | .pvwFrameStart => true
  | .pvwUnderrun => true
  | .pvwEnable _ _ => true
  | .pvwDisable _ _ => true
  | .pvwApply _ _ => true
  | .teEdge => true
  | .pvwTeTimeout => true
  | .pvwInternalFrame => true
  | .pvwCmdGo _ _ => true
  | .pvwCmdDone _ _ => true
  | .memReadAccess _ _ _ => true
  | .memPartialWrite _ _ _ _ => true
  | .memFullWrite _ _ _ => true
  | .scrubCodeword _ _ => true
  | .zeroFill _ _ => true
  | .zeroFillDone => true
  | .discard _ region _ => region < 32
  | .discardDone region => region < 32
  | .writeRaw _ _ => true
  | .readRaw _ _ => true
  | .sramUncorrectable sram _ => sram < 8
  | .memShareShort => true
  | .openSession _ => true
  | .closeSession _ => true
  | .keepalive _ => true
  | .msgRead _ => true
  | .msgWrite _ => true
  | .memRead _ => true
  | .memWrite _ => true
  | .keeperRequest _ => true
  | .keeperWithdraw _ => true
  | .keeperRelease _ => true
  | .groupLoad _ => true
  | .commitGroup _ => true
  | .subscribe _ => true
  | .noticeEvent slot => slot < 16
  | .sessionIdleTimeout slot => slot < 16
  | .leaseExpired => true
  | .electionWindowEnd => true
  | .usbConfigured _ => true
  | .kprGrpClear _ _ => true
  | .kprGrpAdd _ _ => true
  | .kprCommitGo _ _ => true
  | .eventRaise => true
  | .ridgeHeartbeatTx => true
  | .ridgeHeartbeatRx _ => true
  | .ridgeHeartbeatMiss => true
  | .ridgeResendTimeout lane => lane < 2
  | .ridgeBlockLockLoss lane => lane < 2
  | .ridgeLaneRetrain lane _ => lane < 2
  | .netHeartbeatTx => true
  | .netHeartbeatRx _ _ => true
  | .netPathLost => true
  | .captureRecordRx _ => true
  | .capWaitExpiry => true
  | .outputRecordRx _ => true
  | .commitRecordRx _ => true
  | .forwardedWriteRx _ _ _ => true
  | .mirrorWriteRx _ _ => true
  | .deltaRx _ _ => true
  | .sweepRx _ _ _ => true
  | .repairRequestRx _ _ => true
  | .repairDataRx _ _ _ _ _ => true
  | .healthRecord => true
  | .healthRecordRx _ => true
  | .roleDecision => true
  | .witnessLatchSeen c => c < 512
  | .takeoverWaitExpiry => true
  | .resync _ _ => true
  | .take _ _ => true
  | .yieldRole _ _ => true
  | .por => true
  | .railReset rail => rail < 7
  | .pinReset => true
  | .wdtExpiry => true
  | .wdtWarn => true
  | .wdtKick _ _ => true
  | .softReset _ _ => true
  | .safetyReset => true
  | .resetRelease _ _ => true
  | .runtimeStart => true
  | .showImageLoad => true
  | .srcWaitExpired => true
  | .rasterStart => true
  | .slotConfirm => true
  | .supplyWarning => true
  | .warnRecordDone _ => true
  | .powerSaveDone _ _ => true
  | .pwrSlotEraseDone => true
  | .brownout => true
  | .holdupTest _ _ => true
  | .holdupTestPeriodic => true
  | .holdupDone _ _ => true
  | .saveSettings _ _ => true
  | .ageSave _ _ => true
  | .bootTrialConfirm _ _ => true
  | .block _ _ => true
  | .blockWriteDone _ => true
  | .dfuDnload _ _ => true
  | .dfuDnloadEnd => true
  | .updDiscard _ _ => true
  | .updVerified => true
  | .installDone _ => true
  | .activate _ _ => true
  | .fwHandover _ => true
  | .handoverTimeout => true
  | .safetyStartTimeout => true
  | .imageActivate => true
  | .drvPieceDelivery c _ _ => c < 512
  | .drvActivate c => c < 512
  | .thermSample _ => true
  | .thermalResetRelease _ => true
  | .pdmSample _ => true
  | .vcoreStep => true
  | .avsReadback _ _ => true
  | .pmbusPoll _ _ _ _ => true
  | .marginReplan _ => true
  | .safeNChange _ => true
  | .fogMinExpiry => true
  | .gpioEdge pin _ _ => pin < 32
  | .gpioSet _ _ => true
  | .gpioClr _ _ => true
  | .forwardedChangeAcknowledged => true

end Sys2Proof
end

