-- ==== Sys2Proof/Safety.lean ====
section
/-! DEFINITION. What counts as a safe state and a safe step of the block. -/

namespace Sys2Proof

namespace Machine

/-- The canonical form of the in-package memory (R329, R334, R337): bytes, valid bits, written words and codeword conditions listed with
strictly rising keys, and nothing listed that equals what an unlisted key holds. Equal memories are then equal data. -/
def Memory.wf (m : MemState) : Bool :=
  m.cells.canon (fun _ => 0) && m.valid.canon (fun _ => false) && m.known.canon (fun _ => false) && m.cond.canon (fun _ => .good)

/-- The canonical form of the register file: strictly rising offsets, and no entry that equals the register's reset value. -/
def Registers.wf (m : Table Word) : Bool := m.canon resetOf

/-- Every command that waits names a unit the device has. -/
def State.queueWf (s : State) : Bool := s.pending.all Instr.wellFormed

/-- A state from which the block goes on: its memory and registers are in canonical form and every waiting command can occur. -/
def State.safe (s : State) : Bool := Memory.wf s.dev.mem && Registers.wf s.dev.regs && s.queueWf

/-- A command runs: it answers a next state that leaves the queue as it is and whose device has a property. -/
def State.runs (s : State) (c : Instr) (P : Device → Prop) : Prop := ∃ d, exec c s = .next { s with dev := d } ∧ P d

/-- The registers outside a list hold what they held. -/
def Device.keepsRegs (s t : Device) (but : List Nat) : Prop := ∀ o, o ∉ but → t.reg o = s.reg o

/-- The events raised since, each with its payload, in order. -/
def Device.newEvents (s t : Device) (l : List (Nat × Nat)) : Prop :=
  t.evt.last = s.evt.last ∧ ∃ r, t.evt.raised = s.evt.raised ++ r ∧ r.map (fun e => (e.ev, e.payload)) = l

/-- A register's own write is stored as R10 says: plain bits taken, W1C bits cleared, W1S bits set, the others kept. -/
def Device.tookWrite (s t : Device) (off : Nat) (v : Word) : Prop := ∃ r, specAt off = some r ∧ t.reg off = mergeWrite r (s.reg off) v

/-- A raster that runs in a frame of its own: no restart waits, no peer has been heard, no image reset is due. -/
def Device.steady (s : Device) : Prop :=
  s.shw.running = true ∧ s.shw.restarting = none ∧ s.rdg.peer = none ∧ s.upd.imageReset = false

/-- The frame count is the device's own: not that of PTP (R27, R28). -/
def Device.ownCount (s : Device) : Prop := s.shw.sel ≠ 0 ∨ s.shw.phase = .holdover

end Machine

/-- A step that answers a next state. -/
def Safety.goesOn (s : Machine.State) : Prop := ∃ t, Machine.step s = .next t

end Sys2Proof
end

