-- ==== Sys2Proof/Certificates/Slice0/Obligations.lean ====
section
/-! DEFINITION. The statements about the model: the queue and the step, register access, and each family of commands. -/

open Sys2Proof Sys2Proof.Machine

/-! ### The queue of commands and the step -/

/-- A step with a command waiting is that command, on the state with the queue's rest. -/
def Obligations.StepRunsTheFrontCommand : Prop :=
  ∀ (s : State) (c : Instr) (rest : List Instr), s.pending = c :: rest → step s = exec c { s with pending := rest }

/-- With no command waiting one CLK_SHOW cycle of 4 ns passes and nothing else changes (the model's choice, log 1; the cycle is R17's). -/
def Obligations.IdleStepPassesOneCycle : Prop :=
  ∀ s : State, s.pending = [] →
    ∃ t, step s = .next t ∧ t.pending = [] ∧ t.dev.clock = s.dev.clock + 4 ∧ t.dev.shw.time = (s.dev.shw.time + 4) % 2 ^ 64 ∧
      t.dev = { s.dev with clock := t.dev.clock, shw := { s.dev.shw with time := t.dev.shw.time, sub := s.dev.shw.sub + 1 } }

/-- The state after reset is safe: memory and registers in canonical form, no command waiting. -/
def Obligations.ResetIsSafe : Prop := State.reset.safe = true ∧ State.reset.pending = []

/-- A command answers a next state exactly when it names a unit the device has, keeps the queue, and otherwise faults with noSuchUnit. -/
def Obligations.CommandsCompleteExactlyOnExistingUnits : Prop :=
  ∀ (c : Instr) (s : State),
    (c.wellFormed = true → ∃ d, exec c s = .next { s with dev := d }) ∧ (c.wellFormed = false → exec c s = .fault .noSuchUnit)

/-- Every step from a queue of well-formed commands goes on, takes exactly the front command off, and leaves such a queue. -/
def Obligations.WellFormedQueueAlwaysAdvances : Prop :=
  ∀ s : State, s.queueWf = true →
    Safety.goesOn s ∧ ∀ t, step s = .next t → t.queueWf = true ∧ t.pending = s.pending.tail


/-! ### The raster (R16, R17, R28, R34, R39, R228) -/

/-- LINE_START moves the raster to the next line, at the instant R17 gives that line; COMMIT_POINT runs it to line V_ACTIVE and passes the frame's
commit point; the frame and its mode stay. -/
def Obligations.RasterRunsWithinItsFrame : Prop :=
  ∀ s : State, s.dev.steady → s.dev.shw.line < s.dev.shw.mode.vTotal →
    (s.dev.shw.line + 1 < s.dev.shw.mode.vTotal → s.runs .lineStart fun d =>
      d.shw.line = s.dev.shw.line + 1 ∧ d.shw.sub = 0 ∧ d.shw.frame = s.dev.shw.frame ∧ d.shw.mode = s.dev.shw.mode ∧
      (0 < wrapDiff 64 (lineInstant s.dev (s.dev.shw.line + 1)) s.dev.shw.time →
        d.shw.time = lineInstant s.dev (s.dev.shw.line + 1) % 2 ^ 64)) ∧
    (s.dev.shw.line < s.dev.shw.mode.vActive → s.dev.shw.mode.vActive < s.dev.shw.mode.vTotal → s.runs .commitPoint fun d =>
      d.shw.line = s.dev.shw.mode.vActive ∧ d.shw.frame = s.dev.shw.frame ∧ d.shw.mode = s.dev.shw.mode ∧
      d.shw.lastPoint = some s.dev.shw.frame)

/-- FRAME_BOUNDARY at the end of the last line starts line 0 of the next frame under the mode in the registers (R17, R28): the count goes up by one
modulo 2^48, or takes an armed SHOW_FRAME_SET, which is then no longer armed. -/
def Obligations.FrameBoundaryAdvancesTheCount : Prop :=
  ∀ s : State, s.dev.steady → s.dev.ownCount → s.dev.shw.line + 1 = s.dev.shw.mode.vTotal →
    (s.dev.shw.armedAt = none → s.runs .frameBoundary fun d =>
      d.shw.frame = (s.dev.shw.frame + 1) % 2 ^ 48 ∧ d.shw.line = 0 ∧ d.shw.sub = 0 ∧ d.shw.running = true ∧ d.shw.mode = modeOf s.dev.reg) ∧
    (s.dev.shw.armedAt ≠ none → (s.dev.rb R.SHOW_FRAME_SET_CTRL 1 = false ∨ s.dev.shw.ppsSeen = true) → s.runs .frameBoundary fun d =>
      d.shw.frame = s.dev.get64 R.SHOW_FRAME_SET_LO R.SHOW_FRAME_SET_HI % 2 ^ 48 ∧ d.shw.armedAt = none ∧ d.shw.line = 0)

/-- LATCH_INSTANT on the latch line: the frame and the line stay, and every content frame but the newest has left the pipeline (R228, R33). -/
def Obligations.LatchInstantEmptiesThePipeline : Prop :=
  ∀ s : State, s.dev.steady → s.dev.shw.line = s.dev.shw.mode.latch → noLatches s.dev = false →
    s.runs .latchInstant fun d =>
      d.shw.line = s.dev.shw.line ∧ d.shw.frame = s.dev.shw.frame ∧ d.shw.time = s.dev.shw.time ∧
      ∀ c ∈ s.dev.pipe, c.content ≠ frameAdd s.dev.shw.frame (-1) → ∀ e ∈ d.pipe, e.content ≠ c.content

/-- RASTER_RESTART under free-run or word clock (R39): the new raster starts at line 0 of frame F + 1 under the mode in the registers, and no restart
waits any more. -/
def Obligations.RestartStartsTheNewRaster : Prop :=
  ∀ s : State, s.dev.shw.restarting ≠ none → s.dev.rdg.peer = none → s.dev.shw.line + 1 = s.dev.shw.mode.vTotal →
    (s.dev.shw.sel = 4 ∨ s.dev.shw.sel = 5) →
    s.runs .rasterRestart fun d =>
      d.shw.frame = (s.dev.shw.frame + 1) % 2 ^ 48 ∧ d.shw.line = 0 ∧ d.shw.restarting = none ∧ d.shw.running = true ∧
      d.shw.mode = modeOf s.dev.reg

/-- RASTER_START starts the raster at line 0 on the first qualified source, with the frame count kept when that source is not PTP (R28, R439). It
waits while free-run, not listed first, is the only qualified source and BOOT_SRC_WAIT has not passed since release; SRC_WAIT_EXPIRED starts it then. -/
def Obligations.RasterStartsOnTheFirstSource : Prop :=
  ∀ s : State, s.dev.shw.running = false → s.dev.rdg.peer = none → s.dev.rf R.BOOT_STATUS 3 0 = 2 →
    (firstSource s.dev ≠ 0 →
      (firstSource s.dev ≠ 5 ∨ (srcOrder s.dev).head? = some 5 ∨
          s.dev.sys.released.getD 0 + 1000000 * s.dev.rf R.BOOT_SRC_WAIT 12 0 ≤ s.dev.clock → s.runs .rasterStart fun d =>
        d.shw.running = true ∧ d.shw.line = 0 ∧ d.shw.frame = s.dev.shw.frame ∧ d.shw.mode = modeOf s.dev.reg ∧ d.shw.sel = firstSource s.dev) ∧
      s.runs .srcWaitExpired fun d =>
        d.shw.running = true ∧ d.shw.line = 0 ∧ d.shw.frame = s.dev.shw.frame ∧ d.shw.mode = modeOf s.dev.reg ∧ d.shw.sel = firstSource s.dev) ∧
    (firstSource s.dev = 5 → (srcOrder s.dev).head? ≠ some 5 →
      s.dev.clock < s.dev.sys.released.getD 0 + 1000000 * s.dev.rf R.BOOT_SRC_WAIT 12 0 → s.runs .rasterStart fun d => d = s.dev)

/-! ### Time sources, PPS and SHOW's own registers (R20 to R30, R37, R45, R51) -/

/-- The command that tells of the loss of a source, by the number SHOW_SRC_ORDER gives the source. -/
def lossOf : Nat → Instr
  | 0 => .ptpAnnounceTimeout
  | 1 => .glkLossTimeout 0
  | 2 => .glkLossTimeout 1
  | 3 => .ltcLoss
  | _ => .wclkLoss

/-- The loss of the selected source begins holdover at the mean rate of the last 16 s of lock and raises LOCK_LOST; the loss of another leaves the
selection; either way that source alone is no longer qualified (R21, R22, R24). -/
def Obligations.SourceLossBeginsHoldover : Prop :=
  ∀ (s : State) (k : Nat), k < 5 → (s.dev.src k).qualified = true →
    (s.dev.shw.sel = k → s.runs (lossOf k) fun d =>
      d.shw.phase = .holdover ∧ d.shw.holdSince = some s.dev.clock ∧ d.shw.sel = k ∧ (d.src k).qualified = false ∧
      d.shw.rate = (meanRate s.dev.clock s.dev.shw.rates).getD s.dev.shw.rate ∧ s.dev.newEvents d [(Ev.LOCK_LOST, k)] ∧
      (∀ j, j ≠ k → d.src j = s.dev.src j) ∧ s.dev.keepsRegs d [R.SHOW_RATE_ADJ] ∧
      d = { s.dev with regs := d.regs, shw := d.shw, evt := d.evt }) ∧
    (s.dev.shw.sel ≠ k → s.runs (lossOf k) fun d =>
      (d.src k).qualified = false ∧ (∀ j, j ≠ k → d.src j = s.dev.src j) ∧ d = { s.dev with shw := { s.dev.shw with srcs := d.shw.srcs } })

/-- A source that is not selected qualifies as R21 says: PTP with the eighth offset in a row that moved by less than 1 µs (what the offset is compared
with is the model's choice, log 60), genlock with the eighth V pulse in a row whose period is within 100 ppm of the frame period, LTC with the fourth
valid frame in a row at frame rate / MULT, word clock with a frequency within 500 ppm of RATE when its frames are whole. -/
def Obligations.SourcesQualifyInTheirWindows : Prop :=
  ∀ s : State, s.dev.shw.running = true →
    (∀ (port domain seq : Nat) (origin rx e : Int), ptpMine s.dev port domain = true → s.dev.shw.sel ≠ 0 → (s.dev.src 0).qualified = false →
      s.dev.shw.ptp.last = some e → (rx - origin - s.dev.shw.ptp.delay - e).natAbs < 256000 →
      s.runs (.ptpMessageRx (.sync port domain seq false origin rx)) fun d =>
        (d.src 0).qualified = decide (7 ≤ (s.dev.src 0).good) ∧ (d.src 0).good = min 8 ((s.dev.src 0).good + 1) ∧
        d.shw.ptp = { s.dev.shw.ptp with waits := none, ms := some (rx - origin), last := some (rx - origin - s.dev.shw.ptp.delay) } ∧
        d = { s.dev with shw := { s.dev.shw with srcs := d.shw.srcs, ptp := d.shw.ptp } }) ∧
    (∀ i e edge : Nat, i < 2 → s.dev.shw.sel ≠ i + 1 → (s.dev.src (i + 1)).qualified = false → (s.dev.src (i + 1)).lastEdge = some e →
      (wrapDiff 64 edge e * s.dev.shw.mode.num - s.dev.shw.mode.frameNum).natAbs * 10000 ≤ s.dev.shw.mode.frameNum →
      s.runs (.glkVPulse i edge) fun d =>
        (d.src (i + 1)).qualified = decide (7 ≤ (s.dev.src (i + 1)).good) ∧ (d.src (i + 1)).good = min 8 ((s.dev.src (i + 1)).good + 1) ∧
        (d.src (i + 1)).lastEdge = some edge ∧ d = { s.dev with shw := { s.dev.shw with srcs := d.shw.srcs } }) ∧
    (∀ num den edge : Nat, s.dev.shw.sel ≠ 3 → (s.dev.src 3).qualified = false →
      s.dev.shw.mode.num * den = s.dev.rf R.SHOW_LTC_CFG 3 0 * num * s.dev.shw.mode.den → s.runs (.ltcFrameRx true num den edge) fun d =>
        (d.src 3).qualified = decide (3 ≤ (s.dev.src 3).good) ∧ (d.src 3).good = min 4 ((s.dev.src 3).good + 1) ∧
        d = { s.dev with shw := { s.dev.shw with srcs := d.shw.srcs } }) ∧
    (∀ mHz : Nat, s.dev.shw.sel ≠ 4 → (s.dev.src 4).qualified = false → wclkWhole (s.dev.reg R.SHOW_WCLK_CFG) s.dev.shw.mode = true →
      (((mHz : Nat) : Int) - ((1000 * wclkHz (s.dev.reg R.SHOW_WCLK_CFG) : Nat) : Int)).natAbs * 2000 ≤ 1000 * wclkHz (s.dev.reg R.SHOW_WCLK_CFG) →
      s.runs (.wclkQualifyWindow mHz) fun d =>
        (d.src 4).qualified = true ∧ d = { s.dev with shw := { s.dev.shw with srcs := d.shw.srcs } })

/-- The qualified sources before the selected one in the order. -/
def earlierSources (s : Device) : List Nat := ((srcOrder s).takeWhile (fun j => j ≠ s.shw.sel)).filter (srcOk s)

/-- When a source will have stayed qualified for REVERT_S. -/
def revertTime (s : Device) (k : Nat) : Nat := (s.src k).since + 1000000000 * s.rf R.SHOW_HOLD_CFG 27 16

/-- Holdover that has lasted HOLDOVER_MAX ends with the first qualified source in the order (R24). An earlier source that has stayed qualified for
REVERT_S is reselected, the first in the order of those that have, else the one that will have first; never with REVERT_EN = 0 or REVERT_S = 0
(R26). -/
def Obligations.HoldoverAndRevertSelectByTheOrder : Prop :=
  ∀ s : State,
    (∀ t, s.dev.shw.phase = .holdover → s.dev.shw.holdSince = some t → s.runs .holdoverExpired fun d =>
      d.shw.sel = firstSource s.dev ∧ d.shw.phase = (if firstSource s.dev = 5 then .freerun else .acquire) ∧ d.shw.holdSince = none ∧
      d.clock = max s.dev.clock (t + 1000000000 * s.dev.rf R.SHOW_HOLD_CFG 11 0) ∧
      s.dev.newEvents d ((if s.dev.shw.sel ≠ firstSource s.dev then [(Ev.SRC_CHANGE, firstSource s.dev)] else []) ++
        [(Ev.HOLDOVER_EXPIRED, s.dev.shw.sel % 2 ^ 64)]) ∧ d = { s.dev with clock := d.clock, shw := d.shw, evt := d.evt }) ∧
    (s.dev.rb R.SHOW_CTRL 1 = true → s.dev.rf R.SHOW_HOLD_CFG 27 16 ≠ 0 →
      (∀ k, (earlierSources s.dev).find? (fun j => revertTime s.dev j ≤ s.dev.clock) = some k → s.runs .sourceRevert fun d =>
        d.shw.sel = k ∧ d.clock = s.dev.clock ∧ s.dev.newEvents d [(Ev.SRC_CHANGE, k)] ∧ d = { s.dev with shw := d.shw, evt := d.evt }) ∧
      (earlierSources s.dev ≠ [] → (∀ k ∈ earlierSources s.dev, s.dev.clock < revertTime s.dev k) → s.runs .sourceRevert fun d =>
        ∃ k ∈ earlierSources s.dev, (∀ j ∈ earlierSources s.dev, revertTime s.dev k ≤ revertTime s.dev j) ∧
          d.shw.sel = k ∧ d.clock = revertTime s.dev k ∧ s.dev.newEvents d [(Ev.SRC_CHANGE, k)] ∧
          d = { s.dev with clock := d.clock, shw := d.shw, evt := d.evt })) ∧
    (s.dev.rb R.SHOW_CTRL 1 = false ∨ s.dev.rf R.SHOW_HOLD_CFG 27 16 = 0 ∨ earlierSources s.dev = [] →
      s.runs .sourceRevert fun d => d = s.dev)

/-- PPS_OUT rises at the next whole second of show time and falls 100 ms after it (R30); a PPS_IN edge is taken while a request is armed, and an edge
missing for 1.5 s raises PPS_IN_MISSING with the request still armed (R28). -/
def Obligations.PpsFollowsTheShowTime : Prop :=
  ∀ s : State,
    (s.dev.rb R.SHOW_CTRL 4 = true → s.dev.shw.ppsOut = false → s.runs .ppsOutRise fun d =>
      ∃ n, n < 1000000000 ∧ (s.dev.shw.time + n) % 1000000000 = 0 ∧ d.clock = s.dev.clock + n ∧ d.shw.time = (s.dev.shw.time + n) % 2 ^ 64 ∧
        d.shw.ppsOut = true ∧ d.sent = s.dev.sent ++ [⟨.pin pinPps, [1]⟩] ∧ d = { s.dev with clock := d.clock, shw := d.shw, sent := d.sent }) ∧
    (s.dev.shw.ppsOut = true → s.dev.shw.time % 1000000000 ≤ 100000000 → s.runs .ppsOutFall fun d =>
      ∃ n, s.dev.shw.time % 1000000000 + n = 100000000 ∧ d.clock = s.dev.clock + n ∧ d.shw.ppsOut = false ∧
        d.sent = s.dev.sent ++ [⟨.pin pinPps, [0]⟩] ∧ d = { s.dev with clock := d.clock, shw := d.shw, sent := d.sent }) ∧
    s.runs .ppsInEdge (fun d => d = { s.dev with shw := { s.dev.shw with ppsSeen := s.dev.shw.ppsSeen || s.dev.shw.armedAt.isSome } }) ∧
    (∀ t, s.dev.shw.armedAt = some t → s.dev.rb R.SHOW_FRAME_SET_CTRL 1 = true → s.dev.shw.ppsSeen = false → s.runs .ppsInMissing fun d =>
      d.shw.armedAt = some t ∧ d.clock = max s.dev.clock (t + 1500000000) ∧ s.dev.newEvents d [(Ev.PPS_IN_MISSING, 0)] ∧
      d = { s.dev with clock := d.clock, shw := d.shw, evt := d.evt })

/-- An accepted write of SHOW_FRAME_SET_CTRL with ARM arms the request (R28), one of SHOW_CTRL with REALIGN leaves the bit set for the next commit point
(R39), one of SHOW_LL_CTRL with SWAP begins the validation of the inactive bank (R45), and one with ENABLE enables or disables the light list (R51). -/
def Obligations.ShowControlWritesTakeEffect : Prop :=
  ∀ (s : State) (w : Who) (v : Word),
    (writeCode s.dev w R.SHOW_FRAME_SET_CTRL v (showHandler w R.SHOW_FRAME_SET_CTRL v) = .ok → wbit v 0 = true →
      s.runs (.frameSetArm w v) fun d => d.shw = { s.dev.shw with armedAt := some s.dev.clock, ppsSeen := false } ∧
        s.dev.tookWrite d R.SHOW_FRAME_SET_CTRL v ∧ s.dev.keepsRegs d [R.SHOW_FRAME_SET_CTRL] ∧ d.resp = { code := .ok } ∧
        d = { s.dev with regs := d.regs, shw := d.shw, resp := d.resp, sent := d.sent }) ∧
    (writeCode s.dev w R.SHOW_CTRL v (showHandler w R.SHOW_CTRL v) = .ok → wbit v 2 = true →
      s.runs (.realign w v) fun d => d.rb R.SHOW_CTRL 2 = true ∧ s.dev.tookWrite d R.SHOW_CTRL v ∧ s.dev.keepsRegs d [R.SHOW_CTRL] ∧
        d = { s.dev with regs := d.regs, resp := d.resp, sent := d.sent }) ∧
    (writeCode s.dev w R.SHOW_LL_CTRL v (showHandler w R.SHOW_LL_CTRL v) = .ok → wbit v 1 = true → wbit v 0 = s.dev.rb R.SHOW_LL_CTRL 0 →
      s.runs (.llSwap w v) fun d => d.shw = { s.dev.shw with llSwap := .validating } ∧ s.dev.tookWrite d R.SHOW_LL_CTRL v ∧
        s.dev.keepsRegs d [R.SHOW_LL_CTRL] ∧ d = { s.dev with regs := d.regs, shw := d.shw, resp := d.resp, sent := d.sent }) ∧
    (writeCode s.dev w R.SHOW_LL_CTRL v (showHandler w R.SHOW_LL_CTRL v) = .ok → wbit v 1 = false →
      (wbit v 0 = false ∨ s.dev.shw.running = false) → s.runs (.llEnable w v) fun d =>
        d.rb R.SHOW_LL_CTRL 0 = wbit v 0 ∧ s.dev.keepsRegs d [R.SHOW_LL_CTRL] ∧ d = { s.dev with regs := d.regs, resp := d.resp, sent := d.sent })

/-- An accepted direct write of a shadowed register by a session or a core, a timing-mode register among them, stages one commit of that register
behind those pending, in place of an earlier direct write to it, is reported as pending with DIRECT = 1 for the frame after
its commit point, and is answered OK (R37, R522). -/
def Obligations.DirectWritesAreStaged : Prop :=
  ∀ (s : State) (w : Who) (off : Nat) (v : Word), w ≠ .safety → isShadowed off = true → writeCode s.dev w off v (directHandler off v) = .ok →
    ∀ c, (c = Instr.shDirectWrite w off v ∨ (off ∈ modeRegs ∧ c = .timingModeWrite w off v)) → s.runs c fun d =>
      d.shw = { s.dev.shw with
        commits := s.dev.shw.commits.filter (fun c => !(c.origin = .direct && c.entries.any (fun e => e.1 = off))) ++
          [{ origin := .direct, target := none, entries := [(off, directMask off, v)] }] } ∧
      d.rf R.SHOW_COMMIT_STATE 1 0 = 1 ∧ d.rb R.SHOW_COMMIT_STATE 3 = true ∧
      d.get64 R.SHOW_COMMIT_FRAME_LO R.SHOW_COMMIT_FRAME_HI = frameAdd (nextPoint s.dev) 1 ∧ d.resp = { code := .ok } ∧
      d.clock = s.dev.clock ∧ d.before = s.dev.before ∧ d.pipe = s.dev.pipe ∧ d.cmp = s.dev.cmp ∧ d.kpr = s.dev.kpr

/-! ### Register access (R8 to R10, R12, R19, R45, R49, R86, R361, R369) -/

/-- An offset that is not a multiple of 4 is answered E_ALIGN, an aligned one past the map E_NO_SUCH, by a write and by every kind of read, and nothing
but the answer changes (R8, R9); a session's read of an agents' register is answered E_LOCKED (R93). -/
def Obligations.BadAddressesAreRejected : Prop :=
  ∀ (s : State) (w : Who) (off : Nat) (v : Word),
    (off % 4 ≠ 0 →
      (∀ c ∈ [Instr.rcRegisterRead w off, .octetsLoRead w off, .latchingLoRead w off], s.runs c fun d => d = { s.dev with resp := { code := .align } }) ∧
      s.runs (.registerWrite w off v) fun d => d = { s.dev with resp := { code := .align, off := off } }) ∧
    (off % 4 = 0 → mapEnd ≤ off →
      (∀ c ∈ [Instr.rcRegisterRead w off, .octetsLoRead w off, .latchingLoRead w off], s.runs c fun d => d = { s.dev with resp := { code := .noSuch } }) ∧
      s.runs (.registerWrite w off v) fun d => d = { s.dev with resp := { code := .noSuch, off := off } }) ∧
    (agentsOnly off = true → off % 4 = 0 → ∀ k, ∀ c ∈ [Instr.rcRegisterRead (.session k) off, .octetsLoRead (.session k) off,
      .latchingLoRead (.session k) off], s.runs c fun d => d = { s.dev with resp := { code := .locked } })

/-- Registers whose write has no effect but the store. -/
def plainRegs : List Nat :=
  [R.SHOW_HOLD_CFG, R.SHOW_SLEW, R.NET_STRM_TIMEOUT, R.SCH_LOW_SLOTS, R.MEM_SCRUB_PERIOD]

/-- The Keeper's write of a plain register, out of standby, is stored bit by bit as R10 says when every field is in range; with a value that is not,
or by a client that is not the Keeper, it changes nothing but the answer, which names the register (R10, R12, R361). -/
def Obligations.PlainRegisterWrites : Prop :=
  ∀ (s : State) (off k : Nat) (v : Word), off ∈ plainRegs → rdgState s.dev = 0 →
    (s.dev.kpr.keeper = some k → offsetValueCode off v = .ok → s.runs (.registerWrite (.session k) off v) fun d =>
      s.dev.tookWrite d off v ∧ s.dev.keepsRegs d [off] ∧ d = { s.dev with regs := d.regs, resp := { code := .ok } }) ∧
    (s.dev.kpr.keeper = some k → offsetValueCode off v ≠ .ok → s.runs (.registerWrite (.session k) off v) fun d =>
      d = { s.dev with resp := { code := offsetValueCode off v, off := off } }) ∧
    (s.dev.kpr.keeper ≠ some k → s.runs (.registerWrite (.session k) off v) fun d =>
      d = { s.dev with resp := { code := .notKeeper, off := off } })

/-- A read of a read-to-clear register that keeps no companions answers its value, and clears it when the reader may clear: the Keeper, a core or the
safety pair (R10, R368). -/
def Obligations.ReadToClearReads : Prop :=
  ∀ (s : State) (w : Who) (off : Nat), addressCheck off = .ok → isRc off = true → agentsOnly off = false → isOctetsLo off = false →
    oneRead off = false → companions off = [] → (∀ p, p < 6 → off ≠ R.NET_TXTS_TAG p) → s.runs (.rcRegisterRead w off) fun d =>
      d.resp = { code := .ok, data := [liveValue s.dev w off] } ∧ d.reg off = (if clears s.dev w then 0 else s.dev.reg off) ∧
      s.dev.keepsRegs d [off] ∧ d = { s.dev with regs := d.regs, hkp := { s.dev.hkp with seen := d.hkp.seen }, resp := d.resp }

/-- A read of an _OCTETS_LO counter answers its low word and latches the high word for the reader; a reader that clears clears both (R86). -/
def Obligations.OctetsReadsLatchTheHighWord : Prop :=
  ∀ (s : State) (w : Who) (off : Nat), off < mapEnd → off % 4 = 0 → isOctetsLo off = true → s.runs (.octetsLoRead w off) fun d =>
    d.resp = { code := .ok, data := [s.dev.reg off] } ∧ d.latched w (off + 4) = some (s.dev.reg (off + 4)) ∧
    (d.reg off = if clears s.dev w then 0 else s.dev.reg off) ∧ (d.reg (off + 4) = if clears s.dev w then 0 else s.dev.reg (off + 4)) ∧
    s.dev.keepsRegs d [off, off + 4] ∧ d = { s.dev with regs := d.regs, latches := d.latches, resp := d.resp }

/-- A read of a latching register answers its live value and latches the registers that go with it, for that reader alone (R369). -/
def Obligations.LatchingReadsKeepTheirCompanions : Prop :=
  ∀ (s : State) (w : Who),
    ∀ off ∈ [R.CMP_DONE_FRAME_LO, R.PHO_DONE_FRAME_LO, R.PVW_CANVAS_FRAME_LO, R.RDG_DIVERGE_FRAME_LO, R.MEM_ERR_ADDR_LO, R.MTR_GAP_START_LO],
      s.runs (.latchingLoRead w off) fun d =>
        d.resp = { code := .ok, data := [liveValue s.dev w off] } ∧ (∀ c ∈ companions off, d.latched w c = some (liveValue s.dev w c)) ∧
        (∀ x o, o < 0x400000 → readerNo x ≠ readerNo w → d.latched x o = s.dev.latched x o) ∧
        d = { s.dev with latches := d.latches, resp := d.resp }

/-- A read of SHOW_FRAME_LO answers the frame's low word and latches its high bits, the position and the show time for the reader that made it; that
reader's next read of each of those registers answers the latched value, after which the register reads live again (R19). SHOW_TIME_LO has a command of
its own, and read live it latches SHOW_TIME_HI. -/
def Obligations.ShowReadsLatchTogether : Prop :=
  ∀ (s : State) (w : Who),
    (s.runs (.showFrameLoRead w) fun d =>
      d.resp = { code := .ok, data := [BitVec.ofNat 32 s.dev.shw.frame] } ∧
      d.latched w R.SHOW_FRAME_HI = some (BitVec.ofNat 32 (s.dev.shw.frame / 2 ^ 32)) ∧ d.latched w R.SHOW_POS = some (showPos s.dev) ∧
      d.latched w R.SHOW_TIME_LO = some (BitVec.ofNat 32 s.dev.shw.time) ∧
      d.latched w R.SHOW_TIME_HI = some (BitVec.ofNat 32 (s.dev.shw.time / 2 ^ 32)) ∧ d = { s.dev with latches := d.latches, resp := d.resp }) ∧
    (∀ x, s.dev.latched w R.SHOW_TIME_LO = some x → s.runs (.showTimeLoRead w) fun d =>
      d.resp = { code := .ok, data := [x] } ∧ d.latched w R.SHOW_TIME_LO = none ∧ d = { s.dev with latches := d.latches, resp := d.resp }) ∧
    (s.dev.latched w R.SHOW_TIME_LO = none → s.runs (.showTimeLoRead w) fun d =>
      d.resp = { code := .ok, data := [BitVec.ofNat 32 s.dev.shw.time] } ∧
      d.latched w R.SHOW_TIME_HI = some (BitVec.ofNat 32 (s.dev.shw.time / 2 ^ 32)) ∧ d = { s.dev with latches := d.latches, resp := d.resp }) ∧
    (∀ x o, o < 0x400000 → readerNo x ≠ readerNo w → s.runs (.showFrameLoRead w) fun d => d.latched x o = s.dev.latched x o) ∧
    (∀ off ∈ [R.SHOW_FRAME_HI, R.SHOW_POS, R.SHOW_TIME_LO, R.SHOW_TIME_HI], ∀ x, s.dev.latched w off = some x →
      s.runs (.rcRegisterRead w off) fun d => d.resp = { code := .ok, data := [x] } ∧ d.latched w off = none ∧
        d = { s.dev with latches := d.latches, resp := d.resp }) ∧
    (∀ off ∈ [R.SHOW_FRAME_HI, R.SHOW_POS, R.SHOW_TIME_HI], s.dev.latched w off = none → s.runs (.rcRegisterRead w off) fun d =>
      d = { s.dev with resp := { code := .ok, data := [liveValue s.dev w off] } })

/-- A snapshot whose slot is written leaves the queue of snapshots, sets the slot's bits and tells of it (R49, R46); a light-list bank that was being
validated waits for its commit point, or is refused with the entry and code in SHOW_LL_STATUS and the active bank kept (R45). -/
def Obligations.BackgroundShowWorkCompletes : Prop :=
  ∀ s : State,
    (∀ slot j, slot < 4 → s.dev.shw.snaps.find? (fun k => k.slot = slot) = some j → (∀ k ∈ s.dev.shw.snaps.erase j, k.slot ≠ slot) →
      s.runs (.snapshotTaken slot) fun d =>
        d.shw = { s.dev.shw with snaps := s.dev.shw.snaps.erase j } ∧ d.rb R.SHOW_SNAP_STATUS slot = true ∧
        d.rb R.SHOW_SNAP_STATUS (4 + slot) = true ∧ d.rb R.SHOW_SNAP_STATUS (12 + slot) = false ∧
        (∃ e ∈ d.evt.raised, e.ev = Ev.SNAPSHOT_TAKEN ∧ e.payload = pay2 slot j.tag)) ∧
    (s.dev.shw.llSwap = .validating →
      s.runs .llValidationDone fun d =>
        match llBankCode s.dev (1 - llActive s.dev) s.dev.shw.mode.vTotal (readFile (settingsLeft s.dev) R.SHOW_V_TOTAL).toNat with
        | none => d.shw = { s.dev.shw with llSwap := .pending } ∧ d.reg R.SHOW_LL_STATUS = 0
        | some (c, i) => d.shw = { s.dev.shw with llSwap := .idle } ∧ d.rb R.SHOW_LL_CTRL 1 = false ∧
            d.reg R.SHOW_LL_STATUS = BitVec.ofNat 32 (i + 65536 * c.num))

/-! ### Network (R63 to R92) -/

/-- A received frame is checked in the order enable, runt, oversize (4 octets more with a tag), coding error, FCS, and a frame that fails changes
nothing but one counter, which goes up by one; but an oversize frame that goes to a ring with free buffers is written there, and no frame is completed
by it. A good PAUSE or flow-control frame is counted apart from its octets and goes no further (R63 to R65; that a coding error comes before the FCS is
the model's choice, log 58). -/
def Obligations.ReceivedFramesAreCheckedInOrder : Prop :=
  ∀ (s : State) (p : Nat) (f : List Byte) (err : Bool) (ts : Nat), p < 6 →
    (s.dev.rb (R.NET_CTRL p) 0 = false → s.runs (.netFrameRx p f err ts) fun d => d = s.dev) ∧
    (s.dev.rb (R.NET_CTRL p) 0 = true →
      (f.length < 64 → s.runs (.netFrameRx p f err ts) fun d => d = s.dev.count (R.NET_RX_RUNT p) 1) ∧
      (64 ≤ f.length → s.dev.rn (R.NET_MAX_FRAME p) + (if isTagged f then 4 else 0) < f.length →
        (s.runs (.netFrameRx p f err ts) fun d => d.net = s.dev.net ∧ d.shw = s.dev.shw ∧ d.cmp = s.dev.cmp ∧ d.clock = s.dev.clock) ∧
        ((∀ k r, ringFor s.dev p f (parseFrame f) = some (k, r) → ringFree s.dev p k = 0) →
          s.runs (.netFrameRx p f err ts) fun d => d = s.dev.count (R.NET_RX_OVERSIZE p) 1)) ∧
      (64 ≤ f.length → f.length ≤ s.dev.rn (R.NET_MAX_FRAME p) + (if isTagged f then 4 else 0) →
        (err = true → s.runs (.netFrameRx p f err ts) fun d => d = s.dev.count (R.NET_RX_CODE_ERR p) 1) ∧
        (err = false → fcs32 (f.take (f.length - 4)) ≠ leAt f (f.length - 4) 4 →
          s.runs (.netFrameRx p f err ts) fun d => d = s.dev.count (R.NET_RX_FCS p) 1) ∧
        (err = false → fcs32 (f.take (f.length - 4)) = leAt f (f.length - 4) 4 →
          isPause (f.take (f.length - 4)) (parseFrame (f.take (f.length - 4))) = true →
          s.runs (.netFrameRx p f err ts) fun d =>
            d = (countOctets (R.NET_RX_OCTETS_LO p) (R.NET_RX_OCTETS_HI p) f.length s.dev).count (R.NET_RX_PAUSE p) 1)))

/-- TAIL of a receive ring or a transmit queue takes an index below its SIZE, and no other (the refusal is the
model's choice, log 58), and the credit of a transmit queue is settled before its TAIL moves (R67, R70); the classifier takes a ring's oldest completed
frame off its list when the queue is enabled and has room for the item, and waits otherwise (R67, R69). -/
def Obligations.RingPointersAndTheClassifier : Prop :=
  ∀ (s : State) (w : Who) (p k : Nat) (v : Word), p < 6 →
    (k < 16 → accessCode s.dev w (R.NET_RXRk_TAIL p k) v = .ok → offsetValueCode (R.NET_RXRk_TAIL p k) v = .ok →
      (v = 0 ∨ v.toNat < s.dev.rn (R.NET_RXRk_SIZE p k) → s.runs (.netRxTailWrite w p k v) fun d =>
        s.dev.tookWrite d (R.NET_RXRk_TAIL p k) v ∧ s.dev.keepsRegs d [R.NET_RXRk_TAIL p k] ∧
        d = { s.dev with regs := d.regs, resp := { code := .ok } }) ∧
      (v ≠ 0 → s.dev.rn (R.NET_RXRk_SIZE p k) ≤ v.toNat → s.runs (.netRxTailWrite w p k v) fun d =>
        d = { s.dev with resp := { code := .range, off := R.NET_RXRk_TAIL p k } })) ∧
    (k < 8 → accessCode s.dev w (R.NET_TXQq_TAIL p k) v = .ok → offsetValueCode (R.NET_TXQq_TAIL p k) v = .ok →
      (v = 0 ∨ v.toNat < s.dev.rn (R.NET_TXQq_SIZE p k) → s.runs (.netTxTailWrite w p k v) fun d =>
        s.dev.tookWrite d (R.NET_TXQq_TAIL p k) v ∧ s.dev.keepsRegs d [R.NET_TXQq_TAIL p k] ∧ d.net.txts = s.dev.net.txts ∧
        d = { s.dev with regs := d.regs, net := { s.dev.net with credit := d.net.credit, creditAt := d.net.creditAt }, resp := { code := .ok } }) ∧
      (v ≠ 0 → s.dev.rn (R.NET_TXQq_SIZE p k) ≤ v.toNat → s.runs (.netTxTailWrite w p k v) fun d =>
        d = { s.dev with resp := { code := .range, off := R.NET_TXQq_TAIL p k } })) ∧
    (k < 16 → ∀ f rest, s.dev.net.completed.getD [] (16 * p + k) = f :: rest →
      (s.dev.rb (R.QUE_CTRL (s.dev.rf (R.NET_RXRk_QUEUE p k) 4 0)) 0 = true → hwRoom s.dev (s.dev.rf (R.NET_RXRk_QUEUE p k) 4 0) 3 = true →
        s.runs (.classifierItemPush p k) fun d => d.net.completed.getD [] (16 * p + k) = rest ∧
          ∃ u : Device, u.net = d.net ∧ u = { s.dev with net := u.net } ∧
            d = hwPush 9 (s.dev.rf (R.NET_RXRk_QUEUE p k) 4 0) (classifierItem p k f) u) ∧
      (s.dev.rb (R.QUE_CTRL (s.dev.rf (R.NET_RXRk_QUEUE p k) 4 0)) 0 = false ∨ hwRoom s.dev (s.dev.rf (R.NET_RXRk_QUEUE p k) 4 0) 3 = false →
        s.runs (.classifierItemPush p k) fun d => d = s.dev))

/-- What is sent of a good frame that is forwarded from a port out of another: as it is, or corrected with a new FCS. -/
def forwardedBytes (s : Device) (i o : Nat) (f : List Byte) (rx tx : Nat) : List Byte :=
  match tcCorrect s i o (f.take (f.length - 4)) rx tx with
  | some b => b ++ leBytes 4 (fcs32 b)
  | none => f

/-- The MAC sends one frame, with its FCS, from the highest-numbered transmit queue that may send, and moves its HEAD on; a frame that is being
forwarded goes before all queues but queue 7; a disabled port and one with neither send nothing (R70, R71, R75). A read of NET_TXTS_TAG takes the oldest
time-stamp off the FIFO and latches it, and reads 0 from an empty one (R73). -/
def Obligations.FramesLeaveThePorts : Prop :=
  ∀ (s : State) (p : Nat), p < 6 →
    (∀ ts, (s.dev.rb (R.NET_CTRL p) 0 = false ∨ (s.dev.net.fwd.getD [] p = [] ∧ ∀ q, q < 8 → txEligible s.dev p q = false)) →
      s.runs (.netFrameTx p ts) fun d => d = s.dev) ∧
    (∀ ts q, s.dev.rb (R.NET_CTRL p) 0 = true → q < 8 → txEligible s.dev p q = true → (∀ k, q < k → k < 8 → txEligible s.dev p k = false) →
      (s.dev.net.fwd.getD [] p = [] ∨ q = 7) → s.runs (.netFrameTx p ts) fun d => ∃ (body : List Byte) (n : Nat),
        (body, n) = gatherTx s.dev (64 * s.dev.rn (R.NET_TXQq_BASE p q)) (s.dev.rn (R.NET_TXQq_SIZE p q)) (s.dev.rn (R.NET_TXQq_HEAD p q))
          (txQueued s.dev p q) ∧
        d.sent = s.dev.sent ++ [⟨.port p, (body ++ leBytes 4 (fcs32 body)).map (·.toNat)⟩] ∧
        d.reg (R.NET_TXQq_HEAD p q) = BitVec.ofNat 32 ((s.dev.rn (R.NET_TXQq_HEAD p q) + n) % s.dev.rn (R.NET_TXQq_SIZE p q)) ∧
        d = { s.dev with regs := d.regs, net := d.net, evt := d.evt, sent := d.sent }) ∧
    (∀ ts x rest, s.dev.rb (R.NET_CTRL p) 0 = true → s.dev.net.fwd.getD [] p = x :: rest → txEligible s.dev p 7 = false → x.bad = false →
      fcs32 (x.frame.take (x.frame.length - 4)) = leAt x.frame (x.frame.length - 4) 4 → s.runs (.netFrameTx p ts) fun d =>
        d.sent = s.dev.sent ++ [⟨.port p, (forwardedBytes s.dev x.from_ p x.frame x.rx ts).map (·.toNat)⟩] ∧ d.net.fwd.getD [] p = rest ∧
        d = { s.dev with regs := d.regs, net := { s.dev.net with fwd := d.net.fwd, lineFree := d.net.lineFree }, sent := d.sent }) ∧
    (∀ w t rest, s.dev.net.txts.getD [] p = t :: rest → s.runs (.txtsTagRead w p) fun d =>
      d.resp = { code := .ok, data := [BitVec.ofNat 32 (t.tag % 65536 + 65536)] } ∧ d.net.txts.getD [] p = rest ∧
      d.latched w (R.NET_TXTS_LO p) = some (BitVec.ofNat 32 (t.ts256 / 256)) ∧
      d.latched w (R.NET_TXTS_HI p) = some (BitVec.ofNat 32 (t.ts256 / 256 / 2 ^ 32)) ∧
      d.latched w (R.NET_TXTS_FRAC p) = some (BitVec.ofNat 32 (t.ts256 % 256)) ∧
      d = { s.dev with net := { s.dev.net with txts := d.net.txts }, latches := d.latches, resp := d.resp }) ∧
    (∀ w, s.dev.net.txts.getD [] p = [] → s.runs (.txtsTagRead w p) fun d => d = { s.dev with resp := { code := .ok, data := [0] } })

/-- The cascade takes a frame out of its other port when it is enabled there, the frame is no flow control and not for the station itself (R63, R75,
R88): at once while the output is free, a PTP event frame corrected (R77); a frame with a coding error or a wrong FCS is stomped at equal speeds and
else dropped (that a coding error counts so, and what is stored whole is dropped, are the model's choice, log 58); otherwise through the forwarding
buffer of 65,536 bytes, past which it is dropped and counted. What it does not take changes nothing. -/
def Obligations.TheCascadeForwardsFrames : Prop :=
  ∀ (s : State) (p rx tx : Nat) (f : List Byte) (err : Bool), p = 2 ∨ p = 3 →
    (forwards s.dev p f = false → s.runs (.cascadeForward p f rx tx err) fun d => d = s.dev) ∧
    (s.dev.rb R.NET_CASCADE_CTRL 0 = false ∨ s.dev.rb (R.NET_CTRL p) 0 = false ∨ s.dev.rb (R.NET_CTRL (5 - p)) 0 = false ∨
      isPause f (parseFrame f) = true ∨ (isGroupMac (beAt f 0 6) = false ∧ beAt f 0 6 = stationMac s.dev p) → forwards s.dev p f = false) ∧
    (forwards s.dev p f = true →
      (65536 < fwdBytes s.dev (5 - p) + f.length → s.runs (.cascadeForward p f rx tx err) fun d =>
        d.reg (R.NET_CASCADE_DROP (5 - p)) = satInc (s.dev.reg (R.NET_CASCADE_DROP (5 - p))) 1 ∧ s.dev.keepsRegs d [R.NET_CASCADE_DROP (5 - p)] ∧
        s.dev.newEvents d (if s.dev.reg (R.NET_CASCADE_DROP (5 - p)) = 0 then [(Ev.CASCADE_DROP, 5 - p)] else []) ∧
        d = { s.dev with regs := d.regs, evt := d.evt }) ∧
      (fwdBytes s.dev (5 - p) + f.length ≤ 65536 →
        (fwdWaits s.dev (5 - p) = true → s.runs (.cascadeForward p f rx tx err) fun d =>
          d.net.fwd.getD [] (5 - p) = s.dev.net.fwd.getD [] (5 - p) ++ [⟨f, p, rx, err⟩] ∧
          d = { s.dev with net := { s.dev.net with fwd := d.net.fwd } }) ∧
        (fwdWaits s.dev (5 - p) = false → err = false → fcs32 (f.take (f.length - 4)) = leAt f (f.length - 4) 4 →
            s.runs (.cascadeForward p f rx tx err) fun d =>
          d.sent = s.dev.sent ++ [⟨.port (5 - p), (forwardedBytes s.dev p (5 - p) f rx tx).map (·.toNat)⟩] ∧
          d.reg (R.NET_CASCADE_FWD (5 - p)) = satInc (s.dev.reg (R.NET_CASCADE_FWD (5 - p))) 1 ∧
          d = { s.dev with regs := d.regs, net := { s.dev.net with lineFree := d.net.lineFree }, sent := d.sent }) ∧
        (fwdWaits s.dev (5 - p) = false → (err = true ∨ fcs32 (f.take (f.length - 4)) ≠ leAt f (f.length - 4) 4) →
          (s.dev.rf (R.NET_CTRL p) 2 1 ≠ s.dev.rf (R.NET_CTRL (5 - p)) 2 1 → s.runs (.cascadeForward p f rx tx err) fun d => d = s.dev) ∧
          (s.dev.rf (R.NET_CTRL p) 2 1 = s.dev.rf (R.NET_CTRL (5 - p)) 2 1 → s.runs (.cascadeForward p f rx tx err) fun d =>
            d.sent = s.dev.sent ++ [⟨.port (5 - p), (f.take (f.length - 4) ++
              leBytes 4 (0xFFFFFFFF - fcs32 (f.take (f.length - 4)))).map (·.toNat)⟩] ∧
            d.reg (R.NET_CASCADE_STOMPED (5 - p)) = satInc (s.dev.reg (R.NET_CASCADE_STOMPED (5 - p))) 1))))

/-- A link's change is shown and, when LINK itself changes, told (R92); a stream, a path, a universe's source or its synchronisation that is missed for
its timeout is marked lost at that instant and told (R79, R80, R83, R84); the path-skew wait ends by closing the frame (R80). -/
def Obligations.NetworkLossesAreTold : Prop :=
  ∀ s : State,
    (∀ (p : Nat) (st : BitVec 5), p < 6 → s.runs (.linkChange p st) fun d =>
      d.reg (R.NET_STATUS p) = BitVec.ofNat 32 st.toNat ∧ s.dev.keepsRegs d [R.NET_STATUS p] ∧
      s.dev.newEvents d (if s.dev.rb (R.NET_STATUS p) 0 ≠ st.toNat.testBit 0 then [(Ev.LINK_CHANGE, p)] else []) ∧
      d = { s.dev with regs := d.regs, evt := d.evt }) ∧
    (∀ n, n < 32 →
      ((s.dev.stream n).lost = false → s.dev.rb (R.STRM_CTRL n) 0 = true → s.runs (.streamLost n) fun d =>
        (d.stream n).lost = true ∧
        d.clock = max s.dev.clock ((s.dev.stream n).lastPkt.getD (s.dev.stream n).since + 1000000 * s.dev.rn R.NET_STRM_TIMEOUT) ∧
        s.dev.newEvents d [(Ev.STREAM_LOST, n)] ∧ (∀ k, k ≠ n → d.stream k = s.dev.stream k)) ∧
      ((s.dev.stream n).lost = true ∨ s.dev.rb (R.STRM_CTRL n) 0 = false → s.runs (.streamLost n) fun d => d = s.dev)) ∧
    (∀ n path, n < 32 → path = 1 ∨ path = 2 → (s.dev.stream n).pathLost.getD false path = false → s.dev.rb (R.STRM_CTRL n) 0 = true →
      s.dev.rb (R.STRM_CTRL n) 2 = true → s.runs (.pathLost n path) fun d => (d.stream n).pathLost.getD false path = true ∧
        d.clock = max s.dev.clock (((s.dev.stream n).pathPkt.find path).getD (s.dev.stream n).since + 1000000 * s.dev.rn R.NET_STRM_TIMEOUT) ∧
        s.dev.newEvents d [(Ev.PATH_LOST, n)] ∧ (∀ k, k ≠ n → d.stream k = s.dev.stream k)) ∧
    (∀ n t, n < 32 → (s.dev.stream n).waitUntil = some t → (s.dev.stream n).rtp ≠ none → (s.dev.stream n).early = [] →
      s.runs (.streamSkewWaitEnd n) fun d =>
        (d.stream n).rtp = none ∧ (d.stream n).waitUntil = none ∧ (d.stream n).pixels = [] ∧ d.clock = max s.dev.clock t ∧
        (∀ k, k ≠ n → d.stream k = s.dev.stream k)) ∧
    (∀ u cid x, u < 4096 → (s.dev.univ u).sources.find? (fun y => y.cid = cid) = some x → s.runs (.sacnSourceLost u cid) fun d =>
      (d.univ u).sources = (s.dev.univ u).sources.filter (fun y => y.cid ≠ cid) ∧
      d.clock = max s.dev.clock (x.last + 1000000 * s.dev.rn R.NET_SACN_TIMEOUT) ∧
      (∃ e ∈ d.evt.raised, e.ev = Ev.SACN_SOURCE_LOST ∧ e.payload = u) ∧ (∀ k, k ≠ u → d.univ k = s.dev.univ k)) ∧
    (∀ u t, u < 4096 → (s.dev.univ u).syncFrom = some t → s.runs (.sacnSyncLost u) fun d =>
      d.univ u = { s.dev.univ u with sources := (s.dev.univ u).sources.map (·.current), syncFrom := none, syncLost := true } ∧
      (∀ x ∈ (d.univ u).sources, x.pend = none) ∧ d.clock = max s.dev.clock (t + 1000000 * s.dev.rn R.NET_SACN_TIMEOUT) ∧
      (∃ e ∈ d.evt.raised, e.ev = Ev.SACN_SYNC_LOST ∧ e.payload = u) ∧ (∀ k, k ≠ u → d.univ k = s.dev.univ k)) ∧
    (∀ u, u < 4096 → (s.dev.univ u).syncFrom = none → s.runs (.sacnSyncLost u) fun d => d = s.dev)

/-! ### Queues and the scheduler (R93 to R120) -/

/-- A one-word item pushed to an enabled queue with room is pending behind the queue's other items, with SRC set; the first word of a longer one begins
its assembly; a refused header changes no item, is answered with its code, and is counted and told for an agent, where a hardware
agent waits with an item for which there is no room (R96, R97). A POP takes the pending
item of lowest PRIO, then of earliest arrival, and a DATA read its next word; without an item both read 0 (R98). -/
def Obligations.QueueItemsArriveAndAreRead : Prop :=
  ∀ (s : State) (a q : Nat) (v : Word), a < 14 → q < 32 →
    ((s.dev.queue q).discard.getD 0 a = 0 → (s.dev.queue q).asm.find a = none → holdFor s.dev a = none →
      (headerCode s.dev a q v = .ok → wfld v 6 0 = 1 → s.dev.rb (R.QUE_CTRL q) 1 = false → (a < 9 ∨ (s.dev.queue q).waiting = []) → s.runs (.quePush a q v) fun d =>
        (d.queue q).items = (s.dev.queue q).items ++ [⟨[setFld v 19 16 a], s.dev.que.arrivals + 1, .pending⟩] ∧ d.resp = { code := .ok } ∧
        (∀ p, p ≠ q → d.queue p = s.dev.queue p) ∧
        d = { s.dev with regs := d.regs, que := d.que, evt := d.evt, sent := d.sent, resp := d.resp }) ∧
      (headerCode s.dev a q v = .ok → 1 < wfld v 6 0 → (a < 9 ∨ (s.dev.queue q).waiting = []) → s.runs (.quePush a q v) fun d =>
        (d.queue q).asm.find a = some ⟨[v], wfld v 6 0, none, false⟩ ∧ (d.queue q).items = (s.dev.queue q).items ∧ d.resp = { code := .ok } ∧
        (∀ p, p ≠ q → d.queue p = s.dev.queue p)) ∧
      (headerCode s.dev a q v ≠ .ok → a < 9 → s.runs (.quePush a q v) fun d =>
        (d.queue q).items = (s.dev.queue q).items ∧ d.resp = { code := headerCode s.dev a q v } ∧
        d.reg (R.QUE_REFUSED q) = satInc (s.dev.reg (R.QUE_REFUSED q)) 1 ∧ s.dev.newEvents d [(Ev.QUE_REFUSED, q)] ∧
        (∀ p, p ≠ q → d.queue p = s.dev.queue p)) ∧
      (headerCode s.dev a q v = .capacity ∨ headerCode s.dev a q v = .busy → 9 ≤ a → wfld v 6 0 = 1 → (s.dev.queue q).waiting = [] →
        s.runs (.quePush a q v) fun d => (d.queue q).waiting = [(a, [v])] ∧ (d.queue q).items = (s.dev.queue q).items ∧ d.resp = { code := .ok } ∧
          (∀ p, p ≠ q → d.queue p = s.dev.queue p) ∧ d = { s.dev with que := d.que, resp := d.resp })) ∧
    (∀ i, bestItem (s.dev.queue q).pendings = some i → s.runs (.quePop a q) fun d =>
      d.resp = { code := .ok, data := [i.words.getD 0 0] } ∧ (d.queue q).current.find a = some (i.arrival, 1) ∧
      (d.queue q).items = (s.dev.queue q).items.map (fun j => if j.arrival = i.arrival then { j with state := .since } else j) ∧
      (∀ p, p ≠ q → d.queue p = s.dev.queue p)) ∧
    (bestItem (s.dev.queue q).pendings = none → s.runs (.quePop a q) fun d => d = { s.dev with resp := { code := .ok, data := [0] } }) ∧
    (∀ n k i, (s.dev.queue q).current.find a = some (n, k) → (s.dev.queue q).items.find? (fun i => i.arrival = n) = some i →
      s.runs (.queDataRead a q) fun d => d.resp = { code := .ok, data := [i.words.getD k 0] } ∧ (d.queue q).current.find a = some (n, k + 1) ∧
        (d.queue q).items = (s.dev.queue q).items ∧ (∀ p, p ≠ q → d.queue p = s.dev.queue p) ∧ d = { s.dev with que := d.que, resp := d.resp }) ∧
    ((s.dev.queue q).current.find a = none → s.runs (.queDataRead a q) fun d => d = { s.dev with resp := { code := .ok, data := [0] } })

/-- MARK makes the items read since the last mark read before it; REWIND makes them pending again; RELEASE frees the items of its scope, and scope 3 is
reserved (R99, R117); FLUSH empties the queue and drops its mark (R103); the stale timer marks its queue stale at its time, once (R102). -/
def Obligations.QueueCommandsActOnTheirItems : Prop :=
  ∀ (s : State) (a q : Nat), a < 14 → q < 32 →
    (s.runs (.queMark a q) fun d => (d.queue q).mark = true ∧
      (d.queue q).items = (s.dev.queue q).items.map (fun i => if i.state = .since then { i with state := .before } else i) ∧
      d.resp = { code := .ok } ∧ (∀ p, p ≠ q → d.queue p = s.dev.queue p) ∧ d = { s.dev with que := d.que, resp := d.resp }) ∧
    (s.runs (.queRewind a q) fun d => (d.queue q).mark = (s.dev.queue q).mark ∧
      (d.queue q).items = (s.dev.queue q).items.map (fun i => if i.state = .since then { i with state := .pending } else i) ∧
      d.resp = { code := .ok } ∧ (∀ p, p ≠ q → d.queue p = s.dev.queue p)) ∧
    (∀ k, k < 3 → (s.dev.queue q).waiting = [] → s.runs (.queRelease a q k) fun d =>
      (d.queue q).items = (s.dev.queue q).items.filter (fun i => !releases (s.dev.queue q) a k i) ∧ d.resp = { code := .ok } ∧
      (∀ p, p ≠ q → d.queue p = s.dev.queue p)) ∧
    (∀ k, 3 ≤ k → s.runs (.queRelease a q k) fun d => d = { s.dev with resp := { code := .reserved } }) ∧
    (∀ w v, writeCode s.dev w (R.QUE_CTRL q) v (queHandler w (R.QUE_CTRL q) v) = .ok → wbit v 2 = true → wbit v 1 = false →
      (s.dev.queue q).waiting = [] → s.runs (.queFlush w q v) fun d =>
        (d.queue q).items = [] ∧ (d.queue q).mark = false ∧ (d.queue q).current = [] ∧
        (∀ p, p ≠ q → d.queue p = s.dev.queue p)) ∧
    (∀ t, (s.dev.queue q).staleFrom = some t → s.dev.rn (R.QUE_STALE_TIME q) ≠ 0 → (s.dev.queue q).staleDone = false →
      (s.dev.queue q).pendings ≠ [] → s.runs (.queStale q) fun d =>
        (d.queue q).staleDone = true ∧ d.rb (R.QUE_STATUS q) 2 = true ∧ s.dev.newEvents d [(Ev.QUE_STALE, q)] ∧
        d.clock = max s.dev.clock (t + 1000 * s.dev.rn (R.QUE_STALE_TIME q)) ∧ (d.queue q).items = (s.dev.queue q).items ∧
        (∀ p, p ≠ q → d.queue p = s.dev.queue p))

/-- A task that passes R520's checks enters the lowest free slot with the slot's next generation in its handle, DELAYED or READY, and its handle is the
result; one that fails is counted with its code as the result (R104, R105, R113, R115); a doorbell's task is entered so too (R114). -/
def Obligations.TasksEnterTheirSlots : Prop :=
  ∀ (s : State),
    (∀ a w3, a < 9 →
      let w := agentWho a
      let p := if a = 8 then 40 else 32 + a
      (taskCode s.dev p (s.dev.bankReg w R.SCH_SUB_W0) (s.dev.bankReg w R.SCH_SUB_W2) w3 = .ok → s.runs (.taskSubmit a w3) fun d =>
        (∃ t, d.que.tasks.find (freeSlot s.dev.que.tasks) = some t ∧
          t.handle = freeSlot s.dev.que.tasks + 4096 * (s.dev.que.gens.getD 0 (freeSlot s.dev.que.tasks) % 16) ∧ t.w3 = w3 ∧
          t.w0 = s.dev.bankReg w R.SCH_SUB_W0 ∧
          t.state = (if wbit w3 11 then .delayed (wfld w3 31 16) else .ready s.dev.que.order false) ∧
          d.bankReg w R.SCH_SUB_RESULT = BitVec.ofNat 32 t.handle) ∧ d.resp = { code := .ok } ∧
        (∀ k, k ≠ freeSlot s.dev.que.tasks → d.que.tasks.find k = s.dev.que.tasks.find k)) ∧
      (taskCode s.dev p (s.dev.bankReg w R.SCH_SUB_W0) (s.dev.bankReg w R.SCH_SUB_W2) w3 ≠ .ok → s.runs (.taskSubmit a w3) fun d =>
        d.reg R.SCH_REFUSED = satInc (s.dev.reg R.SCH_REFUSED) 1 ∧ s.dev.keepsRegs d [R.SCH_REFUSED] ∧ d.que = s.dev.que ∧
        d.resp = { code := taskCode s.dev p (s.dev.bankReg w R.SCH_SUB_W0) (s.dev.bankReg w R.SCH_SUB_W2) w3 })) ∧
    (∀ q, q < 32 → (s.dev.queue q).bells = 1 → (s.dev.queue q).waiting = [] → portStalled s.dev q = false →
      taskCode s.dev q (s.dev.reg (R.QUE_DB_ENTRY q)) (s.dev.reg (R.QUE_DB_CFG q)) (s.dev.reg (R.QUE_DB_AFF q)) = .ok →
      s.runs (.doorbellSubmit q) fun d => (d.queue q).bells = 0 ∧
        (∃ t, d.que.tasks.find (freeSlot s.dev.que.tasks) = some t ∧ t.w0 = s.dev.reg (R.QUE_DB_ENTRY q) ∧ t.w1 = BitVec.ofNat 32 q) ∧
        (∀ p, p ≠ q → d.queue p = s.dev.queue p) ∧ (∀ k, k ≠ freeSlot s.dev.que.tasks → d.que.tasks.find k = s.dev.que.tasks.find k))

/-- The dispatcher runs the first selected task on the core its placement gives, and nothing while SCH_CTRL.EN = 0 (R106 to R108, R119); a task that
waited for its recorded core is counted and, all cores idle, runs on the lowest it may (R107); a READY task becomes eligible (R105); the only task of a delay
list with a local counter counts its ticks down and then is READY (R109); DONE with a handle that does not run there is an error (R108, R111), and
with the running one frees its slot or is held for its flow; a cancel of a slot that holds no such handle answers 3, and of a running task 1 (R110). -/
def Obligations.TasksRunAndLeave : Prop :=
  ∀ s : State,
    (s.dev.rb R.SCH_CTRL 0 = false → s.runs .taskDispatch fun d => d = s.dev) ∧
    (∀ t l c hit, s.dev.rb R.SCH_CTRL 0 = true → selection s.dev = t :: l → placeTask s.dev t = .run c hit → s.runs .taskDispatch fun d =>
      d.que.tasks.find (t.handle % 4096) = some { t with state := .running c, wait := none } ∧ d.reg (R.SCH_Cc_HANDLE c) = BitVec.ofNat 32 t.handle ∧
      d.reg (R.SCH_Cc_ENTRY c) = t.w0 ∧ d.reg (R.SCH_Cc_ARG c) = t.w1 ∧ d.sent = s.dev.sent ++ [⟨.core c, [t.handle, t.w0.toNat, t.w1.toNat]⟩]) ∧
    (∀ slot t u c, slot < 4096 → s.dev.que.tasks.find slot = some t → t.handle % 4096 = slot → t.wait = some u → s.dev.rb R.SCH_CTRL 0 = true →
      (eligibleCores s.dev t).head? = some c → (∀ k, runningOn s.dev k = none) →
      (∀ k, t.state ≠ .running k) → s.runs (.affinityWaitExpiry slot) fun d =>
        d.que.tasks.find slot = some { t with state := .running c, wait := none, missed := true } ∧
        d.reg R.SCH_AFF_MISS = satInc (s.dev.reg R.SCH_AFF_MISS) 1 ∧ d.clock = max s.dev.clock u) ∧
    (∀ slot t k, slot < 4096 → s.dev.que.tasks.find slot = some t → t.handle % 4096 = slot → t.state = .ready k false →
      s.runs (.taskEligible slot) fun d => d.que.tasks.find slot = some { t with state := .ready k true } ∧
        (∀ j, j ≠ slot → d.que.tasks.find j = s.dev.que.tasks.find j) ∧ d = { s.dev with que := d.que }) ∧
    (∀ n t k, n < 8 → s.dev.rb (R.SCH_DLY_CFGd n) 31 = false →
      ((s.dev.que.tasks.map (·.2)).filter (fun t => wbit t.w3 11 && wfld t.w3 10 8 = n)) = [t] → t.state = .delayed (k + 1) →
      s.runs (.delayListTick n) fun d => d.que.tasks.find (t.handle % 4096) =
          some { t with state := if k = 0 then .ready s.dev.que.order false else .delayed k } ∧
        (∀ j, j ≠ t.handle % 4096 → d.que.tasks.find j = s.dev.que.tasks.find j) ∧
        nextTick d n = dueTick s.dev n + tickNs s.dev n ∧ d = { s.dev.elapseTo (dueTick s.dev n) with que := d.que }) ∧
    (∀ n, n < 8 → s.dev.rb (R.SCH_DLY_CFGd n) 31 = true → s.runs (.delayListTick n) fun d => d = s.dev) ∧
    (∀ a c v, a < 9 → c < 8 → (∀ t, runningOn s.dev c = some t → t.handle ≠ wfld v 15 0) → s.runs (.taskDone a c v) fun d =>
      s.dev.newEvents d [(Ev.SCH_DONE_ERR, c)] ∧ d.resp = { code := .state } ∧ d = { s.dev with evt := d.evt, resp := d.resp }) ∧
    (∀ a c v t, a < 9 → c < 8 → runningOn s.dev c = some t → t.handle = wfld v 15 0 → wfld v 31 16 = 0 → s.dev.que.queues = [] →
      (isOldest s.dev t = false → s.runs (.taskDone a c v) fun d =>
        d.que.tasks.find (t.handle % 4096) = some { t with state := .doneHeld } ∧ d.resp = { code := .ok }) ∧
      (t.flow = none → t.held = [] → s.runs (.taskDone a c v) fun d =>
        d.que.tasks.find (t.handle % 4096) = none ∧ d.resp = { code := .ok })) ∧
    (∀ a v, a < 9 → wfld v 31 16 = 0 → (∀ t, s.dev.que.tasks.find (wfld v 15 0 % 4096) = some t → t.handle ≠ wfld v 15 0) → s.runs (.taskCancel a v) fun d =>
      d.reg R.SCH_CANCEL_RESULT = 3 ∧ s.dev.keepsRegs d [R.SCH_CANCEL_RESULT] ∧ d = { s.dev with regs := d.regs, resp := { code := .ok } }) ∧
    (∀ a v t k, a < 9 → s.dev.que.tasks.find (wfld v 15 0 % 4096) = some t → t.handle = wfld v 15 0 → wfld v 31 16 = 0 → t.state = .running k →
      s.runs (.taskCancel a v) fun d => d.reg R.SCH_CANCEL_RESULT = 1 ∧ d = { s.dev with regs := d.regs, resp := { code := .ok } }) ∧
    (∀ a v t n, a < 9 → s.dev.que.tasks.find (wfld v 15 0 % 4096) = some t → t.handle = wfld v 15 0 → wfld v 31 16 = 0 → t.state = .delayed n → t.flow = none →
      s.dev.que.queues = [] → s.runs (.taskCancel a v) fun d => d.reg R.SCH_CANCEL_RESULT = 0 ∧
        d.que.tasks.find (wfld v 15 0 % 4096) = none ∧ d.reg R.SCH_CANCELLED = satInc (s.dev.reg R.SCH_CANCELLED) 1 ∧ d.resp = { code := .ok }) ∧
    (∀ a v, a < 9 → wfld v 31 16 ≠ 0 → s.runs (.taskCancel a v) fun d => d = { s.dev with resp := { code := .reserved } })

/-! ### Composition and photometry (R136 to R208) -/

/-- CMP_DONE completes the oldest composition in progress, unless its capture record is awaited (R395): the buffers exchange, the frame is composed into
the new front buffer with its canvas, CMP_DONE_FRAME and CMP_LAST_TIME show it and CMP_DONE tells of it (R145); with none in progress nothing changes.
CMP_LATE counts and tells of the composition that runs on (R148). -/
def Obligations.CompositionCompletes : Prop :=
  ∀ (s : State) (micros : Nat),
    (∀ c, s.dev.pipe.find? (fun c => !c.composed) = some c → c.content < 2 ^ 48 →
      (s.dev.rdg.awaiting ≠ some c.content → s.runs (.cmpDone micros) fun d =>
        d.cmp.front = 1 - s.dev.cmp.front ∧ (d.cmp.frontW, d.cmp.frontH) = canvasSize c.rd ∧ d.cmp.lineBad = [] ∧
        d.get64 R.CMP_DONE_FRAME_LO R.CMP_DONE_FRAME_HI = c.content ∧ d.rn R.CMP_LAST_TIME = micros % 2 ^ 20 ∧
        (∃ e ∈ d.pipe, e.content = c.content ∧ e.composed = true ∧ e.buf = 1 - s.dev.cmp.front) ∧
        d.pipe.map (·.content) = s.dev.pipe.map (·.content) ∧ (∃ e ∈ d.evt.raised, e.ev = Ev.CMP_DONE ∧ e.payload = c.content) ∧
        d.shw = s.dev.shw ∧ d.clock = s.dev.clock) ∧
      (s.dev.rdg.awaiting = some c.content → s.runs (.cmpDone micros) fun d => d = s.dev) ∧
      s.runs .cmpLate fun d => d.reg R.CMP_LATE = satInc (s.dev.reg R.CMP_LATE) 1 ∧ s.dev.keepsRegs d [R.CMP_LATE] ∧
        s.dev.newEvents d [(Ev.CMP_LATE, c.content)] ∧ d = { s.dev with regs := d.regs, evt := d.evt }) ∧
    (s.dev.pipe.find? (fun c => !c.composed) = none → s.runs (.cmpDone micros) (fun d => d = s.dev) ∧ s.runs .cmpLate fun d => d = s.dev)

/-- An accepted write of CHK_EXPECT_FRAME clears the unit's COMPARED (R161). CMP_COEF_CTRL.LOAD reads the sets from memory for the next
commit point and leaves those in effect, or, where they fail, shows the code and changes nothing of the composition (R136). The safety pair's commit is submitted with its staged writes when it passes its checks, and is otherwise
answered with its code and told (R142). -/
def Obligations.CompositionWritesTakeEffect : Prop :=
  ∀ (s : State) (w : Who) (v : Word),
    (∀ u, u < 64 → ∀ off ∈ [R.CHK_EXPECT_FRAME_LO u, R.CHK_EXPECT_FRAME_HI u], writeCode s.dev w off v (cmpHandler w off v) = .ok →
      s.runs (.chkExpectFrameWrite w off v) fun d => s.dev.tookWrite d off v ∧ d.rb (R.CHK_STATUS u) 1 = false ∧
        s.dev.keepsRegs d [off, R.CHK_STATUS u] ∧ d = { s.dev with regs := d.regs, resp := { code := .ok }, sent := d.sent }) ∧
    (accessCode s.dev w R.CMP_COEF_CTRL v = .ok → offsetValueCode R.CMP_COEF_CTRL v = .ok → wbit v 0 = true → s.runs (.coefLoad w v) fun d =>
      d.shw = s.dev.shw ∧ d.pipe = s.dev.pipe ∧
      (coefCode s.dev = .ok → d.cmp = { s.dev.cmp with coefNext := some (coefRead s.dev) } ∧ d.reg R.CMP_COEF_CTRL = 1) ∧
      (coefCode s.dev ≠ .ok → d.cmp = s.dev.cmp ∧ d.resp.code = coefCode s.dev ∧ d.rf R.CMP_COEF_CTRL 15 8 = (coefCode s.dev).num)) ∧
    (∀ es, (safeCode s.dev (s.dev.cmp.safeStage ++ es) = .ok → s.runs (.safeLayerCommit es) fun d =>
        d = { s.dev with cmp := { s.dev.cmp with safeStage := [], safePending := s.dev.cmp.safePending ++ [s.dev.cmp.safeStage ++ es] },
                         resp := { code := .ok } }) ∧
      (safeCode s.dev (s.dev.cmp.safeStage ++ es) ≠ .ok → s.runs (.safeLayerCommit es) fun d =>
        d.cmp = { s.dev.cmp with safeStage := [] } ∧ d.resp = { code := safeCode s.dev (s.dev.cmp.safeStage ++ es) } ∧
        s.dev.newEvents d [(Ev.SAFE_LAYER_CHANGE, safePayload (safeCode s.dev (s.dev.cmp.safeStage ++ es)) (frameAdd (nextPoint s.dev) 1))] ∧
        d = { s.dev with cmp := d.cmp, resp := d.resp, sent := d.sent, evt := d.evt }))

/-- PHO_DONE completes the pass of the oldest composed frame that has one (PHO_CTRL.EN = 1, R206): the frame is passed, the other
frames stand in the pipeline as they did, and PHO_DONE tells of it (R202); PHO_LATE counts and tells of a pass that runs on (R204). -/
def Obligations.PassesComplete : Prop :=
  ∀ (s : State) (micros : Nat),
    (∀ c, s.dev.pipe.find? (fun c => c.composed && !c.passed && wbit (c.rd R.PHO_CTRL) 0) = some c → c.content < 2 ^ 48 → s.runs (.phoDone micros) fun d =>
      (∃ e ∈ d.pipe, e.content = c.content ∧ e.passed = true ∧ e.canvas = c.canvas) ∧ d.pipe.map (·.content) = s.dev.pipe.map (·.content) ∧
      (∀ e ∈ s.dev.pipe, e.content ≠ c.content → e ∈ d.pipe) ∧
      (∃ e ∈ d.evt.raised, e.ev = Ev.PHO_DONE ∧ e.payload = c.content) ∧ d.cmp = s.dev.cmp ∧ d.clock = s.dev.clock ∧
      d.shw = { s.dev.shw with commits := d.shw.commits }) ∧
    (s.dev.pipe.find? (fun c => c.composed && !c.passed && wbit (c.rd R.PHO_CTRL) 0) = none → s.runs (.phoDone micros) fun d => d = s.dev) ∧
    (∀ c, s.dev.pipe.find? (fun c => !c.passed && wbit (c.rd R.PHO_CTRL) 0) = some c → c.content < 2 ^ 48 → s.runs .phoLate fun d =>
      d.reg R.PHO_LATE = satInc (s.dev.reg R.PHO_LATE) 1 ∧ s.dev.keepsRegs d [R.PHO_LATE] ∧ s.dev.newEvents d [(Ev.PHO_LATE, c.content)] ∧
      d = { s.dev with regs := d.regs, evt := d.evt }) ∧
    (s.dev.pipe.find? (fun c => !c.passed && wbit (c.rd R.PHO_CTRL) 0) = none → s.runs .phoLate fun d => d = s.dev)

/-- An accepted PHO_MAP_CTRL.SWAP begins the validation of the other bank (R171), which then waits for its commit point or is refused with MAP_REJECTED
and the swap abandoned (R173). A re-plan, asked for or due, submits one commit of the runtime with the banks it has written, once at a time and never
in the standby role (R196). -/
def Obligations.MapAndPlanChangesAreStaged : Prop :=
  ∀ (s : State) (w : Who) (v : Word),
    (writeCode s.dev w R.PHO_MAP_CTRL v (phoHandler w R.PHO_MAP_CTRL v) = .ok → wbit v 1 = true → s.runs (.mapSwap w v) fun d =>
      s.dev.pho.mapSwap = .idle ∧ d.pho = { s.dev.pho with mapSwap := .validating } ∧ d.rb R.PHO_MAP_CTRL 1 = true ∧
      d.rf R.PHO_MAP_CTRL 4 4 = s.dev.rf R.PHO_MAP_CTRL 4 4 ∧ s.dev.keepsRegs d [R.PHO_MAP_CTRL]) ∧
    (s.dev.pho.mapSwap = .validating → s.runs .mapValidationDone fun d =>
      match (mapBankCode s.dev s.dev.reg (1 - mapBank s.dev.reg)).orElse (fun _ => mapChainCode s.dev (1 - mapBank s.dev.reg)) with
      | none => d.pho = { s.dev.pho with mapSwap := .pending } ∧ d.rb R.PHO_MAP_CTRL 1 = false ∧ d.rb R.PHO_MAP_CTRL 5 = true
      | some (c, i) => d.pho = { s.dev.pho with mapSwap := .idle } ∧ d.rb R.PHO_MAP_CTRL 1 = false ∧
          d.rf R.PHO_TBL_STATUS 31 26 = c.num ∧ ∃ e ∈ d.evt.raised, e.ev = Ev.MAP_REJECTED ∧ e.payload = payEntry i (contentNow s.dev)) ∧
    (s.dev.pho.mapSwap ≠ .validating → s.runs .mapValidationDone fun d => d = s.dev) ∧
    (writeCode s.dev w R.PHO_REPLAN_CFG v (phoHandler w R.PHO_REPLAN_CFG v) = .ok → wbit v 24 = true → s.dev.pho.planning = false →
      rdgState s.dev = 0 → s.runs (.replanNow w v) fun d =>
        d.pho.planning = true ∧ d.pho.planFrom = s.dev.clock ∧ d.free = s.dev.free + 1 ∧
        ∃ es, d.shw = { s.dev.shw with commits := s.dev.shw.commits ++ [{ origin := .runtime, target := none, entries := es }] }) ∧
    (s.dev.pho.planning = true → inStandby s.dev = false → s.runs .replanDue fun d => d.pho = { s.dev.pho with planAgain := true }) ∧
    (s.dev.pho.planning = false → inStandby s.dev = false → s.runs .replanDue fun d =>
      d.pho.planning = true ∧ d.clock = max s.dev.clock (s.dev.pho.planFrom + 60000000000 * s.dev.rf R.PHO_REPLAN_CFG 10 0) ∧
      d.pho.planFrom = d.clock ∧ (∃ e ∈ d.evt.raised, e.ev = Ev.REPLAN_DUE) ∧
      ∃ es, d.shw.commits = s.dev.shw.commits ++ [{ origin := .runtime, target := none, entries := es }]) ∧
    (inStandby s.dev = true → s.dev.pho.planning = false → s.runs .replanDue fun d => d.shw.commits = s.dev.shw.commits ∧ d.mem = s.dev.mem)

/-- A reading of an I2C sensor point is kept and ends its run of failures; the eighth failure in a row raises SENSOR_FAULT (R199). An ageing save starts
at the hour unless one runs (R446); at its end its copy is the newest and the one before the older, or, failed, the older copy is lost. -/
def Obligations.SensorsAndAgeingAreKept : Prop :=
  ∀ s : State,
    (∀ p r, p < 1024 → leAt (sensorEntry s.dev p) 0 1 = 2 → s.runs (.sensorPoll p (some r)) fun d =>
      d.pho = { s.dev.pho with readings := s.dev.pho.readings.put p r, fails := s.dev.pho.fails.del p } ∧ d.clock = s.dev.clock ∧
      (s.dev.rb R.PHO_CTRL 3 = false → d = { s.dev with pho := d.pho, sent := d.sent })) ∧
    (∀ p, p < 1024 → leAt (sensorEntry s.dev p) 0 1 = 2 → s.runs (.sensorPoll p none) fun d =>
      d.pho = { s.dev.pho with fails := s.dev.pho.fails.put p (s.dev.pho.fails.getD 0 p + 1) } ∧
      s.dev.newEvents d (if s.dev.pho.fails.getD 0 p = 7 then [(Ev.SENSOR_FAULT, payF p (contentNow s.dev))] else []) ∧
      d = { s.dev with pho := d.pho, sent := d.sent, evt := d.evt }) ∧
    (∀ p r, p < 1024 → leAt (sensorEntry s.dev p) 0 1 ≠ 2 → s.runs (.sensorPoll p r) fun d => d = s.dev) ∧
    (s.dev.pho.ageSaving = none → s.runs .ageSaveTimer fun d =>
      d.pho = { s.dev.pho with ageSaving := some (ageTable (s.dev.elapseTo (s.dev.pho.ageFrom + 3600000000000))) } ∧
      d.clock = max s.dev.clock (s.dev.pho.ageFrom + 3600000000000) ∧ d.sent = s.dev.sent ++ [⟨.flash, [6]⟩]) ∧
    (∀ t, s.dev.pho.ageSaving = some t →
      (s.runs (.ageSaveDone true) fun d =>
        d.pho = { s.dev.pho with ageSaving := none, ageOlder := s.dev.pho.ageNewest, ageNewest := some t, ageFrom := s.dev.clock } ∧
        s.dev.newEvents d [(Ev.AGE_SAVE_DONE, 0)] ∧ d = { s.dev with regs := d.regs, pho := d.pho, evt := d.evt }) ∧
      s.runs (.ageSaveDone false) fun d =>
        d.pho = { s.dev.pho with ageSaving := none, ageOlder := none } ∧ s.dev.newEvents d [(Ev.AGE_SAVE_FAIL, 0)] ∧
        d = { s.dev with regs := d.regs, pho := d.pho, evt := d.evt })

/-! ### Sessions, the Keeper, commit groups and events (R353 to R382) -/

/-- A message of a session is dropped with nothing changed while its framing is bad or its slot has no session. One from a client with a wrong tag counts
in KPR_AUTH_FAIL and one with a stale SEQ in KPR_REPLAY, and AUTH_FAIL tells of either at most once a second (R356). One that is accepted starts the idle
time anew, notes its SEQ, and renews a Keeper's lease (R356, R360, R364). -/
def Obligations.MessagesAreAuthenticated : Prop :=
  ∀ (s : State) (m : Msg),
    (∀ p ∈ [(Instr.closeSession m, 0x02), (.keepalive m, 0x03), (.msgRead m, 0x10), (.msgWrite m, 0x11), (.memRead m, 0x12), (.memWrite m, 0x13),
        (.keeperRequest m, 0x20), (.keeperWithdraw m, 0x21), (.keeperRelease m, 0x22), (.groupLoad m, 0x30), (.commitGroup m, 0x31), (.subscribe m, 0x40)],
      (shapely m = false ∨ s.dev.kpr.sessions.find m.session.toNat = none → s.runs p.1 fun d => d = s.dev) ∧
      ∀ e, shapely m = true → s.dev.kpr.sessions.find m.session.toNat = some e → m.port = 4 ∨ m.port = 5 → m.session.toNat ≠ 15 →
        ∀ reg, (reg = R.KPR_AUTH_FAIL ∧ tagOk p.2 m e.keyBytes = false ∨
            reg = R.KPR_REPLAY ∧ tagOk p.2 m e.keyBytes = true ∧ seqOk e m.seq.toNat = false) → s.runs p.1 fun d =>
          d.reg reg = satInc (s.dev.reg reg) 1 ∧ s.dev.keepsRegs d [reg] ∧
          ((∃ t, s.dev.kpr.authAt = some t ∧ s.dev.clock < t + 1000000000) → d = { s.dev with regs := d.regs }) ∧
          ((∀ t, s.dev.kpr.authAt = some t → t + 1000000000 ≤ s.dev.clock) → s.dev.newEvents d [(Ev.AUTH_FAIL, m.session.toNat)] ∧
            d = { s.dev with regs := d.regs, evt := d.evt, kpr := { s.dev.kpr with authAt := some s.dev.clock } })) ∧
    (∀ type t slot, gate type m s.dev = (t, some slot) → slot = m.session.toNat ∧ ∃ e n, s.dev.kpr.sessions.find slot = some e ∧
      n = (if m.port = 7 then 0 else m.seq.toNat) ∧ t = { s.dev with kpr := t.kpr } ∧
      t.kpr.sessions.find slot = some { e with highest := max e.highest n, lastMsg := s.dev.clock,
                                               window := (n :: e.window).filter (fun k => max e.highest n ≤ k + 64) } ∧
      (∀ k, k ≠ slot → t.kpr.sessions.find k = s.dev.kpr.sessions.find k) ∧ t.kpr.keeper = s.dev.kpr.keeper ∧
      t.kpr.lease = if s.dev.kpr.keeper = some slot then some (s.dev.clock + leaseNs) else s.dev.kpr.lease)

/-- An OPEN with a known key and a good tag takes the lowest free slot for its source and tells SESSION_OPEN; a wrong key or tag counts in KPR_AUTH_FAIL
(R356, R360). An accepted CLOSE, and the idle timeout of any slot but 15, end the session with SESSION_CLOSE, and a Keeper's role falls vacant (R360,
R363). Slot 15 is open while the USB interface is configured (R357). -/
def Obligations.SessionsOpenAndClose : Prop :=
  ∀ (s : State) (m : Msg),
    (shapely m = true → m.session = 0xFF → m.port = 4 ∨ m.port = 5 →
      (∀ k j, s.dev.kpr.keys.find m.key.toNat = some k → tagOk 0x01 m k.key = true → bodyCode m 16 = .ok →
        (∀ p ∈ s.dev.kpr.sessions, p.1 ≠ 15 → ¬(p.2.ip = m.ip ∧ p.2.udp = m.udp)) →
        (upto 15).find? (fun j => (s.dev.kpr.sessions.find j).isNone) = some j → s.runs (.openSession m) fun d =>
          (∃ e, d.kpr.sessions.find j = some e ∧ e.ip = m.ip ∧ e.udp = m.udp ∧ e.highest = m.seq.toNat ∧ e.request = none ∧ e.lastMsg = s.dev.clock ∧
            e.keeperRight = bit k.rights 0 ∧ e.prioMin = k.prioMin) ∧
          (∀ i, i ≠ j → d.kpr.sessions.find i = s.dev.kpr.sessions.find i) ∧ s.dev.newEvents d [(Ev.SESSION_OPEN, j)] ∧ d.resp = { code := .ok } ∧
          d.regs = s.dev.regs ∧ d.kpr.keeper = s.dev.kpr.keeper) ∧
      ((∀ k, s.dev.kpr.keys.find m.key.toNat = some k → tagOk 0x01 m k.key = false) → s.runs (.openSession m) fun d =>
        d.reg R.KPR_AUTH_FAIL = satInc (s.dev.reg R.KPR_AUTH_FAIL) 1 ∧ s.dev.keepsRegs d [R.KPR_AUTH_FAIL] ∧ d.kpr.sessions = s.dev.kpr.sessions)) ∧
    (∀ t slot, gate 0x02 m s.dev = (t, some slot) → bodyCode m 0 = .ok → slot ≠ 15 → s.runs (.closeSession m) fun d =>
      d.kpr.sessions = t.kpr.sessions.del slot ∧ s.dev.newEvents d [(Ev.SESSION_CLOSE, slot)] ∧ d.resp = { code := .ok } ∧
      d.kpr.keeper = (if s.dev.kpr.keeper = some slot then none else s.dev.kpr.keeper) ∧ d.regs = s.dev.regs) ∧
    (∀ slot e, slot < 15 → s.dev.kpr.sessions.find slot = some e → s.runs (.sessionIdleTimeout slot) fun d =>
      d.kpr.sessions = s.dev.kpr.sessions.del slot ∧ s.dev.newEvents d [(Ev.SESSION_CLOSE, slot)] ∧
      d.clock = max s.dev.clock (e.lastMsg + 1000000000 * s.dev.rf R.KPR_CFG 23 16) ∧
      d.kpr.keeper = if s.dev.kpr.keeper = some slot then none else s.dev.kpr.keeper) ∧
    s.runs (.sessionIdleTimeout 15) (fun d => d = s.dev) ∧
    (s.dev.kpr.sessions.find 15 = none → s.runs (.usbConfigured true) fun d =>
      d.kpr.sessions = s.dev.kpr.sessions.put 15 (serviceSession s.dev.clock) ∧ s.dev.newEvents d [(Ev.SESSION_OPEN, 15)]) ∧
    (s.dev.kpr.sessions.find 15 ≠ none → s.runs (.usbConfigured true) (fun d => d = s.dev) ∧ s.runs (.usbConfigured false) fun d =>
      d.kpr.sessions = s.dev.kpr.sessions.del 15 ∧ s.dev.newEvents d [(Ev.SESSION_CLOSE, 15)])

/-- A KEEPALIVE and a SUBSCRIBE are served; a READ reads 1 to 256 registers upward from its offset and stops at the first that is refused; a WRITE of one
value takes what any write may and is otherwise refused with that code; a memory access is checked as R370 and R361 say and reads or writes the memory,
with E_CHECK where it cannot be read (R355, R361, R364, R368, R370, R378). -/
def Obligations.RequestsOfASessionAreServed : Prop :=
  ∀ (s : State) (m : Msg) (t : Device) (slot : Nat),
    (gate 0x03 m s.dev = (t, some slot) → bodyCode m 0 = .ok → s.runs (.keepalive m) fun d =>
      d = { t with resp := { code := .ok }, sent := d.sent }) ∧
    (gate 0x40 m s.dev = (t, some slot) → bodyCode m 32 = .ok → ∀ e, t.kpr.sessions.find slot = some e → s.runs (.subscribe m) fun d =>
      d.kpr = { t.kpr with sessions := t.kpr.sessions.put slot { e with mask := (upto 256).filter (fun i => bit (bodyNum m (i / 8) 1) (i % 8)) } } ∧
      d = { t with kpr := d.kpr, resp := { code := .ok }, sent := d.sent }) ∧
    (gate 0x10 m s.dev = (t, some slot) → bodyCode m 6 = .ok →
      (1 ≤ bodyNum m 4 2 → bodyNum m 4 2 ≤ 256 → s.runs (.msgRead m) fun d =>
        let r := readRun (.session slot) (bodyNum m 4 2) (bodyNum m 0 4) t
        d = { r.1 with resp := { code := r.2.1 }, sent := d.sent }) ∧
      (bodyNum m 4 2 = 0 ∨ 256 < bodyNum m 4 2 → s.runs (.msgRead m) fun d => d = { t with resp := { code := .range }, sent := d.sent })) ∧
    (gate 0x11 m s.dev = (t, some slot) → m.body.length = 8 →
      let off := bodyNum m 0 4
      let v := BitVec.ofNat 32 (bodyNum m 4 4)
      (valueCode m slot off v t = .ok → s.runs (.msgWrite m) fun d => d.resp = { code := .ok } ∧ d.regs = (writeReg (.session slot) off v t).regs) ∧
      (valueCode m slot off v t ≠ .ok → s.runs (.msgWrite m) fun d => d.resp = { code := valueCode m slot off v t })) ∧
    (gate 0x12 m s.dev = (t, some slot) → bodyCode m 10 = .ok →
      let off := bodyNum m 0 8
      let n := bodyNum m 8 2
      let c := firstCode [memPlaceCode t off n, memRangeCode t off n]
      (c ≠ .ok → s.runs (.memRead m) fun d => d.resp = { code := c } ∧ d.mem = t.mem ∧ d.regs = t.regs) ∧
      (c = .ok → s.runs (.memRead m) fun d => d.mem = (recoverAges t (memRead (.who (.session slot)) off n t).1).mem ∧
        d.resp = { code := if (memRead (.who (.session slot)) off n t).2.poison then .check else .ok })) ∧
    (gate 0x13 m s.dev = (t, some slot) → 8 ≤ m.body.length →
      let off := bodyNum m 0 8
      let data := m.body.drop 8
      let c := firstCode [memPlaceCode t off data.length, standbyCode t slot, keeperCode t slot m,
        if writeRefused t (.who (.session slot)) off data.length then .locked else .ok, memRangeCode t off data.length]
      (c ≠ .ok → s.runs (.memWrite m) fun d => d.resp = { code := c } ∧ d.mem = t.mem ∧ d.regs = t.regs) ∧
      (c = .ok → s.runs (.memWrite m) fun d =>
        let w := memWriteU (.who (.session slot)) off data .none t
        d.resp = { code := if w.2 then .check else .ok } ∧ d.mem = (recoverAges t w.1).mem))

/-- A KEEPER_REQUEST stands when its session has the right and the rank (R362), opens the election window at a vacancy (R363), changes the rank of a
Keeper that asks, and with PREEMPT = 1 takes the role from a lower one, with a new epoch and KEEPER_CHANGE (R366). A withdrawal ends the request. A
release, and the end of the lease with LEASE_EXPIRED, leave the role vacant (R363 to R365). When the window ends the highest-ranked request wins it. -/
def Obligations.TheKeeperIsElected : Prop :=
  ∀ (s : State) (m : Msg) (t : Device) (slot : Nat) (e : Session),
    (gate 0x20 m s.dev = (t, some slot) → bodyCode m 1 = .ok → standbyCode t slot = .ok → t.kpr.sessions.find slot = some e →
      let p := bodyNum m 0 1
      (e.keeperRight = false → s.runs (.keeperRequest m) fun d => d.resp = { code := .locked } ∧ d.kpr = t.kpr) ∧
      (e.keeperRight = true → p < e.prioMin → s.runs (.keeperRequest m) fun d => d.resp = { code := .range } ∧ d.kpr = t.kpr) ∧
      (e.keeperRight = true → e.prioMin ≤ p →
        (t.kpr.keeper = none → s.runs (.keeperRequest m) fun d => d.resp = { code := .ok } ∧ d.kpr =
          { t.kpr with sessions := t.kpr.sessions.put slot { e with request := some (p, t.kpr.receipts) }, receipts := t.kpr.receipts + 1,
                       window := some (t.kpr.window.getD (t.clock + 10000000 * t.rf R.KPR_CFG 15 8)) }) ∧
        (t.rb R.KPR_CFG 0 = false → t.kpr.keeper = some slot → s.runs (.keeperRequest m) fun d =>
          d.resp = { code := .ok } ∧ d.kpr = { t.kpr with prio := p }) ∧
        (∀ k, t.rb R.KPR_CFG 0 = false → t.kpr.keeper = some k → k ≠ slot → s.runs (.keeperRequest m) fun d => d.resp = { code := .ok } ∧
          d.kpr = { t.kpr with sessions := t.kpr.sessions.put slot { e with request := some (p, t.kpr.receipts) }, receipts := t.kpr.receipts + 1 }) ∧
        (∀ k, t.rb R.KPR_CFG 0 = true → t.kpr.keeper = some k → k ≠ slot → p < t.kpr.prio → (∀ q ∈ t.kpr.sessions, q.2.request = none) →
          s.runs (.keeperRequest m) fun d => d.resp = { code := .ok } ∧ d.kpr.keeper = some slot ∧ d.kpr.prio = p ∧
            d.reg R.KPR_EPOCH = BitVec.ofNat 32 (t.rn R.KPR_EPOCH + 1) ∧ t.keepsRegs d [R.KPR_EPOCH] ∧
            (∃ x ∈ d.evt.raised, x.ev = Ev.KEEPER_CHANGE) ∧ d.kpr.lease = some (t.clock + leaseNs)))) ∧
    (gate 0x21 m s.dev = (t, some slot) → bodyCode m 0 = .ok → t.kpr.sessions.find slot = some e → s.runs (.keeperWithdraw m) fun d =>
      d.kpr = { t.kpr with sessions := t.kpr.sessions.put slot { e with request := none } } ∧ d.resp = { code := .ok }) ∧
    (gate 0x22 m s.dev = (t, some slot) → bodyCode m 1 = .ok →
      (t.kpr.keeper ≠ some slot → s.runs (.keeperRelease m) fun d => d.resp = { code := .notKeeper } ∧ d.kpr = t.kpr) ∧
      (t.kpr.keeper = some slot → bodyNum m 0 1 = 0xFF → s.runs (.keeperRelease m) fun d => d.resp = { code := .ok } ∧ d.kpr =
        { t.kpr with keeper := none, prio := 0xFF, lease := none,
                     window := if t.kpr.sessions.any (fun p => p.2.request.isSome) then some (t.clock + 10000000 * t.rf R.KPR_CFG 15 8) else none })) ∧
    (∀ k u, s.dev.kpr.keeper = some k → s.dev.kpr.lease = some u → s.runs .leaseExpired fun d =>
      d.kpr.keeper = none ∧ d.kpr.prio = 0xFF ∧ d.kpr.lease = none ∧ d.kpr.sessions = s.dev.kpr.sessions ∧ d.clock = max s.dev.clock u ∧
      ∃ x ∈ d.evt.raised, x.ev = Ev.LEASE_EXPIRED ∧ x.payload = k % 2 ^ 64) ∧
    (s.dev.kpr.keeper = none → s.runs .leaseExpired fun d => d = s.dev) ∧
    (∀ u k p n, s.dev.kpr.window = some u → bestRequest s.dev = some (k, p, n) → s.dev.kpr.sessions.find k = some e → s.runs .electionWindowEnd fun d =>
      d.kpr.keeper = some k ∧ d.kpr.prio = p ∧ d.kpr.window = none ∧ d.clock = max s.dev.clock u ∧ d.kpr.lease = some (d.clock + leaseNs) ∧
      d.reg R.KPR_EPOCH = BitVec.ofNat 32 (s.dev.rn R.KPR_EPOCH + 1) ∧ s.dev.keepsRegs d [R.KPR_EPOCH] ∧ ∃ x ∈ d.evt.raised, x.ev = Ev.KEEPER_CHANGE) ∧
    (∀ u, s.dev.kpr.window = some u → bestRequest s.dev = none → s.runs .electionWindowEnd fun d =>
      d.kpr = { s.dev.kpr with window := none } ∧ d.clock = max s.dev.clock u)

/-- A GROUP_LOAD of the Keeper stores 1 to 128 good entries behind those the group keeps, and a COMMIT submits its group, whose copy then waits for its
commit point (R371, R372); KPR_GRP_CMD and KPR_COMMIT do the same by registers (R380). -/
def Obligations.CommitGroupsAreLoadedAndSubmitted : Prop :=
  ∀ (s : State) (m : Msg) (t : Device) (slot : Nat) (w : Who) (v : Word),
    (∀ n, gate 0x30 m s.dev = (t, some slot) → m.body.length = 4 + 8 * n → 1 ≤ n → n ≤ 128 → bodyNum m 1 1 ≤ 1 → inStandby t = false →
      keeperCode t slot m = .ok →
      let es := (upto n).map (fun i => (bodyNum m (4 + 8 * i) 4, BitVec.ofNat 32 (bodyNum m (8 + 8 * i) 4)))
      let keep := if bodyNum m 1 1 = 1 then t.kpr.counts.getD 0 (bodyNum m 0 1) else 0
      loadFailure es = none → keep + n ≤ 512 → s.runs (.groupLoad m) fun d =>
        d.kpr.counts.getD 0 (bodyNum m 0 1) = keep + n ∧ d.resp = { code := .ok } ∧ d.kpr.sessions = t.kpr.sessions ∧
        (∀ g, g ≠ bodyNum m 0 1 → d.kpr.counts.getD 0 g = t.kpr.counts.getD 0 g)) ∧
    (gate 0x31 m s.dev = (t, some slot) → bodyCode m 10 = .ok → bodyNum m 1 1 = 0 → inStandby t = false → keeperCode t slot m = .ok →
      let r := submitGroup (.session slot) (bodyNum m 0 1) none t
      s.runs (.commitGroup m) fun d => d.resp = { code := r.2.code } ∧ d.shw = r.1.shw ∧ d.mem = r.1.mem ∧
        (r.2.code = .ok → commitCode (memRead .show (base4k t.reg R.KPR_GRP_BASE + 4096 * bodyNum m 0 1) (8 * (groupEntries t (bodyNum m 0 1)).length) t).1
            (settingsAt t (pointFrame t (pendingPoints t) none)) (groupEntries t (bodyNum m 0 1)) = none →
          d.shw.commits = t.shw.commits ++ [{ origin := .group (bodyNum m 0 1), target := none, entries := groupEntries t (bodyNum m 0 1) }])) ∧
    (writeCode s.dev w R.KPR_GRP_CMD v (kprHandler w R.KPR_GRP_CMD v) = .ok →
      let g := (s.dev.bankReg w R.KPR_GRP_SEL).toNat % 256
      (wbit v 0 = true → wbit v 1 = false → s.runs (.kprGrpClear w v) fun d =>
        d.kpr.counts.getD 0 g = 0 ∧ d.shw = s.dev.shw ∧ d.bankReg w R.KPR_COMMIT_RESULT = BitVec.ofNat 32 (256 * g)) ∧
      (wbit v 0 = false → wbit v 1 = true → entryLoadCode (s.dev.bankReg w R.KPR_GRP_OFS).toNat = .ok → s.dev.kpr.counts.getD 0 g < 512 →
        s.runs (.kprGrpAdd w v) fun d => d.kpr.counts.getD 0 g = s.dev.kpr.counts.getD 0 g + 1 ∧ d.shw = s.dev.shw ∧
          d.bankReg w R.KPR_COMMIT_RESULT = BitVec.ofNat 32 (256 * g))) ∧
    (writeCode s.dev w R.KPR_COMMIT v (kprHandler w R.KPR_COMMIT v) = .ok → wbit v 31 = true → wbit v 8 = false → s.runs (.kprCommitGo w v) fun d =>
      let u := (s.dev.answer .ok).setBank w R.KPR_COMMIT (v &&& 0x1FF)
      d.shw = (submitGroup w (wfld v 7 0) none u).1.shw ∧
      d.bankReg w R.KPR_COMMIT_RESULT = BitVec.ofNat 32 ((submitGroup w (wfld v 7 0) none u).2.code.num + 256 * wfld v 7 0))

/-- EVENT_RAISE hands the router the next raised event (R375): it leaves those raised and its pending bit is set; one routed to no log, session or fog is
done with that, and one routed to the log takes the next sequence number (R377). NOTICE_EVENT sends what a session has gathered, 10 ms after its first
record, or at once with 32 (R378). -/
def Obligations.EventsAreRouted : Prop :=
  ∀ s : State,
    (s.dev.evt.raised = [] → s.runs .eventRaise fun d => d = s.dev) ∧
    (∀ r, nextEvent s.dev = some r → r.ev < 256 → wbit (s.dev.reg (R.EVT_ROUTEe r.ev)) 9 = false → wbit (s.dev.reg (R.EVT_ROUTEe r.ev)) 10 = false →
      wfld (s.dev.reg (R.EVT_ROUTEe r.ev)) 7 0 = 0 →
      (wbit (s.dev.reg (R.EVT_ROUTEe r.ev)) 11 = false → s.runs .eventRaise fun d =>
        d.evt = { raised := s.dev.evt.raised.erase r, last := some (r.ev, r.clock) } ∧ d.rb (R.EVT_PENDj (r.ev / 32)) (r.ev % 32) = true ∧
        s.dev.keepsRegs d [R.EVT_PENDj (r.ev / 32)] ∧ d = { s.dev with regs := d.regs, evt := d.evt, sent := d.sent }) ∧
      (wbit (s.dev.reg (R.EVT_ROUTEe r.ev)) 11 = true → s.dev.rf R.EVT_LOG_SIZE 16 0 = 0 → s.runs .eventRaise fun d =>
        d.evt = { raised := s.dev.evt.raised.erase r, last := some (r.ev, r.clock) } ∧ d.rb (R.EVT_PENDj (r.ev / 32)) (r.ev % 32) = true ∧
        d.rn R.EVT_LOG_SEQ = (s.dev.rn R.EVT_LOG_SEQ + 1) % 2 ^ 32 ∧ s.dev.keepsRegs d [R.EVT_PENDj (r.ev / 32), R.EVT_LOG_SEQ])) ∧
    (∀ slot e t, slot < 16 → s.dev.kpr.sessions.find slot = some e → e.gatherFrom = some t → e.gathered ≠ [] → s.runs (.noticeEvent slot) fun d =>
      (∃ f, d.kpr.sessions.find slot = some f ∧ f.gathered = [] ∧ f.gatherFrom = none ∧ f.lost = 0 ∧ f.mask = e.mask) ∧
      d.clock = (if 32 ≤ e.gathered.length then s.dev.clock else max s.dev.clock (t + 10000000)) ∧
      ∃ b, d.sent = s.dev.sent ++ [⟨.session slot, b⟩]) ∧
    (∀ slot, slot < 16 → s.dev.kpr.sessions.find slot = none → s.runs (.noticeEvent slot) fun d => d = s.dev)

/-! ### The in-package memory (R329 to R347) -/

/-- An access outside every region answers E_NO_SUCH and tells of an access fault (R329); an application core that reaches so for the safety pair's private
memory gets E_LOCKED (R116). A core's access to a line lost while dirty answers E_CHECK and the line is forgotten (R346). A write that is refused (R342, R370, R398) answers
E_LOCKED. Where no fill or discard is under way, a read of a good codeword answers its words and changes nothing else (R334), and a write of one whole
codeword stores its bytes, leaves every other byte of memory reading as it did, and makes the codeword good (R336, R337). -/
def Obligations.MemoryAccessesAreChecked : Prop :=
  ∀ (s : State) (a : MemAgent) (off : Nat) (data : List Byte) (u : Upset),
    off < 2 ^ 64 →
    (regionOf s.dev off = none → ∀ c ∈ [Instr.memReadAccess a off u, .memFullWrite a off data, .memPartialWrite a off data u], s.runs c fun d =>
      ((∀ i k, a ≠ .who (.core i k)) ∨ Config.safetyPrivate off = false →
        d.resp = { code := .noSuch } ∧ s.dev.newEvents d [(Ev.MEM_ACCESS_FAULT, off)] ∧ d = { s.dev with resp := d.resp, evt := d.evt }) ∧
      (∀ i k, a = .who (.core i k) → Config.safetyPrivate off = true → d = { s.dev with resp := { code := .locked } })) ∧
    (∀ c, c = Instr.memReadAccess a off u ∧ regionOf s.dev off ≠ none ∨
        (c = .memFullWrite a off data ∨ c = .memPartialWrite a off data u) ∧ inOneRegion s.dev off data.length = true →
      lineLost s.dev a off = true → s.runs c fun d =>
        d = { s.dev with mem := { s.dev.mem with lostLines := s.dev.mem.lostLines.filter (fun l => l ≠ off / 64) }, resp := { code := .check } }) ∧
    (inOneRegion s.dev off data.length = true → lineLost s.dev a off = false → writeRefused s.dev a off data.length = true →
      ∀ c ∈ [Instr.memFullWrite a off data, .memPartialWrite a off data u], s.runs c fun d => d = { s.dev with resp := { code := .locked } }) ∧
    (∀ r, regionOf s.dev off = some r → lineLost s.dev a off = false → s.dev.mem.zeroFill = none → s.dev.mem.discards = [] →
      let k := cwBytes (regionClass s.dev r)
      (unwritten s.dev (cwOf s.dev r off) = true ∨
          decodeCw (regionClass s.dev r) (s.dev.mem.cond.getD .good (cwOf s.dev r off)) (peek s.dev (cwOf s.dev r off) k) u = .good →
        s.runs (.memReadAccess a off u) fun d => ∃ words, words = (upto (k / 4)).map (fun i => BitVec.ofNat 32 (leAt (peek s.dev (cwOf s.dev r off) k) (4 * i) 4)) ∧
          d = { s.dev with resp := { code := .ok, data := words } }) ∧
      (off % k = 0 → data.length = k → writeRefused s.dev a off data.length = false → s.runs (.memFullWrite a off data) fun d =>
        d.resp = { code := .ok } ∧ (∀ i, (h : i < data.length) → readByte d (off + i) = data[i]) ∧
        (∀ x, x < off ∨ off + k ≤ x → readByte d x = readByte s.dev x) ∧ d.mem.cond.getD .good off = .good ∧ d.shw = s.dev.shw ∧ d.kpr = s.dev.kpr))

/-- An accepted GO of MEM_ZF_CTRL starts a zero-fill of the range at its front, and its end leaves zeros from the front of the start on, with
ZERO_FILL_DONE (R339). The end of a discard takes it off those under way (R340). With the test mode on, READ_RAW copies the unit's data to the test registers
and leaves the memory, and WRITE_RAW stores the test registers' data in the unit alone (R347). A window short of its share counts, and is told once per second (R345). With the scrubber off its step does nothing; a good
codeword only moves its position, and the end of the sequence counts a pass (R341). An uncorrectable error of an on-chip SRAM counts and is told, and
its consumer acts (R346). -/
def Obligations.MemoryUpkeepRuns : Prop :=
  ∀ (s : State) (w : Who) (v : Word),
    (writeCode s.dev w R.MEM_ZF_CTRL v (memHandler w R.MEM_ZF_CTRL v) = .ok → wbit v 0 = true → s.runs (.zeroFill w v) fun d =>
      d.mem = { s.dev.mem with zeroFill := some { base := (zfRange s.dev).1, size := (zfRange s.dev).2, front := 0, start := s.dev.clock } } ∧
      d.rn R.MEM_ZF_CTRL = 3 ∧ d.rb R.MEM_STATUS 1 = true ∧ s.dev.keepsRegs d [R.MEM_ZF_CTRL, R.MEM_ZF_POS, R.MEM_STATUS]) ∧
    (s.dev.mem.zeroFill = none → s.runs .zeroFillDone fun d => d = s.dev) ∧
    (∀ z, s.dev.mem.zeroFill = some z → z.size % 4096 = 0 → z.base < 2 ^ 34 → s.runs .zeroFillDone fun d =>
      d.mem.zeroFill = none ∧ (∀ i, z.front ≤ i → i < z.size → readByte d (z.base + i) = 0) ∧ d.rb R.MEM_STATUS 1 = false ∧ d.rn R.MEM_ZF_CTRL = 0 ∧
      s.dev.keepsRegs d [R.MEM_ZF_CTRL, R.MEM_ZF_POS, R.MEM_STATUS] ∧ d.clock = max s.dev.clock (z.start + cdiv z.size 40) ∧
      ∃ e ∈ d.evt.raised, e.ev = Ev.ZERO_FILL_DONE) ∧
    (∀ r, r < 32 → s.runs (.discardDone r) fun d => d.mem.discards.find r = none ∧ s.dev.keepsRegs d [R.MEM_Rr_CMD r] ∧ d.kpr = s.dev.kpr) ∧
    (writeCode s.dev w R.MEM_TEST_CMD v (memHandler w R.MEM_TEST_CMD v) = .ok → s.dev.mem.zeroFill = none → s.dev.mem.discards = [] →
      (wbit v 0 = false → wbit v 1 = true → s.runs (.readRaw w v) fun d => d.mem = s.dev.mem ∧
        ∀ j, j < 8 → d.rn (R.MEM_TEST_DATAj j) = leAt (peek s.dev (testUnit s.dev) 32) (4 * j) 4 % 2 ^ 32) ∧
      (wbit v 0 = true → wbit v 1 = false → s.runs (.writeRaw w v) fun d => s.dev.keepsRegs d [] ∧
        (∀ i, i < 32 → d.mem.cells.getD 0 (testUnit s.dev + i) = (testData s.dev).getD i 0) ∧ (unwritten s.dev (testUnit s.dev) = false →
          ∀ x, x < testUnit s.dev ∨ testUnit s.dev + 32 ≤ x → d.mem.cells.getD 0 x = s.dev.mem.cells.getD 0 x))) ∧
    (s.runs .memShareShort fun d => d.reg R.MEM_SHARE_SHORT_CNT = satInc (s.dev.reg R.MEM_SHARE_SHORT_CNT) 1 ∧
      s.dev.keepsRegs d [R.MEM_SHARE_SHORT_CNT] ∧
      ((∃ t, s.dev.mem.lastShort = some t ∧ s.dev.clock < t + 1000000000) → s.dev.newEvents d [] ∧ d.mem = s.dev.mem) ∧
      ((∀ t, s.dev.mem.lastShort = some t → t + 1000000000 ≤ s.dev.clock) →
        s.dev.newEvents d [(Ev.MEM_SHARE_SHORT, 0)] ∧ d.mem = { s.dev.mem with lastShort := some s.dev.clock })) ∧
    (∀ u raced, (s.dev.rb R.MEM_CTRL 0 = false → s.runs (.scrubCodeword u raced) fun d => d = s.dev) ∧
      (∀ r off, s.dev.rb R.MEM_CTRL 0 = true → scrubAt s.dev (scrubRegions s.dev) s.dev.mem.scrubPos = some (r, off) →
        s.dev.mem.zeroFill = none → s.dev.mem.discards = [] →
        unwritten s.dev off = true ∨ decodeCw (regionClass s.dev r) (s.dev.mem.cond.getD .good off) (peek s.dev off (cwBytes (regionClass s.dev r))) u = .good →
        let next := s.dev.mem.scrubPos + cwBytes (regionClass s.dev r)
        (next < scrubTotal s.dev → s.runs (.scrubCodeword u raced) fun d => d.mem = { s.dev.mem with scrubPos := next } ∧
          d.rn R.MEM_SCRUB_POS = (off / 4096 + 2 ^ 24 * r) % 2 ^ 32 ∧ s.dev.keepsRegs d [R.MEM_SCRUB_POS] ∧ s.dev.newEvents d []) ∧
        (scrubTotal s.dev ≤ next → s.runs (.scrubCodeword u raced) fun d => d.mem.scrubPos = 0 ∧ d.mem.scrubFrom = d.clock ∧
          d.reg R.MEM_SCRUB_PASSES = satInc (s.dev.reg R.MEM_SCRUB_PASSES) 1 ∧ s.dev.keepsRegs d [R.MEM_SCRUB_POS, R.MEM_SCRUB_PASSES] ∧
          ∃ e ∈ d.evt.raised, e.ev = Ev.SCRUB_PASS_DONE))) ∧
    (∀ sram place, sram < 8 → s.runs (.sramUncorrectable sram place) fun d =>
      (∃ e ∈ d.evt.raised, e.ev = Ev.SRAM_UNCORRECTABLE ∧ e.payload = sram) ∧
      (sram ∈ [0, 3, 4, 5] → d.reg R.MEM_SRAM_UNCORR = satInc (s.dev.reg R.MEM_SRAM_UNCORR) 1 ∧ d.rn R.MEM_SRAM_LAST = sram ∧
        s.dev.keepsRegs d [R.MEM_SRAM_UNCORR, R.MEM_SRAM_LAST]) ∧
      (sram = 0 → place % 2 = 1 → d.mem.lostLines = s.dev.mem.lostLines ++ [place / 2]) ∧
      (sram = 4 → d.cmp.lineBad = s.dev.cmp.lineBad ++ [(place % 16, place / 16 % 16384, place / 262144)]) ∧
      (sram = 5 → d.pho.badNodes.getD false place = true))

/-! ### Housekeeping (R478 to R495) -/

/-- A temperature sample writes each sensor's reading, trimmed, to its register, and with no run of samples at T_SHUT behind it resets nothing (R478 to
R480). The reset after a thermal shutdown is released once every sensor in use reads below T_SHUT less 10 °C (R481). A monitor sample writes the
slacks and keeps the lowest; with the loop off it requests no voltage (R482 to R484). The poll of the regulator stores its four readings while it is enabled
(R483). A read-back that matches is stored; one that does not is retried three times, and then FAULT is set, counted and told (R483). With the loop off,
or nothing planned, the step timer does nothing; the fast loop raises the request by a step, within the limits (R483, R484). A margin re-plan starts a
new period and is told (R485, R486). -/
def Obligations.DieAndCoreVoltageAreWatched : Prop :=
  ∀ s : State,
    (∀ temps, s.dev.hkp.shutRun = 0 → s.runs (.thermSample temps) fun d => d.hkp.shutRun ≤ 1 ∧ d.shw = s.dev.shw ∧ d.sys = s.dev.sys ∧
      ∀ k, k < 12 → d.rn (R.HKP_Ts k) = trunc 16 (temps.getD k 0 + sext 8 (s.dev.rf (R.HKP_Ts_CFG k) 7 0)) % 2 ^ 32) ∧
    (∀ temps, s.runs (.thermalResetRelease temps) fun d =>
      (∀ k, k < 12 → d.rn (R.HKP_Ts k) = trunc 16 (temps.getD k 0 + sext 8 (s.dev.rf (R.HKP_Ts_CFG k) 7 0)) % 2 ^ 32) ∧
      ((∀ k ∈ sensorsInUse s.dev, sext 16 (d.rn (R.HKP_Ts k)) < 16 * (((s.dev.rf R.HKP_THERM_CFG 15 8 : Nat) : Int) - 10)) →
        d.sys = { s.dev.sys with hot := false }) ∧
      ((∃ k ∈ sensorsInUse s.dev, 16 * (((s.dev.rf R.HKP_THERM_CFG 15 8 : Nat) : Int) - 10) ≤ sext 16 (d.rn (R.HKP_Ts k))) → d.sys = s.dev.sys)) ∧
    (∀ slacks, s.runs (.pdmSample slacks) fun d => d.shw = s.dev.shw ∧
      (∀ m, m < 24 → d.rn (R.HKP_PDMm m) = trunc 16 (slacks.getD m 0) % 2 ^ 32) ∧
      (avsRuns s.dev = false → d.reg R.HKP_VCORE_REQ = s.dev.reg R.HKP_VCORE_REQ ∧ d.hkp.fast = false ∧ d.sent = s.dev.sent ∧
        d.hkp.lowSlack = some (match s.dev.hkp.lowSlack with | some l => min l (worstSlack d) | none => worstSlack d))) ∧
    (∀ vout iout temp status, (s.dev.rb R.HKP_PMB_CFG 0 = false → s.runs (.pmbusPoll vout iout temp status) fun d => d = s.dev) ∧
      (s.dev.rb R.HKP_PMB_CFG 0 = true → s.runs (.pmbusPoll vout iout temp status) fun d => d.rn R.HKP_PMB_VOUT = vout.toNat ∧
        d.rn R.HKP_PMB_IOUT = iout.toNat ∧ d.rn R.HKP_PMB_TEMP = temp.toNat ∧ d.rn R.HKP_PMB_STATUS = status.toNat ∧
        s.dev.keepsRegs d [R.HKP_PMB_VOUT, R.HKP_PMB_IOUT, R.HKP_PMB_TEMP, R.HKP_PMB_STATUS] ∧ d = { s.dev with regs := d.regs })) ∧
    (∀ ack mv, s.runs (.avsReadback ack mv) fun d =>
      d.clock = max s.dev.clock (s.dev.hkp.sentAt + 2000000) ∧ (ack = true → d.rn R.HKP_VCORE_READ = mv % 1024) ∧
      (avsRuns s.dev = false ∨ ack = true ∧ s.dev.rn R.HKP_VCORE_REQ ≤ mv + 5 ∧ mv ≤ s.dev.rn R.HKP_VCORE_REQ + 5 →
        s.dev.keepsRegs d [R.HKP_VCORE_READ] ∧ d.hkp = s.dev.hkp ∧ s.dev.newEvents d []) ∧
      (avsRuns s.dev = true → (ack = true → s.dev.rn R.HKP_VCORE_REQ + 5 < mv ∨ mv + 5 < s.dev.rn R.HKP_VCORE_REQ) →
        (s.dev.hkp.tries < 3 → d.hkp.tries = s.dev.hkp.tries + 1 ∧ d.hkp.sentAt = d.clock ∧ d.sent = s.dev.sent ++ [⟨.avs, [0, s.dev.rn R.HKP_VCORE_REQ]⟩]) ∧
        (3 ≤ s.dev.hkp.tries → d.rb R.HKP_AVS_STATUS 2 = true ∧ d.reg R.HKP_AVS_ERR = satInc (s.dev.reg R.HKP_AVS_ERR) 1 ∧
          s.dev.newEvents d [(Ev.AVS_FAULT, 0)]))) ∧
    (avsRuns s.dev = false ∨ s.dev.hkp.fast = false ∧ (s.dev.hkp.plan = none ∨ s.dev.hkp.plan = some (s.dev.rn R.HKP_VCORE_REQ)) →
      s.runs .vcoreStep fun d => d = s.dev) ∧
    (avsRuns s.dev = true → s.dev.hkp.fast = true →
      let v := max (s.dev.rf R.HKP_AVS_LIMITS 9 0) (min (s.dev.rf R.HKP_AVS_LIMITS 25 16) (s.dev.rn R.HKP_VCORE_REQ + voltStep s.dev))
      s.runs .vcoreStep fun d => d.rn R.HKP_VCORE_REQ = v ∧ d.clock = max s.dev.clock (s.dev.hkp.sentAt + 1000000) ∧
        (v ≠ s.dev.rn R.HKP_VCORE_REQ → d.reg R.HKP_AVS_STEPS = satInc (s.dev.reg R.HKP_AVS_STEPS) 1 ∧ d.hkp.tries = 0 ∧
          d.sent = s.dev.sent ++ [⟨.avs, [0, v]⟩])) ∧
    (∀ delays, (∀ c, s.dev.hkp.eyes.find c = none) → s.runs (.marginReplan delays) fun d => d.hkp.delays = delays ∧ d.hkp.lowSlack = none ∧
      d.clock = max s.dev.clock (s.dev.hkp.planAt + 60000000000 * s.dev.rf R.HKP_AVS_CFG 15 8) ∧ d.hkp.planAt = d.clock ∧
      d.reg R.HKP_VCORE_REQ = s.dev.reg R.HKP_VCORE_REQ ∧ (avsRuns s.dev = false → d.hkp.plan = s.dev.hkp.plan) ∧
      ∃ e ∈ d.evt.raised, e.ev = Ev.MARGIN_REPLAN)

/-- FOG_N follows its requests: it is asserted, counted and told when one comes to stand, and released when none stands and its shortest time is over (R488,
R489). A pin's filtered level is read in HKP_GPIO_IN, and the edge that its mode picks on an input is kept and told (R492). HKP_GPIO_SET and HKP_GPIO_CLR
drive the register outputs that the word names and no others (R492, R493). -/
def Obligations.FogAndPinsFollow : Prop :=
  ∀ (s : State) (w : Who) (v : Word),
    (∀ level,
      let t := { s.dev with hkp := { s.dev.hkp with safeLow := !level } }
      ((fogSources t).any (fun b => b) = true → s.dev.rb R.HKP_FOG_STATUS 0 = false → s.runs (.safeNChange level) fun d =>
        d.rb R.HKP_FOG_STATUS 0 = true ∧ d.hkp = { t.hkp with fogSince := s.dev.clock } ∧ d.reg R.HKP_FOG_COUNT = satInc (s.dev.reg R.HKP_FOG_COUNT) 1 ∧
        d.sent = s.dev.sent ++ [⟨.pin pinFog, [0]⟩] ∧ (∃ e ∈ d.evt.raised, e.ev = Ev.FOG_CHANGE) ∧ s.dev.keepsRegs d [R.HKP_FOG_STATUS, R.HKP_FOG_COUNT]) ∧
      ((fogSources t).any (fun b => b) = false → s.dev.rb R.HKP_FOG_STATUS 0 = true → s.dev.clock < fogMinEnd s.dev → s.runs (.safeNChange level) fun d =>
        d.rb R.HKP_FOG_STATUS 0 = true ∧ d.hkp = t.hkp ∧ d.sent = s.dev.sent ∧ s.dev.newEvents d [] ∧ s.dev.keepsRegs d [R.HKP_FOG_STATUS])) ∧
    ((fogSources s.dev).any (fun b => b) = false → s.dev.rb R.HKP_FOG_STATUS 0 = true → s.runs .fogMinExpiry fun d =>
      d.rb R.HKP_FOG_STATUS 0 = false ∧ d.clock = max s.dev.clock (fogMinEnd s.dev) ∧ d.sent = s.dev.sent ++ [⟨.pin pinFog, [2]⟩] ∧
      (∃ e ∈ d.evt.raised, e.ev = Ev.FOG_CHANGE) ∧ s.dev.keepsRegs d [R.HKP_FOG_STATUS]) ∧
    (∀ p level time, p < 32 → s.runs (.gpioEdge p level time) fun d => d.rb R.HKP_GPIO_IN p = level ∧
      (gpioFunc s.dev p = 3 → s.dev.rb R.HKP_GPIO_IN p ≠ level →
        s.dev.rf (R.HKP_GPIOp_CFG p) 5 4 = 2 ∨ s.dev.rf (R.HKP_GPIOp_CFG p) 5 4 = (if level then 0 else 1) →
        d.rb R.HKP_GPIO_EDGE p = true ∧ s.dev.newEvents d [(Ev.GPIO_EDGE, (p + 256 * time) % 2 ^ 64)]) ∧
      (gpioFunc s.dev p ≠ 3 ∨ s.dev.rb R.HKP_GPIO_IN p = level → s.dev.newEvents d [] ∧ s.dev.keepsRegs d [R.HKP_GPIO_IN])) ∧
    (∀ (c : Instr) (off : Nat) (on : Bool), c = .gpioSet w v ∧ off = R.HKP_GPIO_SET ∧ on = true ∨ c = .gpioClr w v ∧ off = R.HKP_GPIO_CLR ∧ on = false →
      writeCode s.dev w off v (hkpHandler w off v) = .ok → s.runs c fun d => s.dev.keepsRegs d [R.HKP_GPIO_OUT] ∧ s.dev.newEvents d [] ∧
        ∀ p, p < 32 → d.rb R.HKP_GPIO_OUT p = if gpioFunc s.dev p = 1 ∧ wbit v p = true then on else s.dev.rb R.HKP_GPIO_OUT p)

/-! ### The preview (R315 to R327) -/

/-- PVW_CTRL.EN set with a good configuration starts the port with the staged registers in use, and cleared it ends the preview, what waited given up
(R321, R324). PVW_APPLY uses the staged registers at once while the port is off, and lets them wait for the next preview frame while it runs (R321). An
underrun counts and is told (R324). CMD_GO queues its packet, which leaves at once while the port is off (R323); its end shows the result and is told. -/
def Obligations.ThePreviewPortIsCommanded : Prop :=
  ∀ (s : State) (w : Who) (v : Word),
    (writeCode s.dev w R.PVW_CTRL v (pvwHandler w R.PVW_CTRL v) = .ok →
      (wbit v 0 = true → s.runs (.pvwEnable w v) fun d => s.dev.tookWrite d R.PVW_CTRL v ∧ d.rb R.PVW_STATUS 0 = true ∧ d.rb R.PVW_STATUS 1 = false ∧
        d.pvw = { s.dev.pvw with used := pvwSnapshot s.dev, pending := none, frameEnd := s.dev.clock, teLast := s.dev.clock } ∧
        s.dev.keepsRegs d [R.PVW_CTRL, R.PVW_STATUS, R.PVW_LINE_NS] ∧ s.dev.newEvents d []) ∧
      (wbit v 0 = false → s.dev.rb R.PVW_CTRL 0 = true → s.runs (.pvwDisable w v) fun d => s.dev.tookWrite d R.PVW_CTRL v ∧
        d.rb R.PVW_STATUS 0 = false ∧ d.rb R.PVW_STATUS 3 = false ∧ d.rb R.PVW_STATUS 4 = false ∧ d.rb R.PVW_APPLY 0 = false ∧
        d.pvw = { s.dev.pvw with pending := none, frameEnd := s.dev.clock, packet := none } ∧ s.dev.keepsRegs d [R.PVW_CTRL, R.PVW_STATUS, R.PVW_APPLY])) ∧
    (writeCode s.dev w R.PVW_APPLY v (pvwHandler w R.PVW_APPLY v) = .ok → wbit v 0 = true →
      (pvwRuns s.dev = false → s.runs (.pvwApply w v) fun d => d.pvw = { s.dev.pvw with used := pvwSnapshot s.dev } ∧ s.dev.keepsRegs d []) ∧
      (pvwRuns s.dev = true → s.runs (.pvwApply w v) fun d => d.pvw = { s.dev.pvw with pending := some (pvwSnapshot s.dev) } ∧
        d.rb R.PVW_APPLY 0 = true ∧ d.rb R.PVW_STATUS 4 = true ∧ s.dev.keepsRegs d [R.PVW_APPLY, R.PVW_STATUS])) ∧
    (pvwRuns s.dev = true → s.runs .pvwUnderrun fun d => d.reg R.PVW_UNDERRUN = satInc (s.dev.reg R.PVW_UNDERRUN) 1 ∧
      s.dev.keepsRegs d [R.PVW_UNDERRUN] ∧ s.dev.newEvents d [(Ev.PVW_UNDERRUN, 0)]) ∧
    (pvwRuns s.dev = false → s.runs .pvwUnderrun fun d => d = s.dev) ∧
    (writeCode s.dev w R.PVW_CMD_CTRL v (pvwHandler w R.PVW_CMD_CTRL v) = .ok → wbit v 16 = true → s.runs (.pvwCmdGo w v) fun d =>
      d.rb R.PVW_CMD_CTRL 17 = true ∧ d.pvw = { s.dev.pvw with packet := d.pvw.packet } ∧
      (pvwRuns d = true → ∃ p, d.pvw.packet = some ([wfld v 5 0, b2n (wbit v 8)] ++ p)) ∧ (pvwRuns d = false → d.pvw.packet = none)) ∧
    (∀ result response, (s.dev.rb R.PVW_CMD_CTRL 17 = false → s.runs (.pvwCmdDone result response) fun d => d = s.dev) ∧
      (s.dev.rb R.PVW_CMD_CTRL 17 = true → s.runs (.pvwCmdDone result response) fun d => d.pvw = { s.dev.pvw with packet := none } ∧
        (∃ e ∈ d.evt.raised, e.ev = Ev.PVW_CMD_DONE ∧ e.payload = result.toNat) ∧
        (result ≠ 0 ∨ response.length ≤ 4 → d.rb R.PVW_CMD_CTRL 17 = false ∧ d.rf R.PVW_CMD_CTRL 31 24 = result.toNat ∧ d.mem = s.dev.mem ∧
          (result = 0 → response ≠ [] → d.rn R.PVW_CMD_RESP = leAt response 0 4))))

/-- A preview frame starts while the port runs: in brace state a video frame is black and a command-mode frame is not sent (R324); else the staged
registers that wait take effect, told by PVW_APPLIED (R321), and the panel gets the crop of the canvas in the active area (R317 to R320). A TE edge
starts a command-mode frame, or is skipped while one is sent, and ends the loss of TE; the timeout tells of that loss, after which frames start by the internal
rate (R322). With the port off none of them does anything. -/
def Obligations.PreviewFramesStart : Prop :=
  ∀ s : State,
    let sentFrame (d : Device) : Prop := ∃ xs img, d.sent = xs ++ [⟨.panel, [1, s.dev.rf R.PVW_H_TIMING1 13 0, s.dev.rf R.PVW_V_TIMING1 13 0] ++ img⟩]
    let staged (d : Device) : Prop := d.pvw.packet = none ∧ d.pvw.pending = none ∧ d.pvw.used = s.dev.pvw.pending.getD s.dev.pvw.used ∧
      (s.dev.pvw.pending ≠ none → ∃ e ∈ d.evt.raised, e.ev = Ev.PVW_APPLIED)
    (pvwRuns s.dev = false → s.runs .pvwFrameStart (fun d => d = s.dev) ∧ s.runs .teEdge (fun d => d = s.dev) ∧
      s.runs .pvwTeTimeout (fun d => d = s.dev) ∧ s.runs .pvwInternalFrame fun d => d = s.dev) ∧
    (pvwRuns s.dev = true → braced s.dev = true → s.dev.rb R.PVW_CTRL 1 = true → s.runs .pvwFrameStart fun d => d = s.dev) ∧
    (pvwRuns s.dev = true → braced s.dev = true → s.dev.rb R.PVW_CTRL 1 = false → s.runs .pvwFrameStart fun d =>
      staged d ∧ sentFrame d ∧ d.rb R.PVW_STATUS 3 = true ∧ d.reg R.PVW_FRAMES = satInc (s.dev.reg R.PVW_FRAMES) 1 ∧ d.clock = s.dev.clock ∧
      ∃ xs, d.sent = xs ++ [⟨.panel, [1, s.dev.rf R.PVW_H_TIMING1 13 0, s.dev.rf R.PVW_V_TIMING1 13 0] ++
        List.replicate (s.dev.rf R.PVW_H_TIMING1 13 0 * s.dev.rf R.PVW_V_TIMING1 13 0) 0⟩]) ∧
    (pvwRuns s.dev = true → braced s.dev = false → s.runs .pvwFrameStart fun d => staged d ∧ sentFrame d ∧ d.clock = s.dev.clock ∧ d.shw = s.dev.shw) ∧
    (pvwCommand s.dev = true → pvwBusy s.dev = true → s.runs .teEdge fun d => d.reg R.PVW_TE_SKIP = satInc (s.dev.reg R.PVW_TE_SKIP) 1 ∧
      d.rb R.PVW_STATUS 1 = false ∧ d.pvw = { s.dev.pvw with teLast := s.dev.clock } ∧ d.sent = s.dev.sent ∧
      s.dev.newEvents d (if s.dev.rb R.PVW_STATUS 1 then [(Ev.PVW_TE_RESTORED, 0)] else [])) ∧
    (pvwCommand s.dev = true → s.dev.rb R.PVW_STATUS 1 = false → s.runs .pvwTeTimeout fun d => d.rb R.PVW_STATUS 1 = true ∧
      d.clock = max s.dev.clock (s.dev.pvw.teLast + 1000000 * s.dev.rf R.PVW_TE_CFG 25 16) ∧ d.pvw = { s.dev.pvw with paced := d.clock } ∧
      s.dev.keepsRegs d [R.PVW_STATUS] ∧ ∃ e ∈ d.evt.raised, e.ev = Ev.PVW_TE_TIMEOUT) ∧
    (pvwCommand s.dev = true → s.dev.rb R.PVW_STATUS 1 = true → s.runs .pvwTeTimeout fun d => d = s.dev) ∧
    (pvwCommand s.dev = true → s.dev.rb R.PVW_STATUS 1 = true → pvwBusy s.dev = false → braced s.dev = false → s.runs .pvwInternalFrame fun d =>
      staged d ∧ sentFrame d ∧ d.pvw.paced = d.clock) ∧
    (s.dev.rb R.PVW_STATUS 1 = false ∨ pvwBusy s.dev = true → s.runs .pvwInternalFrame fun d => d = s.dev)

/-! ### Metering (R284 to R314) -/

/-- A pulse that is due, or one of the backlog, is emitted once its output is free, and its pin is released at its end (R302, R303), but for a gated output
in the standby role (R309). A periodic save, due or asked for, starts unless one runs, and at its end its record is kept, or its failure is counted and told
(R304). An erased warning slot is kept, two at most (R306). The Keeper's write of the end completes the energy gap, told by ENERGY_GAP (R308). -/
def Obligations.PulsesAndSavesAreKept : Prop :=
  ∀ (s : State) (w : Who) (v : Word),
    (∀ p, p < 8 → let x := s.dev.pulse p
      let len := 1000000 * s.dev.rf (R.MTR_Pp_WIDTH p) 7 0
      (s.dev.rb (R.MTR_Pp_CFG p) 0 = false ∨ pulseGated s.dev p = true ∨ x.due = false ∧ s.dev.rn (R.MTR_Pp_BACKLOG p) = 0 →
        s.runs (.pulseEmit p) fun d => d = s.dev) ∧
      (s.dev.rb (R.MTR_Pp_CFG p) 0 = true → pulseGated s.dev p = false → x.due = true ∨ s.dev.rn (R.MTR_Pp_BACKLOG p) ≠ 0 → s.runs (.pulseEmit p) fun d =>
        d.clock = max s.dev.clock x.free ∧ d.pulse p = { due := false, ends := d.clock + len, free := d.clock + 2 * len, active := true } ∧
        d.rn (R.MTR_Pp_COUNT p) = (s.dev.rn (R.MTR_Pp_COUNT p) + 1) % 2 ^ 32 ∧
        d.rn (R.MTR_Pp_BACKLOG p) = s.dev.rn (R.MTR_Pp_BACKLOG p) - (if x.due then 0 else 1) ∧
        s.dev.keepsRegs d [R.MTR_Pp_COUNT p, R.MTR_Pp_BACKLOG p] ∧ d.sent = s.dev.sent ++ [⟨.pin (100 + p), [0]⟩]) ∧
      (x.active = false → s.runs (.pulseWidthEnd p) fun d => d = s.dev) ∧
      (x.active = true → s.runs (.pulseWidthEnd p) fun d => d.clock = max s.dev.clock x.ends ∧ d.pulse p = { x with active := false } ∧
        s.dev.keepsRegs d [] ∧ d.sent = s.dev.sent ++ (if pulseGated s.dev p then [] else [⟨.pin (100 + p), [1]⟩]))) ∧
    (s.dev.mtr.saving = none → s.runs .periodicSave fun d =>
      d.mtr = { s.dev.mtr with saving := d.mtr.saving } ∧ (∃ r, d.mtr.saving = some r ∧ d.sent = s.dev.sent ++ [⟨.flash, [7]⟩, ⟨.flash, r.map (·.toNat)⟩]) ∧
      d.clock = max s.dev.clock (s.dev.mtr.savedAt + 1000000000 * s.dev.rf R.MTR_SAVE_PERIOD 11 0) ∧ d.rb R.MTR_SAVE_STATUS 2 = true ∧
      s.dev.keepsRegs d [R.MTR_SAVE_STATUS]) ∧
    (s.dev.mtr.saving ≠ none → s.runs .periodicSave fun d => d.mtr = s.dev.mtr ∧ d.sent = s.dev.sent ∧ s.dev.keepsRegs d []) ∧
    (writeCode s.dev w R.MTR_CMD v (mtrHandler w R.MTR_CMD v) = .ok → wbit v 0 = true → s.dev.mtr.saving = none → s.runs (.saveNow w v) fun d =>
      d.mtr.saving ≠ none ∧ d.rb R.MTR_CMD 0 = true ∧ d.rb R.MTR_SAVE_STATUS 2 = true ∧ s.dev.keepsRegs d [R.MTR_CMD, R.MTR_SAVE_STATUS]) ∧
    (s.dev.mtr.saving = none → ∀ ok, s.runs (.periodicSaveDone ok) fun d => d = s.dev) ∧
    (∀ r, s.dev.mtr.saving = some r →
      (s.runs (.periodicSaveDone true) fun d => d.mtr.saving = none ∧ d.mtr.records = (s.dev.mtr.records ++ [r]).drop (s.dev.mtr.records.length - 1) ∧
        d.mtr.savedAt = s.dev.clock ∧ d.rn R.MTR_SAVE_SEQ = leAt r 4 4 % 2 ^ 32 ∧ d.rb R.MTR_SAVE_STATUS 2 = false ∧ d.rb R.MTR_CMD 0 = false ∧
        s.dev.keepsRegs d [R.MTR_SAVE_STATUS, R.MTR_CMD, R.MTR_SAVE_SEQ] ∧ s.dev.newEvents d []) ∧
      s.runs (.periodicSaveDone false) fun d => d.mtr = { s.dev.mtr with saving := none } ∧ d.rb R.MTR_SAVE_STATUS 2 = false ∧ d.rb R.MTR_CMD 0 = false ∧
        d.reg R.MTR_SAVE_FAIL = satInc (s.dev.reg R.MTR_SAVE_FAIL) 1 ∧ s.dev.keepsRegs d [R.MTR_SAVE_STATUS, R.MTR_CMD, R.MTR_SAVE_FAIL] ∧
        s.dev.newEvents d [(Ev.SAVE_FAIL, 0)]) ∧
    (s.runs .warnSlotEraseDone fun d => d.mtr = { s.dev.mtr with erased := min 2 (s.dev.mtr.erased + 1) } ∧ d.rb R.MTR_SAVE_STATUS 0 = true ∧
      s.dev.keepsRegs d [R.MTR_SAVE_STATUS]) ∧
    (writeCode s.dev w R.MTR_GAP_END_HI v (mtrHandler w R.MTR_GAP_END_HI v) = .ok → s.runs (.gapEndWrite w v) fun d =>
      d.rb R.MTR_GAP_STATUS 0 = true ∧ d.rb R.MTR_GAP_STATUS 1 = false ∧ d.rb R.MTR_GAP_STATUS 2 = s.dev.mtr.gapLocked ∧
      d.rf R.MTR_GAP_STATUS 31 16 = min 65535 (s.dev.rf R.MTR_GAP_STATUS 31 16 + 1) ∧ s.dev.newEvents d [(Ev.ENERGY_GAP, 0)] ∧
      s.dev.keepsRegs d [R.MTR_GAP_STATUS, R.MTR_GAP_END_LO, R.MTR_GAP_END_HI])

/-! ### The chains (R211 to R256) -/

/-- A chain that may not send, for the role or because it is disabled or without supply, does nothing in a bring-up, a ranging, an eye calibration, an
identity check or an RDM window (R213); none sends a rail strobe or a DMX frame while nothing latches (R445). The motion of a chain ends with its hold
(R247). A bank supply that stays as it was shows its level alone (R242). ENUM of an HLK chain begins the first cycle of its bring-up (R239, R240). An RDM
request is taken by GO, and its end shows the result and is told (R246). -/
def Obligations.ChainsServeWhileTheyMaySend : Prop :=
  ∀ (s : State) (c : Nat), c < 512 →
    (sends s.dev = false ∨ chainLive s.dev c = false →
      (∀ recs, s.runs (.bringupCycle c recs) fun d => d = s.dev) ∧ (∀ r0 rn recs, s.runs (.rangeDone c r0 rn recs) fun d => d = s.dev) ∧
      (∀ clean ok, s.runs (.eyeCalDone c clean ok) fun d => d = s.dev) ∧ (∀ r0 rn, s.runs (.driftRanging c r0 rn) fun d => d = s.dev) ∧
      (∀ recs, s.runs (.identityCheck c recs) fun d => d = s.dev) ∧ (∀ found refused, s.runs (.rdmWindow c found refused) fun d => d = s.dev) ∧
      (∀ ack, (s.dev.chain c).turned = none → s.runs (.readbackTurn c ack) fun d => d = s.dev)) ∧
    (noLatches s.dev = true → s.runs (.railStrobe c) (fun d => d = s.dev) ∧ s.runs (.dmxFrameStart c) fun d =>
      d.bat = s.dev.bat ∧ s.dev.keepsRegs d [] ∧ (pairActive s.dev = false → d = s.dev)) ∧
    ((s.dev.chain c).turned = none → ∀ recs, s.runs (.readbackStreamRx c recs) fun d => d = s.dev) ∧
    ((s.dev.chain c).motionEnd = none → s.runs (.motionHoldExpiry c) fun d => d = s.dev) ∧
    (∀ t, (s.dev.chain c).motionEnd = some t → s.runs (.motionHoldExpiry c) fun d => d.clock = max s.dev.clock t ∧ (d.chain c).motionEnd = none ∧
      d.rb (R.BAT_CHn_STATUS c) 5 = false ∧ s.dev.keepsRegs d [R.BAT_CHn_STATUS c] ∧
      s.dev.newEvents d (if s.dev.rb (R.BAT_CHn_STATUS c) 5 then [(Ev.MOTION_CHANGE, pay2 c 0)] else [])) ∧
    (∀ b mv, b < 16 → s.dev.rb (R.BAT_BANKb_STATUS b) 0 = supplyOk mv → s.runs (.bankSupply b mv) fun d =>
      d.rb (R.BAT_BANKb_STATUS b) 0 = supplyOk mv ∧ d.rb (R.BAT_BANKb_STATUS b) 1 = decide (3135 ≤ mv) ∧ d.bat = s.dev.bat ∧
      s.dev.keepsRegs d [R.BAT_BANKb_STATUS b] ∧ s.dev.newEvents d []) ∧
    (∀ (w : Who) (v : Word), writeCode s.dev w (R.BAT_CHn_CMD c) v (batHandler w (R.BAT_CHn_CMD c) v) = .ok → wbit v 0 = true → sends s.dev = true →
      chainLive s.dev c = true → chainMode s.dev.reg c = 0 → s.runs (.chainEnum w c v) fun d =>
        d.chain c = { s.dev.chain c with job := some (.bringup 1 0), stage := none, misses := [], turned := none } ∧
        d.rb (R.BAT_CHn_CMD c) 0 = true ∧ s.dev.keepsRegs d [R.BAT_CHn_CMD c]) ∧
    (∀ (w : Who) (v : Word), writeCode s.dev w R.BAT_RDM_CTRL v (batHandler w R.BAT_RDM_CTRL v) = .ok → wbit v 16 = true → s.runs (.rdmGo w v) fun d =>
      d.rb R.BAT_RDM_CTRL 17 = true ∧ d.rf R.BAT_RDM_CTRL 21 20 = 0 ∧ ∃ req, d.bat = { s.dev.bat with rdm := some (wfld v 8 0, req) }) ∧
    (∀ result resp, (s.dev.bat.rdm = none → s.runs (.rdmDone result resp) fun d => d = s.dev) ∧
      (∀ ch req, s.dev.bat.rdm = some (ch, req) → s.runs (.rdmDone result resp) fun d => d.bat = { s.dev.bat with rdm := none } ∧
        d.rb R.BAT_RDM_CTRL 17 = false ∧ d.rf R.BAT_RDM_CTRL 21 20 = result % 4 ∧ (∃ e ∈ d.evt.raised, e.ev = Ev.RDM_DONE ∧ e.payload = pay2 ch (result % 4)) ∧
        (result % 4 ≠ 0 → d.mem = s.dev.mem ∧ s.dev.keepsRegs d [R.BAT_RDM_CTRL])))

/-! ### Headroom and bucks (R257 to R283) -/

/-- A buck channel that does not run answers no switching period, and in brace state or a restart no reference moves (R263, R270). A period of one that
runs shows V_out, I_out and the reference after its ramp; eight periods of over current, or over voltage, end the run with FAULT and BUCK_FAULT (R268 to
R270). EN cleared turns a channel off; EN set, or FAULT cleared while EN is set, starts it from 0, but not in the standby role (R270). A group without
usable records for too long takes the stale correction, once, told by HEADROOM_STALE (R265). The converter's codes are the model's choice (log 63). -/
def Obligations.BucksRunAndFault : Prop :=
  ∀ (s : State) (c : Nat), c < 16 →
    (buckRuns s.dev c = false → ∀ v i, s.runs (.buckPeriod c v i) fun d => d = s.dev) ∧
    (s.dev.rb R.SYS_STATUS 2 = true ∨ s.dev.shw.restarting ≠ none ∨ buckGroup s.dev c = none → s.runs (.buckReferenceChange c) fun d => d = s.dev) ∧
    (buckRuns s.dev c = true → ∀ vsns isns,
      let p := buckStep s.dev c vsns isns
      let shows (d : Device) : Prop := d.rn (R.HDR_Bc_REF c) = p.next.ref / 1000 % 65536 ∧ d.rn (R.HDR_Bc_IOUT c) = p.iout % 65536 ∧
        d.rf (R.HDR_Bc_STATUS c) 31 16 = p.vout % 65536 ∧ d.rb (R.HDR_Bc_STATUS c) 2 = p.oc ∧ d.rb (R.HDR_Bc_STATUS c) 3 = p.ov ∧
        d.rb (R.HDR_Bc_STATUS c) 4 = decide (p.next.ref ≠ 1000 * p.next.target) ∧ s.dev.keepsRegs d [R.HDR_Bc_IOUT c, R.HDR_Bc_REF c, R.HDR_Bc_STATUS c]
      (p.next.ref = rampRef (s.dev.buck c) (s.dev.rf (R.HDR_Bc_RAMP c) 9 0 * s.dev.rf (R.HDR_Bc_PWM c) 11 0) ∧
        p.vout = senseCode vsns * 1200 * s.dev.rf (R.HDR_Bc_SENSE c) 15 0 / 2 ^ 24 ∧
        p.oc = decide (s.dev.rf (R.HDR_Bc_LIMIT c) 11 0 * 4096 < senseCode isns * 1200) ∧
        p.next.ocRun = (if p.oc then (s.dev.buck c).ocRun + 1 else 0) ∧
        p.ov = decide (p.next.ref / 1000 + s.dev.rf (R.HDR_Bc_LIMIT c) 27 16 < p.vout)) ∧
      (8 ≤ p.next.ocRun ∨ p.ov = true → s.runs (.buckPeriod c vsns isns) fun d => shows d ∧ d.rb (R.HDR_Bc_STATUS c) 0 = false ∧
        d.rb (R.HDR_Bc_STATUS c) 1 = true ∧ d.buck c = { p.next with onTime := 0, ocRun := 0 } ∧
        s.dev.newEvents d [(Ev.BUCK_FAULT, payF c (contentNow s.dev))]) ∧
      (p.next.ocRun < 8 → p.ov = false → s.runs (.buckPeriod c vsns isns) fun d => shows d ∧ d.rb (R.HDR_Bc_STATUS c) 0 = true ∧ d.buck c = p.next ∧
        s.dev.newEvents d [])) ∧
    (∀ (w : Who) (v : Word), writeCode s.dev w (R.HDR_Bc_CTRL c) v (hdrHandler w (R.HDR_Bc_CTRL c) v) = .ok →
      (wbit v 0 = false → s.runs (.buckEnable w c v) fun d => s.dev.tookWrite d (R.HDR_Bc_CTRL c) v ∧ d.rb (R.HDR_Bc_STATUS c) 0 = false ∧
        d.buck c = { s.dev.buck c with onTime := 0, ocRun := 0 } ∧ s.dev.keepsRegs d [R.HDR_Bc_CTRL c, R.HDR_Bc_STATUS c]) ∧
      (wbit v 0 = true → s.dev.rb (R.HDR_Bc_CTRL c) 0 = false → inStandby s.dev = false → s.dev.rb (R.HDR_Bc_STATUS c) 1 = false →
        s.runs (.buckEnable w c v) fun d => s.dev.tookWrite d (R.HDR_Bc_CTRL c) v ∧ d.rb (R.HDR_Bc_STATUS c) 0 = true ∧ (d.buck c).ref = 0 ∧
          (d.buck c).accI = 0 ∧ (d.buck c).onTime = 0 ∧ (d.buck c).ocRun = 0 ∧ s.dev.keepsRegs d [R.HDR_Bc_CTRL c, R.HDR_Bc_STATUS c]) ∧
      (wbit v 0 = true → s.dev.rb (R.HDR_Bc_CTRL c) 0 = true ∨ inStandby s.dev = true ∨ s.dev.rb (R.HDR_Bc_STATUS c) 1 = true →
        s.runs (.buckEnable w c v) fun d => s.dev.tookWrite d (R.HDR_Bc_CTRL c) v ∧ d.hdr = s.dev.hdr ∧ s.dev.keepsRegs d [R.HDR_Bc_CTRL c])) ∧
    (∀ (w : Who) (v : Word), writeCode s.dev w (R.HDR_Bc_STATUS c) v (hdrHandler w (R.HDR_Bc_STATUS c) v) = .ok → wbit v 1 = true →
      s.runs (.buckFaultClear w c v) fun d => d.rb (R.HDR_Bc_STATUS c) 1 = false ∧ s.dev.keepsRegs d [R.HDR_Bc_STATUS c] ∧
        (s.dev.rb (R.HDR_Bc_STATUS c) 1 = true → s.dev.rb (R.HDR_Bc_CTRL c) 0 = true → inStandby s.dev = false →
          d.rb (R.HDR_Bc_STATUS c) 0 = true ∧ (d.buck c).ref = 0 ∧ (d.buck c).onTime = 0) ∧
        (s.dev.rb (R.HDR_Bc_STATUS c) 1 = false ∨ s.dev.rb (R.HDR_Bc_CTRL c) 0 = false ∨ inStandby s.dev = true →
          d.rb (R.HDR_Bc_STATUS c) 0 = s.dev.rb (R.HDR_Bc_STATUS c) 0 ∧ d.hdr = s.dev.hdr)) ∧
    (∀ g, g < 4095 →
      let waits := !(s.dev.group g).stale && s.dev.rb R.HDR_CTRL 1 && !inStandby s.dev && (groupOf s.dev s.dev.reg (groupBank s.dev.reg) g).rail && staleDue s.dev g
      (waits = false → s.runs (.headroomStale g) fun d => d = s.dev) ∧
      (waits = true → s.runs (.headroomStale g) fun d =>
        d.group g = { s.dev.group g with corr := max (s.dev.group g).corr (s.dev.rf R.HDR_FB_CFG 27 16), stale := true } ∧
        ∃ e ∈ d.evt.raised, e.ev = Ev.HEADROOM_STALE ∧ e.payload = payF g (contentNow s.dev)))

/-! ### Active and standby (R383 to R423) -/

/-- A solo unit sends and hears nothing of a pair (R387); only a unit in the standby role takes records, deltas, sweeps, mirrored writes, forwarded
writes and repairs, and only one that drives answers a repair request (R395 to R406). A lane goes down when it loses block lock or after three resends,
told by RIDGE_DEGRADED, and returns when it has held lock (R390). A network heartbeat whose tag is wrong is not heard (R392), and a health record counts only
with its length and CRC, and is then shown (R418). A missed ridge heartbeat is counted; without enough of them nothing is lost (R391). A lost network path is
told (R392), and an acknowledged change lets the oldest held response go (R400). -/
def Obligations.PairMembersHearEachOther : Prop :=
  ∀ (s : State) (hb : Heartbeat) (tag rec_ : List Byte),
    (rdgState s.dev = 0 → s.runs .ridgeHeartbeatTx (fun d => d = s.dev) ∧ s.runs (.ridgeHeartbeatRx hb) (fun d => d = s.dev) ∧
      s.runs .ridgeHeartbeatMiss (fun d => d = s.dev) ∧ s.runs .netHeartbeatTx (fun d => d = s.dev) ∧ s.runs (.netHeartbeatRx hb tag) (fun d => d = s.dev) ∧
      s.runs .netPathLost (fun d => d = s.dev) ∧ s.runs .healthRecord (fun d => d = s.dev) ∧ s.runs (.healthRecordRx rec_) fun d => d = s.dev) ∧
    (inStandby s.dev = false → (∀ r, s.runs (.captureRecordRx r) fun d => d = s.dev) ∧ (∀ r, s.runs (.outputRecordRx r) fun d => d = s.dev) ∧
      (∀ r, s.runs (.commitRecordRx r) fun d => d = s.dev) ∧ (∀ off v f, s.runs (.forwardedWriteRx off v f) fun d => d = s.dev) ∧
      (∀ off data, s.runs (.mirrorWriteRx off data) fun d => d = s.dev) ∧ (∀ seq items, s.runs (.deltaRx seq items) fun d => d = s.dev) ∧
      (∀ items pages last, s.runs (.sweepRx items pages last) fun d => d = s.dev) ∧
      ∀ stream seq packet univ values, s.runs (.repairDataRx stream seq packet univ values) fun d => d = s.dev) ∧
    (pairActive s.dev = false → ∀ stream seq, s.runs (.repairRequestRx stream seq) fun d => d = s.dev) ∧
    (s.dev.rdg.awaiting = none → s.runs .capWaitExpiry fun d => d = s.dev) ∧ (s.dev.rdg.evidence = none → s.runs .takeoverWaitExpiry fun d => d = s.dev) ∧
    (∀ k, k < 2 →
      let fell (d : Device) : Prop := d.rb R.RDG_LINK k = false ∧ (∀ j, j < 2 → j ≠ k → d.rb R.RDG_LINK j = s.dev.rb R.RDG_LINK j) ∧
        d.rdg = { s.dev.rdg with resends := s.dev.rdg.resends.del k, downAt := s.dev.rdg.downAt.put k s.dev.clock } ∧
        s.dev.newEvents d [(Ev.RIDGE_DEGRADED, pairPay s.dev 0 k s.dev.shw.frame)]
      (s.dev.rb R.RDG_LINK k = true → s.runs (.ridgeBlockLockLoss k) fun d => fell d ∧ d.reg R.RDG_LINK_ERR = satInc (s.dev.reg R.RDG_LINK_ERR) 1 ∧
        s.dev.keepsRegs d [R.RDG_LINK, R.RDG_LINK_ERR]) ∧
      (s.dev.rb R.RDG_LINK k = true → 3 ≤ s.dev.rdg.resends.getD 0 k → s.runs (.ridgeResendTimeout k) fun d => fell d ∧ s.dev.keepsRegs d [R.RDG_LINK]) ∧
      (s.dev.rb R.RDG_LINK k = true → s.dev.rdg.resends.getD 0 k < 3 → s.runs (.ridgeResendTimeout k) fun d =>
        d.rdg = { s.dev.rdg with resends := s.dev.rdg.resends.put k (s.dev.rdg.resends.getD 0 k + 1) } ∧
        d.rf R.RDG_LINK 15 8 = min 255 (s.dev.rf R.RDG_LINK 15 8 + 1) ∧ s.dev.keepsRegs d [R.RDG_LINK] ∧ s.dev.newEvents d []) ∧
      (s.dev.rb R.RDG_LINK k = false → s.runs (.ridgeResendTimeout k) (fun d => d = s.dev) ∧ s.runs (.ridgeLaneRetrain k true) fun d =>
        d.rb R.RDG_LINK k = true ∧ d.rdg = { s.dev.rdg with downAt := s.dev.rdg.downAt.del k } ∧ s.dev.keepsRegs d [R.RDG_LINK]) ∧
      s.runs (.ridgeLaneRetrain k false) fun d => d = s.dev) ∧
    (tag ≠ hbTag s.dev hb ∨ s.dev.rb R.RDG_CTRL 2 = false → s.runs (.netHeartbeatRx hb tag) fun d => d = s.dev) ∧
    (rec_.length ≠ 64 ∨ leAt rec_ 60 4 ≠ crc32c (rec_.take 60) → s.runs (.healthRecordRx rec_) fun d => d = s.dev) ∧
    (rdgState s.dev ≠ 0 → rec_.length = 64 → leAt rec_ 60 4 = crc32c (rec_.take 60) → s.runs (.healthRecordRx rec_) fun d =>
      (∀ j, j < 16 → d.rn (R.RDG_HEALTH_PEERj j) = leAt rec_ (4 * j) 4 % 2 ^ 32) ∧ ∀ o, (∀ j, j < 16 → o ≠ R.RDG_HEALTH_PEERj j) → d.reg o = s.dev.reg o) ∧
    (rdgState s.dev ≠ 0 → ridgeUp s.dev = false ∨ s.dev.rdg.ridgeMiss < 2 → s.runs .ridgeHeartbeatMiss fun d => d.rdg.ridgeMiss = s.dev.rdg.ridgeMiss + 1 ∧
      d.reg R.RDG_RIDGE_MISS = satInc (s.dev.reg R.RDG_RIDGE_MISS) 1 ∧ s.dev.keepsRegs d [R.RDG_RIDGE_MISS] ∧ s.dev.newEvents d []) ∧
    (rdgState s.dev ≠ 0 → s.runs .netPathLost fun d => d.rb R.RDG_STATUS 7 = false ∧ ∃ e ∈ d.evt.raised, e.ev = Ev.NET_PATH_LOST) ∧
    (s.dev.rdg.held = [] → s.runs .forwardedChangeAcknowledged fun d => d.rdg = { s.dev.rdg with resends := [] } ∧ d.sent = s.dev.sent) ∧
    (∀ slot b rest, s.dev.rdg.held = (slot, b) :: rest → s.runs .forwardedChangeAcknowledged fun d => d.rdg = { s.dev.rdg with resends := [], held := rest } ∧
      d.sent = s.dev.sent ++ if (s.dev.kpr.sessions.find slot).isSome then [⟨.session slot, b.map (·.toNat)⟩] else [])

/-! ### Reset and start-up (R424 to R451) -/

/-- A power-on reset and the loss of VDD_AON return every register to its reset value; every other reset keeps the always-on registers, records its cause
and counts itself (R424). Each loses all memory and work and keeps flash, fuses and settings; the loss of SD or MTR_A clears its bit alone and is told
(R451). An expiry of the watchdog, its warning and its kick act by the time of the last kick (R448); a disabled one does nothing. RESET_RELEASE acts once
after a reset, the runtime starts once in a chosen slot, and the show image loads once after it (R425, R439). -/
def Obligations.ResetsClearAndKeep : Prop :=
  ∀ (s : State) (w : Who) (v : Word),
    let lost (d : Device) : Prop := d.mem = {} ∧ d.shw = {} ∧ d.net = {} ∧ d.que = {} ∧ d.cmp = {} ∧ d.bat = {} ∧ d.hdr = {} ∧ d.pvw = {} ∧ d.kpr = {} ∧
      d.evt = {} ∧ d.rdg = {} ∧ d.hkp = {} ∧ d.upd = {} ∧ d.pipe = [] ∧ d.banked = [] ∧ d.latches = [] ∧ d.sys.released = none ∧ d.sys.slot = none ∧
      d.sys.flash = s.dev.sys.flash ∧ d.sys.minVer = s.dev.sys.minVer ∧ d.pho.ageNewest = s.dev.pho.ageNewest ∧ d.mtr.records = s.dev.mtr.records
    let full (d : Device) : Prop := (∀ o, d.reg o = resetOf o) ∧ lost d ∧ d.sys.full = true ∧ d.sys.settings = s.dev.sys.settings ∧ d.clock = s.dev.clock
    let core (cause : Nat) (d : Device) : Prop := (∀ b, d.rb R.SYS_RESET_CAUSE b = (decide (b = cause) || s.dev.rb R.SYS_RESET_CAUSE b)) ∧
      d.reg R.SYS_RESETS = satInc (s.dev.reg R.SYS_RESETS) 1 ∧
      (∀ o, o ≠ R.SYS_RESET_CAUSE → o ≠ R.SYS_RESETS → d.reg o = if keptRegister o then s.dev.reg o else resetOf o) ∧ lost d ∧
      d.mtr = { s.dev.mtr with saving := none } ∧ d.sys.full = false ∧ d.sys.hot = false
    s.runs .por full ∧ s.runs (.railReset 2) full ∧
    (∀ rail, rail = 5 ∨ rail = 6 → s.runs (.railReset rail) fun d => d.rb R.SYS_RAIL_STATUS rail = false ∧ d.mem = s.dev.mem ∧
      s.dev.keepsRegs d [R.SYS_RAIL_STATUS] ∧ s.dev.newEvents d [(Ev.RAIL_WARN, rail)]) ∧
    (∀ rail, rail < 5 → rail ≠ 2 → s.runs (.railReset rail) fun d => core 1 d ∧ d.clock = s.dev.clock ∧ d.sys.settings = s.dev.sys.settings) ∧
    s.runs .pinReset (fun d => core 2 d ∧ d.clock = s.dev.clock ∧ d.sys.settings = s.dev.sys.settings) ∧
    s.runs .safetyReset (fun d => core 5 d ∧ d.clock = s.dev.clock ∧ d.sys.settings = s.dev.sys.settings) ∧
    (s.dev.rb R.SYS_WDT_CFG 16 = true → s.runs .wdtExpiry (fun d => core 3 d ∧ d.clock = max s.dev.clock (wdtDue s.dev) ∧
      d.sys.settings = s.dev.sys.settings) ∧ s.runs .wdtWarn fun d =>
        d.clock = max s.dev.clock (s.dev.sys.kicked + 500000 * s.dev.rf R.SYS_WDT_CFG 15 0) ∧ s.dev.keepsRegs d [] ∧ d.mem = s.dev.mem ∧
        s.dev.newEvents d [(Ev.WDT_WARN, 0)]) ∧
    (s.dev.rb R.SYS_WDT_CFG 16 = false → s.runs .wdtExpiry (fun d => d = s.dev) ∧ s.runs .wdtWarn fun d => d = s.dev) ∧
    (writeCode s.dev w R.SYS_CMD v (sysHandler w R.SYS_CMD v) = .ok → wbit v 0 = true → s.runs (.softReset w v) fun d => core 4 d ∧
      (wbit v 1 = false → d.sys.settings = s.dev.sys.settings)) ∧
    (writeCode s.dev w R.SYS_WDT_KICK v (sysHandler w R.SYS_WDT_KICK v) = .ok → s.runs (.wdtKick w v) fun d =>
      d.sys = { s.dev.sys with kicked := s.dev.clock } ∧ s.dev.keepsRegs d [] ∧ d.mem = s.dev.mem) ∧
    (∀ unitB bootSvc, (s.dev.sys.released ≠ none ∨ s.dev.sys.hot = true → s.runs (.resetRelease unitB bootSvc) fun d => d = s.dev) ∧
      (s.dev.sys.released = none → s.dev.sys.hot = false → s.runs (.resetRelease unitB true) fun d => d.sys.released = some s.dev.clock ∧
        d.sys.kicked = s.dev.clock ∧ d.rn R.BOOT_STRAPS = b2n unitB + 2 ∧ d.rb R.RDG_UNIT 0 = unitB ∧ d.rf R.BOOT_STATUS 3 0 = 15 ∧
        d.rb R.BOOT_STATUS 6 = true ∧ d.sys.slot = s.dev.sys.slot)) ∧
    (s.dev.sys.slot = none ∨ s.dev.rf R.BOOT_STATUS 3 0 ≠ 0 → s.runs .runtimeStart fun d => d = s.dev) ∧
    (s.dev.rf R.BOOT_STATUS 3 0 ≠ 1 → s.runs .showImageLoad fun d => d = s.dev)

/-! ### Supply, holdup, settings and trials (R432, R440 to R446, R466) -/

/-- A supply warning starts the save, ends what was being written and the holdup test, and, once the raster runs, puts the device into brace state and is
told; while one is being served another changes nothing (R441, R442, R445). The warning record and the power-event record are kept, or their failures
counted and told, and the sequence ends with POWER_SAVE_DONE (R442, R443). On recovery the tally is added, and brace state ends, counted and told
by BROWNOUT (R445); no erase runs that is not due, or before recovery (R443, R445). -/
def Obligations.SupplySavesComplete : Prop :=
  ∀ s : State,
    (s.dev.mtr.tally = true → s.runs .supplyWarning fun d => d = s.dev) ∧
    (s.dev.mtr.tally = false → s.runs .supplyWarning fun d => d.mtr.tally = true ∧ d.mtr.capture ≠ none ∧ d.mtr.saving = none ∧ d.sys.saving = true ∧
      d.sys.saveOk = true ∧ d.sys.warned = s.dev.clock ∧ d.sys.holdup = false ∧ d.upd.writing = none ∧ d.pho.ageSaving = none ∧
      d.rb R.SYS_VMON 16 = true ∧ d.rn R.SYS_PWR_SAVE_STATUS = 0 ∧
      (s.dev.shw.running = false → d.shw = s.dev.shw ∧ d.pipe = s.dev.pipe ∧ d.rb R.SYS_STATUS 2 = s.dev.rb R.SYS_STATUS 2 ∧ d.evt = s.dev.evt) ∧
      (s.dev.shw.running = true → d.rb R.SYS_STATUS 2 = true ∧ d.pipe = [] ∧ ∃ e ∈ d.evt.raised, e.ev = Ev.SUPPLY_WARN)) ∧
    (s.dev.sys.saving = false → (∀ ok, s.runs (.warnRecordDone ok) fun d => d = s.dev) ∧ ∀ ok micros, s.runs (.powerSaveDone ok micros) fun d => d = s.dev) ∧
    (s.dev.sys.saving = true → ∀ ok, let good := ok && s.dev.mtr.capture.isSome && decide (s.dev.mtr.erased ≠ 0)
      s.runs (.warnRecordDone ok) fun d => d.mtr.capture = none ∧ d.sys = { s.dev.sys with saveOk := s.dev.sys.saveOk && good } ∧
        d.rb R.SYS_PWR_SAVE_STATUS 0 = good ∧
        s.dev.newEvents d (if good then [(Ev.WARN_SAVE_DONE, 0)] else if s.dev.mtr.capture.isSome then [(Ev.SAVE_FAIL, 0)] else [])) ∧
    (s.dev.sys.saving = true → ∀ ok micros, let good := ok && (pwrNext s.dev).isSome
      let all := s.dev.sys.saveOk && good && s.dev.mtr.capture.isNone
      s.runs (.powerSaveDone ok micros) fun d => d.clock = max s.dev.clock (s.dev.sys.warned + 1000 * micros) ∧ d.sys.saving = false ∧ d.sys.saveOk = all ∧
        d.rb R.SYS_PWR_SAVE_STATUS 1 = good ∧ d.rf R.SYS_PWR_SAVE_STATUS 31 16 = min 65535 micros ∧
        s.dev.keepsRegs d [R.SYS_PWR_SAVE_STATUS, R.SYS_FLASH_STATUS] ∧
        ∃ p, s.dev.newEvents d ((Ev.POWER_SAVE_DONE, p) :: if all then [] else [(Ev.POWER_SAVE_FAIL, p)])) ∧
    (s.dev.sys.pwrErase = false ∨ s.dev.mtr.tally = true → s.runs .pwrSlotEraseDone fun d => d = s.dev) ∧
    (s.dev.sys.saving = true ∨ s.dev.mtr.tally = false → s.runs .brownout fun d => d = s.dev) ∧
    (s.dev.sys.saving = false → s.dev.mtr.tally = true → s.runs .brownout fun d => d.mtr.tally = false ∧ d.mtr.capture = none ∧
      d.rb R.SYS_VMON 16 = false ∧ (braced s.dev = false → d.evt = s.dev.evt ∧ d.shw = s.dev.shw) ∧
      (braced s.dev = true → d.rb R.SYS_STATUS 2 = false ∧ d.reg R.SYS_BROWNOUTS = satInc (s.dev.reg R.SYS_BROWNOUTS) 1 ∧
        d.rn R.SYS_BRACE_TIME = min 0xFFFFFFFF ((s.dev.clock - s.dev.sys.warned) / 1000000) ∧ ∃ e ∈ d.evt.raised, e.ev = Ev.BROWNOUT))

/-- A holdup test runs when it is asked for or due, and not in brace state; its end releases the pins, shows whether it passed, and is told (R444). The
settings in effect and the ageing copies are saved when asked for (R446). A trial slot is confirmed a minute after its trial began, or by
BOOT_TRIAL.CONFIRM (R432, R466). -/
def Obligations.HoldupSettingsAndTrials : Prop :=
  ∀ (s : State) (w : Who) (v : Word),
    (s.dev.rf R.SYS_HU_PERIOD 10 0 = 0 → s.runs .holdupTestPeriodic fun d => d = s.dev) ∧
    (s.dev.rf R.SYS_HU_PERIOD 10 0 ≠ 0 → s.runs .holdupTestPeriodic fun d =>
      d.clock = max s.dev.clock (s.dev.sys.tested + 60000000000 * s.dev.rf R.SYS_HU_PERIOD 10 0) ∧ s.dev.keepsRegs d [] ∧
      (braced s.dev = true → d.sys = s.dev.sys ∧ d.sent = s.dev.sent) ∧
      (braced s.dev = false → s.dev.sys.holdup = false → d.sys = { s.dev.sys with holdup := true, tested := d.clock } ∧
        d.sent = s.dev.sent ++ [⟨.pin pinHuIso, [1]⟩, ⟨.pin pinHuTest, [1]⟩])) ∧
    (∀ v0 dt, (s.dev.sys.holdup = false → s.runs (.holdupDone v0 dt) fun d => d = s.dev) ∧
      (s.dev.sys.holdup = true → s.dev.upd.checking = false → let pass := decide (300 ≤ (holdupResult s.dev dt).2)
        s.runs (.holdupDone v0 dt) fun d => d.clock = max s.dev.clock (s.dev.sys.tested + dt.getD 5000000) ∧ d.sys = { s.dev.sys with holdup := false } ∧
          d.rb R.SYS_STATUS 5 = pass ∧ d.rb R.SYS_STATUS 6 = true ∧ d.rb R.SYS_CMD 2 = false ∧ d.rn R.SYS_HU_SENSE = min 65535 v0 ∧
          s.dev.keepsRegs d [R.SYS_HU_RESULT, R.SYS_HU_SENSE, R.SYS_STATUS, R.SYS_CMD] ∧
          d.sent = s.dev.sent ++ [⟨.pin pinHuTest, [0]⟩, ⟨.pin pinHuIso, [0]⟩] ∧
          ∃ p, s.dev.newEvents d ((Ev.HOLDUP_DONE, b2n pass) :: if pass then [] else [(Ev.HOLDUP_FAIL, p)]))) ∧
    (writeCode s.dev w R.SYS_CMD v (sysHandler w R.SYS_CMD v) = .ok → wbit v 0 = false →
      let served (d : Device) : Prop := (wbit v 1 = false → d.sys.settings = s.dev.sys.settings) ∧
        (wbit v 1 = true → d.sys.settings = some (s.dev.rf R.UPD_SETTINGS_FMT 15 0, s.dev.regs.filter (fun p => isSetting p.1)) ∧
          ∃ e ∈ d.evt.raised, e.ev = Ev.SETTINGS_SAVED) ∧
        d.sys.holdup = (wbit v 2 || s.dev.sys.holdup) ∧ (wbit v 2 = true → d.rb R.SYS_CMD 2 = true) ∧
        (wbit v 3 = false → d.pho = s.dev.pho) ∧ (wbit v 3 = true → d.pho.ageSaving ≠ none ∧ d.rb R.SYS_CMD 3 = true) ∧
        s.dev.keepsRegs d [R.SYS_CMD, R.UPD_SETTINGS_FMT, R.SYS_SETTINGS_STATUS]
      s.runs (.saveSettings w v) served ∧ s.runs (.holdupTest w v) served ∧ s.runs (.ageSave w v) served) ∧
    (s.dev.sys.trialFrom = none → s.runs .slotConfirm fun d => d = s.dev) ∧
    (∀ t, s.dev.sys.trialFrom = some t → s.runs .slotConfirm fun d => d.clock = max s.dev.clock (t + 60000000000) ∧ d.rb R.BOOT_TRIAL 0 = false ∧
      (s.dev.rb R.BOOT_TRIAL 0 = true → d.sys.trialFrom = none ∧ s.dev.sys.minVer ≤ d.sys.minVer) ∧
      (s.dev.rb R.BOOT_TRIAL 0 = false → d.sys = s.dev.sys)) ∧
    (writeCode s.dev w R.BOOT_TRIAL v (sysHandler w R.BOOT_TRIAL v) = .ok →
      (wbit v 1 = false ∨ s.dev.rb R.BOOT_TRIAL 0 = false → s.runs (.bootTrialConfirm w v) fun d => d.sys = s.dev.sys ∧ s.dev.keepsRegs d []) ∧
      (wbit v 1 = true → s.dev.rb R.BOOT_TRIAL 0 = true → s.runs (.bootTrialConfirm w v) fun d => d.rb R.BOOT_TRIAL 0 = false ∧
        d.sys.trialFrom = none ∧ s.dev.sys.minVer ≤ d.sys.minVer ∧
        s.dev.keepsRegs d [R.BOOT_TRIAL, R.BOOT_FW_VER_A, R.BOOT_FW_VER_B, R.BOOT_FW_STATE]))

/-! ### Field update (R452 to R476) -/

/-- A block over the service port is answered in UPD_BLK_RESULT, begins to be written when it is accepted, and counts when its CRC fails or when it is
stored already (R458, R459); the end of its write frees the unit for the next, and a failed write changes nothing else (R457). DISCARD empties the staging
area (R458). Verification ends in its next state (R461), a failed installation in FAILED, told (R461). Without ready in 500 ms the handover ends the
activation in PAUSED, told (R465). What comes in a state in which it does not belong changes nothing (R461 to R471). -/
def Obligations.UpdatesAreStagedAndEnd : Prop :=
  ∀ (s : State) (w : Who) (v : Word),
    (∀ index data, let p := blockCode s.dev index data false
      s.runs (.dfuDnload index data) fun d => d.rn R.UPD_BLK_RESULT = p.1.num + 256 * b2n p.2 ∧
        d.upd = (if p.1 = .ok ∧ p.2 = false then { s.dev.upd with writing := some (index, data) } else s.dev.upd) ∧
        d.rb R.UPD_CMD 1 = (decide (p.1 = .ok ∧ p.2 = false) || s.dev.rb R.UPD_CMD 1) ∧
        d.reg R.UPD_BLK_CRC_ERR = (if p.1 = .check then satInc (s.dev.reg R.UPD_BLK_CRC_ERR) 1 else s.dev.reg R.UPD_BLK_CRC_ERR) ∧
        d.reg R.UPD_BLK_DUP = (if p.1 = .ok ∧ p.2 = true then satInc (s.dev.reg R.UPD_BLK_DUP) 1 else s.dev.reg R.UPD_BLK_DUP) ∧
        s.dev.keepsRegs d [R.UPD_BLK_RESULT, R.UPD_CMD, R.UPD_BLK_CRC_ERR, R.UPD_BLK_BUSY, R.UPD_BLK_DUP] ∧ d.sys = s.dev.sys) ∧
    (s.runs .dfuDnloadEnd fun d => d.sent = s.dev.sent ++ [⟨.service, [updState s.dev]⟩] ∧ s.dev.keepsRegs d [] ∧ d.upd = s.dev.upd) ∧
    (s.dev.upd.writing = none → ∀ ok, s.runs (.blockWriteDone ok) fun d => d = s.dev) ∧
    (s.dev.upd.writing ≠ none → (s.runs (.blockWriteDone false) fun d => d.rb R.UPD_CMD 1 = false ∧ d.upd = { s.dev.upd with writing := none } ∧
        s.dev.keepsRegs d [R.UPD_CMD] ∧ d.sys = s.dev.sys) ∧
      s.runs (.blockWriteDone true) fun d => d.upd = { s.dev.upd with writing := none }) ∧
    (writeCode s.dev w R.UPD_CMD v (updHandler w R.UPD_CMD v) = .ok → wbit v 0 = true → wbit v 1 = false → wbit v 2 = false →
      s.runs (.updDiscard w v) fun d => (∀ o ∈ [R.UPD_PKG_ID, R.UPD_BLOCKS, R.UPD_MISSING, R.UPD_DONE_MASK, R.UPD_STATE, R.UPD_DRV_PENDING], d.rn o = 0) ∧
        d.rn R.UPD_NEXT_MISSING = 0x7FFFF ∧ d.rn R.UPD_ORDER = 0xFFFFFFFF ∧
        d.upd = { s.dev.upd with writing := none, order := [], checking := false, delivered := [], delivering := [] }) ∧
    (updState s.dev ≠ 2 → s.runs .updVerified fun d => d = s.dev) ∧
    (updState s.dev = 2 → s.runs .updVerified fun d => updState d = match packageCode s.dev with
      | (.ok, _) => if s.dev.rb R.BOOT_TRIAL 0 then 2 else 3
      | (.check, some _) => 1
      | _ => 8) ∧
    (updState s.dev ≠ 3 → ∀ ok, s.runs (.installDone ok) fun d => d = s.dev) ∧
    (updState s.dev = 3 → s.runs (.installDone false) fun d => updState d = 8 ∧ d.rf R.UPD_STATE 15 8 = Code.check.num ∧
      d.reg R.UPD_FAILURES = satInc (s.dev.reg R.UPD_FAILURES) 1 ∧ d.upd = s.dev.upd ∧ s.dev.newEvents d [(Ev.UPD_FAILED, 256 * Code.check.num)]) ∧
    (s.dev.upd.handover = none → (∀ f, s.runs (.fwHandover f) fun d => d = s.dev) ∧ s.runs .handoverTimeout fun d => d = s.dev) ∧
    (∀ t, s.dev.upd.handover = some t → s.runs .handoverTimeout fun d => d.clock = max s.dev.clock (t + 500000000) ∧
      d.upd = { s.dev.upd with handover := none } ∧ updState d = 6 ∧ d.rf R.UPD_STATE 15 8 = Code.timeout.num ∧ d.rb R.UPD_CMD 2 = false ∧
      d.reg R.UPD_FAILURES = satInc (s.dev.reg R.UPD_FAILURES) 1 ∧
      s.dev.newEvents d [(Ev.UPD_FAILED, s.dev.rf R.UPD_STATE 18 16 + 256 * Code.timeout.num)]) ∧
    (s.dev.upd.safetyOld = none → s.runs .safetyStartTimeout fun d => d = s.dev) ∧
    (∀ old k t, s.dev.upd.safetyOld = some (old, k, t) → t + 1000000 < s.dev.clock → s.runs .safetyStartTimeout fun d => d = s.dev) ∧
    (updState s.dev ≠ 5 ∨ s.dev.upd.imageReset = true → s.runs .imageActivate fun d => d = s.dev) ∧
    (∀ c, c < 512 →
      (updState s.dev < 3 ∨ 7 < updState s.dev ∨ sends s.dev = false ∨ chainLive s.dev c = false → ∀ pos good,
        s.runs (.drvPieceDelivery c pos good) fun d => d = s.dev) ∧
      (updState s.dev ≠ 5 ∨ s.dev.upd.drvNow ≠ none ∨ s.dev.upd.drvChains.head? ≠ some c → s.runs (.drvActivate c) fun d => d = s.dev))
end

