-- ==== Sys2Proof/Laws/Sparse.lean ====
section
/-! SUPPORT. Laws of sparse tables: reading after a write, a removal or a splice, and the canonical form that each of them keeps. The
reading laws hold of every table, canonical or not. -/

namespace Sys2Proof.Machine

variable {α : Type}

/-! ### Reading -/

@[simp] theorem Table.find_nil (k : Nat) : Table.find ([] : Table α) k = none := rfl

@[simp] theorem Table.getD_nil (d : α) (k : Nat) : Table.getD ([] : Table α) d k = d := rfl

theorem Table.find_cons (a : Nat) (x : α) (m : Table α) (k : Nat) :
    Table.find ((a, x) :: m) k = if k = a then some x else Table.find m k := rfl

theorem Table.find_put (m : Table α) (k j : Nat) (v : α) :
    (m.put k v).find j = if j = k then some v else m.find j := by
  induction m with
  | nil => simp [Table.put, Table.find_cons]
  | cons p m ih =>
    obtain ⟨a, x⟩ := p
    simp only [Table.put]
    split_ifs with h1 h2 <;> simp only [Table.find_cons, ih] <;> split_ifs <;> first | rfl | omega

theorem Table.find_filter_key (m : Table α) (keep : Nat → Bool) (j : Nat) :
    Table.find (m.filter (fun p => keep p.1)) j = if keep j then m.find j else none := by
  induction m with
  | nil => simp
  | cons p m ih =>
    obtain ⟨a, x⟩ := p
    by_cases ha : keep a <;> simp only [List.filter_cons, ha, if_true, Bool.false_eq_true, if_false, Table.find_cons, ih]
    · by_cases hj : j = a <;> simp_all
    · by_cases hj : j = a <;> simp_all

theorem Table.find_del (m : Table α) (k j : Nat) : (m.del k).find j = if j = k then none else m.find j := by
  have h := Table.find_filter_key m (fun a => decide (a ≠ k)) j
  by_cases hj : j = k <;> simp_all [Table.del]

theorem Table.getD_setD [DecidableEq α] (m : Table α) (d v : α) (k j : Nat) :
    (m.setD d k v).getD d j = if j = k then v else m.getD d j := by
  unfold Table.setD Table.getD
  split_ifs with h1 h2 h2 <;> simp_all [Table.find_del, Table.find_put]

theorem Table.find_append (m n : Table α) (j : Nat) : Table.find (m ++ n) j = (m.find j).or (n.find j) := by
  induction m with
  | nil => simp
  | cons p m ih =>
    obtain ⟨a, x⟩ := p
    simp only [List.cons_append, Table.find_cons, ih]
    split_ifs <;> simp

theorem Table.find_splice (m new : Table α) (lo hi j : Nat) (out : j < lo ∨ hi ≤ j → Table.find new j = none) :
    (m.splice lo hi new).find j = if lo ≤ j ∧ j < hi then new.find j else m.find j := by
  have h1 := Table.find_filter_key m (fun a => decide (a < lo)) j
  have h2 := Table.find_filter_key m (fun a => decide (hi ≤ a)) j
  simp only [decide_eq_true_eq] at h1 h2
  rw [Table.splice, List.append_assoc, Table.find_append, Table.find_append, h1, h2]
  by_cases hlo : j < lo
  · have no : ¬ (lo ≤ j ∧ j < hi) := fun h => absurd h.1 (by omega)
    rw [out (.inl hlo), if_pos hlo, if_neg no]
    split_ifs <;> simp
  · by_cases hhi : hi ≤ j
    · have no : ¬ (lo ≤ j ∧ j < hi) := fun h => absurd h.2 (by omega)
      rw [out (.inr hhi), if_neg hlo, if_pos hhi, if_neg no]; simp
    · rw [if_neg hlo, if_neg hhi, if_pos ⟨by omega, by omega⟩]; simp

/-! ### The canonical form -/

theorem Table.sortedFrom_mono {lo lo' : Nat} (m : Table α) (h : Table.sortedFrom lo m) (le : lo' ≤ lo) : Table.sortedFrom lo' m := by
  cases m with
  | nil => rfl
  | cons p m => simp only [Table.sortedFrom, Bool.and_eq_true, decide_eq_true_eq] at h ⊢; exact ⟨by omega, h.2⟩

theorem Table.sortedFrom_filter (keep : Nat × α → Bool) (m : Table α) {lo : Nat} (h : Table.sortedFrom lo m) :
    Table.sortedFrom lo (m.filter keep) := by
  induction m generalizing lo with
  | nil => rfl
  | cons p m ih =>
    simp only [Table.sortedFrom, Bool.and_eq_true, decide_eq_true_eq] at h
    by_cases hp : keep p
    · simp only [List.filter_cons, hp, if_true, Table.sortedFrom, Bool.and_eq_true, decide_eq_true_eq]
      exact ⟨h.1, ih h.2⟩
    · simp only [List.filter_cons, hp, Bool.false_eq_true, if_false]
      exact Table.sortedFrom_mono _ (ih h.2) (by omega)

theorem Table.sortedFrom_put (m : Table α) {lo k : Nat} (v : α) (h : Table.sortedFrom lo m) (hk : lo ≤ k) :
    Table.sortedFrom lo (m.put k v) := by
  induction m generalizing lo with
  | nil => simp [Table.put, Table.sortedFrom, hk]
  | cons p m ih =>
    obtain ⟨a, x⟩ := p
    simp only [Table.sortedFrom, Bool.and_eq_true, decide_eq_true_eq] at h
    simp only [Table.put]
    split_ifs with h1 h2
    · simp only [Table.sortedFrom, Bool.and_eq_true, decide_eq_true_eq]
      exact ⟨hk, by omega, h.2⟩
    · subst h2
      simpa only [Table.sortedFrom, Bool.and_eq_true, decide_eq_true_eq] using h
    · simp only [Table.sortedFrom, Bool.and_eq_true, decide_eq_true_eq]
      exact ⟨h.1, ih h.2 (by omega)⟩

theorem Table.sortedFrom_append (m n : Table α) {lo mid : Nat} (hm : Table.sortedFrom lo m) (below : ∀ p ∈ m, p.1 < mid)
    (hn : Table.sortedFrom mid n) (le : lo ≤ mid) : Table.sortedFrom lo (m ++ n) := by
  induction m generalizing lo with
  | nil => exact Table.sortedFrom_mono _ hn le
  | cons p m ih =>
    obtain ⟨a, x⟩ := p
    simp only [Table.sortedFrom, List.cons_append, Bool.and_eq_true, decide_eq_true_eq] at hm ⊢
    exact ⟨hm.1, ih hm.2 (fun q hq => below q (by simp [hq])) (below (a, x) (by simp))⟩

theorem Table.sortedFrom_ge (m : Table α) {lo : Nat} (h : Table.sortedFrom lo m) : ∀ p ∈ m, lo ≤ p.1 := by
  induction m generalizing lo with
  | nil => simp
  | cons p m ih =>
    obtain ⟨a, x⟩ := p
    simp only [Table.sortedFrom, Bool.and_eq_true, decide_eq_true_eq] at h
    intro q hq
    rcases List.mem_cons.mp hq with rfl | hq
    · exact h.1
    · have := ih h.2 q hq; omega

theorem Table.sortedFrom_raise (m : Table α) {lo lo' : Nat} (h : Table.sortedFrom lo m) (ge : ∀ p ∈ m, lo' ≤ p.1) :
    Table.sortedFrom lo' m := by
  cases m with
  | nil => rfl
  | cons p m =>
    simp only [Table.sortedFrom, Bool.and_eq_true, decide_eq_true_eq] at h ⊢
    exact ⟨ge p (by simp), h.2⟩

theorem Table.mem_put (m : Table α) (k : Nat) (v : α) : ∀ p ∈ m.put k v, p = (k, v) ∨ p ∈ m := by
  induction m with
  | nil => simp [Table.put]
  | cons q m ih =>
    obtain ⟨a, x⟩ := q
    simp only [Table.put]
    split_ifs with h1 h2 <;> intro p hp
    · simpa using hp
    · rcases List.mem_cons.mp hp with hp | hp
      · exact .inl (by rw [hp, h2])
      · exact .inr (List.mem_cons_of_mem _ hp)
    · rcases List.mem_cons.mp hp with hp | hp
      · exact .inr (by simp [hp])
      · rcases ih p hp with hp | hp
        · exact .inl hp
        · exact .inr (List.mem_cons_of_mem _ hp)

variable [DecidableEq α]

theorem Table.canon_iff (d : Nat → α) (m : Table α) :
    m.canon d ↔ Table.sortedFrom 0 m ∧ ∀ p ∈ m, p.2 ≠ d p.1 := by
  simp [Table.canon]

theorem Table.canon_filter (d : Nat → α) (m : Table α) (keep : Nat × α → Bool) (h : m.canon d) : Table.canon d (m.filter keep) := by
  rw [Table.canon_iff] at h ⊢
  exact ⟨Table.sortedFrom_filter keep m h.1, fun p hp => h.2 p (List.mem_of_mem_filter hp)⟩

theorem Table.canon_put (d : Nat → α) (m : Table α) (k : Nat) (v : α) (h : m.canon d) (hv : v ≠ d k) : (m.put k v).canon d := by
  rw [Table.canon_iff] at h ⊢
  refine ⟨Table.sortedFrom_put m v h.1 (Nat.zero_le k), fun p hp => ?_⟩
  rcases Table.mem_put m k v p hp with rfl | hp
  · exact hv
  · exact h.2 p hp

/-- A write keeps the canonical form. -/
theorem Table.canon_setD (d : Nat → α) (m : Table α) (k : Nat) (v : α) (h : m.canon d) : (m.setD (d k) k v).canon d := by
  unfold Table.setD
  split_ifs with hv
  · exact Table.canon_filter d m _ h
  · exact Table.canon_put d m k v h hv

/-- Replacing a range keeps the canonical form, when what replaces it lies in the range, rises and lists no default. -/
theorem Table.canon_splice (d : Nat → α) (m new : Table α) (lo hi : Nat) (h : m.canon d) (le : lo ≤ hi)
    (rises : Table.sortedFrom lo new) (below : ∀ p ∈ new, p.1 < hi) (listed : ∀ p ∈ new, p.2 ≠ d p.1) :
    (m.splice lo hi new).canon d := by
  rw [Table.canon_iff] at h ⊢
  constructor
  · refine Table.sortedFrom_append (mid := hi) _ _ ?_ ?_ ?_ (Nat.zero_le hi)
    · refine Table.sortedFrom_append (mid := lo) _ _ (Table.sortedFrom_filter _ m h.1) ?_ rises (Nat.zero_le lo)
      intro p hp; simpa using List.of_mem_filter hp
    · intro p hp
      rcases List.mem_append.mp hp with hp | hp
      · have : p.1 < lo := by simpa using List.of_mem_filter hp
        omega
      · exact below p hp
    · refine Table.sortedFrom_raise _ (Table.sortedFrom_filter _ m h.1) ?_
      intro p hp; simpa using List.of_mem_filter hp
  · intro p hp
    rcases List.mem_append.mp hp with hp | hp
    · rcases List.mem_append.mp hp with hp | hp
      · exact h.2 p (List.mem_of_mem_filter hp)
      · exact listed p hp
    · exact h.2 p (List.mem_of_mem_filter hp)

end Sys2Proof.Machine
end

