-- ==== Sys2Proof/Laws/State.lean ====
section
/-! SUPPORT. One lemma for each field of the device and each shared update of it: the fields that an update leaves as they are, and how
an update reads back. -/

namespace Sys2Proof.Machine

variable (s : Device)

/-! ### An update that stores a register: `Device.setReg` -/

@[simp] theorem Device.setReg_before (off : Nat) (v : Word) : (s.setReg off v).before = s.before := rfl
@[simp] theorem Device.setReg_pipe (off : Nat) (v : Word) : (s.setReg off v).pipe = s.pipe := rfl
@[simp] theorem Device.setReg_banked (off : Nat) (v : Word) : (s.setReg off v).banked = s.banked := rfl
@[simp] theorem Device.setReg_latches (off : Nat) (v : Word) : (s.setReg off v).latches = s.latches := rfl
@[simp] theorem Device.setReg_clock (off : Nat) (v : Word) : (s.setReg off v).clock = s.clock := rfl
@[simp] theorem Device.setReg_shw (off : Nat) (v : Word) : (s.setReg off v).shw = s.shw := rfl
@[simp] theorem Device.setReg_net (off : Nat) (v : Word) : (s.setReg off v).net = s.net := rfl
@[simp] theorem Device.setReg_cmp (off : Nat) (v : Word) : (s.setReg off v).cmp = s.cmp := rfl
@[simp] theorem Device.setReg_pho (off : Nat) (v : Word) : (s.setReg off v).pho = s.pho := rfl
@[simp] theorem Device.setReg_bat (off : Nat) (v : Word) : (s.setReg off v).bat = s.bat := rfl
@[simp] theorem Device.setReg_hdr (off : Nat) (v : Word) : (s.setReg off v).hdr = s.hdr := rfl
@[simp] theorem Device.setReg_mtr (off : Nat) (v : Word) : (s.setReg off v).mtr = s.mtr := rfl
@[simp] theorem Device.setReg_pvw (off : Nat) (v : Word) : (s.setReg off v).pvw = s.pvw := rfl
@[simp] theorem Device.setReg_que (off : Nat) (v : Word) : (s.setReg off v).que = s.que := rfl
@[simp] theorem Device.setReg_mem (off : Nat) (v : Word) : (s.setReg off v).mem = s.mem := rfl
@[simp] theorem Device.setReg_kpr (off : Nat) (v : Word) : (s.setReg off v).kpr = s.kpr := rfl
@[simp] theorem Device.setReg_evt (off : Nat) (v : Word) : (s.setReg off v).evt = s.evt := rfl
@[simp] theorem Device.setReg_hkp (off : Nat) (v : Word) : (s.setReg off v).hkp = s.hkp := rfl
@[simp] theorem Device.setReg_sys (off : Nat) (v : Word) : (s.setReg off v).sys = s.sys := rfl
@[simp] theorem Device.setReg_rdg (off : Nat) (v : Word) : (s.setReg off v).rdg = s.rdg := rfl
@[simp] theorem Device.setReg_upd (off : Nat) (v : Word) : (s.setReg off v).upd = s.upd := rfl
@[simp] theorem Device.setReg_resp (off : Nat) (v : Word) : (s.setReg off v).resp = s.resp := rfl
@[simp] theorem Device.setReg_sent (off : Nat) (v : Word) : (s.setReg off v).sent = s.sent := rfl
@[simp] theorem Device.setReg_free (off : Nat) (v : Word) : (s.setReg off v).free = s.free := rfl

/-! ### An update that stores a number in a register: `Device.setN` -/

@[simp] theorem Device.setN_before (off v : Nat) : (s.setN off v).before = s.before := rfl
@[simp] theorem Device.setN_pipe (off v : Nat) : (s.setN off v).pipe = s.pipe := rfl
@[simp] theorem Device.setN_banked (off v : Nat) : (s.setN off v).banked = s.banked := rfl
@[simp] theorem Device.setN_latches (off v : Nat) : (s.setN off v).latches = s.latches := rfl
@[simp] theorem Device.setN_clock (off v : Nat) : (s.setN off v).clock = s.clock := rfl
@[simp] theorem Device.setN_shw (off v : Nat) : (s.setN off v).shw = s.shw := rfl
@[simp] theorem Device.setN_net (off v : Nat) : (s.setN off v).net = s.net := rfl
@[simp] theorem Device.setN_cmp (off v : Nat) : (s.setN off v).cmp = s.cmp := rfl
@[simp] theorem Device.setN_pho (off v : Nat) : (s.setN off v).pho = s.pho := rfl
@[simp] theorem Device.setN_bat (off v : Nat) : (s.setN off v).bat = s.bat := rfl
@[simp] theorem Device.setN_hdr (off v : Nat) : (s.setN off v).hdr = s.hdr := rfl
@[simp] theorem Device.setN_mtr (off v : Nat) : (s.setN off v).mtr = s.mtr := rfl
@[simp] theorem Device.setN_pvw (off v : Nat) : (s.setN off v).pvw = s.pvw := rfl
@[simp] theorem Device.setN_que (off v : Nat) : (s.setN off v).que = s.que := rfl
@[simp] theorem Device.setN_mem (off v : Nat) : (s.setN off v).mem = s.mem := rfl
@[simp] theorem Device.setN_kpr (off v : Nat) : (s.setN off v).kpr = s.kpr := rfl
@[simp] theorem Device.setN_evt (off v : Nat) : (s.setN off v).evt = s.evt := rfl
@[simp] theorem Device.setN_hkp (off v : Nat) : (s.setN off v).hkp = s.hkp := rfl
@[simp] theorem Device.setN_sys (off v : Nat) : (s.setN off v).sys = s.sys := rfl
@[simp] theorem Device.setN_rdg (off v : Nat) : (s.setN off v).rdg = s.rdg := rfl
@[simp] theorem Device.setN_upd (off v : Nat) : (s.setN off v).upd = s.upd := rfl
@[simp] theorem Device.setN_resp (off v : Nat) : (s.setN off v).resp = s.resp := rfl
@[simp] theorem Device.setN_sent (off v : Nat) : (s.setN off v).sent = s.sent := rfl
@[simp] theorem Device.setN_free (off v : Nat) : (s.setN off v).free = s.free := rfl

/-! ### An update that stores a field of a register: `Device.setF` -/

@[simp] theorem Device.setF_before (off hi lo v : Nat) : (s.setF off hi lo v).before = s.before := rfl
@[simp] theorem Device.setF_pipe (off hi lo v : Nat) : (s.setF off hi lo v).pipe = s.pipe := rfl
@[simp] theorem Device.setF_banked (off hi lo v : Nat) : (s.setF off hi lo v).banked = s.banked := rfl
@[simp] theorem Device.setF_latches (off hi lo v : Nat) : (s.setF off hi lo v).latches = s.latches := rfl
@[simp] theorem Device.setF_clock (off hi lo v : Nat) : (s.setF off hi lo v).clock = s.clock := rfl
@[simp] theorem Device.setF_shw (off hi lo v : Nat) : (s.setF off hi lo v).shw = s.shw := rfl
@[simp] theorem Device.setF_net (off hi lo v : Nat) : (s.setF off hi lo v).net = s.net := rfl
@[simp] theorem Device.setF_cmp (off hi lo v : Nat) : (s.setF off hi lo v).cmp = s.cmp := rfl
@[simp] theorem Device.setF_pho (off hi lo v : Nat) : (s.setF off hi lo v).pho = s.pho := rfl
@[simp] theorem Device.setF_bat (off hi lo v : Nat) : (s.setF off hi lo v).bat = s.bat := rfl
@[simp] theorem Device.setF_hdr (off hi lo v : Nat) : (s.setF off hi lo v).hdr = s.hdr := rfl
@[simp] theorem Device.setF_mtr (off hi lo v : Nat) : (s.setF off hi lo v).mtr = s.mtr := rfl
@[simp] theorem Device.setF_pvw (off hi lo v : Nat) : (s.setF off hi lo v).pvw = s.pvw := rfl
@[simp] theorem Device.setF_que (off hi lo v : Nat) : (s.setF off hi lo v).que = s.que := rfl
@[simp] theorem Device.setF_mem (off hi lo v : Nat) : (s.setF off hi lo v).mem = s.mem := rfl
@[simp] theorem Device.setF_kpr (off hi lo v : Nat) : (s.setF off hi lo v).kpr = s.kpr := rfl
@[simp] theorem Device.setF_evt (off hi lo v : Nat) : (s.setF off hi lo v).evt = s.evt := rfl
@[simp] theorem Device.setF_hkp (off hi lo v : Nat) : (s.setF off hi lo v).hkp = s.hkp := rfl
@[simp] theorem Device.setF_sys (off hi lo v : Nat) : (s.setF off hi lo v).sys = s.sys := rfl
@[simp] theorem Device.setF_rdg (off hi lo v : Nat) : (s.setF off hi lo v).rdg = s.rdg := rfl
@[simp] theorem Device.setF_upd (off hi lo v : Nat) : (s.setF off hi lo v).upd = s.upd := rfl
@[simp] theorem Device.setF_resp (off hi lo v : Nat) : (s.setF off hi lo v).resp = s.resp := rfl
@[simp] theorem Device.setF_sent (off hi lo v : Nat) : (s.setF off hi lo v).sent = s.sent := rfl
@[simp] theorem Device.setF_free (off hi lo v : Nat) : (s.setF off hi lo v).free = s.free := rfl

/-! ### An update that stores a bit of a register: `Device.setB` -/

@[simp] theorem Device.setB_before (off i : Nat) (b : Bool) : (s.setB off i b).before = s.before := rfl
@[simp] theorem Device.setB_pipe (off i : Nat) (b : Bool) : (s.setB off i b).pipe = s.pipe := rfl
@[simp] theorem Device.setB_banked (off i : Nat) (b : Bool) : (s.setB off i b).banked = s.banked := rfl
@[simp] theorem Device.setB_latches (off i : Nat) (b : Bool) : (s.setB off i b).latches = s.latches := rfl
@[simp] theorem Device.setB_clock (off i : Nat) (b : Bool) : (s.setB off i b).clock = s.clock := rfl
@[simp] theorem Device.setB_shw (off i : Nat) (b : Bool) : (s.setB off i b).shw = s.shw := rfl
@[simp] theorem Device.setB_net (off i : Nat) (b : Bool) : (s.setB off i b).net = s.net := rfl
@[simp] theorem Device.setB_cmp (off i : Nat) (b : Bool) : (s.setB off i b).cmp = s.cmp := rfl
@[simp] theorem Device.setB_pho (off i : Nat) (b : Bool) : (s.setB off i b).pho = s.pho := rfl
@[simp] theorem Device.setB_bat (off i : Nat) (b : Bool) : (s.setB off i b).bat = s.bat := rfl
@[simp] theorem Device.setB_hdr (off i : Nat) (b : Bool) : (s.setB off i b).hdr = s.hdr := rfl
@[simp] theorem Device.setB_mtr (off i : Nat) (b : Bool) : (s.setB off i b).mtr = s.mtr := rfl
@[simp] theorem Device.setB_pvw (off i : Nat) (b : Bool) : (s.setB off i b).pvw = s.pvw := rfl
@[simp] theorem Device.setB_que (off i : Nat) (b : Bool) : (s.setB off i b).que = s.que := rfl
@[simp] theorem Device.setB_mem (off i : Nat) (b : Bool) : (s.setB off i b).mem = s.mem := rfl
@[simp] theorem Device.setB_kpr (off i : Nat) (b : Bool) : (s.setB off i b).kpr = s.kpr := rfl
@[simp] theorem Device.setB_evt (off i : Nat) (b : Bool) : (s.setB off i b).evt = s.evt := rfl
@[simp] theorem Device.setB_hkp (off i : Nat) (b : Bool) : (s.setB off i b).hkp = s.hkp := rfl
@[simp] theorem Device.setB_sys (off i : Nat) (b : Bool) : (s.setB off i b).sys = s.sys := rfl
@[simp] theorem Device.setB_rdg (off i : Nat) (b : Bool) : (s.setB off i b).rdg = s.rdg := rfl
@[simp] theorem Device.setB_upd (off i : Nat) (b : Bool) : (s.setB off i b).upd = s.upd := rfl
@[simp] theorem Device.setB_resp (off i : Nat) (b : Bool) : (s.setB off i b).resp = s.resp := rfl
@[simp] theorem Device.setB_sent (off i : Nat) (b : Bool) : (s.setB off i b).sent = s.sent := rfl
@[simp] theorem Device.setB_free (off i : Nat) (b : Bool) : (s.setB off i b).free = s.free := rfl

/-! ### An update that stores a register pair: `Device.set64` -/

@[simp] theorem Device.set64_before (lo hi v : Nat) : (s.set64 lo hi v).before = s.before := rfl
@[simp] theorem Device.set64_pipe (lo hi v : Nat) : (s.set64 lo hi v).pipe = s.pipe := rfl
@[simp] theorem Device.set64_banked (lo hi v : Nat) : (s.set64 lo hi v).banked = s.banked := rfl
@[simp] theorem Device.set64_latches (lo hi v : Nat) : (s.set64 lo hi v).latches = s.latches := rfl
@[simp] theorem Device.set64_clock (lo hi v : Nat) : (s.set64 lo hi v).clock = s.clock := rfl
@[simp] theorem Device.set64_shw (lo hi v : Nat) : (s.set64 lo hi v).shw = s.shw := rfl
@[simp] theorem Device.set64_net (lo hi v : Nat) : (s.set64 lo hi v).net = s.net := rfl
@[simp] theorem Device.set64_cmp (lo hi v : Nat) : (s.set64 lo hi v).cmp = s.cmp := rfl
@[simp] theorem Device.set64_pho (lo hi v : Nat) : (s.set64 lo hi v).pho = s.pho := rfl
@[simp] theorem Device.set64_bat (lo hi v : Nat) : (s.set64 lo hi v).bat = s.bat := rfl
@[simp] theorem Device.set64_hdr (lo hi v : Nat) : (s.set64 lo hi v).hdr = s.hdr := rfl
@[simp] theorem Device.set64_mtr (lo hi v : Nat) : (s.set64 lo hi v).mtr = s.mtr := rfl
@[simp] theorem Device.set64_pvw (lo hi v : Nat) : (s.set64 lo hi v).pvw = s.pvw := rfl
@[simp] theorem Device.set64_que (lo hi v : Nat) : (s.set64 lo hi v).que = s.que := rfl
@[simp] theorem Device.set64_mem (lo hi v : Nat) : (s.set64 lo hi v).mem = s.mem := rfl
@[simp] theorem Device.set64_kpr (lo hi v : Nat) : (s.set64 lo hi v).kpr = s.kpr := rfl
@[simp] theorem Device.set64_evt (lo hi v : Nat) : (s.set64 lo hi v).evt = s.evt := rfl
@[simp] theorem Device.set64_hkp (lo hi v : Nat) : (s.set64 lo hi v).hkp = s.hkp := rfl
@[simp] theorem Device.set64_sys (lo hi v : Nat) : (s.set64 lo hi v).sys = s.sys := rfl
@[simp] theorem Device.set64_rdg (lo hi v : Nat) : (s.set64 lo hi v).rdg = s.rdg := rfl
@[simp] theorem Device.set64_upd (lo hi v : Nat) : (s.set64 lo hi v).upd = s.upd := rfl
@[simp] theorem Device.set64_resp (lo hi v : Nat) : (s.set64 lo hi v).resp = s.resp := rfl
@[simp] theorem Device.set64_sent (lo hi v : Nat) : (s.set64 lo hi v).sent = s.sent := rfl
@[simp] theorem Device.set64_free (lo hi v : Nat) : (s.set64 lo hi v).free = s.free := rfl

/-! ### An update that advances a counter: `Device.count` -/

@[simp] theorem Device.count_before (off n : Nat) : (s.count off n).before = s.before := rfl
@[simp] theorem Device.count_pipe (off n : Nat) : (s.count off n).pipe = s.pipe := rfl
@[simp] theorem Device.count_banked (off n : Nat) : (s.count off n).banked = s.banked := rfl
@[simp] theorem Device.count_latches (off n : Nat) : (s.count off n).latches = s.latches := rfl
@[simp] theorem Device.count_clock (off n : Nat) : (s.count off n).clock = s.clock := rfl
@[simp] theorem Device.count_shw (off n : Nat) : (s.count off n).shw = s.shw := rfl
@[simp] theorem Device.count_net (off n : Nat) : (s.count off n).net = s.net := rfl
@[simp] theorem Device.count_cmp (off n : Nat) : (s.count off n).cmp = s.cmp := rfl
@[simp] theorem Device.count_pho (off n : Nat) : (s.count off n).pho = s.pho := rfl
@[simp] theorem Device.count_bat (off n : Nat) : (s.count off n).bat = s.bat := rfl
@[simp] theorem Device.count_hdr (off n : Nat) : (s.count off n).hdr = s.hdr := rfl
@[simp] theorem Device.count_mtr (off n : Nat) : (s.count off n).mtr = s.mtr := rfl
@[simp] theorem Device.count_pvw (off n : Nat) : (s.count off n).pvw = s.pvw := rfl
@[simp] theorem Device.count_que (off n : Nat) : (s.count off n).que = s.que := rfl
@[simp] theorem Device.count_mem (off n : Nat) : (s.count off n).mem = s.mem := rfl
@[simp] theorem Device.count_kpr (off n : Nat) : (s.count off n).kpr = s.kpr := rfl
@[simp] theorem Device.count_evt (off n : Nat) : (s.count off n).evt = s.evt := rfl
@[simp] theorem Device.count_hkp (off n : Nat) : (s.count off n).hkp = s.hkp := rfl
@[simp] theorem Device.count_sys (off n : Nat) : (s.count off n).sys = s.sys := rfl
@[simp] theorem Device.count_rdg (off n : Nat) : (s.count off n).rdg = s.rdg := rfl
@[simp] theorem Device.count_upd (off n : Nat) : (s.count off n).upd = s.upd := rfl
@[simp] theorem Device.count_resp (off n : Nat) : (s.count off n).resp = s.resp := rfl
@[simp] theorem Device.count_sent (off n : Nat) : (s.count off n).sent = s.sent := rfl
@[simp] theorem Device.count_free (off n : Nat) : (s.count off n).free = s.free := rfl

/-! ### An update that stores a per-reader register: `Device.setBank` -/

@[simp] theorem Device.setBank_regs (w : Who) (off : Nat) (v : Word) : (s.setBank w off v).regs = s.regs := rfl
@[simp] theorem Device.setBank_before (w : Who) (off : Nat) (v : Word) : (s.setBank w off v).before = s.before := rfl
@[simp] theorem Device.setBank_pipe (w : Who) (off : Nat) (v : Word) : (s.setBank w off v).pipe = s.pipe := rfl
@[simp] theorem Device.setBank_latches (w : Who) (off : Nat) (v : Word) : (s.setBank w off v).latches = s.latches := rfl
@[simp] theorem Device.setBank_clock (w : Who) (off : Nat) (v : Word) : (s.setBank w off v).clock = s.clock := rfl
@[simp] theorem Device.setBank_shw (w : Who) (off : Nat) (v : Word) : (s.setBank w off v).shw = s.shw := rfl
@[simp] theorem Device.setBank_net (w : Who) (off : Nat) (v : Word) : (s.setBank w off v).net = s.net := rfl
@[simp] theorem Device.setBank_cmp (w : Who) (off : Nat) (v : Word) : (s.setBank w off v).cmp = s.cmp := rfl
@[simp] theorem Device.setBank_pho (w : Who) (off : Nat) (v : Word) : (s.setBank w off v).pho = s.pho := rfl
@[simp] theorem Device.setBank_bat (w : Who) (off : Nat) (v : Word) : (s.setBank w off v).bat = s.bat := rfl
@[simp] theorem Device.setBank_hdr (w : Who) (off : Nat) (v : Word) : (s.setBank w off v).hdr = s.hdr := rfl
@[simp] theorem Device.setBank_mtr (w : Who) (off : Nat) (v : Word) : (s.setBank w off v).mtr = s.mtr := rfl
@[simp] theorem Device.setBank_pvw (w : Who) (off : Nat) (v : Word) : (s.setBank w off v).pvw = s.pvw := rfl
@[simp] theorem Device.setBank_que (w : Who) (off : Nat) (v : Word) : (s.setBank w off v).que = s.que := rfl
@[simp] theorem Device.setBank_mem (w : Who) (off : Nat) (v : Word) : (s.setBank w off v).mem = s.mem := rfl
@[simp] theorem Device.setBank_kpr (w : Who) (off : Nat) (v : Word) : (s.setBank w off v).kpr = s.kpr := rfl
@[simp] theorem Device.setBank_evt (w : Who) (off : Nat) (v : Word) : (s.setBank w off v).evt = s.evt := rfl
@[simp] theorem Device.setBank_hkp (w : Who) (off : Nat) (v : Word) : (s.setBank w off v).hkp = s.hkp := rfl
@[simp] theorem Device.setBank_sys (w : Who) (off : Nat) (v : Word) : (s.setBank w off v).sys = s.sys := rfl
@[simp] theorem Device.setBank_rdg (w : Who) (off : Nat) (v : Word) : (s.setBank w off v).rdg = s.rdg := rfl
@[simp] theorem Device.setBank_upd (w : Who) (off : Nat) (v : Word) : (s.setBank w off v).upd = s.upd := rfl
@[simp] theorem Device.setBank_resp (w : Who) (off : Nat) (v : Word) : (s.setBank w off v).resp = s.resp := rfl
@[simp] theorem Device.setBank_sent (w : Who) (off : Nat) (v : Word) : (s.setBank w off v).sent = s.sent := rfl
@[simp] theorem Device.setBank_free (w : Who) (off : Nat) (v : Word) : (s.setBank w off v).free = s.free := rfl

/-! ### An update that latches a value: `Device.latch` -/

@[simp] theorem Device.latch_regs (w : Who) (off : Nat) (v : Word) : (s.latch w off v).regs = s.regs := rfl
@[simp] theorem Device.latch_before (w : Who) (off : Nat) (v : Word) : (s.latch w off v).before = s.before := rfl
@[simp] theorem Device.latch_pipe (w : Who) (off : Nat) (v : Word) : (s.latch w off v).pipe = s.pipe := rfl
@[simp] theorem Device.latch_banked (w : Who) (off : Nat) (v : Word) : (s.latch w off v).banked = s.banked := rfl
@[simp] theorem Device.latch_clock (w : Who) (off : Nat) (v : Word) : (s.latch w off v).clock = s.clock := rfl
@[simp] theorem Device.latch_shw (w : Who) (off : Nat) (v : Word) : (s.latch w off v).shw = s.shw := rfl
@[simp] theorem Device.latch_net (w : Who) (off : Nat) (v : Word) : (s.latch w off v).net = s.net := rfl
@[simp] theorem Device.latch_cmp (w : Who) (off : Nat) (v : Word) : (s.latch w off v).cmp = s.cmp := rfl
@[simp] theorem Device.latch_pho (w : Who) (off : Nat) (v : Word) : (s.latch w off v).pho = s.pho := rfl
@[simp] theorem Device.latch_bat (w : Who) (off : Nat) (v : Word) : (s.latch w off v).bat = s.bat := rfl
@[simp] theorem Device.latch_hdr (w : Who) (off : Nat) (v : Word) : (s.latch w off v).hdr = s.hdr := rfl
@[simp] theorem Device.latch_mtr (w : Who) (off : Nat) (v : Word) : (s.latch w off v).mtr = s.mtr := rfl
@[simp] theorem Device.latch_pvw (w : Who) (off : Nat) (v : Word) : (s.latch w off v).pvw = s.pvw := rfl
@[simp] theorem Device.latch_que (w : Who) (off : Nat) (v : Word) : (s.latch w off v).que = s.que := rfl
@[simp] theorem Device.latch_mem (w : Who) (off : Nat) (v : Word) : (s.latch w off v).mem = s.mem := rfl
@[simp] theorem Device.latch_kpr (w : Who) (off : Nat) (v : Word) : (s.latch w off v).kpr = s.kpr := rfl
@[simp] theorem Device.latch_evt (w : Who) (off : Nat) (v : Word) : (s.latch w off v).evt = s.evt := rfl
@[simp] theorem Device.latch_hkp (w : Who) (off : Nat) (v : Word) : (s.latch w off v).hkp = s.hkp := rfl
@[simp] theorem Device.latch_sys (w : Who) (off : Nat) (v : Word) : (s.latch w off v).sys = s.sys := rfl
@[simp] theorem Device.latch_rdg (w : Who) (off : Nat) (v : Word) : (s.latch w off v).rdg = s.rdg := rfl
@[simp] theorem Device.latch_upd (w : Who) (off : Nat) (v : Word) : (s.latch w off v).upd = s.upd := rfl
@[simp] theorem Device.latch_resp (w : Who) (off : Nat) (v : Word) : (s.latch w off v).resp = s.resp := rfl
@[simp] theorem Device.latch_sent (w : Who) (off : Nat) (v : Word) : (s.latch w off v).sent = s.sent := rfl
@[simp] theorem Device.latch_free (w : Who) (off : Nat) (v : Word) : (s.latch w off v).free = s.free := rfl

/-! ### An update that drops a latched value: `Device.unlatch` -/

@[simp] theorem Device.unlatch_regs (w : Who) (off : Nat) : (s.unlatch w off).regs = s.regs := rfl
@[simp] theorem Device.unlatch_before (w : Who) (off : Nat) : (s.unlatch w off).before = s.before := rfl
@[simp] theorem Device.unlatch_pipe (w : Who) (off : Nat) : (s.unlatch w off).pipe = s.pipe := rfl
@[simp] theorem Device.unlatch_banked (w : Who) (off : Nat) : (s.unlatch w off).banked = s.banked := rfl
@[simp] theorem Device.unlatch_clock (w : Who) (off : Nat) : (s.unlatch w off).clock = s.clock := rfl
@[simp] theorem Device.unlatch_shw (w : Who) (off : Nat) : (s.unlatch w off).shw = s.shw := rfl
@[simp] theorem Device.unlatch_net (w : Who) (off : Nat) : (s.unlatch w off).net = s.net := rfl
@[simp] theorem Device.unlatch_cmp (w : Who) (off : Nat) : (s.unlatch w off).cmp = s.cmp := rfl
@[simp] theorem Device.unlatch_pho (w : Who) (off : Nat) : (s.unlatch w off).pho = s.pho := rfl
@[simp] theorem Device.unlatch_bat (w : Who) (off : Nat) : (s.unlatch w off).bat = s.bat := rfl
@[simp] theorem Device.unlatch_hdr (w : Who) (off : Nat) : (s.unlatch w off).hdr = s.hdr := rfl
@[simp] theorem Device.unlatch_mtr (w : Who) (off : Nat) : (s.unlatch w off).mtr = s.mtr := rfl
@[simp] theorem Device.unlatch_pvw (w : Who) (off : Nat) : (s.unlatch w off).pvw = s.pvw := rfl
@[simp] theorem Device.unlatch_que (w : Who) (off : Nat) : (s.unlatch w off).que = s.que := rfl
@[simp] theorem Device.unlatch_mem (w : Who) (off : Nat) : (s.unlatch w off).mem = s.mem := rfl
@[simp] theorem Device.unlatch_kpr (w : Who) (off : Nat) : (s.unlatch w off).kpr = s.kpr := rfl
@[simp] theorem Device.unlatch_evt (w : Who) (off : Nat) : (s.unlatch w off).evt = s.evt := rfl
@[simp] theorem Device.unlatch_hkp (w : Who) (off : Nat) : (s.unlatch w off).hkp = s.hkp := rfl
@[simp] theorem Device.unlatch_sys (w : Who) (off : Nat) : (s.unlatch w off).sys = s.sys := rfl
@[simp] theorem Device.unlatch_rdg (w : Who) (off : Nat) : (s.unlatch w off).rdg = s.rdg := rfl
@[simp] theorem Device.unlatch_upd (w : Who) (off : Nat) : (s.unlatch w off).upd = s.upd := rfl
@[simp] theorem Device.unlatch_resp (w : Who) (off : Nat) : (s.unlatch w off).resp = s.resp := rfl
@[simp] theorem Device.unlatch_sent (w : Who) (off : Nat) : (s.unlatch w off).sent = s.sent := rfl
@[simp] theorem Device.unlatch_free (w : Who) (off : Nat) : (s.unlatch w off).free = s.free := rfl

/-! ### An update that answers: `Device.answer` -/

@[simp] theorem Device.answer_regs (c : Code) : (s.answer c).regs = s.regs := rfl
@[simp] theorem Device.answer_before (c : Code) : (s.answer c).before = s.before := rfl
@[simp] theorem Device.answer_pipe (c : Code) : (s.answer c).pipe = s.pipe := rfl
@[simp] theorem Device.answer_banked (c : Code) : (s.answer c).banked = s.banked := rfl
@[simp] theorem Device.answer_latches (c : Code) : (s.answer c).latches = s.latches := rfl
@[simp] theorem Device.answer_clock (c : Code) : (s.answer c).clock = s.clock := rfl
@[simp] theorem Device.answer_shw (c : Code) : (s.answer c).shw = s.shw := rfl
@[simp] theorem Device.answer_net (c : Code) : (s.answer c).net = s.net := rfl
@[simp] theorem Device.answer_cmp (c : Code) : (s.answer c).cmp = s.cmp := rfl
@[simp] theorem Device.answer_pho (c : Code) : (s.answer c).pho = s.pho := rfl
@[simp] theorem Device.answer_bat (c : Code) : (s.answer c).bat = s.bat := rfl
@[simp] theorem Device.answer_hdr (c : Code) : (s.answer c).hdr = s.hdr := rfl
@[simp] theorem Device.answer_mtr (c : Code) : (s.answer c).mtr = s.mtr := rfl
@[simp] theorem Device.answer_pvw (c : Code) : (s.answer c).pvw = s.pvw := rfl
@[simp] theorem Device.answer_que (c : Code) : (s.answer c).que = s.que := rfl
@[simp] theorem Device.answer_mem (c : Code) : (s.answer c).mem = s.mem := rfl
@[simp] theorem Device.answer_kpr (c : Code) : (s.answer c).kpr = s.kpr := rfl
@[simp] theorem Device.answer_evt (c : Code) : (s.answer c).evt = s.evt := rfl
@[simp] theorem Device.answer_hkp (c : Code) : (s.answer c).hkp = s.hkp := rfl
@[simp] theorem Device.answer_sys (c : Code) : (s.answer c).sys = s.sys := rfl
@[simp] theorem Device.answer_rdg (c : Code) : (s.answer c).rdg = s.rdg := rfl
@[simp] theorem Device.answer_upd (c : Code) : (s.answer c).upd = s.upd := rfl
@[simp] theorem Device.answer_sent (c : Code) : (s.answer c).sent = s.sent := rfl
@[simp] theorem Device.answer_free (c : Code) : (s.answer c).free = s.free := rfl

/-! ### An update that answers with data: `Device.answerD` -/

@[simp] theorem Device.answerD_regs (c : Code) (d : List Word) : (s.answerD c d).regs = s.regs := rfl
@[simp] theorem Device.answerD_before (c : Code) (d : List Word) : (s.answerD c d).before = s.before := rfl
@[simp] theorem Device.answerD_pipe (c : Code) (d : List Word) : (s.answerD c d).pipe = s.pipe := rfl
@[simp] theorem Device.answerD_banked (c : Code) (d : List Word) : (s.answerD c d).banked = s.banked := rfl
@[simp] theorem Device.answerD_latches (c : Code) (d : List Word) : (s.answerD c d).latches = s.latches := rfl
@[simp] theorem Device.answerD_clock (c : Code) (d : List Word) : (s.answerD c d).clock = s.clock := rfl
@[simp] theorem Device.answerD_shw (c : Code) (d : List Word) : (s.answerD c d).shw = s.shw := rfl
@[simp] theorem Device.answerD_net (c : Code) (d : List Word) : (s.answerD c d).net = s.net := rfl
@[simp] theorem Device.answerD_cmp (c : Code) (d : List Word) : (s.answerD c d).cmp = s.cmp := rfl
@[simp] theorem Device.answerD_pho (c : Code) (d : List Word) : (s.answerD c d).pho = s.pho := rfl
@[simp] theorem Device.answerD_bat (c : Code) (d : List Word) : (s.answerD c d).bat = s.bat := rfl
@[simp] theorem Device.answerD_hdr (c : Code) (d : List Word) : (s.answerD c d).hdr = s.hdr := rfl
@[simp] theorem Device.answerD_mtr (c : Code) (d : List Word) : (s.answerD c d).mtr = s.mtr := rfl
@[simp] theorem Device.answerD_pvw (c : Code) (d : List Word) : (s.answerD c d).pvw = s.pvw := rfl
@[simp] theorem Device.answerD_que (c : Code) (d : List Word) : (s.answerD c d).que = s.que := rfl
@[simp] theorem Device.answerD_mem (c : Code) (d : List Word) : (s.answerD c d).mem = s.mem := rfl
@[simp] theorem Device.answerD_kpr (c : Code) (d : List Word) : (s.answerD c d).kpr = s.kpr := rfl
@[simp] theorem Device.answerD_evt (c : Code) (d : List Word) : (s.answerD c d).evt = s.evt := rfl
@[simp] theorem Device.answerD_hkp (c : Code) (d : List Word) : (s.answerD c d).hkp = s.hkp := rfl
@[simp] theorem Device.answerD_sys (c : Code) (d : List Word) : (s.answerD c d).sys = s.sys := rfl
@[simp] theorem Device.answerD_rdg (c : Code) (d : List Word) : (s.answerD c d).rdg = s.rdg := rfl
@[simp] theorem Device.answerD_upd (c : Code) (d : List Word) : (s.answerD c d).upd = s.upd := rfl
@[simp] theorem Device.answerD_sent (c : Code) (d : List Word) : (s.answerD c d).sent = s.sent := rfl
@[simp] theorem Device.answerD_free (c : Code) (d : List Word) : (s.answerD c d).free = s.free := rfl

/-! ### An update that answers with a failing register: `Device.answerAt` -/

@[simp] theorem Device.answerAt_regs (c : Code) (off : Nat) : (s.answerAt c off).regs = s.regs := rfl
@[simp] theorem Device.answerAt_before (c : Code) (off : Nat) : (s.answerAt c off).before = s.before := rfl
@[simp] theorem Device.answerAt_pipe (c : Code) (off : Nat) : (s.answerAt c off).pipe = s.pipe := rfl
@[simp] theorem Device.answerAt_banked (c : Code) (off : Nat) : (s.answerAt c off).banked = s.banked := rfl
@[simp] theorem Device.answerAt_latches (c : Code) (off : Nat) : (s.answerAt c off).latches = s.latches := rfl
@[simp] theorem Device.answerAt_clock (c : Code) (off : Nat) : (s.answerAt c off).clock = s.clock := rfl
@[simp] theorem Device.answerAt_shw (c : Code) (off : Nat) : (s.answerAt c off).shw = s.shw := rfl
@[simp] theorem Device.answerAt_net (c : Code) (off : Nat) : (s.answerAt c off).net = s.net := rfl
@[simp] theorem Device.answerAt_cmp (c : Code) (off : Nat) : (s.answerAt c off).cmp = s.cmp := rfl
@[simp] theorem Device.answerAt_pho (c : Code) (off : Nat) : (s.answerAt c off).pho = s.pho := rfl
@[simp] theorem Device.answerAt_bat (c : Code) (off : Nat) : (s.answerAt c off).bat = s.bat := rfl
@[simp] theorem Device.answerAt_hdr (c : Code) (off : Nat) : (s.answerAt c off).hdr = s.hdr := rfl
@[simp] theorem Device.answerAt_mtr (c : Code) (off : Nat) : (s.answerAt c off).mtr = s.mtr := rfl
@[simp] theorem Device.answerAt_pvw (c : Code) (off : Nat) : (s.answerAt c off).pvw = s.pvw := rfl
@[simp] theorem Device.answerAt_que (c : Code) (off : Nat) : (s.answerAt c off).que = s.que := rfl
@[simp] theorem Device.answerAt_mem (c : Code) (off : Nat) : (s.answerAt c off).mem = s.mem := rfl
@[simp] theorem Device.answerAt_kpr (c : Code) (off : Nat) : (s.answerAt c off).kpr = s.kpr := rfl
@[simp] theorem Device.answerAt_evt (c : Code) (off : Nat) : (s.answerAt c off).evt = s.evt := rfl
@[simp] theorem Device.answerAt_hkp (c : Code) (off : Nat) : (s.answerAt c off).hkp = s.hkp := rfl
@[simp] theorem Device.answerAt_sys (c : Code) (off : Nat) : (s.answerAt c off).sys = s.sys := rfl
@[simp] theorem Device.answerAt_rdg (c : Code) (off : Nat) : (s.answerAt c off).rdg = s.rdg := rfl
@[simp] theorem Device.answerAt_upd (c : Code) (off : Nat) : (s.answerAt c off).upd = s.upd := rfl
@[simp] theorem Device.answerAt_sent (c : Code) (off : Nat) : (s.answerAt c off).sent = s.sent := rfl
@[simp] theorem Device.answerAt_free (c : Code) (off : Nat) : (s.answerAt c off).free = s.free := rfl

/-! ### An update that sends: `Device.send` -/

@[simp] theorem Device.send_regs (o : Out) (d : List Nat) : (s.send o d).regs = s.regs := rfl
@[simp] theorem Device.send_before (o : Out) (d : List Nat) : (s.send o d).before = s.before := rfl
@[simp] theorem Device.send_pipe (o : Out) (d : List Nat) : (s.send o d).pipe = s.pipe := rfl
@[simp] theorem Device.send_banked (o : Out) (d : List Nat) : (s.send o d).banked = s.banked := rfl
@[simp] theorem Device.send_latches (o : Out) (d : List Nat) : (s.send o d).latches = s.latches := rfl
@[simp] theorem Device.send_clock (o : Out) (d : List Nat) : (s.send o d).clock = s.clock := rfl
@[simp] theorem Device.send_shw (o : Out) (d : List Nat) : (s.send o d).shw = s.shw := rfl
@[simp] theorem Device.send_net (o : Out) (d : List Nat) : (s.send o d).net = s.net := rfl
@[simp] theorem Device.send_cmp (o : Out) (d : List Nat) : (s.send o d).cmp = s.cmp := rfl
@[simp] theorem Device.send_pho (o : Out) (d : List Nat) : (s.send o d).pho = s.pho := rfl
@[simp] theorem Device.send_bat (o : Out) (d : List Nat) : (s.send o d).bat = s.bat := rfl
@[simp] theorem Device.send_hdr (o : Out) (d : List Nat) : (s.send o d).hdr = s.hdr := rfl
@[simp] theorem Device.send_mtr (o : Out) (d : List Nat) : (s.send o d).mtr = s.mtr := rfl
@[simp] theorem Device.send_pvw (o : Out) (d : List Nat) : (s.send o d).pvw = s.pvw := rfl
@[simp] theorem Device.send_que (o : Out) (d : List Nat) : (s.send o d).que = s.que := rfl
@[simp] theorem Device.send_mem (o : Out) (d : List Nat) : (s.send o d).mem = s.mem := rfl
@[simp] theorem Device.send_kpr (o : Out) (d : List Nat) : (s.send o d).kpr = s.kpr := rfl
@[simp] theorem Device.send_evt (o : Out) (d : List Nat) : (s.send o d).evt = s.evt := rfl
@[simp] theorem Device.send_hkp (o : Out) (d : List Nat) : (s.send o d).hkp = s.hkp := rfl
@[simp] theorem Device.send_sys (o : Out) (d : List Nat) : (s.send o d).sys = s.sys := rfl
@[simp] theorem Device.send_rdg (o : Out) (d : List Nat) : (s.send o d).rdg = s.rdg := rfl
@[simp] theorem Device.send_upd (o : Out) (d : List Nat) : (s.send o d).upd = s.upd := rfl
@[simp] theorem Device.send_resp (o : Out) (d : List Nat) : (s.send o d).resp = s.resp := rfl
@[simp] theorem Device.send_free (o : Out) (d : List Nat) : (s.send o d).free = s.free := rfl

/-! ### An update that sends bytes: `Device.sendBytes` -/

@[simp] theorem Device.sendBytes_regs (o : Out) (d : List Byte) : (s.sendBytes o d).regs = s.regs := rfl
@[simp] theorem Device.sendBytes_before (o : Out) (d : List Byte) : (s.sendBytes o d).before = s.before := rfl
@[simp] theorem Device.sendBytes_pipe (o : Out) (d : List Byte) : (s.sendBytes o d).pipe = s.pipe := rfl
@[simp] theorem Device.sendBytes_banked (o : Out) (d : List Byte) : (s.sendBytes o d).banked = s.banked := rfl
@[simp] theorem Device.sendBytes_latches (o : Out) (d : List Byte) : (s.sendBytes o d).latches = s.latches := rfl
@[simp] theorem Device.sendBytes_clock (o : Out) (d : List Byte) : (s.sendBytes o d).clock = s.clock := rfl
@[simp] theorem Device.sendBytes_shw (o : Out) (d : List Byte) : (s.sendBytes o d).shw = s.shw := rfl
@[simp] theorem Device.sendBytes_net (o : Out) (d : List Byte) : (s.sendBytes o d).net = s.net := rfl
@[simp] theorem Device.sendBytes_cmp (o : Out) (d : List Byte) : (s.sendBytes o d).cmp = s.cmp := rfl
@[simp] theorem Device.sendBytes_pho (o : Out) (d : List Byte) : (s.sendBytes o d).pho = s.pho := rfl
@[simp] theorem Device.sendBytes_bat (o : Out) (d : List Byte) : (s.sendBytes o d).bat = s.bat := rfl
@[simp] theorem Device.sendBytes_hdr (o : Out) (d : List Byte) : (s.sendBytes o d).hdr = s.hdr := rfl
@[simp] theorem Device.sendBytes_mtr (o : Out) (d : List Byte) : (s.sendBytes o d).mtr = s.mtr := rfl
@[simp] theorem Device.sendBytes_pvw (o : Out) (d : List Byte) : (s.sendBytes o d).pvw = s.pvw := rfl
@[simp] theorem Device.sendBytes_que (o : Out) (d : List Byte) : (s.sendBytes o d).que = s.que := rfl
@[simp] theorem Device.sendBytes_mem (o : Out) (d : List Byte) : (s.sendBytes o d).mem = s.mem := rfl
@[simp] theorem Device.sendBytes_kpr (o : Out) (d : List Byte) : (s.sendBytes o d).kpr = s.kpr := rfl
@[simp] theorem Device.sendBytes_evt (o : Out) (d : List Byte) : (s.sendBytes o d).evt = s.evt := rfl
@[simp] theorem Device.sendBytes_hkp (o : Out) (d : List Byte) : (s.sendBytes o d).hkp = s.hkp := rfl
@[simp] theorem Device.sendBytes_sys (o : Out) (d : List Byte) : (s.sendBytes o d).sys = s.sys := rfl
@[simp] theorem Device.sendBytes_rdg (o : Out) (d : List Byte) : (s.sendBytes o d).rdg = s.rdg := rfl
@[simp] theorem Device.sendBytes_upd (o : Out) (d : List Byte) : (s.sendBytes o d).upd = s.upd := rfl
@[simp] theorem Device.sendBytes_resp (o : Out) (d : List Byte) : (s.sendBytes o d).resp = s.resp := rfl
@[simp] theorem Device.sendBytes_free (o : Out) (d : List Byte) : (s.sendBytes o d).free = s.free := rfl

/-! ### An update that raises an event: `Device.raise` -/

@[simp] theorem Device.raise_regs (ev p : Nat) : (s.raise ev p).regs = s.regs := rfl
@[simp] theorem Device.raise_before (ev p : Nat) : (s.raise ev p).before = s.before := rfl
@[simp] theorem Device.raise_pipe (ev p : Nat) : (s.raise ev p).pipe = s.pipe := rfl
@[simp] theorem Device.raise_banked (ev p : Nat) : (s.raise ev p).banked = s.banked := rfl
@[simp] theorem Device.raise_latches (ev p : Nat) : (s.raise ev p).latches = s.latches := rfl
@[simp] theorem Device.raise_clock (ev p : Nat) : (s.raise ev p).clock = s.clock := rfl
@[simp] theorem Device.raise_shw (ev p : Nat) : (s.raise ev p).shw = s.shw := rfl
@[simp] theorem Device.raise_net (ev p : Nat) : (s.raise ev p).net = s.net := rfl
@[simp] theorem Device.raise_cmp (ev p : Nat) : (s.raise ev p).cmp = s.cmp := rfl
@[simp] theorem Device.raise_pho (ev p : Nat) : (s.raise ev p).pho = s.pho := rfl
@[simp] theorem Device.raise_bat (ev p : Nat) : (s.raise ev p).bat = s.bat := rfl
@[simp] theorem Device.raise_hdr (ev p : Nat) : (s.raise ev p).hdr = s.hdr := rfl
@[simp] theorem Device.raise_mtr (ev p : Nat) : (s.raise ev p).mtr = s.mtr := rfl
@[simp] theorem Device.raise_pvw (ev p : Nat) : (s.raise ev p).pvw = s.pvw := rfl
@[simp] theorem Device.raise_que (ev p : Nat) : (s.raise ev p).que = s.que := rfl
@[simp] theorem Device.raise_mem (ev p : Nat) : (s.raise ev p).mem = s.mem := rfl
@[simp] theorem Device.raise_kpr (ev p : Nat) : (s.raise ev p).kpr = s.kpr := rfl
@[simp] theorem Device.raise_hkp (ev p : Nat) : (s.raise ev p).hkp = s.hkp := rfl
@[simp] theorem Device.raise_sys (ev p : Nat) : (s.raise ev p).sys = s.sys := rfl
@[simp] theorem Device.raise_rdg (ev p : Nat) : (s.raise ev p).rdg = s.rdg := rfl
@[simp] theorem Device.raise_upd (ev p : Nat) : (s.raise ev p).upd = s.upd := rfl
@[simp] theorem Device.raise_resp (ev p : Nat) : (s.raise ev p).resp = s.resp := rfl
@[simp] theorem Device.raise_sent (ev p : Nat) : (s.raise ev p).sent = s.sent := rfl
@[simp] theorem Device.raise_free (ev p : Nat) : (s.raise ev p).free = s.free := rfl

/-! ### An update that lets time pass: `Device.elapse` -/

@[simp] theorem Device.elapse_regs (ns : Nat) : (s.elapse ns).regs = s.regs := rfl
@[simp] theorem Device.elapse_before (ns : Nat) : (s.elapse ns).before = s.before := rfl
@[simp] theorem Device.elapse_pipe (ns : Nat) : (s.elapse ns).pipe = s.pipe := rfl
@[simp] theorem Device.elapse_banked (ns : Nat) : (s.elapse ns).banked = s.banked := rfl
@[simp] theorem Device.elapse_latches (ns : Nat) : (s.elapse ns).latches = s.latches := rfl
@[simp] theorem Device.elapse_net (ns : Nat) : (s.elapse ns).net = s.net := rfl
@[simp] theorem Device.elapse_cmp (ns : Nat) : (s.elapse ns).cmp = s.cmp := rfl
@[simp] theorem Device.elapse_pho (ns : Nat) : (s.elapse ns).pho = s.pho := rfl
@[simp] theorem Device.elapse_bat (ns : Nat) : (s.elapse ns).bat = s.bat := rfl
@[simp] theorem Device.elapse_hdr (ns : Nat) : (s.elapse ns).hdr = s.hdr := rfl
@[simp] theorem Device.elapse_mtr (ns : Nat) : (s.elapse ns).mtr = s.mtr := rfl
@[simp] theorem Device.elapse_pvw (ns : Nat) : (s.elapse ns).pvw = s.pvw := rfl
@[simp] theorem Device.elapse_que (ns : Nat) : (s.elapse ns).que = s.que := rfl
@[simp] theorem Device.elapse_mem (ns : Nat) : (s.elapse ns).mem = s.mem := rfl
@[simp] theorem Device.elapse_kpr (ns : Nat) : (s.elapse ns).kpr = s.kpr := rfl
@[simp] theorem Device.elapse_evt (ns : Nat) : (s.elapse ns).evt = s.evt := rfl
@[simp] theorem Device.elapse_hkp (ns : Nat) : (s.elapse ns).hkp = s.hkp := rfl
@[simp] theorem Device.elapse_sys (ns : Nat) : (s.elapse ns).sys = s.sys := rfl
@[simp] theorem Device.elapse_rdg (ns : Nat) : (s.elapse ns).rdg = s.rdg := rfl
@[simp] theorem Device.elapse_upd (ns : Nat) : (s.elapse ns).upd = s.upd := rfl
@[simp] theorem Device.elapse_resp (ns : Nat) : (s.elapse ns).resp = s.resp := rfl
@[simp] theorem Device.elapse_sent (ns : Nat) : (s.elapse ns).sent = s.sent := rfl
@[simp] theorem Device.elapse_free (ns : Nat) : (s.elapse ns).free = s.free := rfl

/-! ### The show phase while time passes -/

@[simp] theorem Device.elapse_shw_frame (ns : Nat) : (s.elapse ns).shw.frame = s.shw.frame := rfl
@[simp] theorem Device.elapse_shw_line (ns : Nat) : (s.elapse ns).shw.line = s.shw.line := rfl
@[simp] theorem Device.elapse_shw_running (ns : Nat) : (s.elapse ns).shw.running = s.shw.running := rfl
@[simp] theorem Device.elapse_shw_rasterStart (ns : Nat) : (s.elapse ns).shw.rasterStart = s.shw.rasterStart := rfl
@[simp] theorem Device.elapse_shw_rasterFrame (ns : Nat) : (s.elapse ns).shw.rasterFrame = s.shw.rasterFrame := rfl
@[simp] theorem Device.elapse_shw_mode (ns : Nat) : (s.elapse ns).shw.mode = s.shw.mode := rfl
@[simp] theorem Device.elapse_shw_modeApplied (ns : Nat) : (s.elapse ns).shw.modeApplied = s.shw.modeApplied := rfl
@[simp] theorem Device.elapse_shw_restarting (ns : Nat) : (s.elapse ns).shw.restarting = s.shw.restarting := rfl
@[simp] theorem Device.elapse_shw_restartFrom (ns : Nat) : (s.elapse ns).shw.restartFrom = s.shw.restartFrom := rfl
@[simp] theorem Device.elapse_shw_sel (ns : Nat) : (s.elapse ns).shw.sel = s.shw.sel := rfl
@[simp] theorem Device.elapse_shw_phase (ns : Nat) : (s.elapse ns).shw.phase = s.shw.phase := rfl
@[simp] theorem Device.elapse_shw_srcs (ns : Nat) : (s.elapse ns).shw.srcs = s.shw.srcs := rfl
@[simp] theorem Device.elapse_shw_ptp (ns : Nat) : (s.elapse ns).shw.ptp = s.shw.ptp := rfl
@[simp] theorem Device.elapse_shw_rate (ns : Nat) : (s.elapse ns).shw.rate = s.shw.rate := rfl
@[simp] theorem Device.elapse_shw_rateAt (ns : Nat) : (s.elapse ns).shw.rateAt = s.shw.rateAt := rfl
@[simp] theorem Device.elapse_shw_rates (ns : Nat) : (s.elapse ns).shw.rates = s.shw.rates := rfl
@[simp] theorem Device.elapse_shw_offset (ns : Nat) : (s.elapse ns).shw.offset = s.shw.offset := rfl
@[simp] theorem Device.elapse_shw_locks (ns : Nat) : (s.elapse ns).shw.locks = s.shw.locks := rfl
@[simp] theorem Device.elapse_shw_stepDue (ns : Nat) : (s.elapse ns).shw.stepDue = s.shw.stepDue := rfl
@[simp] theorem Device.elapse_shw_holdSince (ns : Nat) : (s.elapse ns).shw.holdSince = s.shw.holdSince := rfl
@[simp] theorem Device.elapse_shw_measured (ns : Nat) : (s.elapse ns).shw.measured = s.shw.measured := rfl
@[simp] theorem Device.elapse_shw_ppsSeen (ns : Nat) : (s.elapse ns).shw.ppsSeen = s.shw.ppsSeen := rfl
@[simp] theorem Device.elapse_shw_armedAt (ns : Nat) : (s.elapse ns).shw.armedAt = s.shw.armedAt := rfl
@[simp] theorem Device.elapse_shw_ppsOut (ns : Nat) : (s.elapse ns).shw.ppsOut = s.shw.ppsOut := rfl
@[simp] theorem Device.elapse_shw_commits (ns : Nat) : (s.elapse ns).shw.commits = s.shw.commits := rfl
@[simp] theorem Device.elapse_shw_lastPoint (ns : Nat) : (s.elapse ns).shw.lastPoint = s.shw.lastPoint := rfl
@[simp] theorem Device.elapse_shw_llSwap (ns : Nat) : (s.elapse ns).shw.llSwap = s.shw.llSwap := rfl
@[simp] theorem Device.elapse_shw_snaps (ns : Nat) : (s.elapse ns).shw.snaps = s.shw.snaps := rfl
@[simp] theorem Device.elapse_shw_snapSeq (ns : Nat) : (s.elapse ns).shw.snapSeq = s.shw.snapSeq := rfl

@[simp] theorem Device.elapse_clock (ns : Nat) : (s.elapse ns).clock = s.clock + ns := rfl

/-! ### An update that waits for an instant: `Device.elapseTo` -/

@[simp] theorem Device.elapseTo_regs (t : Nat) : (s.elapseTo t).regs = s.regs := by
  unfold Device.elapseTo; split <;> rfl
@[simp] theorem Device.elapseTo_before (t : Nat) : (s.elapseTo t).before = s.before := by
  unfold Device.elapseTo; split <;> rfl
@[simp] theorem Device.elapseTo_pipe (t : Nat) : (s.elapseTo t).pipe = s.pipe := by
  unfold Device.elapseTo; split <;> rfl
@[simp] theorem Device.elapseTo_banked (t : Nat) : (s.elapseTo t).banked = s.banked := by
  unfold Device.elapseTo; split <;> rfl
@[simp] theorem Device.elapseTo_latches (t : Nat) : (s.elapseTo t).latches = s.latches := by
  unfold Device.elapseTo; split <;> rfl
@[simp] theorem Device.elapseTo_net (t : Nat) : (s.elapseTo t).net = s.net := by
  unfold Device.elapseTo; split <;> rfl
@[simp] theorem Device.elapseTo_cmp (t : Nat) : (s.elapseTo t).cmp = s.cmp := by
  unfold Device.elapseTo; split <;> rfl
@[simp] theorem Device.elapseTo_pho (t : Nat) : (s.elapseTo t).pho = s.pho := by
  unfold Device.elapseTo; split <;> rfl
@[simp] theorem Device.elapseTo_bat (t : Nat) : (s.elapseTo t).bat = s.bat := by
  unfold Device.elapseTo; split <;> rfl
@[simp] theorem Device.elapseTo_hdr (t : Nat) : (s.elapseTo t).hdr = s.hdr := by
  unfold Device.elapseTo; split <;> rfl
@[simp] theorem Device.elapseTo_mtr (t : Nat) : (s.elapseTo t).mtr = s.mtr := by
  unfold Device.elapseTo; split <;> rfl
@[simp] theorem Device.elapseTo_pvw (t : Nat) : (s.elapseTo t).pvw = s.pvw := by
  unfold Device.elapseTo; split <;> rfl
@[simp] theorem Device.elapseTo_que (t : Nat) : (s.elapseTo t).que = s.que := by
  unfold Device.elapseTo; split <;> rfl
@[simp] theorem Device.elapseTo_mem (t : Nat) : (s.elapseTo t).mem = s.mem := by
  unfold Device.elapseTo; split <;> rfl
@[simp] theorem Device.elapseTo_kpr (t : Nat) : (s.elapseTo t).kpr = s.kpr := by
  unfold Device.elapseTo; split <;> rfl
@[simp] theorem Device.elapseTo_evt (t : Nat) : (s.elapseTo t).evt = s.evt := by
  unfold Device.elapseTo; split <;> rfl
@[simp] theorem Device.elapseTo_hkp (t : Nat) : (s.elapseTo t).hkp = s.hkp := by
  unfold Device.elapseTo; split <;> rfl
@[simp] theorem Device.elapseTo_sys (t : Nat) : (s.elapseTo t).sys = s.sys := by
  unfold Device.elapseTo; split <;> rfl
@[simp] theorem Device.elapseTo_rdg (t : Nat) : (s.elapseTo t).rdg = s.rdg := by
  unfold Device.elapseTo; split <;> rfl
@[simp] theorem Device.elapseTo_upd (t : Nat) : (s.elapseTo t).upd = s.upd := by
  unfold Device.elapseTo; split <;> rfl
@[simp] theorem Device.elapseTo_resp (t : Nat) : (s.elapseTo t).resp = s.resp := by
  unfold Device.elapseTo; split <;> rfl
@[simp] theorem Device.elapseTo_sent (t : Nat) : (s.elapseTo t).sent = s.sent := by
  unfold Device.elapseTo; split <;> rfl
@[simp] theorem Device.elapseTo_free (t : Nat) : (s.elapseTo t).free = s.free := by
  unfold Device.elapseTo; split <;> rfl
@[simp] theorem Device.elapseTo_shw_frame (t : Nat) : (s.elapseTo t).shw.frame = s.shw.frame := by
  unfold Device.elapseTo; split <;> rfl
@[simp] theorem Device.elapseTo_shw_line (t : Nat) : (s.elapseTo t).shw.line = s.shw.line := by
  unfold Device.elapseTo; split <;> rfl
@[simp] theorem Device.elapseTo_shw_running (t : Nat) : (s.elapseTo t).shw.running = s.shw.running := by
  unfold Device.elapseTo; split <;> rfl
@[simp] theorem Device.elapseTo_shw_rasterStart (t : Nat) : (s.elapseTo t).shw.rasterStart = s.shw.rasterStart := by
  unfold Device.elapseTo; split <;> rfl
@[simp] theorem Device.elapseTo_shw_rasterFrame (t : Nat) : (s.elapseTo t).shw.rasterFrame = s.shw.rasterFrame := by
  unfold Device.elapseTo; split <;> rfl
@[simp] theorem Device.elapseTo_shw_mode (t : Nat) : (s.elapseTo t).shw.mode = s.shw.mode := by
  unfold Device.elapseTo; split <;> rfl
@[simp] theorem Device.elapseTo_shw_modeApplied (t : Nat) : (s.elapseTo t).shw.modeApplied = s.shw.modeApplied := by
  unfold Device.elapseTo; split <;> rfl
@[simp] theorem Device.elapseTo_shw_restarting (t : Nat) : (s.elapseTo t).shw.restarting = s.shw.restarting := by
  unfold Device.elapseTo; split <;> rfl
@[simp] theorem Device.elapseTo_shw_restartFrom (t : Nat) : (s.elapseTo t).shw.restartFrom = s.shw.restartFrom := by
  unfold Device.elapseTo; split <;> rfl
@[simp] theorem Device.elapseTo_shw_sel (t : Nat) : (s.elapseTo t).shw.sel = s.shw.sel := by
  unfold Device.elapseTo; split <;> rfl
@[simp] theorem Device.elapseTo_shw_phase (t : Nat) : (s.elapseTo t).shw.phase = s.shw.phase := by
  unfold Device.elapseTo; split <;> rfl
@[simp] theorem Device.elapseTo_shw_srcs (t : Nat) : (s.elapseTo t).shw.srcs = s.shw.srcs := by
  unfold Device.elapseTo; split <;> rfl
@[simp] theorem Device.elapseTo_shw_ptp (t : Nat) : (s.elapseTo t).shw.ptp = s.shw.ptp := by
  unfold Device.elapseTo; split <;> rfl
@[simp] theorem Device.elapseTo_shw_rate (t : Nat) : (s.elapseTo t).shw.rate = s.shw.rate := by
  unfold Device.elapseTo; split <;> rfl
@[simp] theorem Device.elapseTo_shw_rateAt (t : Nat) : (s.elapseTo t).shw.rateAt = s.shw.rateAt := by
  unfold Device.elapseTo; split <;> rfl
@[simp] theorem Device.elapseTo_shw_rates (t : Nat) : (s.elapseTo t).shw.rates = s.shw.rates := by
  unfold Device.elapseTo; split <;> rfl
@[simp] theorem Device.elapseTo_shw_offset (t : Nat) : (s.elapseTo t).shw.offset = s.shw.offset := by
  unfold Device.elapseTo; split <;> rfl
@[simp] theorem Device.elapseTo_shw_locks (t : Nat) : (s.elapseTo t).shw.locks = s.shw.locks := by
  unfold Device.elapseTo; split <;> rfl
@[simp] theorem Device.elapseTo_shw_stepDue (t : Nat) : (s.elapseTo t).shw.stepDue = s.shw.stepDue := by
  unfold Device.elapseTo; split <;> rfl
@[simp] theorem Device.elapseTo_shw_holdSince (t : Nat) : (s.elapseTo t).shw.holdSince = s.shw.holdSince := by
  unfold Device.elapseTo; split <;> rfl
@[simp] theorem Device.elapseTo_shw_measured (t : Nat) : (s.elapseTo t).shw.measured = s.shw.measured := by
  unfold Device.elapseTo; split <;> rfl
@[simp] theorem Device.elapseTo_shw_ppsSeen (t : Nat) : (s.elapseTo t).shw.ppsSeen = s.shw.ppsSeen := by
  unfold Device.elapseTo; split <;> rfl
@[simp] theorem Device.elapseTo_shw_armedAt (t : Nat) : (s.elapseTo t).shw.armedAt = s.shw.armedAt := by
  unfold Device.elapseTo; split <;> rfl
@[simp] theorem Device.elapseTo_shw_ppsOut (t : Nat) : (s.elapseTo t).shw.ppsOut = s.shw.ppsOut := by
  unfold Device.elapseTo; split <;> rfl
@[simp] theorem Device.elapseTo_shw_commits (t : Nat) : (s.elapseTo t).shw.commits = s.shw.commits := by
  unfold Device.elapseTo; split <;> rfl
@[simp] theorem Device.elapseTo_shw_lastPoint (t : Nat) : (s.elapseTo t).shw.lastPoint = s.shw.lastPoint := by
  unfold Device.elapseTo; split <;> rfl
@[simp] theorem Device.elapseTo_shw_llSwap (t : Nat) : (s.elapseTo t).shw.llSwap = s.shw.llSwap := by
  unfold Device.elapseTo; split <;> rfl
@[simp] theorem Device.elapseTo_shw_snaps (t : Nat) : (s.elapseTo t).shw.snaps = s.shw.snaps := by
  unfold Device.elapseTo; split <;> rfl
@[simp] theorem Device.elapseTo_shw_snapSeq (t : Nat) : (s.elapseTo t).shw.snapSeq = s.shw.snapSeq := by
  unfold Device.elapseTo; split <;> rfl

/-- Time passes up to the instant, and never runs back. -/
@[simp] theorem Device.elapseTo_clock (t : Nat) : (s.elapseTo t).clock = max s.clock t := by
  unfold Device.elapseTo; split <;> simp <;> omega

/-! ### An event raised when a condition holds: `Device.raiseIf` -/

@[simp] theorem Device.raiseIf_regs (b : Bool) (ev p : Nat) : (s.raiseIf b ev p).regs = s.regs := by
  cases b <;> rfl
@[simp] theorem Device.raiseIf_before (b : Bool) (ev p : Nat) : (s.raiseIf b ev p).before = s.before := by
  cases b <;> rfl
@[simp] theorem Device.raiseIf_pipe (b : Bool) (ev p : Nat) : (s.raiseIf b ev p).pipe = s.pipe := by
  cases b <;> rfl
@[simp] theorem Device.raiseIf_banked (b : Bool) (ev p : Nat) : (s.raiseIf b ev p).banked = s.banked := by
  cases b <;> rfl
@[simp] theorem Device.raiseIf_latches (b : Bool) (ev p : Nat) : (s.raiseIf b ev p).latches = s.latches := by
  cases b <;> rfl
@[simp] theorem Device.raiseIf_clock (b : Bool) (ev p : Nat) : (s.raiseIf b ev p).clock = s.clock := by
  cases b <;> rfl
@[simp] theorem Device.raiseIf_shw (b : Bool) (ev p : Nat) : (s.raiseIf b ev p).shw = s.shw := by
  cases b <;> rfl
@[simp] theorem Device.raiseIf_net (b : Bool) (ev p : Nat) : (s.raiseIf b ev p).net = s.net := by
  cases b <;> rfl
@[simp] theorem Device.raiseIf_cmp (b : Bool) (ev p : Nat) : (s.raiseIf b ev p).cmp = s.cmp := by
  cases b <;> rfl
@[simp] theorem Device.raiseIf_pho (b : Bool) (ev p : Nat) : (s.raiseIf b ev p).pho = s.pho := by
  cases b <;> rfl
@[simp] theorem Device.raiseIf_bat (b : Bool) (ev p : Nat) : (s.raiseIf b ev p).bat = s.bat := by
  cases b <;> rfl
@[simp] theorem Device.raiseIf_hdr (b : Bool) (ev p : Nat) : (s.raiseIf b ev p).hdr = s.hdr := by
  cases b <;> rfl
@[simp] theorem Device.raiseIf_mtr (b : Bool) (ev p : Nat) : (s.raiseIf b ev p).mtr = s.mtr := by
  cases b <;> rfl
@[simp] theorem Device.raiseIf_pvw (b : Bool) (ev p : Nat) : (s.raiseIf b ev p).pvw = s.pvw := by
  cases b <;> rfl
@[simp] theorem Device.raiseIf_que (b : Bool) (ev p : Nat) : (s.raiseIf b ev p).que = s.que := by
  cases b <;> rfl
@[simp] theorem Device.raiseIf_mem (b : Bool) (ev p : Nat) : (s.raiseIf b ev p).mem = s.mem := by
  cases b <;> rfl
@[simp] theorem Device.raiseIf_kpr (b : Bool) (ev p : Nat) : (s.raiseIf b ev p).kpr = s.kpr := by
  cases b <;> rfl
@[simp] theorem Device.raiseIf_hkp (b : Bool) (ev p : Nat) : (s.raiseIf b ev p).hkp = s.hkp := by
  cases b <;> rfl
@[simp] theorem Device.raiseIf_sys (b : Bool) (ev p : Nat) : (s.raiseIf b ev p).sys = s.sys := by
  cases b <;> rfl
@[simp] theorem Device.raiseIf_rdg (b : Bool) (ev p : Nat) : (s.raiseIf b ev p).rdg = s.rdg := by
  cases b <;> rfl
@[simp] theorem Device.raiseIf_upd (b : Bool) (ev p : Nat) : (s.raiseIf b ev p).upd = s.upd := by
  cases b <;> rfl
@[simp] theorem Device.raiseIf_resp (b : Bool) (ev p : Nat) : (s.raiseIf b ev p).resp = s.resp := by
  cases b <;> rfl
@[simp] theorem Device.raiseIf_sent (b : Bool) (ev p : Nat) : (s.raiseIf b ev p).sent = s.sent := by
  cases b <;> rfl
@[simp] theorem Device.raiseIf_free (b : Bool) (ev p : Nat) : (s.raiseIf b ev p).free = s.free := by
  cases b <;> rfl

/-! ### What an update stores -/

@[simp] theorem Device.answer_resp (c : Code) : (s.answer c).resp = { code := c } := rfl
@[simp] theorem Device.answerD_resp (c : Code) (d : List Word) : (s.answerD c d).resp = { code := c, data := d } := rfl
@[simp] theorem Device.answerAt_resp (c : Code) (off : Nat) : (s.answerAt c off).resp = { code := c, off := off } := rfl
@[simp] theorem Device.send_sent (o : Out) (d : List Nat) : (s.send o d).sent = s.sent ++ [⟨o, d⟩] := rfl
@[simp] theorem Device.sendBytes_sent (o : Out) (d : List Byte) : (s.sendBytes o d).sent = s.sent ++ [⟨o, d.map (·.toNat)⟩] := rfl
@[simp] theorem Device.raise_evt_last (ev p : Nat) : (s.raise ev p).evt.last = s.evt.last := rfl
@[simp] theorem Device.raise_evt_raised (ev p : Nat) :
    (s.raise ev p).evt.raised = s.evt.raised ++ [⟨ev, s.clock, s.shw.time, s.shw.frame, s.shw.line, p % 2 ^ 64⟩] := rfl
@[simp] theorem Device.raiseIf_true (ev p : Nat) : s.raiseIf true ev p = s.raise ev p := rfl
@[simp] theorem Device.raiseIf_false (ev p : Nat) : s.raiseIf false ev p = s := rfl
@[simp] theorem Device.when_true (f : Device → Device) : s.when true f = f s := rfl
@[simp] theorem Device.when_false (f : Device → Device) : s.when false f = s := rfl
@[simp] theorem Device.takeFree_fst : s.takeFree.1 = s.free := rfl
@[simp] theorem Device.takeFree_snd_regs : s.takeFree.2.regs = s.regs := rfl
@[simp] theorem Device.takeFree_snd_before : s.takeFree.2.before = s.before := rfl
@[simp] theorem Device.takeFree_snd_pipe : s.takeFree.2.pipe = s.pipe := rfl
@[simp] theorem Device.takeFree_snd_banked : s.takeFree.2.banked = s.banked := rfl
@[simp] theorem Device.takeFree_snd_latches : s.takeFree.2.latches = s.latches := rfl
@[simp] theorem Device.takeFree_snd_clock : s.takeFree.2.clock = s.clock := rfl
@[simp] theorem Device.takeFree_snd_shw : s.takeFree.2.shw = s.shw := rfl
@[simp] theorem Device.takeFree_snd_net : s.takeFree.2.net = s.net := rfl
@[simp] theorem Device.takeFree_snd_cmp : s.takeFree.2.cmp = s.cmp := rfl
@[simp] theorem Device.takeFree_snd_pho : s.takeFree.2.pho = s.pho := rfl
@[simp] theorem Device.takeFree_snd_bat : s.takeFree.2.bat = s.bat := rfl
@[simp] theorem Device.takeFree_snd_hdr : s.takeFree.2.hdr = s.hdr := rfl
@[simp] theorem Device.takeFree_snd_mtr : s.takeFree.2.mtr = s.mtr := rfl
@[simp] theorem Device.takeFree_snd_pvw : s.takeFree.2.pvw = s.pvw := rfl
@[simp] theorem Device.takeFree_snd_que : s.takeFree.2.que = s.que := rfl
@[simp] theorem Device.takeFree_snd_mem : s.takeFree.2.mem = s.mem := rfl
@[simp] theorem Device.takeFree_snd_kpr : s.takeFree.2.kpr = s.kpr := rfl
@[simp] theorem Device.takeFree_snd_evt : s.takeFree.2.evt = s.evt := rfl
@[simp] theorem Device.takeFree_snd_hkp : s.takeFree.2.hkp = s.hkp := rfl
@[simp] theorem Device.takeFree_snd_sys : s.takeFree.2.sys = s.sys := rfl
@[simp] theorem Device.takeFree_snd_rdg : s.takeFree.2.rdg = s.rdg := rfl
@[simp] theorem Device.takeFree_snd_upd : s.takeFree.2.upd = s.upd := rfl
@[simp] theorem Device.takeFree_snd_resp : s.takeFree.2.resp = s.resp := rfl
@[simp] theorem Device.takeFree_snd_sent : s.takeFree.2.sent = s.sent := rfl
@[simp] theorem Device.each_nil {α : Type} (f : Device → α → Device) : s.each [] f = s := rfl
@[simp] theorem Device.each_cons {α : Type} (a : α) (l : List α) (f : Device → α → Device) : s.each (a :: l) f = (f s a).each l f := rfl

/-- What every step of a fold keeps, the fold keeps. -/
theorem Device.each_keeps {α β : Type} (g : Device → β) (l : List α) (f : Device → α → Device) (h : ∀ s, ∀ a ∈ l, g (f s a) = g s) :
    g (s.each l f) = g s := by
  induction l generalizing s with
  | nil => rfl
  | cons a l ih =>
    rw [Device.each_cons, ih (f s a) (fun s b hb => h s b (by simp [hb]))]
    exact h s a (by simp)

/-- What a change keeps, it keeps when it happens under a condition. -/
theorem Device.when_keeps {β : Type} (g : Device → β) (b : Bool) (f : Device → Device) (h : g (f s) = g s) : g (s.when b f) = g s := by
  cases b
  · rfl
  · exact h

end Sys2Proof.Machine
end

