-- ==== Sys2Proof/Laws/Ops.lean ====
section
/-! SUPPORT. Laws of the register file, the per-reader registers and the latches: what is read after a store, and the canonical form. -/

namespace Sys2Proof.Machine

variable (s : Device)

/-! ### Registers -/

theorem readFile_writeFile (m : Table Word) (off j : Nat) (v : Word) :
    readFile (writeFile m off v) j = if j = off then v else readFile m j := by
  have h := Table.getD_setD m (resetOf off) v off j
  unfold readFile writeFile
  by_cases hj : j = off
  · subst hj; simpa [Table.getD] using h
  · unfold Table.setD
    split_ifs <;> simp [Table.find_del, Table.find_put, hj]

theorem writeFile_canon (m : Table Word) (off : Nat) (v : Word) (h : m.canon resetOf) : (writeFile m off v).canon resetOf :=
  Table.canon_setD resetOf m off v h

theorem Device.reg_setReg (off j : Nat) (v : Word) : (s.setReg off v).reg j = if j = off then v else s.reg j :=
  readFile_writeFile s.regs off j v

@[simp] theorem Device.reg_setReg_same (off : Nat) (v : Word) : (s.setReg off v).reg off = v := by simp [Device.reg_setReg]

theorem Device.reg_setReg_other {off j : Nat} (v : Word) (h : j ≠ off) : (s.setReg off v).reg j = s.reg j := by
  simp [Device.reg_setReg, h]

theorem Device.reg_setN (off j v : Nat) : (s.setN off v).reg j = if j = off then BitVec.ofNat 32 v else s.reg j :=
  s.reg_setReg off j _

theorem Device.reg_setF (off hi lo v j : Nat) : (s.setF off hi lo v).reg j = if j = off then setFld (s.reg off) hi lo v else s.reg j :=
  s.reg_setReg off j _

theorem Device.reg_setB (off i j : Nat) (b : Bool) : (s.setB off i b).reg j = if j = off then setBit (s.reg off) i b else s.reg j :=
  s.reg_setReg off j _

theorem Device.reg_count (off n j : Nat) : (s.count off n).reg j = if j = off then satInc (s.reg off) n else s.reg j :=
  s.reg_setReg off j _

theorem Device.reg_set64 (lo hi v j : Nat) : (s.set64 lo hi v).reg j =
    if j = hi then BitVec.ofNat 32 (v / 2 ^ 32) else if j = lo then BitVec.ofNat 32 v else s.reg j := by
  simp only [Device.set64, Device.reg_setN]

/-- Two devices with one register file read alike. -/
theorem Device.reg_congr {s t : Device} (h : s.regs = t.regs) (j : Nat) : s.reg j = t.reg j := by simp [Device.reg, h]

@[simp] theorem Device.reg_answer (c : Code) (j : Nat) : (s.answer c).reg j = s.reg j := rfl
@[simp] theorem Device.reg_answerD (c : Code) (d : List Word) (j : Nat) : (s.answerD c d).reg j = s.reg j := rfl
@[simp] theorem Device.reg_answerAt (c : Code) (off j : Nat) : (s.answerAt c off).reg j = s.reg j := rfl
@[simp] theorem Device.reg_send (o : Out) (d : List Nat) (j : Nat) : (s.send o d).reg j = s.reg j := rfl
@[simp] theorem Device.reg_sendBytes (o : Out) (d : List Byte) (j : Nat) : (s.sendBytes o d).reg j = s.reg j := rfl
@[simp] theorem Device.reg_raise (ev p j : Nat) : (s.raise ev p).reg j = s.reg j := rfl
@[simp] theorem Device.reg_raiseIf (b : Bool) (ev p j : Nat) : (s.raiseIf b ev p).reg j = s.reg j := by cases b <;> rfl
@[simp] theorem Device.reg_elapse (n j : Nat) : (s.elapse n).reg j = s.reg j := rfl
@[simp] theorem Device.reg_elapseTo (t j : Nat) : (s.elapseTo t).reg j = s.reg j := by unfold Device.elapseTo; split <;> rfl
@[simp] theorem Device.reg_latch (w : Who) (o : Nat) (v : Word) (j : Nat) : (s.latch w o v).reg j = s.reg j := rfl
@[simp] theorem Device.reg_unlatch (w : Who) (o j : Nat) : (s.unlatch w o).reg j = s.reg j := rfl
@[simp] theorem Device.reg_setBank (w : Who) (o : Nat) (v : Word) (j : Nat) : (s.setBank w o v).reg j = s.reg j := rfl

/-- A saturating counter goes up by what is added until it holds at its maximum. -/
theorem satInc_toNat (v : Word) (n : Nat) : (satInc v n).toNat = min 0xFFFFFFFF (v.toNat + n) := by
  simp only [satInc, satN, BitVec.toNat_ofNat]
  split <;> omega

/-! ### Latches and per-reader registers -/

theorem Device.latched_latch (w u : Who) (off j : Nat) (v : Word) :
    (s.latch w off v).latched u j = if bankKey (readerNo u) j = bankKey (readerNo w) off then some v else s.latched u j :=
  Table.find_put s.latches _ _ v

@[simp] theorem Device.latched_latch_same (w : Who) (off : Nat) (v : Word) : (s.latch w off v).latched w off = some v := by
  simp [Device.latched_latch]

theorem Device.latched_unlatch (w u : Who) (off j : Nat) :
    (s.unlatch w off).latched u j = if bankKey (readerNo u) j = bankKey (readerNo w) off then none else s.latched u j :=
  Table.find_del s.latches _ _

theorem Device.bankReg_setBank (w : Who) (off : Nat) (v : Word) : (s.setBank w off v).bankReg w off = v := by
  simp only [Device.setBank, Device.bankReg, Table.setD]
  split_ifs with h <;> simp [Table.find_del, Table.find_put, h]

/-- The keys of one reader's registers differ as the offsets do. -/
theorem bankKey_inj (r a b : Nat) : bankKey r a = bankKey r b ↔ a = b := by simp [bankKey]

end Sys2Proof.Machine
end

