-- ==== Sys2Proof/Laws/Access.lean ====
section
/-! SUPPORT. What a command's frame, a unit's check and a register write can do, said once: the provers cite these and unfold none of them. -/

namespace Sys2Proof.Machine

/-! ### Commands on the device -/

theorem State.onDevice_next {st : State} {f : Device → Host.Outcome Device Fault Refusal} {d : Device} (h : f st.dev = .next d) :
    st.onDevice f = .next { st with dev := d } := by simp [State.onDevice, h]

@[simp] theorem State.onDevice_of_next (st : State) (f : Device → Device) :
    (st.onDevice fun s => .next (f s)) = .next { st with dev := f st.dev } := rfl

/-- A unit's command answers a next state exactly when the unit exists. -/
theorem onUnit_eq (b : Bool) (s : Device) : onUnit b s = if b then .next s else .fault .noSuchUnit := rfl

@[simp] theorem onUnit_true (s : Device) : onUnit true s = .next s := rfl

@[simp] theorem onUnit_false (s : Device) : onUnit false s = .fault .noSuchUnit := rfl

/-- A command on the device that answers a next state leaves the queue as it is. -/
theorem State.onDevice_pending {st t : State} {f : Device → Host.Outcome Device Fault Refusal} (h : st.onDevice f = .next t) :
    t.pending = st.pending := by
  unfold State.onDevice at h
  split at h <;> simp_all
  rw [← h]

/-! ### Register writes -/

/-- An accepted write has the register's effect, starts from an answer of OK, and is forwarded (R398). -/
theorem regWrite_ok {s : Device} {w : Who} {off : Nat} {v : Word} {h : Handler} (ok : writeCode s w off v h = .ok) :
    regWrite s w off v h = forwardWrite off v (nextPoint s) (h.effect (s.answer .ok)) := by
  unfold regWrite; rw [if_pos ok]

/-- A rejected write changes what the register's rejection reports and the answer (R12). -/
theorem regWrite_rejected {s : Device} {w : Who} {off : Nat} {v : Word} {h : Handler} (no : writeCode s w off v h ≠ .ok) :
    regWrite s w off v h = (h.reject (writeCode s w off v h) s).answerAt (writeCode s w off v h) off := by
  unfold regWrite; rw [if_neg no]

/-- A forward changes nothing but what is sent. -/
theorem ridgeSend_eq (k : Nat) (d : List Nat) (s : Device) : ridgeSend k d s = { s with sent := (ridgeSend k d s).sent } := by
  unfold ridgeSend Device.when; split <;> rfl

theorem ridgeTell_eq (k : Nat) (d : List Nat) (s : Device) : ridgeTell k d s = { s with sent := (ridgeTell k d s).sent } := by
  unfold ridgeTell
  split
  · exact ridgeSend_eq k d s
  · rfl

theorem forwardWrite_eq (off : Nat) (v : Word) (p : Nat) (s : Device) :
    forwardWrite off v p s = { s with sent := (forwardWrite off v p s).sent } := by
  unfold forwardWrite
  split
  · exact ridgeTell_eq _ _ s
  · rfl

/-- A write outside the registers that R398 names is not forwarded. -/
theorem forwardWrite_of_not (off : Nat) (v : Word) (p : Nat) (s : Device) (h : forwarded off = false) : forwardWrite off v p s = s := by
  simp [forwardWrite, h]

/-- The first code that is not OK in a list is OK exactly when all are. -/
theorem firstCode_eq_ok (l : List Code) : firstCode l = .ok ↔ ∀ c ∈ l, c = .ok := by
  induction l with
  | nil => simp [firstCode]
  | cons c l ih =>
    by_cases hc : c = .ok
    · simp [firstCode, hc, ih]
    · simp [firstCode, hc]

/-- A write is accepted exactly when each kind of check of R520 passes. -/
theorem writeCode_eq_ok (s : Device) (w : Who) (off : Nat) (v : Word) (h : Handler) :
    writeCode s w off v h = .ok ↔
      accessCode s w off v = .ok ∧ h.state s = .ok ∧ offsetValueCode off v = .ok ∧ h.check s = .ok := by
  simp [writeCode, firstCode_eq_ok]

/-- A plain store of a register that is not kept per reader, at its own offset. -/
theorem storeWrite_reg {w : Who} {off : Nat} {v : Word} {s : Device} {r : RegSpec} (h : specAt off = some r) (b : r.banked = false) (j : Nat) :
    (storeWrite w off v s).reg j = if j = off then mergeWrite r (s.reg off) v else s.reg j := by
  simp [storeWrite, h, b, Device.reg_setReg]

/-- A plain store changes the register file or the per-reader registers, and nothing else. -/
theorem storeWrite_eq (w : Who) (off : Nat) (v : Word) (s : Device) :
    storeWrite w off v s = { s with regs := (storeWrite w off v s).regs, banked := (storeWrite w off v s).banked } := by
  unfold storeWrite
  split
  · rfl
  · split <;> rfl

end Sys2Proof.Machine
end

