-- ==== Sys2Proof/Laws/Bits.lean ====
section
/-! SUPPORT. Fields and bits of a register: what is read from one after another has been replaced. -/

namespace Sys2Proof.Machine

/-- A number cut at two places. -/
theorem cut3 (a lo w : Nat) : a = 2 ^ lo * (2 ^ w * (a / 2 ^ lo / 2 ^ w) + a / 2 ^ lo % 2 ^ w) + a % 2 ^ lo := by
  rw [Nat.div_add_mod, Nat.div_add_mod]

/-- A replaced field changes its own bits and no other. -/
theorem testBit_setFld (v : Word) (hi lo x j : Nat) (h : lo ≤ hi) (h32 : hi < 32) :
    (setFld v hi lo x).toNat.testBit j = if lo ≤ j ∧ j ≤ hi then x.testBit (j - lo) else v.toNat.testBit j := by
  unfold setFld
  dsimp only
  rw [Nat.shiftRight_eq_div_pow]
  have hv : v.toNat < 2 ^ 32 := v.isLt
  generalize v.toNat = a at hv ⊢
  generalize hw : hi - lo + 1 = w
  have hp : a - a / 2 ^ lo % 2 ^ w * 2 ^ lo + x % 2 ^ w * 2 ^ lo =
      2 ^ lo * (2 ^ w * (a / 2 ^ lo / 2 ^ w) + x % 2 ^ w) + a % 2 ^ lo := by
    have c := cut3 a lo w
    generalize a / 2 ^ lo / 2 ^ w = t at c ⊢
    generalize a / 2 ^ lo % 2 ^ w = m at c ⊢
    generalize a % 2 ^ lo = l at c ⊢
    generalize x % 2 ^ w = y
    have e1 : 2 ^ lo * (2 ^ w * t + m) = 2 ^ lo * (2 ^ w * t) + m * 2 ^ lo := by ring
    have e2 : 2 ^ lo * (2 ^ w * t + y) = 2 ^ lo * (2 ^ w * t) + y * 2 ^ lo := by ring
    omega
  rw [hp]
  have key : ∀ m, m < 2 ^ w → ∀ i, (2 ^ lo * (2 ^ w * (a / 2 ^ lo / 2 ^ w) + m) + a % 2 ^ lo).testBit i =
      if i < lo then a.testBit i else if i - lo < w then m.testBit (i - lo) else a.testBit i := by
    intro m hm i
    rw [Nat.testBit_two_pow_mul_add _ (Nat.mod_lt _ (Nat.two_pow_pos lo))]
    by_cases hi' : i < lo
    · simp [hi', Nat.testBit_mod_two_pow]
    · rw [if_neg hi', if_neg hi', Nat.testBit_two_pow_mul_add _ hm]
      by_cases hw' : i - lo < w
      · rw [if_pos hw', if_pos hw']
      · rw [if_neg hw', if_neg hw', Nat.testBit_div_two_pow, Nat.testBit_div_two_pow]
        congr 1; omega
  rw [BitVec.toNat_ofNat, Nat.testBit_mod_two_pow, key _ (Nat.mod_lt _ (Nat.two_pow_pos w))]
  have ha : ∀ i, 32 ≤ i → a.testBit i = false := fun i hi => Nat.testBit_lt_two_pow (hv.trans_le (Nat.pow_le_pow_right (by decide) hi))
  by_cases hj : j < 32
  · rw [decide_eq_true hj, Bool.true_and]
    by_cases h1 : j < lo
    · rw [if_pos h1, if_neg (by omega)]
    · rw [if_neg h1]
      by_cases h2 : j - lo < w
      · rw [if_pos h2, if_pos (by omega), Nat.testBit_mod_two_pow, decide_eq_true h2, Bool.true_and]
      · rw [if_neg h2, if_neg (by omega)]
  · rw [decide_eq_false hj, Bool.false_and, if_neg (by omega), ha j (by omega)]

theorem testBit_b2n (b : Bool) : (b2n b).testBit 0 = b := by cases b <;> rfl

theorem testBit_setBit (v : Word) (i j : Nat) (b : Bool) (h : i < 32) :
    (setBit v i b).toNat.testBit j = if j = i then b else v.toNat.testBit j := by
  unfold setBit
  rw [testBit_setFld _ _ _ _ _ (Nat.le_refl i) h]
  by_cases e : j = i
  · subst e; rw [if_pos ⟨Nat.le_refl _, Nat.le_refl _⟩, Nat.sub_self, testBit_b2n, if_pos rfl]
  · rw [if_neg (by omega), if_neg e]

/-- The bits of a field. -/
theorem testBit_fld (v hi lo j : Nat) : (fld v hi lo).testBit j = (decide (j < hi - lo + 1) && v.testBit (lo + j)) := by
  unfold fld
  rw [Nat.testBit_mod_two_pow, Nat.testBit_shiftRight]

variable (s : Device)

/-- A bit that was stored is read, and every other bit is as it was. -/
theorem Device.rb_setB (off i o j : Nat) (b : Bool) (h : i < 32) :
    (s.setB off i b).rb o j = if o = off ∧ j = i then b else s.rb o j := by
  unfold Device.rb Device.rn
  rw [Device.reg_setB]
  by_cases e : o = off
  · subst e; simp [testBit_setBit _ _ _ _ h]
  · simp [e]

/-- The bits of a register after a field of it was replaced. -/
theorem Device.rb_setF (off hi lo v o j : Nat) (h : lo ≤ hi) (h32 : hi < 32) :
    (s.setF off hi lo v).rb o j = if o = off ∧ lo ≤ j ∧ j ≤ hi then v.testBit (j - lo) else s.rb o j := by
  unfold Device.rb Device.rn
  rw [Device.reg_setF]
  by_cases e : o = off
  · subst e; simp [testBit_setFld _ _ _ _ _ h h32]
  · simp [e]

/-- A field that was replaced is read. -/
theorem Device.rf_setF_same (off hi lo v : Nat) (h : lo ≤ hi) (h32 : hi < 32) :
    (s.setF off hi lo v).rf off hi lo = v % 2 ^ (hi - lo + 1) := by
  unfold Device.rf Device.rn
  rw [Device.reg_setF, if_pos rfl]
  apply Nat.eq_of_testBit_eq
  intro j
  rw [testBit_fld, testBit_setFld _ _ _ _ _ h h32, Nat.testBit_mod_two_pow]
  by_cases hj : j < hi - lo + 1
  · rw [if_pos (by omega)]; simp
  · simp [hj]

/-- A field apart from the one that was replaced is as it was. -/
theorem Device.rf_setF_other (off hi lo v o h' l' : Nat) (h : lo ≤ hi) (h32 : hi < 32) (le : l' ≤ h') (d : o ≠ off ∨ h' < lo ∨ hi < l') :
    (s.setF off hi lo v).rf o h' l' = s.rf o h' l' := by
  unfold Device.rf Device.rn
  rw [Device.reg_setF]
  by_cases e : o = off
  · subst e
    rw [if_pos rfl]
    apply Nat.eq_of_testBit_eq
    intro j
    rw [testBit_fld, testBit_fld, testBit_setFld _ _ _ _ _ h h32]
    by_cases hj : j < h' - l' + 1
    · rw [if_neg (by omega)]
    · simp [hj]
  · rw [if_neg e]

/-- A field apart from a bit that was stored is as it was. -/
theorem Device.rf_setB_other (off i o h' l' : Nat) (b : Bool) (h : i < 32) (le : l' ≤ h') (d : o ≠ off ∨ h' < i ∨ i < l') :
    (s.setB off i b).rf o h' l' = s.rf o h' l' :=
  Device.rf_setF_other s off i i (b2n b) o h' l' (Nat.le_refl i) h le d

theorem Device.rn_setN (off v o : Nat) : (s.setN off v).rn o = if o = off then v % 2 ^ 32 else s.rn o := by
  unfold Device.rn; rw [Device.reg_setN]; split <;> simp

/-- Bits and fields depend on the register alone. -/
theorem Device.rb_of_reg {s t : Device} {o : Nat} (h : t.reg o = s.reg o) (j : Nat) : t.rb o j = s.rb o j := by
  unfold Device.rb Device.rn; rw [h]

theorem Device.rf_of_reg {s t : Device} {o : Nat} (h : t.reg o = s.reg o) (hi lo : Nat) : t.rf o hi lo = s.rf o hi lo := by
  unfold Device.rf Device.rn; rw [h]

/-- A sorted list is empty only for an empty list. -/
theorem sortBy_eq_nil {α : Type} (le : α → α → Bool) (l : List α) : sortBy le l = [] ↔ l = [] := by
  cases l with
  | nil => simp [sortBy]
  | cons a l =>
    refine ⟨fun h => ?_, fun h => by simp at h⟩
    change insertBy le a (sortBy le l) = [] at h
    cases hs : sortBy le l with
    | nil => rw [hs] at h; simp [insertBy] at h
    | cons b m => rw [hs] at h; unfold insertBy at h; split at h <;> simp at h

/-- The head of a list sorted by a number is an element with the least one. -/
theorem sortBy_head {α : Type} (key : α → Nat) (l : List α) (x : α) (rest : List α)
    (h : sortBy (fun a b => decide (key a ≤ key b)) l = x :: rest) : x ∈ l ∧ ∀ y ∈ l, key x ≤ key y := by
  induction l generalizing x rest with
  | nil => simp [sortBy] at h
  | cons a l ih =>
    change insertBy _ a (sortBy _ l) = x :: rest at h
    cases hs : sortBy (fun a b => decide (key a ≤ key b)) l with
    | nil =>
      rw [hs] at h
      simp only [insertBy, List.cons.injEq] at h
      have hl := (sortBy_eq_nil _ l).mp hs
      simp [hl, ← h.1]
    | cons b m =>
      obtain ⟨hb, hm⟩ := ih b m hs
      rw [hs] at h
      unfold insertBy at h
      split at h
      · next c =>
        simp only [List.cons.injEq] at h
        simp only [decide_eq_true_eq] at c
        refine ⟨by simp [h.1], fun y hy => ?_⟩
        rw [← h.1]
        rcases List.mem_cons.mp hy with e | e
        · rw [e]
        · exact c.trans (hm y e)
      · next c =>
        simp only [List.cons.injEq] at h
        simp only [decide_eq_true_eq, not_le] at c
        refine ⟨by simp [← h.1, hb], fun y hy => ?_⟩
        rw [← h.1]
        rcases List.mem_cons.mp hy with e | e
        · rw [e]; exact c.le
        · exact hm y e

end Sys2Proof.Machine
end

