-- ==== Sys2Proof/Laws/Tables.lean ====
section
/-! SUPPORT. One lemma for each field of the device and each update of one block's table: the fields that the update leaves as they are. -/

namespace Sys2Proof.Machine

variable (s : Device)

/-! ### `Device.setCtx` -/

@[simp] theorem Device.setCtx_regs (c : FrameCtx) : (s.setCtx c).regs = s.regs := rfl
@[simp] theorem Device.setCtx_before (c : FrameCtx) : (s.setCtx c).before = s.before := rfl
@[simp] theorem Device.setCtx_banked (c : FrameCtx) : (s.setCtx c).banked = s.banked := rfl
@[simp] theorem Device.setCtx_latches (c : FrameCtx) : (s.setCtx c).latches = s.latches := rfl
@[simp] theorem Device.setCtx_clock (c : FrameCtx) : (s.setCtx c).clock = s.clock := rfl
@[simp] theorem Device.setCtx_shw (c : FrameCtx) : (s.setCtx c).shw = s.shw := rfl
@[simp] theorem Device.setCtx_net (c : FrameCtx) : (s.setCtx c).net = s.net := rfl
@[simp] theorem Device.setCtx_cmp (c : FrameCtx) : (s.setCtx c).cmp = s.cmp := rfl
@[simp] theorem Device.setCtx_pho (c : FrameCtx) : (s.setCtx c).pho = s.pho := rfl
@[simp] theorem Device.setCtx_bat (c : FrameCtx) : (s.setCtx c).bat = s.bat := rfl
@[simp] theorem Device.setCtx_hdr (c : FrameCtx) : (s.setCtx c).hdr = s.hdr := rfl
@[simp] theorem Device.setCtx_mtr (c : FrameCtx) : (s.setCtx c).mtr = s.mtr := rfl
@[simp] theorem Device.setCtx_pvw (c : FrameCtx) : (s.setCtx c).pvw = s.pvw := rfl
@[simp] theorem Device.setCtx_que (c : FrameCtx) : (s.setCtx c).que = s.que := rfl
@[simp] theorem Device.setCtx_mem (c : FrameCtx) : (s.setCtx c).mem = s.mem := rfl
@[simp] theorem Device.setCtx_kpr (c : FrameCtx) : (s.setCtx c).kpr = s.kpr := rfl
@[simp] theorem Device.setCtx_evt (c : FrameCtx) : (s.setCtx c).evt = s.evt := rfl
@[simp] theorem Device.setCtx_hkp (c : FrameCtx) : (s.setCtx c).hkp = s.hkp := rfl
@[simp] theorem Device.setCtx_sys (c : FrameCtx) : (s.setCtx c).sys = s.sys := rfl
@[simp] theorem Device.setCtx_rdg (c : FrameCtx) : (s.setCtx c).rdg = s.rdg := rfl
@[simp] theorem Device.setCtx_upd (c : FrameCtx) : (s.setCtx c).upd = s.upd := rfl
@[simp] theorem Device.setCtx_resp (c : FrameCtx) : (s.setCtx c).resp = s.resp := rfl
@[simp] theorem Device.setCtx_sent (c : FrameCtx) : (s.setCtx c).sent = s.sent := rfl
@[simp] theorem Device.setCtx_free (c : FrameCtx) : (s.setCtx c).free = s.free := rfl

/-! ### `Device.setQueue` -/

@[simp] theorem Device.setQueue_regs (q : Nat) (x : QueueState) : (s.setQueue q x).regs = s.regs := rfl
@[simp] theorem Device.setQueue_before (q : Nat) (x : QueueState) : (s.setQueue q x).before = s.before := rfl
@[simp] theorem Device.setQueue_pipe (q : Nat) (x : QueueState) : (s.setQueue q x).pipe = s.pipe := rfl
@[simp] theorem Device.setQueue_banked (q : Nat) (x : QueueState) : (s.setQueue q x).banked = s.banked := rfl
@[simp] theorem Device.setQueue_latches (q : Nat) (x : QueueState) : (s.setQueue q x).latches = s.latches := rfl
@[simp] theorem Device.setQueue_clock (q : Nat) (x : QueueState) : (s.setQueue q x).clock = s.clock := rfl
@[simp] theorem Device.setQueue_shw (q : Nat) (x : QueueState) : (s.setQueue q x).shw = s.shw := rfl
@[simp] theorem Device.setQueue_net (q : Nat) (x : QueueState) : (s.setQueue q x).net = s.net := rfl
@[simp] theorem Device.setQueue_cmp (q : Nat) (x : QueueState) : (s.setQueue q x).cmp = s.cmp := rfl
@[simp] theorem Device.setQueue_pho (q : Nat) (x : QueueState) : (s.setQueue q x).pho = s.pho := rfl
@[simp] theorem Device.setQueue_bat (q : Nat) (x : QueueState) : (s.setQueue q x).bat = s.bat := rfl
@[simp] theorem Device.setQueue_hdr (q : Nat) (x : QueueState) : (s.setQueue q x).hdr = s.hdr := rfl
@[simp] theorem Device.setQueue_mtr (q : Nat) (x : QueueState) : (s.setQueue q x).mtr = s.mtr := rfl
@[simp] theorem Device.setQueue_pvw (q : Nat) (x : QueueState) : (s.setQueue q x).pvw = s.pvw := rfl
@[simp] theorem Device.setQueue_mem (q : Nat) (x : QueueState) : (s.setQueue q x).mem = s.mem := rfl
@[simp] theorem Device.setQueue_kpr (q : Nat) (x : QueueState) : (s.setQueue q x).kpr = s.kpr := rfl
@[simp] theorem Device.setQueue_evt (q : Nat) (x : QueueState) : (s.setQueue q x).evt = s.evt := rfl
@[simp] theorem Device.setQueue_hkp (q : Nat) (x : QueueState) : (s.setQueue q x).hkp = s.hkp := rfl
@[simp] theorem Device.setQueue_sys (q : Nat) (x : QueueState) : (s.setQueue q x).sys = s.sys := rfl
@[simp] theorem Device.setQueue_rdg (q : Nat) (x : QueueState) : (s.setQueue q x).rdg = s.rdg := rfl
@[simp] theorem Device.setQueue_upd (q : Nat) (x : QueueState) : (s.setQueue q x).upd = s.upd := rfl
@[simp] theorem Device.setQueue_resp (q : Nat) (x : QueueState) : (s.setQueue q x).resp = s.resp := rfl
@[simp] theorem Device.setQueue_sent (q : Nat) (x : QueueState) : (s.setQueue q x).sent = s.sent := rfl
@[simp] theorem Device.setQueue_free (q : Nat) (x : QueueState) : (s.setQueue q x).free = s.free := rfl

/-! ### `Device.setTask` -/

@[simp] theorem Device.setTask_regs (t : Task) : (s.setTask t).regs = s.regs := rfl
@[simp] theorem Device.setTask_before (t : Task) : (s.setTask t).before = s.before := rfl
@[simp] theorem Device.setTask_pipe (t : Task) : (s.setTask t).pipe = s.pipe := rfl
@[simp] theorem Device.setTask_banked (t : Task) : (s.setTask t).banked = s.banked := rfl
@[simp] theorem Device.setTask_latches (t : Task) : (s.setTask t).latches = s.latches := rfl
@[simp] theorem Device.setTask_clock (t : Task) : (s.setTask t).clock = s.clock := rfl
@[simp] theorem Device.setTask_shw (t : Task) : (s.setTask t).shw = s.shw := rfl
@[simp] theorem Device.setTask_net (t : Task) : (s.setTask t).net = s.net := rfl
@[simp] theorem Device.setTask_cmp (t : Task) : (s.setTask t).cmp = s.cmp := rfl
@[simp] theorem Device.setTask_pho (t : Task) : (s.setTask t).pho = s.pho := rfl
@[simp] theorem Device.setTask_bat (t : Task) : (s.setTask t).bat = s.bat := rfl
@[simp] theorem Device.setTask_hdr (t : Task) : (s.setTask t).hdr = s.hdr := rfl
@[simp] theorem Device.setTask_mtr (t : Task) : (s.setTask t).mtr = s.mtr := rfl
@[simp] theorem Device.setTask_pvw (t : Task) : (s.setTask t).pvw = s.pvw := rfl
@[simp] theorem Device.setTask_mem (t : Task) : (s.setTask t).mem = s.mem := rfl
@[simp] theorem Device.setTask_kpr (t : Task) : (s.setTask t).kpr = s.kpr := rfl
@[simp] theorem Device.setTask_evt (t : Task) : (s.setTask t).evt = s.evt := rfl
@[simp] theorem Device.setTask_hkp (t : Task) : (s.setTask t).hkp = s.hkp := rfl
@[simp] theorem Device.setTask_sys (t : Task) : (s.setTask t).sys = s.sys := rfl
@[simp] theorem Device.setTask_rdg (t : Task) : (s.setTask t).rdg = s.rdg := rfl
@[simp] theorem Device.setTask_upd (t : Task) : (s.setTask t).upd = s.upd := rfl
@[simp] theorem Device.setTask_resp (t : Task) : (s.setTask t).resp = s.resp := rfl
@[simp] theorem Device.setTask_sent (t : Task) : (s.setTask t).sent = s.sent := rfl
@[simp] theorem Device.setTask_free (t : Task) : (s.setTask t).free = s.free := rfl

/-! ### `Device.setStream` -/

@[simp] theorem Device.setStream_regs (n : Nat) (x : StreamState) : (s.setStream n x).regs = s.regs := rfl
@[simp] theorem Device.setStream_before (n : Nat) (x : StreamState) : (s.setStream n x).before = s.before := rfl
@[simp] theorem Device.setStream_pipe (n : Nat) (x : StreamState) : (s.setStream n x).pipe = s.pipe := rfl
@[simp] theorem Device.setStream_banked (n : Nat) (x : StreamState) : (s.setStream n x).banked = s.banked := rfl
@[simp] theorem Device.setStream_latches (n : Nat) (x : StreamState) : (s.setStream n x).latches = s.latches := rfl
@[simp] theorem Device.setStream_clock (n : Nat) (x : StreamState) : (s.setStream n x).clock = s.clock := rfl
@[simp] theorem Device.setStream_shw (n : Nat) (x : StreamState) : (s.setStream n x).shw = s.shw := rfl
@[simp] theorem Device.setStream_cmp (n : Nat) (x : StreamState) : (s.setStream n x).cmp = s.cmp := rfl
@[simp] theorem Device.setStream_pho (n : Nat) (x : StreamState) : (s.setStream n x).pho = s.pho := rfl
@[simp] theorem Device.setStream_bat (n : Nat) (x : StreamState) : (s.setStream n x).bat = s.bat := rfl
@[simp] theorem Device.setStream_hdr (n : Nat) (x : StreamState) : (s.setStream n x).hdr = s.hdr := rfl
@[simp] theorem Device.setStream_mtr (n : Nat) (x : StreamState) : (s.setStream n x).mtr = s.mtr := rfl
@[simp] theorem Device.setStream_pvw (n : Nat) (x : StreamState) : (s.setStream n x).pvw = s.pvw := rfl
@[simp] theorem Device.setStream_que (n : Nat) (x : StreamState) : (s.setStream n x).que = s.que := rfl
@[simp] theorem Device.setStream_mem (n : Nat) (x : StreamState) : (s.setStream n x).mem = s.mem := rfl
@[simp] theorem Device.setStream_kpr (n : Nat) (x : StreamState) : (s.setStream n x).kpr = s.kpr := rfl
@[simp] theorem Device.setStream_evt (n : Nat) (x : StreamState) : (s.setStream n x).evt = s.evt := rfl
@[simp] theorem Device.setStream_hkp (n : Nat) (x : StreamState) : (s.setStream n x).hkp = s.hkp := rfl
@[simp] theorem Device.setStream_sys (n : Nat) (x : StreamState) : (s.setStream n x).sys = s.sys := rfl
@[simp] theorem Device.setStream_rdg (n : Nat) (x : StreamState) : (s.setStream n x).rdg = s.rdg := rfl
@[simp] theorem Device.setStream_upd (n : Nat) (x : StreamState) : (s.setStream n x).upd = s.upd := rfl
@[simp] theorem Device.setStream_resp (n : Nat) (x : StreamState) : (s.setStream n x).resp = s.resp := rfl
@[simp] theorem Device.setStream_sent (n : Nat) (x : StreamState) : (s.setStream n x).sent = s.sent := rfl
@[simp] theorem Device.setStream_free (n : Nat) (x : StreamState) : (s.setStream n x).free = s.free := rfl

/-! ### `Device.setUniverse` -/

@[simp] theorem Device.setUniverse_regs (i : Nat) (x : UniverseState) : (s.setUniverse i x).regs = s.regs := rfl
@[simp] theorem Device.setUniverse_before (i : Nat) (x : UniverseState) : (s.setUniverse i x).before = s.before := rfl
@[simp] theorem Device.setUniverse_pipe (i : Nat) (x : UniverseState) : (s.setUniverse i x).pipe = s.pipe := rfl
@[simp] theorem Device.setUniverse_banked (i : Nat) (x : UniverseState) : (s.setUniverse i x).banked = s.banked := rfl
@[simp] theorem Device.setUniverse_latches (i : Nat) (x : UniverseState) : (s.setUniverse i x).latches = s.latches := rfl
@[simp] theorem Device.setUniverse_clock (i : Nat) (x : UniverseState) : (s.setUniverse i x).clock = s.clock := rfl
@[simp] theorem Device.setUniverse_shw (i : Nat) (x : UniverseState) : (s.setUniverse i x).shw = s.shw := rfl
@[simp] theorem Device.setUniverse_cmp (i : Nat) (x : UniverseState) : (s.setUniverse i x).cmp = s.cmp := rfl
@[simp] theorem Device.setUniverse_pho (i : Nat) (x : UniverseState) : (s.setUniverse i x).pho = s.pho := rfl
@[simp] theorem Device.setUniverse_bat (i : Nat) (x : UniverseState) : (s.setUniverse i x).bat = s.bat := rfl
@[simp] theorem Device.setUniverse_hdr (i : Nat) (x : UniverseState) : (s.setUniverse i x).hdr = s.hdr := rfl
@[simp] theorem Device.setUniverse_mtr (i : Nat) (x : UniverseState) : (s.setUniverse i x).mtr = s.mtr := rfl
@[simp] theorem Device.setUniverse_pvw (i : Nat) (x : UniverseState) : (s.setUniverse i x).pvw = s.pvw := rfl
@[simp] theorem Device.setUniverse_que (i : Nat) (x : UniverseState) : (s.setUniverse i x).que = s.que := rfl
@[simp] theorem Device.setUniverse_mem (i : Nat) (x : UniverseState) : (s.setUniverse i x).mem = s.mem := rfl
@[simp] theorem Device.setUniverse_kpr (i : Nat) (x : UniverseState) : (s.setUniverse i x).kpr = s.kpr := rfl
@[simp] theorem Device.setUniverse_evt (i : Nat) (x : UniverseState) : (s.setUniverse i x).evt = s.evt := rfl
@[simp] theorem Device.setUniverse_hkp (i : Nat) (x : UniverseState) : (s.setUniverse i x).hkp = s.hkp := rfl
@[simp] theorem Device.setUniverse_sys (i : Nat) (x : UniverseState) : (s.setUniverse i x).sys = s.sys := rfl
@[simp] theorem Device.setUniverse_rdg (i : Nat) (x : UniverseState) : (s.setUniverse i x).rdg = s.rdg := rfl
@[simp] theorem Device.setUniverse_upd (i : Nat) (x : UniverseState) : (s.setUniverse i x).upd = s.upd := rfl
@[simp] theorem Device.setUniverse_resp (i : Nat) (x : UniverseState) : (s.setUniverse i x).resp = s.resp := rfl
@[simp] theorem Device.setUniverse_sent (i : Nat) (x : UniverseState) : (s.setUniverse i x).sent = s.sent := rfl
@[simp] theorem Device.setUniverse_free (i : Nat) (x : UniverseState) : (s.setUniverse i x).free = s.free := rfl

/-! ### `Device.setChain` -/

@[simp] theorem Device.setChain_regs (c : Nat) (x : ChainState) : (s.setChain c x).regs = s.regs := rfl
@[simp] theorem Device.setChain_before (c : Nat) (x : ChainState) : (s.setChain c x).before = s.before := rfl
@[simp] theorem Device.setChain_pipe (c : Nat) (x : ChainState) : (s.setChain c x).pipe = s.pipe := rfl
@[simp] theorem Device.setChain_banked (c : Nat) (x : ChainState) : (s.setChain c x).banked = s.banked := rfl
@[simp] theorem Device.setChain_latches (c : Nat) (x : ChainState) : (s.setChain c x).latches = s.latches := rfl
@[simp] theorem Device.setChain_clock (c : Nat) (x : ChainState) : (s.setChain c x).clock = s.clock := rfl
@[simp] theorem Device.setChain_shw (c : Nat) (x : ChainState) : (s.setChain c x).shw = s.shw := rfl
@[simp] theorem Device.setChain_net (c : Nat) (x : ChainState) : (s.setChain c x).net = s.net := rfl
@[simp] theorem Device.setChain_cmp (c : Nat) (x : ChainState) : (s.setChain c x).cmp = s.cmp := rfl
@[simp] theorem Device.setChain_pho (c : Nat) (x : ChainState) : (s.setChain c x).pho = s.pho := rfl
@[simp] theorem Device.setChain_hdr (c : Nat) (x : ChainState) : (s.setChain c x).hdr = s.hdr := rfl
@[simp] theorem Device.setChain_mtr (c : Nat) (x : ChainState) : (s.setChain c x).mtr = s.mtr := rfl
@[simp] theorem Device.setChain_pvw (c : Nat) (x : ChainState) : (s.setChain c x).pvw = s.pvw := rfl
@[simp] theorem Device.setChain_que (c : Nat) (x : ChainState) : (s.setChain c x).que = s.que := rfl
@[simp] theorem Device.setChain_mem (c : Nat) (x : ChainState) : (s.setChain c x).mem = s.mem := rfl
@[simp] theorem Device.setChain_kpr (c : Nat) (x : ChainState) : (s.setChain c x).kpr = s.kpr := rfl
@[simp] theorem Device.setChain_evt (c : Nat) (x : ChainState) : (s.setChain c x).evt = s.evt := rfl
@[simp] theorem Device.setChain_hkp (c : Nat) (x : ChainState) : (s.setChain c x).hkp = s.hkp := rfl
@[simp] theorem Device.setChain_sys (c : Nat) (x : ChainState) : (s.setChain c x).sys = s.sys := rfl
@[simp] theorem Device.setChain_rdg (c : Nat) (x : ChainState) : (s.setChain c x).rdg = s.rdg := rfl
@[simp] theorem Device.setChain_upd (c : Nat) (x : ChainState) : (s.setChain c x).upd = s.upd := rfl
@[simp] theorem Device.setChain_resp (c : Nat) (x : ChainState) : (s.setChain c x).resp = s.resp := rfl
@[simp] theorem Device.setChain_sent (c : Nat) (x : ChainState) : (s.setChain c x).sent = s.sent := rfl
@[simp] theorem Device.setChain_free (c : Nat) (x : ChainState) : (s.setChain c x).free = s.free := rfl

/-! ### `Device.setGroup` -/

@[simp] theorem Device.setGroup_regs (g : Nat) (x : GroupState) : (s.setGroup g x).regs = s.regs := rfl
@[simp] theorem Device.setGroup_before (g : Nat) (x : GroupState) : (s.setGroup g x).before = s.before := rfl
@[simp] theorem Device.setGroup_pipe (g : Nat) (x : GroupState) : (s.setGroup g x).pipe = s.pipe := rfl
@[simp] theorem Device.setGroup_banked (g : Nat) (x : GroupState) : (s.setGroup g x).banked = s.banked := rfl
@[simp] theorem Device.setGroup_latches (g : Nat) (x : GroupState) : (s.setGroup g x).latches = s.latches := rfl
@[simp] theorem Device.setGroup_clock (g : Nat) (x : GroupState) : (s.setGroup g x).clock = s.clock := rfl
@[simp] theorem Device.setGroup_shw (g : Nat) (x : GroupState) : (s.setGroup g x).shw = s.shw := rfl
@[simp] theorem Device.setGroup_net (g : Nat) (x : GroupState) : (s.setGroup g x).net = s.net := rfl
@[simp] theorem Device.setGroup_cmp (g : Nat) (x : GroupState) : (s.setGroup g x).cmp = s.cmp := rfl
@[simp] theorem Device.setGroup_pho (g : Nat) (x : GroupState) : (s.setGroup g x).pho = s.pho := rfl
@[simp] theorem Device.setGroup_bat (g : Nat) (x : GroupState) : (s.setGroup g x).bat = s.bat := rfl
@[simp] theorem Device.setGroup_mtr (g : Nat) (x : GroupState) : (s.setGroup g x).mtr = s.mtr := rfl
@[simp] theorem Device.setGroup_pvw (g : Nat) (x : GroupState) : (s.setGroup g x).pvw = s.pvw := rfl
@[simp] theorem Device.setGroup_que (g : Nat) (x : GroupState) : (s.setGroup g x).que = s.que := rfl
@[simp] theorem Device.setGroup_mem (g : Nat) (x : GroupState) : (s.setGroup g x).mem = s.mem := rfl
@[simp] theorem Device.setGroup_kpr (g : Nat) (x : GroupState) : (s.setGroup g x).kpr = s.kpr := rfl
@[simp] theorem Device.setGroup_evt (g : Nat) (x : GroupState) : (s.setGroup g x).evt = s.evt := rfl
@[simp] theorem Device.setGroup_hkp (g : Nat) (x : GroupState) : (s.setGroup g x).hkp = s.hkp := rfl
@[simp] theorem Device.setGroup_sys (g : Nat) (x : GroupState) : (s.setGroup g x).sys = s.sys := rfl
@[simp] theorem Device.setGroup_rdg (g : Nat) (x : GroupState) : (s.setGroup g x).rdg = s.rdg := rfl
@[simp] theorem Device.setGroup_upd (g : Nat) (x : GroupState) : (s.setGroup g x).upd = s.upd := rfl
@[simp] theorem Device.setGroup_resp (g : Nat) (x : GroupState) : (s.setGroup g x).resp = s.resp := rfl
@[simp] theorem Device.setGroup_sent (g : Nat) (x : GroupState) : (s.setGroup g x).sent = s.sent := rfl
@[simp] theorem Device.setGroup_free (g : Nat) (x : GroupState) : (s.setGroup g x).free = s.free := rfl

/-! ### `Device.setZone` -/

@[simp] theorem Device.setZone_regs (z : Nat) (x : ZoneState) : (s.setZone z x).regs = s.regs := rfl
@[simp] theorem Device.setZone_before (z : Nat) (x : ZoneState) : (s.setZone z x).before = s.before := rfl
@[simp] theorem Device.setZone_pipe (z : Nat) (x : ZoneState) : (s.setZone z x).pipe = s.pipe := rfl
@[simp] theorem Device.setZone_banked (z : Nat) (x : ZoneState) : (s.setZone z x).banked = s.banked := rfl
@[simp] theorem Device.setZone_latches (z : Nat) (x : ZoneState) : (s.setZone z x).latches = s.latches := rfl
@[simp] theorem Device.setZone_clock (z : Nat) (x : ZoneState) : (s.setZone z x).clock = s.clock := rfl
@[simp] theorem Device.setZone_shw (z : Nat) (x : ZoneState) : (s.setZone z x).shw = s.shw := rfl
@[simp] theorem Device.setZone_net (z : Nat) (x : ZoneState) : (s.setZone z x).net = s.net := rfl
@[simp] theorem Device.setZone_cmp (z : Nat) (x : ZoneState) : (s.setZone z x).cmp = s.cmp := rfl
@[simp] theorem Device.setZone_pho (z : Nat) (x : ZoneState) : (s.setZone z x).pho = s.pho := rfl
@[simp] theorem Device.setZone_bat (z : Nat) (x : ZoneState) : (s.setZone z x).bat = s.bat := rfl
@[simp] theorem Device.setZone_mtr (z : Nat) (x : ZoneState) : (s.setZone z x).mtr = s.mtr := rfl
@[simp] theorem Device.setZone_pvw (z : Nat) (x : ZoneState) : (s.setZone z x).pvw = s.pvw := rfl
@[simp] theorem Device.setZone_que (z : Nat) (x : ZoneState) : (s.setZone z x).que = s.que := rfl
@[simp] theorem Device.setZone_mem (z : Nat) (x : ZoneState) : (s.setZone z x).mem = s.mem := rfl
@[simp] theorem Device.setZone_kpr (z : Nat) (x : ZoneState) : (s.setZone z x).kpr = s.kpr := rfl
@[simp] theorem Device.setZone_evt (z : Nat) (x : ZoneState) : (s.setZone z x).evt = s.evt := rfl
@[simp] theorem Device.setZone_hkp (z : Nat) (x : ZoneState) : (s.setZone z x).hkp = s.hkp := rfl
@[simp] theorem Device.setZone_sys (z : Nat) (x : ZoneState) : (s.setZone z x).sys = s.sys := rfl
@[simp] theorem Device.setZone_rdg (z : Nat) (x : ZoneState) : (s.setZone z x).rdg = s.rdg := rfl
@[simp] theorem Device.setZone_upd (z : Nat) (x : ZoneState) : (s.setZone z x).upd = s.upd := rfl
@[simp] theorem Device.setZone_resp (z : Nat) (x : ZoneState) : (s.setZone z x).resp = s.resp := rfl
@[simp] theorem Device.setZone_sent (z : Nat) (x : ZoneState) : (s.setZone z x).sent = s.sent := rfl
@[simp] theorem Device.setZone_free (z : Nat) (x : ZoneState) : (s.setZone z x).free = s.free := rfl

/-! ### `Device.setBuck` -/

@[simp] theorem Device.setBuck_regs (c : Nat) (x : BuckState) : (s.setBuck c x).regs = s.regs := rfl
@[simp] theorem Device.setBuck_before (c : Nat) (x : BuckState) : (s.setBuck c x).before = s.before := rfl
@[simp] theorem Device.setBuck_pipe (c : Nat) (x : BuckState) : (s.setBuck c x).pipe = s.pipe := rfl
@[simp] theorem Device.setBuck_banked (c : Nat) (x : BuckState) : (s.setBuck c x).banked = s.banked := rfl
@[simp] theorem Device.setBuck_latches (c : Nat) (x : BuckState) : (s.setBuck c x).latches = s.latches := rfl
@[simp] theorem Device.setBuck_clock (c : Nat) (x : BuckState) : (s.setBuck c x).clock = s.clock := rfl
@[simp] theorem Device.setBuck_shw (c : Nat) (x : BuckState) : (s.setBuck c x).shw = s.shw := rfl
@[simp] theorem Device.setBuck_net (c : Nat) (x : BuckState) : (s.setBuck c x).net = s.net := rfl
@[simp] theorem Device.setBuck_cmp (c : Nat) (x : BuckState) : (s.setBuck c x).cmp = s.cmp := rfl
@[simp] theorem Device.setBuck_pho (c : Nat) (x : BuckState) : (s.setBuck c x).pho = s.pho := rfl
@[simp] theorem Device.setBuck_bat (c : Nat) (x : BuckState) : (s.setBuck c x).bat = s.bat := rfl
@[simp] theorem Device.setBuck_mtr (c : Nat) (x : BuckState) : (s.setBuck c x).mtr = s.mtr := rfl
@[simp] theorem Device.setBuck_pvw (c : Nat) (x : BuckState) : (s.setBuck c x).pvw = s.pvw := rfl
@[simp] theorem Device.setBuck_que (c : Nat) (x : BuckState) : (s.setBuck c x).que = s.que := rfl
@[simp] theorem Device.setBuck_mem (c : Nat) (x : BuckState) : (s.setBuck c x).mem = s.mem := rfl
@[simp] theorem Device.setBuck_kpr (c : Nat) (x : BuckState) : (s.setBuck c x).kpr = s.kpr := rfl
@[simp] theorem Device.setBuck_evt (c : Nat) (x : BuckState) : (s.setBuck c x).evt = s.evt := rfl
@[simp] theorem Device.setBuck_hkp (c : Nat) (x : BuckState) : (s.setBuck c x).hkp = s.hkp := rfl
@[simp] theorem Device.setBuck_sys (c : Nat) (x : BuckState) : (s.setBuck c x).sys = s.sys := rfl
@[simp] theorem Device.setBuck_rdg (c : Nat) (x : BuckState) : (s.setBuck c x).rdg = s.rdg := rfl
@[simp] theorem Device.setBuck_upd (c : Nat) (x : BuckState) : (s.setBuck c x).upd = s.upd := rfl
@[simp] theorem Device.setBuck_resp (c : Nat) (x : BuckState) : (s.setBuck c x).resp = s.resp := rfl
@[simp] theorem Device.setBuck_sent (c : Nat) (x : BuckState) : (s.setBuck c x).sent = s.sent := rfl
@[simp] theorem Device.setBuck_free (c : Nat) (x : BuckState) : (s.setBuck c x).free = s.free := rfl

/-! ### `Device.setMeter` -/

@[simp] theorem Device.setMeter_regs (n : Nat) (x : MeterChan) : (s.setMeter n x).regs = s.regs := rfl
@[simp] theorem Device.setMeter_before (n : Nat) (x : MeterChan) : (s.setMeter n x).before = s.before := rfl
@[simp] theorem Device.setMeter_pipe (n : Nat) (x : MeterChan) : (s.setMeter n x).pipe = s.pipe := rfl
@[simp] theorem Device.setMeter_banked (n : Nat) (x : MeterChan) : (s.setMeter n x).banked = s.banked := rfl
@[simp] theorem Device.setMeter_latches (n : Nat) (x : MeterChan) : (s.setMeter n x).latches = s.latches := rfl
@[simp] theorem Device.setMeter_clock (n : Nat) (x : MeterChan) : (s.setMeter n x).clock = s.clock := rfl
@[simp] theorem Device.setMeter_shw (n : Nat) (x : MeterChan) : (s.setMeter n x).shw = s.shw := rfl
@[simp] theorem Device.setMeter_net (n : Nat) (x : MeterChan) : (s.setMeter n x).net = s.net := rfl
@[simp] theorem Device.setMeter_cmp (n : Nat) (x : MeterChan) : (s.setMeter n x).cmp = s.cmp := rfl
@[simp] theorem Device.setMeter_pho (n : Nat) (x : MeterChan) : (s.setMeter n x).pho = s.pho := rfl
@[simp] theorem Device.setMeter_bat (n : Nat) (x : MeterChan) : (s.setMeter n x).bat = s.bat := rfl
@[simp] theorem Device.setMeter_hdr (n : Nat) (x : MeterChan) : (s.setMeter n x).hdr = s.hdr := rfl
@[simp] theorem Device.setMeter_pvw (n : Nat) (x : MeterChan) : (s.setMeter n x).pvw = s.pvw := rfl
@[simp] theorem Device.setMeter_que (n : Nat) (x : MeterChan) : (s.setMeter n x).que = s.que := rfl
@[simp] theorem Device.setMeter_mem (n : Nat) (x : MeterChan) : (s.setMeter n x).mem = s.mem := rfl
@[simp] theorem Device.setMeter_kpr (n : Nat) (x : MeterChan) : (s.setMeter n x).kpr = s.kpr := rfl
@[simp] theorem Device.setMeter_evt (n : Nat) (x : MeterChan) : (s.setMeter n x).evt = s.evt := rfl
@[simp] theorem Device.setMeter_hkp (n : Nat) (x : MeterChan) : (s.setMeter n x).hkp = s.hkp := rfl
@[simp] theorem Device.setMeter_sys (n : Nat) (x : MeterChan) : (s.setMeter n x).sys = s.sys := rfl
@[simp] theorem Device.setMeter_rdg (n : Nat) (x : MeterChan) : (s.setMeter n x).rdg = s.rdg := rfl
@[simp] theorem Device.setMeter_upd (n : Nat) (x : MeterChan) : (s.setMeter n x).upd = s.upd := rfl
@[simp] theorem Device.setMeter_resp (n : Nat) (x : MeterChan) : (s.setMeter n x).resp = s.resp := rfl
@[simp] theorem Device.setMeter_sent (n : Nat) (x : MeterChan) : (s.setMeter n x).sent = s.sent := rfl
@[simp] theorem Device.setMeter_free (n : Nat) (x : MeterChan) : (s.setMeter n x).free = s.free := rfl

/-! ### `Device.setPulse` -/

@[simp] theorem Device.setPulse_regs (p : Nat) (x : PulseState) : (s.setPulse p x).regs = s.regs := rfl
@[simp] theorem Device.setPulse_before (p : Nat) (x : PulseState) : (s.setPulse p x).before = s.before := rfl
@[simp] theorem Device.setPulse_pipe (p : Nat) (x : PulseState) : (s.setPulse p x).pipe = s.pipe := rfl
@[simp] theorem Device.setPulse_banked (p : Nat) (x : PulseState) : (s.setPulse p x).banked = s.banked := rfl
@[simp] theorem Device.setPulse_latches (p : Nat) (x : PulseState) : (s.setPulse p x).latches = s.latches := rfl
@[simp] theorem Device.setPulse_clock (p : Nat) (x : PulseState) : (s.setPulse p x).clock = s.clock := rfl
@[simp] theorem Device.setPulse_shw (p : Nat) (x : PulseState) : (s.setPulse p x).shw = s.shw := rfl
@[simp] theorem Device.setPulse_net (p : Nat) (x : PulseState) : (s.setPulse p x).net = s.net := rfl
@[simp] theorem Device.setPulse_cmp (p : Nat) (x : PulseState) : (s.setPulse p x).cmp = s.cmp := rfl
@[simp] theorem Device.setPulse_pho (p : Nat) (x : PulseState) : (s.setPulse p x).pho = s.pho := rfl
@[simp] theorem Device.setPulse_bat (p : Nat) (x : PulseState) : (s.setPulse p x).bat = s.bat := rfl
@[simp] theorem Device.setPulse_hdr (p : Nat) (x : PulseState) : (s.setPulse p x).hdr = s.hdr := rfl
@[simp] theorem Device.setPulse_pvw (p : Nat) (x : PulseState) : (s.setPulse p x).pvw = s.pvw := rfl
@[simp] theorem Device.setPulse_que (p : Nat) (x : PulseState) : (s.setPulse p x).que = s.que := rfl
@[simp] theorem Device.setPulse_mem (p : Nat) (x : PulseState) : (s.setPulse p x).mem = s.mem := rfl
@[simp] theorem Device.setPulse_kpr (p : Nat) (x : PulseState) : (s.setPulse p x).kpr = s.kpr := rfl
@[simp] theorem Device.setPulse_evt (p : Nat) (x : PulseState) : (s.setPulse p x).evt = s.evt := rfl
@[simp] theorem Device.setPulse_hkp (p : Nat) (x : PulseState) : (s.setPulse p x).hkp = s.hkp := rfl
@[simp] theorem Device.setPulse_sys (p : Nat) (x : PulseState) : (s.setPulse p x).sys = s.sys := rfl
@[simp] theorem Device.setPulse_rdg (p : Nat) (x : PulseState) : (s.setPulse p x).rdg = s.rdg := rfl
@[simp] theorem Device.setPulse_upd (p : Nat) (x : PulseState) : (s.setPulse p x).upd = s.upd := rfl
@[simp] theorem Device.setPulse_resp (p : Nat) (x : PulseState) : (s.setPulse p x).resp = s.resp := rfl
@[simp] theorem Device.setPulse_sent (p : Nat) (x : PulseState) : (s.setPulse p x).sent = s.sent := rfl
@[simp] theorem Device.setPulse_free (p : Nat) (x : PulseState) : (s.setPulse p x).free = s.free := rfl

/-! ### `Device.modCtx` -/

@[simp] theorem Device.modCtx_regs (content : Nat) (f : FrameCtx → FrameCtx) : (s.modCtx content f).regs = s.regs := rfl
@[simp] theorem Device.modCtx_before (content : Nat) (f : FrameCtx → FrameCtx) : (s.modCtx content f).before = s.before := rfl
@[simp] theorem Device.modCtx_banked (content : Nat) (f : FrameCtx → FrameCtx) : (s.modCtx content f).banked = s.banked := rfl
@[simp] theorem Device.modCtx_latches (content : Nat) (f : FrameCtx → FrameCtx) : (s.modCtx content f).latches = s.latches := rfl
@[simp] theorem Device.modCtx_clock (content : Nat) (f : FrameCtx → FrameCtx) : (s.modCtx content f).clock = s.clock := rfl
@[simp] theorem Device.modCtx_shw (content : Nat) (f : FrameCtx → FrameCtx) : (s.modCtx content f).shw = s.shw := rfl
@[simp] theorem Device.modCtx_net (content : Nat) (f : FrameCtx → FrameCtx) : (s.modCtx content f).net = s.net := rfl
@[simp] theorem Device.modCtx_cmp (content : Nat) (f : FrameCtx → FrameCtx) : (s.modCtx content f).cmp = s.cmp := rfl
@[simp] theorem Device.modCtx_pho (content : Nat) (f : FrameCtx → FrameCtx) : (s.modCtx content f).pho = s.pho := rfl
@[simp] theorem Device.modCtx_bat (content : Nat) (f : FrameCtx → FrameCtx) : (s.modCtx content f).bat = s.bat := rfl
@[simp] theorem Device.modCtx_hdr (content : Nat) (f : FrameCtx → FrameCtx) : (s.modCtx content f).hdr = s.hdr := rfl
@[simp] theorem Device.modCtx_mtr (content : Nat) (f : FrameCtx → FrameCtx) : (s.modCtx content f).mtr = s.mtr := rfl
@[simp] theorem Device.modCtx_pvw (content : Nat) (f : FrameCtx → FrameCtx) : (s.modCtx content f).pvw = s.pvw := rfl
@[simp] theorem Device.modCtx_que (content : Nat) (f : FrameCtx → FrameCtx) : (s.modCtx content f).que = s.que := rfl
@[simp] theorem Device.modCtx_mem (content : Nat) (f : FrameCtx → FrameCtx) : (s.modCtx content f).mem = s.mem := rfl
@[simp] theorem Device.modCtx_kpr (content : Nat) (f : FrameCtx → FrameCtx) : (s.modCtx content f).kpr = s.kpr := rfl
@[simp] theorem Device.modCtx_evt (content : Nat) (f : FrameCtx → FrameCtx) : (s.modCtx content f).evt = s.evt := rfl
@[simp] theorem Device.modCtx_hkp (content : Nat) (f : FrameCtx → FrameCtx) : (s.modCtx content f).hkp = s.hkp := rfl
@[simp] theorem Device.modCtx_sys (content : Nat) (f : FrameCtx → FrameCtx) : (s.modCtx content f).sys = s.sys := rfl
@[simp] theorem Device.modCtx_rdg (content : Nat) (f : FrameCtx → FrameCtx) : (s.modCtx content f).rdg = s.rdg := rfl
@[simp] theorem Device.modCtx_upd (content : Nat) (f : FrameCtx → FrameCtx) : (s.modCtx content f).upd = s.upd := rfl
@[simp] theorem Device.modCtx_resp (content : Nat) (f : FrameCtx → FrameCtx) : (s.modCtx content f).resp = s.resp := rfl
@[simp] theorem Device.modCtx_sent (content : Nat) (f : FrameCtx → FrameCtx) : (s.modCtx content f).sent = s.sent := rfl
@[simp] theorem Device.modCtx_free (content : Nat) (f : FrameCtx → FrameCtx) : (s.modCtx content f).free = s.free := rfl

/-! ### `Device.mark` -/

@[simp] theorem Device.mark_regs (content c v : Nat) : (s.mark content c v).regs = s.regs := rfl
@[simp] theorem Device.mark_before (content c v : Nat) : (s.mark content c v).before = s.before := rfl
@[simp] theorem Device.mark_banked (content c v : Nat) : (s.mark content c v).banked = s.banked := rfl
@[simp] theorem Device.mark_latches (content c v : Nat) : (s.mark content c v).latches = s.latches := rfl
@[simp] theorem Device.mark_clock (content c v : Nat) : (s.mark content c v).clock = s.clock := rfl
@[simp] theorem Device.mark_shw (content c v : Nat) : (s.mark content c v).shw = s.shw := rfl
@[simp] theorem Device.mark_net (content c v : Nat) : (s.mark content c v).net = s.net := rfl
@[simp] theorem Device.mark_cmp (content c v : Nat) : (s.mark content c v).cmp = s.cmp := rfl
@[simp] theorem Device.mark_pho (content c v : Nat) : (s.mark content c v).pho = s.pho := rfl
@[simp] theorem Device.mark_bat (content c v : Nat) : (s.mark content c v).bat = s.bat := rfl
@[simp] theorem Device.mark_hdr (content c v : Nat) : (s.mark content c v).hdr = s.hdr := rfl
@[simp] theorem Device.mark_mtr (content c v : Nat) : (s.mark content c v).mtr = s.mtr := rfl
@[simp] theorem Device.mark_pvw (content c v : Nat) : (s.mark content c v).pvw = s.pvw := rfl
@[simp] theorem Device.mark_que (content c v : Nat) : (s.mark content c v).que = s.que := rfl
@[simp] theorem Device.mark_mem (content c v : Nat) : (s.mark content c v).mem = s.mem := rfl
@[simp] theorem Device.mark_kpr (content c v : Nat) : (s.mark content c v).kpr = s.kpr := rfl
@[simp] theorem Device.mark_evt (content c v : Nat) : (s.mark content c v).evt = s.evt := rfl
@[simp] theorem Device.mark_hkp (content c v : Nat) : (s.mark content c v).hkp = s.hkp := rfl
@[simp] theorem Device.mark_sys (content c v : Nat) : (s.mark content c v).sys = s.sys := rfl
@[simp] theorem Device.mark_rdg (content c v : Nat) : (s.mark content c v).rdg = s.rdg := rfl
@[simp] theorem Device.mark_upd (content c v : Nat) : (s.mark content c v).upd = s.upd := rfl
@[simp] theorem Device.mark_resp (content c v : Nat) : (s.mark content c v).resp = s.resp := rfl
@[simp] theorem Device.mark_sent (content c v : Nat) : (s.mark content c v).sent = s.sent := rfl
@[simp] theorem Device.mark_free (content c v : Nat) : (s.mark content c v).free = s.free := rfl

/-! ### `Device.passOver` -/

@[simp] theorem Device.passOver_regs (content c : Nat) : (s.passOver content c).regs = s.regs := rfl
@[simp] theorem Device.passOver_before (content c : Nat) : (s.passOver content c).before = s.before := rfl
@[simp] theorem Device.passOver_banked (content c : Nat) : (s.passOver content c).banked = s.banked := rfl
@[simp] theorem Device.passOver_latches (content c : Nat) : (s.passOver content c).latches = s.latches := rfl
@[simp] theorem Device.passOver_clock (content c : Nat) : (s.passOver content c).clock = s.clock := rfl
@[simp] theorem Device.passOver_shw (content c : Nat) : (s.passOver content c).shw = s.shw := rfl
@[simp] theorem Device.passOver_net (content c : Nat) : (s.passOver content c).net = s.net := rfl
@[simp] theorem Device.passOver_cmp (content c : Nat) : (s.passOver content c).cmp = s.cmp := rfl
@[simp] theorem Device.passOver_pho (content c : Nat) : (s.passOver content c).pho = s.pho := rfl
@[simp] theorem Device.passOver_bat (content c : Nat) : (s.passOver content c).bat = s.bat := rfl
@[simp] theorem Device.passOver_hdr (content c : Nat) : (s.passOver content c).hdr = s.hdr := rfl
@[simp] theorem Device.passOver_mtr (content c : Nat) : (s.passOver content c).mtr = s.mtr := rfl
@[simp] theorem Device.passOver_pvw (content c : Nat) : (s.passOver content c).pvw = s.pvw := rfl
@[simp] theorem Device.passOver_que (content c : Nat) : (s.passOver content c).que = s.que := rfl
@[simp] theorem Device.passOver_mem (content c : Nat) : (s.passOver content c).mem = s.mem := rfl
@[simp] theorem Device.passOver_kpr (content c : Nat) : (s.passOver content c).kpr = s.kpr := rfl
@[simp] theorem Device.passOver_evt (content c : Nat) : (s.passOver content c).evt = s.evt := rfl
@[simp] theorem Device.passOver_hkp (content c : Nat) : (s.passOver content c).hkp = s.hkp := rfl
@[simp] theorem Device.passOver_sys (content c : Nat) : (s.passOver content c).sys = s.sys := rfl
@[simp] theorem Device.passOver_rdg (content c : Nat) : (s.passOver content c).rdg = s.rdg := rfl
@[simp] theorem Device.passOver_upd (content c : Nat) : (s.passOver content c).upd = s.upd := rfl
@[simp] theorem Device.passOver_resp (content c : Nat) : (s.passOver content c).resp = s.resp := rfl
@[simp] theorem Device.passOver_sent (content c : Nat) : (s.passOver content c).sent = s.sent := rfl
@[simp] theorem Device.passOver_free (content c : Nat) : (s.passOver content c).free = s.free := rfl

/-! ### `Device.modSection` -/

@[simp] theorem Device.modSection_regs (j : Nat) (f : Section → Section) : (s.modSection j f).regs = s.regs := rfl
@[simp] theorem Device.modSection_before (j : Nat) (f : Section → Section) : (s.modSection j f).before = s.before := rfl
@[simp] theorem Device.modSection_pipe (j : Nat) (f : Section → Section) : (s.modSection j f).pipe = s.pipe := rfl
@[simp] theorem Device.modSection_banked (j : Nat) (f : Section → Section) : (s.modSection j f).banked = s.banked := rfl
@[simp] theorem Device.modSection_latches (j : Nat) (f : Section → Section) : (s.modSection j f).latches = s.latches := rfl
@[simp] theorem Device.modSection_clock (j : Nat) (f : Section → Section) : (s.modSection j f).clock = s.clock := rfl
@[simp] theorem Device.modSection_shw (j : Nat) (f : Section → Section) : (s.modSection j f).shw = s.shw := rfl
@[simp] theorem Device.modSection_net (j : Nat) (f : Section → Section) : (s.modSection j f).net = s.net := rfl
@[simp] theorem Device.modSection_cmp (j : Nat) (f : Section → Section) : (s.modSection j f).cmp = s.cmp := rfl
@[simp] theorem Device.modSection_pho (j : Nat) (f : Section → Section) : (s.modSection j f).pho = s.pho := rfl
@[simp] theorem Device.modSection_bat (j : Nat) (f : Section → Section) : (s.modSection j f).bat = s.bat := rfl
@[simp] theorem Device.modSection_hdr (j : Nat) (f : Section → Section) : (s.modSection j f).hdr = s.hdr := rfl
@[simp] theorem Device.modSection_mtr (j : Nat) (f : Section → Section) : (s.modSection j f).mtr = s.mtr := rfl
@[simp] theorem Device.modSection_pvw (j : Nat) (f : Section → Section) : (s.modSection j f).pvw = s.pvw := rfl
@[simp] theorem Device.modSection_que (j : Nat) (f : Section → Section) : (s.modSection j f).que = s.que := rfl
@[simp] theorem Device.modSection_mem (j : Nat) (f : Section → Section) : (s.modSection j f).mem = s.mem := rfl
@[simp] theorem Device.modSection_kpr (j : Nat) (f : Section → Section) : (s.modSection j f).kpr = s.kpr := rfl
@[simp] theorem Device.modSection_evt (j : Nat) (f : Section → Section) : (s.modSection j f).evt = s.evt := rfl
@[simp] theorem Device.modSection_hkp (j : Nat) (f : Section → Section) : (s.modSection j f).hkp = s.hkp := rfl
@[simp] theorem Device.modSection_rdg (j : Nat) (f : Section → Section) : (s.modSection j f).rdg = s.rdg := rfl
@[simp] theorem Device.modSection_upd (j : Nat) (f : Section → Section) : (s.modSection j f).upd = s.upd := rfl
@[simp] theorem Device.modSection_resp (j : Nat) (f : Section → Section) : (s.modSection j f).resp = s.resp := rfl
@[simp] theorem Device.modSection_sent (j : Nat) (f : Section → Section) : (s.modSection j f).sent = s.sent := rfl
@[simp] theorem Device.modSection_free (j : Nat) (f : Section → Section) : (s.modSection j f).free = s.free := rfl

/-! ### `Device.line` -/

@[simp] theorem Device.line_regs (c : Nat) (syms : List Nat) : (s.line c syms).regs = s.regs := by
  unfold Device.line Device.when; split <;> rfl
@[simp] theorem Device.line_before (c : Nat) (syms : List Nat) : (s.line c syms).before = s.before := by
  unfold Device.line Device.when; split <;> rfl
@[simp] theorem Device.line_pipe (c : Nat) (syms : List Nat) : (s.line c syms).pipe = s.pipe := by
  unfold Device.line Device.when; split <;> rfl
@[simp] theorem Device.line_banked (c : Nat) (syms : List Nat) : (s.line c syms).banked = s.banked := by
  unfold Device.line Device.when; split <;> rfl
@[simp] theorem Device.line_latches (c : Nat) (syms : List Nat) : (s.line c syms).latches = s.latches := by
  unfold Device.line Device.when; split <;> rfl
@[simp] theorem Device.line_clock (c : Nat) (syms : List Nat) : (s.line c syms).clock = s.clock := by
  unfold Device.line Device.when; split <;> rfl
@[simp] theorem Device.line_shw (c : Nat) (syms : List Nat) : (s.line c syms).shw = s.shw := by
  unfold Device.line Device.when; split <;> rfl
@[simp] theorem Device.line_net (c : Nat) (syms : List Nat) : (s.line c syms).net = s.net := by
  unfold Device.line Device.when; split <;> rfl
@[simp] theorem Device.line_cmp (c : Nat) (syms : List Nat) : (s.line c syms).cmp = s.cmp := by
  unfold Device.line Device.when; split <;> rfl
@[simp] theorem Device.line_pho (c : Nat) (syms : List Nat) : (s.line c syms).pho = s.pho := by
  unfold Device.line Device.when; split <;> rfl
@[simp] theorem Device.line_bat (c : Nat) (syms : List Nat) : (s.line c syms).bat = s.bat := by
  unfold Device.line Device.when; split <;> rfl
@[simp] theorem Device.line_hdr (c : Nat) (syms : List Nat) : (s.line c syms).hdr = s.hdr := by
  unfold Device.line Device.when; split <;> rfl
@[simp] theorem Device.line_mtr (c : Nat) (syms : List Nat) : (s.line c syms).mtr = s.mtr := by
  unfold Device.line Device.when; split <;> rfl
@[simp] theorem Device.line_pvw (c : Nat) (syms : List Nat) : (s.line c syms).pvw = s.pvw := by
  unfold Device.line Device.when; split <;> rfl
@[simp] theorem Device.line_que (c : Nat) (syms : List Nat) : (s.line c syms).que = s.que := by
  unfold Device.line Device.when; split <;> rfl
@[simp] theorem Device.line_mem (c : Nat) (syms : List Nat) : (s.line c syms).mem = s.mem := by
  unfold Device.line Device.when; split <;> rfl
@[simp] theorem Device.line_kpr (c : Nat) (syms : List Nat) : (s.line c syms).kpr = s.kpr := by
  unfold Device.line Device.when; split <;> rfl
@[simp] theorem Device.line_evt (c : Nat) (syms : List Nat) : (s.line c syms).evt = s.evt := by
  unfold Device.line Device.when; split <;> rfl
@[simp] theorem Device.line_hkp (c : Nat) (syms : List Nat) : (s.line c syms).hkp = s.hkp := by
  unfold Device.line Device.when; split <;> rfl
@[simp] theorem Device.line_sys (c : Nat) (syms : List Nat) : (s.line c syms).sys = s.sys := by
  unfold Device.line Device.when; split <;> rfl
@[simp] theorem Device.line_rdg (c : Nat) (syms : List Nat) : (s.line c syms).rdg = s.rdg := by
  unfold Device.line Device.when; split <;> rfl
@[simp] theorem Device.line_upd (c : Nat) (syms : List Nat) : (s.line c syms).upd = s.upd := by
  unfold Device.line Device.when; split <;> rfl
@[simp] theorem Device.line_resp (c : Nat) (syms : List Nat) : (s.line c syms).resp = s.resp := by
  unfold Device.line Device.when; split <;> rfl
@[simp] theorem Device.line_free (c : Nat) (syms : List Nat) : (s.line c syms).free = s.free := by
  unfold Device.line Device.when; split <;> rfl

/-! ### `Device.countLeave` -/

@[simp] theorem Device.countLeave_before (off ev p : Nat) : (s.countLeave off ev p).before = s.before := by
  unfold Device.countLeave Device.raiseIf; split <;> rfl
@[simp] theorem Device.countLeave_pipe (off ev p : Nat) : (s.countLeave off ev p).pipe = s.pipe := by
  unfold Device.countLeave Device.raiseIf; split <;> rfl
@[simp] theorem Device.countLeave_banked (off ev p : Nat) : (s.countLeave off ev p).banked = s.banked := by
  unfold Device.countLeave Device.raiseIf; split <;> rfl
@[simp] theorem Device.countLeave_latches (off ev p : Nat) : (s.countLeave off ev p).latches = s.latches := by
  unfold Device.countLeave Device.raiseIf; split <;> rfl
@[simp] theorem Device.countLeave_clock (off ev p : Nat) : (s.countLeave off ev p).clock = s.clock := by
  unfold Device.countLeave Device.raiseIf; split <;> rfl
@[simp] theorem Device.countLeave_shw (off ev p : Nat) : (s.countLeave off ev p).shw = s.shw := by
  unfold Device.countLeave Device.raiseIf; split <;> rfl
@[simp] theorem Device.countLeave_net (off ev p : Nat) : (s.countLeave off ev p).net = s.net := by
  unfold Device.countLeave Device.raiseIf; split <;> rfl
@[simp] theorem Device.countLeave_cmp (off ev p : Nat) : (s.countLeave off ev p).cmp = s.cmp := by
  unfold Device.countLeave Device.raiseIf; split <;> rfl
@[simp] theorem Device.countLeave_pho (off ev p : Nat) : (s.countLeave off ev p).pho = s.pho := by
  unfold Device.countLeave Device.raiseIf; split <;> rfl
@[simp] theorem Device.countLeave_bat (off ev p : Nat) : (s.countLeave off ev p).bat = s.bat := by
  unfold Device.countLeave Device.raiseIf; split <;> rfl
@[simp] theorem Device.countLeave_hdr (off ev p : Nat) : (s.countLeave off ev p).hdr = s.hdr := by
  unfold Device.countLeave Device.raiseIf; split <;> rfl
@[simp] theorem Device.countLeave_mtr (off ev p : Nat) : (s.countLeave off ev p).mtr = s.mtr := by
  unfold Device.countLeave Device.raiseIf; split <;> rfl
@[simp] theorem Device.countLeave_pvw (off ev p : Nat) : (s.countLeave off ev p).pvw = s.pvw := by
  unfold Device.countLeave Device.raiseIf; split <;> rfl
@[simp] theorem Device.countLeave_que (off ev p : Nat) : (s.countLeave off ev p).que = s.que := by
  unfold Device.countLeave Device.raiseIf; split <;> rfl
@[simp] theorem Device.countLeave_mem (off ev p : Nat) : (s.countLeave off ev p).mem = s.mem := by
  unfold Device.countLeave Device.raiseIf; split <;> rfl
@[simp] theorem Device.countLeave_kpr (off ev p : Nat) : (s.countLeave off ev p).kpr = s.kpr := by
  unfold Device.countLeave Device.raiseIf; split <;> rfl
@[simp] theorem Device.countLeave_hkp (off ev p : Nat) : (s.countLeave off ev p).hkp = s.hkp := by
  unfold Device.countLeave Device.raiseIf; split <;> rfl
@[simp] theorem Device.countLeave_sys (off ev p : Nat) : (s.countLeave off ev p).sys = s.sys := by
  unfold Device.countLeave Device.raiseIf; split <;> rfl
@[simp] theorem Device.countLeave_rdg (off ev p : Nat) : (s.countLeave off ev p).rdg = s.rdg := by
  unfold Device.countLeave Device.raiseIf; split <;> rfl
@[simp] theorem Device.countLeave_upd (off ev p : Nat) : (s.countLeave off ev p).upd = s.upd := by
  unfold Device.countLeave Device.raiseIf; split <;> rfl
@[simp] theorem Device.countLeave_resp (off ev p : Nat) : (s.countLeave off ev p).resp = s.resp := by
  unfold Device.countLeave Device.raiseIf; split <;> rfl
@[simp] theorem Device.countLeave_sent (off ev p : Nat) : (s.countLeave off ev p).sent = s.sent := by
  unfold Device.countLeave Device.raiseIf; split <;> rfl
@[simp] theorem Device.countLeave_free (off ev p : Nat) : (s.countLeave off ev p).free = s.free := by
  unfold Device.countLeave Device.raiseIf; split <;> rfl

/-! ### `Device.setSrc` -/

@[simp] theorem Device.setSrc_regs (k : Nat) (x : SrcState) : (s.setSrc k x).regs = s.regs := rfl
@[simp] theorem Device.setSrc_before (k : Nat) (x : SrcState) : (s.setSrc k x).before = s.before := rfl
@[simp] theorem Device.setSrc_pipe (k : Nat) (x : SrcState) : (s.setSrc k x).pipe = s.pipe := rfl
@[simp] theorem Device.setSrc_banked (k : Nat) (x : SrcState) : (s.setSrc k x).banked = s.banked := rfl
@[simp] theorem Device.setSrc_latches (k : Nat) (x : SrcState) : (s.setSrc k x).latches = s.latches := rfl
@[simp] theorem Device.setSrc_clock (k : Nat) (x : SrcState) : (s.setSrc k x).clock = s.clock := rfl
@[simp] theorem Device.setSrc_net (k : Nat) (x : SrcState) : (s.setSrc k x).net = s.net := rfl
@[simp] theorem Device.setSrc_cmp (k : Nat) (x : SrcState) : (s.setSrc k x).cmp = s.cmp := rfl
@[simp] theorem Device.setSrc_pho (k : Nat) (x : SrcState) : (s.setSrc k x).pho = s.pho := rfl
@[simp] theorem Device.setSrc_bat (k : Nat) (x : SrcState) : (s.setSrc k x).bat = s.bat := rfl
@[simp] theorem Device.setSrc_hdr (k : Nat) (x : SrcState) : (s.setSrc k x).hdr = s.hdr := rfl
@[simp] theorem Device.setSrc_mtr (k : Nat) (x : SrcState) : (s.setSrc k x).mtr = s.mtr := rfl
@[simp] theorem Device.setSrc_pvw (k : Nat) (x : SrcState) : (s.setSrc k x).pvw = s.pvw := rfl
@[simp] theorem Device.setSrc_que (k : Nat) (x : SrcState) : (s.setSrc k x).que = s.que := rfl
@[simp] theorem Device.setSrc_mem (k : Nat) (x : SrcState) : (s.setSrc k x).mem = s.mem := rfl
@[simp] theorem Device.setSrc_kpr (k : Nat) (x : SrcState) : (s.setSrc k x).kpr = s.kpr := rfl
@[simp] theorem Device.setSrc_evt (k : Nat) (x : SrcState) : (s.setSrc k x).evt = s.evt := rfl
@[simp] theorem Device.setSrc_hkp (k : Nat) (x : SrcState) : (s.setSrc k x).hkp = s.hkp := rfl
@[simp] theorem Device.setSrc_sys (k : Nat) (x : SrcState) : (s.setSrc k x).sys = s.sys := rfl
@[simp] theorem Device.setSrc_rdg (k : Nat) (x : SrcState) : (s.setSrc k x).rdg = s.rdg := rfl
@[simp] theorem Device.setSrc_upd (k : Nat) (x : SrcState) : (s.setSrc k x).upd = s.upd := rfl
@[simp] theorem Device.setSrc_resp (k : Nat) (x : SrcState) : (s.setSrc k x).resp = s.resp := rfl
@[simp] theorem Device.setSrc_sent (k : Nat) (x : SrcState) : (s.setSrc k x).sent = s.sent := rfl
@[simp] theorem Device.setSrc_free (k : Nat) (x : SrcState) : (s.setSrc k x).free = s.free := rfl

end Sys2Proof.Machine
end

