-- ==== Sys2Proof/Laws/Events.lean ====
section
/-! SUPPORT. How a command's completion is shown, and which events a change raises. -/

namespace Sys2Proof.Machine

/-- A command that is a function of the device runs. -/
theorem State.runs_of {s : State} {c : Instr} {P : Device → Prop} (f : Device → Device)
    (h : exec c s = s.onDevice fun d => .next (f d)) (p : P (f s.dev)) : s.runs c P := ⟨f s.dev, by rw [h]; rfl, p⟩

/-- A command on a unit that exists runs. -/
theorem State.runs_unit {s : State} {c : Instr} {P : Device → Prop} (b : Device → Bool) (f : Device → Device)
    (h : exec c s = s.onDevice fun d => onUnit (b d) (f d)) (hb : b s.dev = true) (p : P (f s.dev)) : s.runs c P :=
  ⟨f s.dev, by rw [h]; simp only [State.onDevice, hb, onUnit_true], p⟩

theorem Device.newEvents_none {s t : Device} (h : t.evt = s.evt) : s.newEvents t [] := ⟨by rw [h], [], by rw [h, List.append_nil], rfl⟩

theorem Device.newEvents_raise {s t : Device} {l : List (Nat × Nat)} (h : s.newEvents t l) (ev p : Nat) :
    s.newEvents (t.raise ev p) (l ++ [(ev, p % 2 ^ 64)]) := by
  obtain ⟨hl, r, hr, hm⟩ := h
  refine ⟨hl, r ++ [⟨ev, t.clock, t.shw.time, t.shw.frame, t.shw.line, p % 2 ^ 64⟩], ?_, ?_⟩
  · rw [Device.raise_evt_raised, hr, List.append_assoc]
  · rw [List.map_append, hm]; rfl

theorem Device.newEvents_raiseIf {s t : Device} {l : List (Nat × Nat)} (h : s.newEvents t l) (b : Bool) (ev p : Nat) :
    s.newEvents (t.raiseIf b ev p) (l ++ if b then [(ev, p % 2 ^ 64)] else []) := by
  cases b
  · simpa using h
  · exact Device.newEvents_raise h ev p

/-- The events depend on nothing but the event state. -/
theorem Device.newEvents_congr {s t u : Device} {l : List (Nat × Nat)} (h : s.newEvents t l) (e : u.evt = t.evt) : s.newEvents u l := by
  unfold Device.newEvents at *; rw [e]; exact h

theorem Device.newEvents_append {s t u : Device} {l m : List (Nat × Nat)} (h : s.newEvents t l) (g : t.newEvents u m) : s.newEvents u (l ++ m) := by
  obtain ⟨hl, r, hr, hm⟩ := h
  obtain ⟨gl, q, gr, gm⟩ := g
  exact ⟨gl.trans hl, r ++ q, by rw [gr, hr, List.append_assoc], by rw [List.map_append, hm, gm]⟩

theorem Device.keepsRegs_refl {s t : Device} (l : List Nat) (h : t.regs = s.regs) : s.keepsRegs t l := fun o _ => by simp [Device.reg, h]

theorem Device.keepsRegs_trans {s t u : Device} {l : List Nat} (h : s.keepsRegs t l) (g : t.keepsRegs u l) : s.keepsRegs u l :=
  fun o ho => (g o ho).trans (h o ho)

theorem Device.keepsRegs_setReg {s t : Device} {l : List Nat} (h : s.keepsRegs t l) (off : Nat) (v : Word) (m : off ∈ l) :
    s.keepsRegs (t.setReg off v) l := fun o ho => by
  rw [t.reg_setReg_other v (fun e : o = off => ho (e ▸ m)), h o ho]

theorem Device.keepsRegs_congr {s t u : Device} {l : List Nat} (h : s.keepsRegs t l) (e : u.regs = t.regs) : s.keepsRegs u l :=
  fun o ho => (Device.reg_congr e o).trans (h o ho)

/-! ### Stores of plain registers -/

/-- A plain store of a register that is not kept per reader: the write is taken at its offset, and nothing else changes. -/
theorem storeWrite_took {w : Who} {off : Nat} {v : Word} (s : Device) (h : (specAt off).map (·.banked) = some false) :
    s.tookWrite (storeWrite w off v s) off v ∧ s.keepsRegs (storeWrite w off v s) [off] ∧
      storeWrite w off v s = { s with regs := (storeWrite w off v s).regs } := by
  cases hr : specAt off with
  | none => simp [hr] at h
  | some r =>
    have hb : r.banked = false := by simpa [hr] using h
    refine ⟨⟨r, hr, by simp [storeWrite_reg hr hb]⟩, fun o ho => ?_, ?_⟩
    · rw [storeWrite_reg hr hb, if_neg (by simpa using ho)]
    · unfold storeWrite; rw [hr]; simp only [hb, Bool.false_eq_true, if_false]; rfl

/-- The bits of a word after a write (R10). -/
theorem mergeWrite_bit (r : RegSpec) (old v : Word) (i : Nat) (hi : i < 32) :
    (mergeWrite r old v).toNat.testBit i =
      (old.toNat.testBit i && !r.rw.testBit i && !(r.w1c.testBit i && wbit v i) || wbit v i && r.rw.testBit i || wbit v i && r.w1s.testBit i) := by
  simp only [mergeWrite, wbit, BitVec.testBit_toNat, BitVec.getLsbD_or, BitVec.getLsbD_and, BitVec.getLsbD_not,
    BitVec.getLsbD_ofNat, hi, decide_true, Bool.true_and]

/-- A plain bit holds what was written. -/
theorem tookWrite_rw {s t : Device} {off : Nat} {v : Word} (h : s.tookWrite t off v) (i : Nat) (hi : i < 32)
    (b : (specAt off).any (fun r => r.rw.testBit i && !r.w1s.testBit i) = true) : t.rb off i = wbit v i := by
  obtain ⟨r, hr, h⟩ := h
  rw [hr] at b
  simp only [Option.any_some, Bool.and_eq_true, Bool.not_eq_true'] at b
  unfold Device.rb Device.rn
  rw [h, mergeWrite_bit _ _ _ _ hi, b.1, b.2]
  simp

/-- A W1S bit that was written 1 is set. -/
theorem tookWrite_w1s {s t : Device} {off : Nat} {v : Word} (h : s.tookWrite t off v) (i : Nat) (hi : i < 32)
    (b : (specAt off).any (fun r => r.w1s.testBit i) = true) (hv : wbit v i = true) : t.rb off i = true := by
  obtain ⟨r, hr, h⟩ := h
  rw [hr] at b
  simp only [Option.any_some] at b
  unfold Device.rb Device.rn
  rw [h, mergeWrite_bit _ _ _ _ hi, b, hv]
  simp

/-- What a store that has been forwarded leaves: only what is sent differs. -/
theorem forwardWrite_regs (off : Nat) (v : Word) (p : Nat) (s : Device) : (forwardWrite off v p s).regs = s.regs := by
  rw [forwardWrite_eq]

end Sys2Proof.Machine
end

