-- ==== Sys2Proof/Laws/Queue.lean ====
section
/-! SUPPORT. What the queues and the scheduler can touch: every operation of theirs changes registers, events, what is sent and the queue
block, and nothing else of the device. -/

namespace Sys2Proof.Machine

/-- `t` differs from `s` at most in its registers, its events, what was sent and the queue block, and only adds to the
events raised. -/
def QueFrame (s t : Device) : Prop :=
  t = { s with regs := t.regs, que := t.que, evt := t.evt, sent := t.sent } ∧ s.evt.raised <+: t.evt.raised

theorem QueFrame.refl (s : Device) : QueFrame s s := ⟨rfl, List.prefix_rfl⟩

theorem QueFrame.trans {s t u : Device} (h : QueFrame s t) (g : QueFrame t u) : QueFrame s u := by
  obtain ⟨h1, h2⟩ := h
  obtain ⟨g1, g2⟩ := g
  exact ⟨by rw [g1, h1], h2.trans g2⟩

section Chain

variable {s t : Device}

theorem QueFrame.reg (h : QueFrame s t) (off : Nat) (v : Word) : QueFrame s (t.setReg off v) := h.trans ⟨rfl, List.prefix_rfl⟩
theorem QueFrame.setN (h : QueFrame s t) (off v : Nat) : QueFrame s (t.setN off v) := h.trans ⟨rfl, List.prefix_rfl⟩
theorem QueFrame.setB (h : QueFrame s t) (off i : Nat) (b : Bool) : QueFrame s (t.setB off i b) := h.trans ⟨rfl, List.prefix_rfl⟩
theorem QueFrame.count (h : QueFrame s t) (off n : Nat) : QueFrame s (t.count off n) := h.trans ⟨rfl, List.prefix_rfl⟩
theorem QueFrame.raise (h : QueFrame s t) (ev p : Nat) : QueFrame s (t.raise ev p) := h.trans ⟨rfl, List.prefix_append _ _⟩
theorem QueFrame.raiseIf (h : QueFrame s t) (b : Bool) (ev p : Nat) : QueFrame s (t.raiseIf b ev p) := by cases b <;> first | exact h | exact h.raise _ _
theorem QueFrame.send (h : QueFrame s t) (o : Out) (d : List Nat) : QueFrame s (t.send o d) := h.trans ⟨rfl, List.prefix_rfl⟩
theorem QueFrame.que (h : QueFrame s t) (x : QueState) : QueFrame s { t with que := x } := h.trans ⟨rfl, List.prefix_rfl⟩
theorem QueFrame.setQueue (h : QueFrame s t) (q : Nat) (x : QueueState) : QueFrame s (t.setQueue q x) := h.trans ⟨rfl, List.prefix_rfl⟩
theorem QueFrame.setTask (h : QueFrame s t) (x : Task) : QueFrame s (t.setTask x) := h.trans ⟨rfl, List.prefix_rfl⟩
theorem QueFrame.when (h : QueFrame s t) (b : Bool) (f : Device → Device) (g : QueFrame t (f t)) : QueFrame s (t.when b f) := by
  cases b
  · exact h
  · exact h.trans g

end Chain

theorem QueFrame.each {α : Type} {s : Device} (l : List α) (f : Device → α → Device) (h : ∀ s, ∀ a ∈ l, QueFrame s (f s a)) :
    QueFrame s (s.each l f) := by
  induction l generalizing s with
  | nil => exact .refl _
  | cons a l ih => exact (h s a (by simp)).trans (ih fun s b hb => h s b (by simp [hb]))

theorem crossWatermarks_frame (q old : Nat) (s : Device) : QueFrame s (crossWatermarks q old s) := by
  unfold crossWatermarks
  dsimp only
  refine QueFrame.when (QueFrame.when (.refl s) _ _ ?_) _ _ ?_
  · exact (((QueFrame.refl _).setB _ _ _).count _ _).raise _ _
  · exact (((QueFrame.refl _).setB _ _ _).count _ _).raise _ _

theorem updQueue_frame (s : Device) (q : Nat) (x : QueueState) : QueFrame s (s.updQueue q x) :=
  ((QueFrame.refl s).setQueue q _).trans (crossWatermarks_frame q _ _)

theorem refreshStalls_frame (s : Device) : QueFrame s (refreshStalls s) := by
  unfold refreshStalls
  generalize upto 41 = ports
  refine QueFrame.each _ _ fun s p _ => ?_
  exact ((QueFrame.refl s).que _).raiseIf _ _ _

theorem enterTask_frame (s : Device) (port : Nat) (w0 w1 w2 w3 : Word) : QueFrame s (enterTask s port w0 w1 w2 w3).2 := by
  unfold enterTask
  dsimp only
  refine QueFrame.trans ?_ (refreshStalls_frame _)
  refine QueFrame.raiseIf ?_ _ _ _
  exact (QueFrame.refl s).que _

theorem ringBells_frame (q : Nat) (s : Device) : QueFrame s (ringBells q s) := by
  unfold ringBells
  refine QueFrame.each _ _ fun s _ _ => ?_
  dsimp only
  split_ifs
  · exact .refl _
  · exact ((QueFrame.refl s).setQueue q _).trans (enterTask_frame _ _ _ _ _ _)
  · exact ((QueFrame.refl s).setQueue q _).count _ _

theorem itemArrives_frame (q : Nat) (ws : List Word) (x : QueueState) (s : Device) : QueFrame s (itemArrives q ws x s) := by
  have h : QueFrame s (({ s with que := { s.que with arrivals := s.que.arrivals + 1 } } : Device).updQueue q
      { x with items := x.items ++ [⟨ws, s.que.arrivals + 1, .pending⟩] }) :=
    ((QueFrame.refl s).que _).trans (updQueue_frame _ _ _)
  unfold itemArrives
  dsimp only
  split_ifs
  · exact (h.setQueue q _).trans (ringBells_frame q _)
  · exact h

theorem itemPending_frame (q : Nat) (ws : List Word) (s : Device) : QueFrame s (itemPending q ws s) := itemArrives_frame _ _ _ _

theorem hwPush_frame (agent q : Nat) (ws : List Word) (s : Device) : QueFrame s (hwPush agent q ws s) := by
  unfold hwPush
  split_ifs
  · exact .refl _
  · exact itemPending_frame _ _ _
  · exact (QueFrame.refl s).setQueue q _

theorem deliverHeld_frame (q : Nat) (ws : List Word) (s : Device) : QueFrame s (deliverHeld q ws s) := by
  unfold deliverHeld
  split_ifs
  · exact itemPending_frame _ _ _
  · exact (QueFrame.refl s).setQueue q _

theorem drainWaiting_frame (q : Nat) (s : Device) : QueFrame s (drainWaiting q s) := by
  unfold drainWaiting
  refine QueFrame.each _ _ fun s _ _ => ?_
  dsimp only
  split
  · split_ifs
    · exact ((QueFrame.refl s).setQueue q _).trans (itemPending_frame _ _ _)
    · exact .refl _
  · exact .refl _

theorem afterFree_frame (s : Device) : QueFrame s (afterFree s) := by
  refine (refreshStalls_frame s).trans (QueFrame.each _ _ fun s q _ => ?_)
  exact (ringBells_frame q s).trans (drainWaiting_frame q _)

theorem flushQueue_frame (q : Nat) (s : Device) : QueFrame s (flushQueue q s) := by
  unfold flushQueue
  dsimp only
  refine ((updQueue_frame s q _).trans (QueFrame.each _ _ fun s _ _ => ?_)).trans (drainWaiting_frame q _)
  exact ((QueFrame.refl s).count _ _).raise _ _

theorem finishItem_frame (agent q : Nat) (a : Assembly) (s : Device) : QueFrame s (finishItem agent q a s) := by
  have h (x : QueueState) : QueFrame s (s.setQueue q x) := (QueFrame.refl s).setQueue q x
  unfold finishItem
  dsimp only
  split_ifs
  · exact (h _).trans (drainWaiting_frame q _)
  · split
    · exact itemArrives_frame _ _ _ _
    · split
      · split_ifs
        · exact (h _).que _
        · exact (h _).trans (deliverHeld_frame _ _ _)
      · exact (h _).trans (deliverHeld_frame _ _ _)

theorem releaseTask_frame (t : Task) (s : Device) : QueFrame s (releaseTask t s) := by
  unfold releaseTask
  exact ((QueFrame.refl s).que _).trans (QueFrame.each _ _ fun s p _ => deliverHeld_frame _ _ _)

theorem releaseFollowing_frame (n f : Nat) (s : Device) : QueFrame s (releaseFollowing n f s) := by
  induction n generalizing s with
  | zero => exact .refl _
  | succ n ih =>
    unfold releaseFollowing
    split
    · exact (releaseTask_frame _ s).trans (ih _)
    · exact .refl _

theorem leaveTask_frame (t : Task) (s : Device) : QueFrame s (leaveTask t s) := by
  unfold leaveTask
  dsimp only
  split
  · exact (releaseTask_frame t s).trans (releaseFollowing_frame _ _ _)
  · exact releaseTask_frame t s

theorem dispatchTo_frame (c : Nat) (t : Task) (hit : Bool) (s : Device) : QueFrame s (dispatchTo c t hit s) := by
  unfold dispatchTo
  dsimp only
  refine QueFrame.when ?_ _ _ ((QueFrame.refl _).count _ _)
  exact (((((((QueFrame.refl s).setTask _).que _).setN _ _).reg _ _).reg _ _).count _ _).send _ _

end Sys2Proof.Machine
end

