-- ==== Sys2Proof/Laws/Memory.lean ====
section
/-! SUPPORT. What the memory's operations can touch, and the canonical form of the memory, which each of them keeps. -/

namespace Sys2Proof.Machine

/-! ### What a memory operation can touch -/

/-- `t` differs from `s` at most in its registers, its events, what was sent, the queues, the memory and the pages noted dirty, and
only adds to the events raised. -/
def MemFrame (s t : Device) : Prop :=
  t = { s with regs := t.regs, que := t.que, evt := t.evt, sent := t.sent, mem := t.mem, rdg := { s.rdg with dirty := t.rdg.dirty } } ∧
    s.evt.raised <+: t.evt.raised

theorem MemFrame.refl (s : Device) : MemFrame s s := ⟨rfl, List.prefix_rfl⟩

theorem MemFrame.trans {s t u : Device} (h : MemFrame s t) (g : MemFrame t u) : MemFrame s u := by
  obtain ⟨h1, h2⟩ := h
  obtain ⟨g1, g2⟩ := g
  exact ⟨by rw [g1, h1], h2.trans g2⟩

theorem QueFrame.mem {s t : Device} (h : QueFrame s t) : MemFrame s t := by
  obtain ⟨h, g⟩ := h
  exact ⟨by rw [h], g⟩

section Chain

variable {s t : Device}

theorem MemFrame.setN (h : MemFrame s t) (off v : Nat) : MemFrame s (t.setN off v) := h.trans ⟨rfl, List.prefix_rfl⟩
theorem MemFrame.set64 (h : MemFrame s t) (lo hi v : Nat) : MemFrame s (t.set64 lo hi v) := h.trans ⟨rfl, List.prefix_rfl⟩
theorem MemFrame.count (h : MemFrame s t) (off n : Nat) : MemFrame s (t.count off n) := h.trans ⟨rfl, List.prefix_rfl⟩
theorem MemFrame.raise (h : MemFrame s t) (ev p : Nat) : MemFrame s (t.raise ev p) := h.trans ⟨rfl, List.prefix_append _ _⟩
theorem MemFrame.send (h : MemFrame s t) (o : Out) (d : List Nat) : MemFrame s (t.send o d) := h.trans ⟨rfl, List.prefix_rfl⟩
theorem MemFrame.mems (h : MemFrame s t) (m : MemState) : MemFrame s { t with mem := m } := h.trans ⟨rfl, List.prefix_rfl⟩
theorem MemFrame.cond (h : MemFrame s t) (off : Nat) (c : CwState) : MemFrame s (setCond off c t) := h.trans ⟨rfl, List.prefix_rfl⟩
theorem MemFrame.err (h : MemFrame s t) (a : MemAgent) (r off cause : Nat) : MemFrame s (noteErr a r off cause t) := h.trans ⟨rfl, List.prefix_rfl⟩

end Chain

theorem MemFrame.each {α : Type} {s : Device} (l : List α) (f : Device → α → Device) (h : ∀ s, ∀ a ∈ l, MemFrame s (f s a)) :
    MemFrame s (s.each l f) := by
  induction l generalizing s with
  | nil => exact .refl _
  | cons a l ih => exact (h s a (by simp)).trans (ih fun s b hb => h s b (by simp [hb]))

theorem notify_frame (r off cause : Nat) (s : Device) : MemFrame s (notify r off cause s) := by
  unfold notify
  dsimp only
  have h : ∀ b, MemFrame s (s.when b fun s => s.send .safety [off, cause]) := by
    intro b; cases b
    · exact .refl s
    · exact (MemFrame.refl s).send _ _
  split_ifs
  · exact h _
  · exact ((h _).trans (hwPush_frame _ _ _ _).mem).mems _

theorem noteCorrected_frame (r off : Nat) (s : Device) : MemFrame s (noteCorrected r off s) := by
  unfold noteCorrected
  dsimp only
  have h := ((MemFrame.refl s).count (R.MEM_Rr_CORR r) 1).count R.MEM_CORR_TOTAL 1
  split_ifs
  · exact (h.mems _).raise _ _
  · exact h

theorem poisonCw_frame (a : MemAgent) (r off cause : Nat) (s : Device) : MemFrame s (poisonCw a r off cause s) := by
  unfold poisonCw
  exact ((((((MemFrame.refl s).cond _ _).count _ _).count _ _).count _ _).err a _ _ _ |>.raise _ _).trans (notify_frame _ _ _ _)

theorem notePoisonRead_frame (a : MemAgent) (r off : Nat) (s : Device) : MemFrame s (notePoisonRead a r off s) := by
  unfold notePoisonRead
  dsimp only
  have h := (((MemFrame.refl s).count R.MEM_POISON_READS 1).err a r off 3).raise Ev.MEM_POISON_READ (memPayload r off)
  split_ifs
  · exact h
  · exact h.trans (notify_frame _ _ _ _)

theorem noteParity_frame (a : MemAgent) (r off : Nat) (s : Device) : MemFrame s (noteParity a r off s) :=
  (((MemFrame.refl s).count _ _).count _ _).err a _ _ _

theorem openGranule_frame (off : Nat) (s : Device) : MemFrame s (openGranule off s) := by
  unfold openGranule
  split_ifs <;> exact ⟨rfl, List.prefix_rfl⟩

theorem fillFront_frame (s : Device) : MemFrame s (fillFront s) := by
  unfold fillFront
  split
  · exact .refl _
  · dsimp only
    split_ifs
    · exact .refl _
    · exact ⟨rfl, List.prefix_rfl⟩

theorem discardFronts_frame (s : Device) : MemFrame s (discardFronts s) := by
  unfold discardFronts
  refine MemFrame.each _ _ fun s p _ => ?_
  dsimp only
  split_ifs <;> exact ⟨rfl, List.prefix_rfl⟩

theorem syncFronts_frame (s : Device) : MemFrame s (syncFronts s) := (fillFront_frame s).trans (discardFronts_frame _)

theorem readCw_frame (a : MemAgent) (r off : Nat) (u : Upset) (s : Device) : MemFrame s (readCw a r off u s).1 := by
  unfold readCw
  dsimp only
  split_ifs
  · exact .refl _
  · split
    · exact .refl _
    · exact ((noteCorrected_frame r off s).cond _ _).mems _
    · exact poisonCw_frame _ _ _ _ _
    · exact ((MemFrame.refl s).cond _ _).trans (notePoisonRead_frame _ _ _ _)
    · exact ((MemFrame.refl s).cond _ _).trans (noteParity_frame _ _ _ _)

/-- What every step of a fold over a device and something beside it frames, the fold frames. -/
theorem MemFrame.foldl {α β : Type} (l : List α) (f : Device × β → α → Device × β) (h : ∀ x, ∀ a, MemFrame x.1 (f x a).1) (x : Device × β) :
    MemFrame x.1 (l.foldl f x).1 := by
  induction l generalizing x with
  | nil => exact .refl _
  | cons a l ih => exact (h x a).trans (ih _)

theorem accessFault_frame (off : Nat) (s : Device) : MemFrame s (accessFault off s) := (MemFrame.refl s).raise _ _

theorem memReadU_frame (a : MemAgent) (off n : Nat) (u : Upset) (s : Device) : MemFrame s (memReadU a off n u s).1 := by
  unfold memReadU
  refine (syncFronts_frame s).trans ?_
  dsimp only
  split
  · exact accessFault_frame _ _
  · split_ifs
    · exact accessFault_frame _ _
    · refine MemFrame.foldl _ _ (fun x cw => ?_) (syncFronts s, ({ data := [] } : Rd), u)
      exact readCw_frame _ _ _ _ _

/-- A memory read touches registers, events, what is sent, the queues and the memory's own conditions: nothing else. -/
theorem memRead_frame (a : MemAgent) (off n : Nat) (s : Device) : MemFrame s (memRead a off n s).1 := memReadU_frame a off n .none s

theorem recovered_frame (r cw : Nat) (s : Device) : MemFrame s (recovered r cw s) := by
  unfold recovered
  dsimp only
  split_ifs
  · exact .refl _
  · exact (MemFrame.refl s).raise _ _

theorem writeWhole_frame (r cw : Nat) (data : List Byte) (s : Device) : MemFrame s (writeWhole r cw data s) := by
  unfold writeWhole
  dsimp only
  have h := ((openGranule_frame cw s).mems ((openGranule cw s).mem.store cw data)).cond cw .good
  split_ifs
  · exact (h.mems _).trans (recovered_frame _ _ _)
  · exact h

theorem writePart_frame (a : MemAgent) (r cw off : Nat) (data : List Byte) (u : Upset) (s : Device) :
    MemFrame s (writePart a r cw off data u s).1 := by
  unfold writePart
  dsimp only
  split_ifs
  · exact (openGranule_frame cw s).mems _
  · split
    · exact ((MemFrame.refl s).mems _).cond _ _
    · exact ((noteCorrected_frame r cw s).mems _).cond _ _
    · exact (poisonCw_frame _ _ _ _ _).count _ _
    · exact ((MemFrame.refl s).cond _ _).count _ _
    · exact (((MemFrame.refl s).mems _).trans (noteParity_frame _ _ _ _)).cond _ _

theorem mirrorNote_frame (r off : Nat) (data : List Byte) (s : Device) : MemFrame s (mirrorNote r off data s) := by
  unfold mirrorNote
  split_ifs
  · exact .refl _
  · exact (MemFrame.refl s).send _ _
  · exact .refl _

theorem memWriteU_frame (a : MemAgent) (off : Nat) (data : List Byte) (u : Upset) (s : Device) :
    MemFrame s (memWriteU a off data u s).1 := by
  unfold memWriteU
  refine (syncFronts_frame s).trans ?_
  dsimp only
  split
  · exact .refl _
  · refine MemFrame.trans ?_ (mirrorNote_frame _ _ _ _)
    refine MemFrame.foldl _ _ (fun x cw => ?_) (syncFronts s, false, u)
    split_ifs
    · exact writeWhole_frame _ _ _ _
    · exact writePart_frame _ _ _ _ _ _ _

theorem memStore_frame (a : MemAgent) (off : Nat) (data : List Byte) (s : Device) : MemFrame s (memStore a off data s) := by
  unfold memStore
  split_ifs
  · exact memWriteU_frame _ _ _ _ _
  · exact .refl _
  · exact accessFault_frame _ _

theorem MemFrame.when {s t : Device} (h : MemFrame s t) (b : Bool) (f : Device → Device) (hf : ∀ s, MemFrame s (f s)) : MemFrame s (t.when b f) := by
  cases b
  · exact h
  · exact h.trans (hf t)

theorem setTblStatus_frame (b : Bool) (t p : Nat) (c : Code) (s : Device) : MemFrame s (s.when b (setTblStatus t p c)) :=
  (MemFrame.refl s).when b _ fun _ => ⟨rfl, List.prefix_rfl⟩

theorem phoReport_frame (rd : Nat → Word) (s : Device) : MemFrame s (phoReport rd s) := by
  unfold phoReport
  generalize (if profBank rd ≠ profBank s.reg then profileBankCode s rd (profBank rd) else (.ok, 0)) = x
  generalize trimBankCode s rd = y
  dsimp only
  generalize hu : (s.when _ _).when _ _ = u
  have h : MemFrame s u := hu ▸ (setTblStatus_frame _ _ _ _ _).trans (setTblStatus_frame _ _ _ _ _)
  split
  · exact (h.count _ _).raise _ _
  · exact h

theorem hdrReport_frame (rd : Nat → Word) (s : Device) : MemFrame s (hdrReport rd s) := by
  unfold hdrReport
  split
  · unfold groupReport
    generalize groupBankCode s rd (groupBank rd) = x
    exact ⟨rfl, List.prefix_rfl⟩
  · exact .refl _

/-- What a validation of settings can touch: the frame of its reads of memory. -/
theorem noteValidation_frame (m : Table Word) (es : Entries) (bad : Bool) (s : Device) : MemFrame s (noteValidation m es bad s) := by
  have reads (a : MemAgent) (l : List (Nat × Nat)) (s : Device) : MemFrame s (s.each l fun s p => (memRead a p.1 p.2 s).1) :=
    MemFrame.each _ _ fun s p _ => memRead_frame _ _ _ _
  unfold noteValidation
  dsimp only
  generalize hu : (s.each _ _) = u
  have h : MemFrame s u := hu ▸ reads .pho _ s
  replace h := h.trans ((reads .hdr (hdrReads u (fileRd (withEntries m es))) u).trans (hdrReport_frame (fileRd (withEntries m es)) _))
  split
  · exact h.trans (phoReport_frame _ _)
  · exact h

/-! ### The canonical form (R329, R334, R337) -/

theorem Memory.wf_iff (m : MemState) : Memory.wf m ↔
    m.cells.canon (fun _ => 0) ∧ m.valid.canon (fun _ => false) ∧ m.known.canon (fun _ => false) ∧ m.cond.canon (fun _ => .good) := by
  simp [Memory.wf, and_assoc]

/-- The bytes that a store lists: in rising order from its first address, none of them zero. -/
theorem storeCells_sorted (data : List Byte) (off lo : Nat) (le : lo ≤ off) :
    Table.sortedFrom lo ((data.zipIdx off).filterMap (fun p => if p.1 = 0 then none else some (p.2, p.1))) := by
  induction data generalizing off lo with
  | nil => rfl
  | cons b l ih =>
    simp only [List.zipIdx_cons, List.filterMap_cons]
    split_ifs with hb
    · exact ih (off + 1) lo (by omega)
    · simp only [Table.sortedFrom, Bool.and_eq_true, decide_eq_true_eq]
      exact ⟨le, ih (off + 1) (off + 1) (by omega)⟩

theorem storeCells_mem (data : List Byte) (off : Nat) :
    ∀ p ∈ (data.zipIdx off).filterMap (fun p => if p.1 = 0 then none else some (p.2, p.1)), p.1 < off + data.length ∧ p.2 ≠ 0 := by
  intro p hp
  obtain ⟨q, hq, h⟩ := List.mem_filterMap.mp hp
  split_ifs at h with hb
  have := List.snd_lt_of_mem_zipIdx hq
  cases h
  exact ⟨by omega, hb⟩

theorem rangeCells_sorted (lo n : Nat) : Table.sortedFrom lo ((upto n).map (fun i => (lo + i, true))) := by
  suffices h : ∀ k, Table.sortedFrom (lo + k) ((List.range' k n).map (fun i => (lo + i, true))) by
    simpa [upto, List.range_eq_range'] using h 0
  induction n with
  | zero => intro k; rfl
  | succ n ih =>
    intro k
    simp only [List.range'_succ, List.map_cons, Table.sortedFrom, le_refl, decide_true, Bool.true_and]
    exact ih (k + 1)

theorem MemState.note_wf (m : MemState) (lo hi : Nat) (le : lo ≤ hi) (h : Memory.wf m) : Memory.wf (m.note lo hi) := by
  rw [Memory.wf_iff] at h ⊢
  refine ⟨h.1, h.2.1, Table.canon_splice _ _ _ _ _ h.2.2.1 le (rangeCells_sorted lo (hi - lo)) ?_ ?_, h.2.2.2⟩
  · intro p hp
    obtain ⟨i, hi', rfl⟩ := List.mem_map.mp hp
    have : i < hi - lo := by simpa [upto] using hi'
    show lo + i < hi
    omega
  · intro p hp
    obtain ⟨i, _, rfl⟩ := List.mem_map.mp hp
    simp

theorem MemState.store_wf (m : MemState) (off : Nat) (data : List Byte) (h : Memory.wf m) : Memory.wf (m.store off data) := by
  let new : Table Byte := (data.zipIdx off).filterMap (fun p => if p.1 = 0 then none else some (p.2, p.1))
  have key : ∀ n : MemState, Memory.wf n → Memory.wf { n with cells := n.cells.splice off (off + data.length) new } := by
    intro n hn
    rw [Memory.wf_iff] at hn ⊢
    exact ⟨Table.canon_splice _ _ _ _ _ hn.1 (by omega) (storeCells_sorted data off off (le_refl _))
      (fun p hp => (storeCells_mem data off p hp).1) (fun p hp => (storeCells_mem data off p hp).2), hn.2.1, hn.2.2.1, hn.2.2.2⟩
  unfold MemState.store
  dsimp only
  split_ifs
  · exact key m h
  · exact key _ (MemState.note_wf m _ _ (by omega) h)

theorem MemState.clear_wf (m : MemState) (off n : Nat) (h : Memory.wf m) : Memory.wf (m.clear off n) := by
  rw [Memory.wf_iff] at h ⊢
  exact ⟨Table.canon_filter _ _ _ h.1, h.2.1, h.2.2.1, Table.canon_filter _ _ _ h.2.2.2⟩

/-- The fields of the memory that the canonical form does not concern may change freely. -/
theorem Memory.wf_of {m n : MemState} (h : Memory.wf m) (c : n.cells = m.cells) (v : n.valid = m.valid) (k : n.known = m.known)
    (d : n.cond = m.cond) : Memory.wf n := by
  rw [Memory.wf_iff] at h ⊢
  rw [c, v, k, d]; exact h

theorem setCond_wf (off : Nat) (c : CwState) (s : Device) (h : Memory.wf s.mem) : Memory.wf (setCond off c s).mem := by
  rw [Memory.wf_iff] at h ⊢
  exact ⟨h.1, h.2.1, h.2.2.1, Table.canon_setD (fun _ => CwState.good) s.mem.cond off c h.2.2.2⟩

theorem hwPush_mem (agent q : Nat) (ws : List Word) (s : Device) : (hwPush agent q ws s).mem = s.mem := by
  rw [(hwPush_frame agent q ws s).1]

theorem notify_wf (r off cause : Nat) (s : Device) (h : Memory.wf s.mem) : Memory.wf (notify r off cause s).mem := by
  unfold notify
  dsimp only
  have hw : ∀ b, (s.when b fun s => s.send .safety [off, cause]).mem = s.mem := by intro b; cases b <;> rfl
  split_ifs
  · rw [hw]; exact h
  · refine Memory.wf_of (m := s.mem) h ?_ ?_ ?_ ?_ <;> simp only [hwPush_mem, hw]

theorem noteCorrected_wf (r off : Nat) (s : Device) (h : Memory.wf s.mem) : Memory.wf (noteCorrected r off s).mem := by
  unfold noteCorrected
  dsimp only
  split_ifs
  · exact Memory.wf_of h rfl rfl rfl rfl
  · exact h

theorem poisonCw_wf (a : MemAgent) (r off cause : Nat) (s : Device) (h : Memory.wf s.mem) : Memory.wf (poisonCw a r off cause s).mem := by
  unfold poisonCw
  exact notify_wf _ _ _ _ (setCond_wf off .poison s h)

theorem notePoisonRead_wf (a : MemAgent) (r off : Nat) (s : Device) (h : Memory.wf s.mem) : Memory.wf (notePoisonRead a r off s).mem := by
  have h1 : Memory.wf ((noteErr a r off 3 (s.count R.MEM_POISON_READS 1)).raise Ev.MEM_POISON_READ (memPayload r off)).mem := by
    simpa [noteErr] using h
  unfold notePoisonRead
  dsimp only
  split
  · exact h1
  · exact notify_wf _ _ _ _ h1

theorem openGranule_wf (off : Nat) (s : Device) (h : Memory.wf s.mem) : Memory.wf (openGranule off s).mem := by
  unfold openGranule
  split_ifs
  · have h' := MemState.note_wf _ (off / 256 * 32) (off / 256 * 32 + 32) (by omega) (MemState.clear_wf s.mem (off / 256 * 256) 256 h)
    rw [Memory.wf_iff] at h' ⊢
    exact ⟨h'.1, Table.canon_setD (fun _ => false) _ _ true h'.2.1, h'.2.2.1, h'.2.2.2⟩
  · exact h

theorem foldl_wf {α β : Type} (l : List α) (f : Device × β → α → Device × β)
    (h : ∀ x a, Memory.wf x.1.mem → Memory.wf (f x a).1.mem) (x : Device × β) (hx : Memory.wf x.1.mem) :
    Memory.wf (l.foldl f x).1.mem := by
  induction l generalizing x with
  | nil => exact hx
  | cons a l ih => exact ih _ (h x a hx)

theorem each_wf {α : Type} (l : List α) (f : Device → α → Device) (h : ∀ s a, Memory.wf s.mem → Memory.wf (f s a).mem) (s : Device)
    (hs : Memory.wf s.mem) : Memory.wf (s.each l f).mem := by
  induction l generalizing s with
  | nil => exact hs
  | cons a l ih => exact ih _ (h s a hs)

theorem fillFront_wf (s : Device) (h : Memory.wf s.mem) : Memory.wf (fillFront s).mem := by
  unfold fillFront
  split
  · exact h
  · dsimp only
    split_ifs
    · exact h
    · exact Memory.wf_of (MemState.clear_wf s.mem _ _ h) rfl rfl rfl rfl

theorem discardFronts_wf (s : Device) (h : Memory.wf s.mem) : Memory.wf (discardFronts s).mem := by
  unfold discardFronts
  refine each_wf _ _ (fun s p hs => ?_) s h
  dsimp only
  split_ifs
  · exact hs
  · have h' := MemState.clear_wf s.mem ((regionBase s p.1 / 256 + p.2.1) * 256)
      ((min (regionSize s p.1 / 256) (64 * ((s.clock - p.2.2) * 10666 / 10000)) - p.2.1) * 256) hs
    rw [Memory.wf_iff] at h' ⊢
    exact ⟨h'.1, Table.canon_filter _ _ _ h'.2.1, h'.2.2.1, h'.2.2.2⟩

theorem syncFronts_wf (s : Device) (h : Memory.wf s.mem) : Memory.wf (syncFronts s).mem := discardFronts_wf _ (fillFront_wf s h)

theorem readCw_wf (a : MemAgent) (r off : Nat) (u : Upset) (s : Device) (h : Memory.wf s.mem) : Memory.wf (readCw a r off u s).1.mem := by
  unfold readCw
  dsimp only
  split_ifs
  · exact h
  · split
    · exact h
    · exact MemState.store_wf _ _ _ (setCond_wf _ _ _ (noteCorrected_wf _ _ _ h))
    · exact poisonCw_wf _ _ _ _ _ h
    · exact notePoisonRead_wf _ _ _ _ (setCond_wf _ _ _ h)
    · exact setCond_wf _ _ _ h

/-- A read keeps the memory's canonical form. -/
theorem memReadU_wf (a : MemAgent) (off n : Nat) (u : Upset) (s : Device) (h : Memory.wf s.mem) : Memory.wf (memReadU a off n u s).1.mem := by
  unfold memReadU
  dsimp only
  have h' := syncFronts_wf s h
  split
  · exact h'
  · split_ifs
    · exact h'
    · refine foldl_wf (β := Rd × Upset) _ _ (fun x cw hx => ?_) (syncFronts s, ({ data := [] } : Rd), u) h'
      exact readCw_wf _ _ _ _ _ hx

theorem writeWhole_wf (r cw : Nat) (data : List Byte) (s : Device) (h : Memory.wf s.mem) : Memory.wf (writeWhole r cw data s).mem := by
  have h1 : Memory.wf (setCond cw .good { openGranule cw s with mem := (openGranule cw s).mem.store cw data }).mem :=
    setCond_wf _ _ _ (MemState.store_wf _ _ _ (openGranule_wf cw s h))
  unfold writeWhole
  dsimp only
  split_ifs
  · unfold recovered
    dsimp only
    split_ifs
    · exact Memory.wf_of h1 rfl rfl rfl rfl
    · exact Memory.wf_of h1 rfl rfl rfl rfl
  · exact h1

theorem writePart_wf (a : MemAgent) (r cw off : Nat) (data : List Byte) (u : Upset) (s : Device) (h : Memory.wf s.mem) :
    Memory.wf (writePart a r cw off data u s).1.mem := by
  unfold writePart
  dsimp only
  split_ifs
  · exact MemState.store_wf _ _ _ (openGranule_wf cw s h)
  · split
    · exact setCond_wf _ _ _ (MemState.store_wf _ _ _ (MemState.store_wf _ _ _ h))
    · exact setCond_wf _ _ _ (MemState.store_wf _ _ _ (MemState.store_wf _ _ _ (noteCorrected_wf _ _ _ h)))
    · exact poisonCw_wf _ _ _ _ _ h
    · exact setCond_wf _ _ _ h
    · exact setCond_wf _ _ _ (MemState.store_wf _ _ _ (MemState.store_wf _ _ _ h))

theorem mirrorNote_mem (r off : Nat) (data : List Byte) (s : Device) : (mirrorNote r off data s).mem = s.mem := by
  unfold mirrorNote; split_ifs <;> rfl

/-- A write keeps the memory's canonical form. -/
theorem memWriteU_wf (a : MemAgent) (off : Nat) (data : List Byte) (u : Upset) (s : Device) (h : Memory.wf s.mem) :
    Memory.wf (memWriteU a off data u s).1.mem := by
  unfold memWriteU
  dsimp only
  have h' := syncFronts_wf s h
  split
  · exact h'
  · rw [mirrorNote_mem]
    refine foldl_wf _ _ (fun x cw hx => ?_) (syncFronts s, false, u) h'
    split_ifs
    · exact writeWhole_wf _ _ _ _ hx
    · exact writePart_wf _ _ _ _ _ _ _ hx

theorem memStore_wf (a : MemAgent) (off : Nat) (data : List Byte) (s : Device) (h : Memory.wf s.mem) : Memory.wf (memStore a off data s).mem := by
  unfold memStore
  split_ifs
  · exact memWriteU_wf _ _ _ _ _ h
  · exact h
  · exact h

theorem accessOutside_mem (a : MemAgent) (off : Nat) (s : Device) : (accessOutside a off s).mem = s.mem := by
  unfold accessOutside
  dsimp only
  split <;> split <;> rfl

theorem memWriteBy_wf (a : MemAgent) (off : Nat) (data : List Byte) (u : Upset) (s : Device) (h : Memory.wf s.mem) :
    Memory.wf (memWriteBy a off data u s).mem := by
  unfold memWriteBy
  split_ifs
  · rw [accessOutside_mem]; exact h
  · exact Memory.wf_of h rfl rfl rfl rfl
  · exact h
  · exact memWriteU_wf _ _ _ _ _ h

theorem scrubOne_wf (r off : Nat) (u : Upset) (raced : Bool) (s : Device) (h : Memory.wf s.mem) : Memory.wf (scrubOne r off u raced s).mem := by
  unfold scrubOne
  dsimp only
  split
  · exact h
  · split
    · split
      · exact noteCorrected_wf _ _ _ h
      · exact readCw_wf _ _ _ _ _ h
    · split
      · exact h
      · exact poisonCw_wf _ _ _ _ _ h
    · exact h

theorem zfDone_wf (s : Device) (h : Memory.wf s.mem) : Memory.wf (zfDone s).mem := by
  unfold zfDone
  split
  · exact h
  · exact Memory.wf_of (fillFront_wf _ (by simpa using h)) rfl rfl rfl rfl

theorem discardEnd_wf (r : Nat) (s : Device) (h : Memory.wf s.mem) : Memory.wf (discardEnd r s).mem := by
  unfold discardEnd
  split
  · exact h
  · rename_i front from_ _
    have h1 : Memory.wf (syncFronts (s.elapseTo (from_ + cdiv (cdiv (regionSize s r / 256) 64 * 10000) 10666))).mem :=
      syncFronts_wf _ (by simpa using h)
    have h2 := fun a n => MemState.clear_wf _ a n h1
    dsimp only
    have h3 := h2 ((regionBase (syncFronts (s.elapseTo (from_ + cdiv (cdiv (regionSize s r / 256) 64 * 10000) 10666))) r / 256 +
      (((syncFronts (s.elapseTo (from_ + cdiv (cdiv (regionSize s r / 256) 64 * 10000) 10666))).mem.discards.find r).getD (front, from_)).1) * 256)
      ((regionSize s r / 256 -
      (((syncFronts (s.elapseTo (from_ + cdiv (cdiv (regionSize s r / 256) 64 * 10000) 10666))).mem.discards.find r).getD (front, from_)).1) * 256)
    rw [Memory.wf_iff] at h3 ⊢
    exact ⟨h3.1, Table.canon_filter _ _ _ h3.2.1, h3.2.2.1, h3.2.2.2⟩

theorem rawWrite_wf (s : Device) (h : Memory.wf s.mem) : Memory.wf (rawWrite s).mem := by
  have h1 := MemState.store_wf _ (testUnit s) (testData s) (openGranule_wf (testUnit s) s h)
  unfold rawWrite
  dsimp only
  split
  · exact setCond_wf _ _ _ h1
  · exact each_wf _ _ (fun _ _ hs => setCond_wf _ _ _ hs) _ h1
  · exact each_wf _ _ (fun _ _ hs => setCond_wf _ _ _ hs) _ h1

end Sys2Proof.Machine
end

