-- ==== Sys2Proof/Laws/Instants.lean ====
section
/-! SUPPORT. What happens at one instant of the show leaves the raster's own counters and the peer's heartbeat as they are. -/

namespace Sys2Proof.Machine

/-- The timebase without what commits, the light list, snapshots and a pending restart keep in it, and without the frame count, which a standby
takes from its peer. -/
def ShowState.core (x : ShowState) : ShowState :=
  { x with commits := [], lastPoint := none, llSwap := .idle, snaps := [], snapSeq := 0, restarting := none, restartFrom := 0, modeApplied := false,
           frame := 0, rasterFrame := 0 }

@[simp] theorem core_commits (x : ShowState) (c : List Commit) : ({ x with commits := c } : ShowState).core = x.core := rfl
@[simp] theorem core_lastPoint (x : ShowState) (c : Option Nat) : ({ x with lastPoint := c } : ShowState).core = x.core := rfl
@[simp] theorem core_llSwap (x : ShowState) (c : SwapPhase) : ({ x with llSwap := c } : ShowState).core = x.core := rfl
@[simp] theorem core_snaps (x : ShowState) (n : Nat) (c : List SnapJob) : ({ x with snapSeq := n, snaps := c } : ShowState).core = x.core := rfl
@[simp] theorem core_snaps' (x : ShowState) (c : List SnapJob) : ({ x with snaps := c } : ShowState).core = x.core := rfl
@[simp] theorem core_restarting (x : ShowState) (c : Option Nat) (n : Nat) :
    ({ x with restarting := c, restartFrom := n } : ShowState).core = x.core := rfl
@[simp] theorem core_modeApplied (x : ShowState) (b : Bool) : ({ x with modeApplied := b } : ShowState).core = x.core := rfl
@[simp] theorem core_jump (x : ShowState) (m n : Nat) (l : Option Nat) :
    ({ x with frame := m, rasterFrame := n, lastPoint := l } : ShowState).core = x.core := rfl
@[simp] theorem core_frame (x : ShowState) (m n : Nat) : ({ x with frame := m, rasterFrame := n } : ShowState).core = x.core := rfl

@[simp] theorem ite_core (c : Prop) [Decidable c] (a b : Device) :
    (if c then a else b).shw.core = if c then a.shw.core else b.shw.core := by split <;> rfl
@[simp] theorem ite_fst_core {α : Type} (c : Prop) [Decidable c] (a b : Device × α) :
    ((if c then a else b).1).shw.core = if c then a.1.shw.core else b.1.shw.core := by split <;> rfl
@[simp] theorem ite_snd_core {α : Type} (c : Prop) [Decidable c] (a b : α × Device) :
    ((if c then a else b).2).shw.core = if c then a.2.shw.core else b.2.shw.core := by split <;> rfl
@[simp] theorem each_core {α : Type} (s : Device) (l : List α) (g : Device → α → Device) (h : ∀ t a, (g t a).shw.core = t.shw.core) :
    (s.each l g).shw.core = s.shw.core := Device.each_keeps s (fun d => d.shw.core) l g (fun t a _ => h t a)
@[simp] theorem when_core (s : Device) (b : Bool) (f : Device → Device) (h : (f s).shw.core = s.shw.core) :
    (s.when b f).shw.core = s.shw.core := Device.when_keeps s (fun d => d.shw.core) b f h
@[simp] theorem foldl_fst_core {α β : Type} (l : List α) (f : Device × β → α → Device × β) (x : Device × β)
    (h : ∀ y a, ((f y a).1).shw.core = y.1.shw.core) : ((l.foldl f x).1).shw.core = x.1.shw.core := by
  induction l generalizing x with
  | nil => rfl
  | cons a l ih => rw [List.foldl_cons, ih, h]
@[simp] theorem foldl_core {α : Type} (l : List α) (f : Device → α → Device) (s : Device)
    (h : ∀ y a, (f y a).shw.core = y.shw.core) : (l.foldl f s).shw.core = s.shw.core := by
  induction l generalizing s with
  | nil => rfl
  | cons a l ih => rw [List.foldl_cons, ih, h]

theorem MemFrame.core {s t : Device} (h : MemFrame s t) : t.shw.core = s.shw.core := by rw [h.1]
theorem QueFrame.core {s t : Device} (h : QueFrame s t) : t.shw.core = s.shw.core := h.mem.core

@[simp] theorem batCapture_core (content : Nat) (s : Device) : ((batCapture content s)).shw.core = s.shw.core := by
  unfold batCapture; simp

@[simp] theorem buckOff_core (c : Nat) (s : Device) : ((buckOff c s)).shw.core = s.shw.core := by
  unfold buckOff; simp

@[simp] theorem softStart_core (c : Nat) (s : Device) : ((softStart c s)).shw.core = s.shw.core := by
  unfold softStart; simp

@[simp] theorem bucksForRole_core (was : Bool) (s : Device) : ((bucksForRole was s)).shw.core = s.shw.core := by
  unfold bucksForRole; simp

@[simp] theorem showPulse_core (p : Nat) (was : Bool) (s : Device) : ((showPulse p was s)).shw.core = s.shw.core := by
  unfold showPulse; split_ifs <;> rfl

@[simp] theorem pulsesForRole_core (was : Bool) (s : Device) : ((pulsesForRole was s)).shw.core = s.shw.core := by
  unfold pulsesForRole; simp

@[simp] theorem dropJobs_core (c : Nat) (s : Device) : ((dropJobs c s)).shw.core = s.shw.core := by
  unfold dropJobs; simp

@[simp] theorem quietChains_core (s : Device) : ((quietChains s)).shw.core = s.shw.core := by
  unfold quietChains; simp

@[simp] theorem owesSweep_core (s : Device) : ((owesSweep s)).shw.core = s.shw.core := by
  unfold owesSweep; simp

@[simp] theorem renumber_core (f : Nat) (s : Device) : ((renumber f s)).shw.core = s.shw.core := core_jump _ _ _ _

@[simp] theorem countMissed_core (after n : Nat) (dropped : List Commit) (s : Device) : ((countMissed after n dropped s)).shw.core = s.shw.core := by
  unfold countMissed; simp

@[simp] theorem noteModeError_core (es : Entries) (c : Code) (s : Device) : ((noteModeError es c s)).shw.core = s.shw.core := by
  unfold noteModeError
  repeat' first
    | (simp; done)
    | rw [each_core]
    | rw [when_core]
    | split
    | intro h
    | (simp; skip)

@[simp] theorem reportCommit_core (state : Nat) (o : Origin) (sched : Bool) (err : Code) (s : Device) : ((reportCommit state o sched err s)).shw.core = s.shw.core := by
  unfold reportCommit; simp

@[simp] theorem skipFrames_core (old new : Nat) (s : Device) : ((skipFrames old new s)).shw.core = s.shw.core := by
  unfold skipFrames; simp

@[simp] theorem takeFrame_core (f : Nat) (s : Device) : ((takeFrame f s)).shw.core = s.shw.core := by
  unfold takeFrame
  split
  · rfl
  · rw [skipFrames_core, Device.raise_shw, renumber_core]

@[simp] theorem startResync_core (s : Device) : ((startResync s)).shw.core = s.shw.core := by
  unfold startResync
  repeat' first
    | (simp; done)
    | rw [each_core]
    | rw [when_core]
    | split
    | intro h
    | (simp; skip)

@[simp] theorem startBringup_core (c : Nat) (s : Device) : ((startBringup c s)).shw.core = s.shw.core := by
  unfold startBringup
  repeat' first
    | (simp; done)
    | rw [each_core]
    | rw [when_core]
    | split
    | intro h
    | (simp; skip)

@[simp] theorem wakeChains_core (s : Device) : ((wakeChains s)).shw.core = s.shw.core := by
  unfold wakeChains; simp

@[simp] theorem enterState_core (state cause : Nat) (s : Device) : ((enterState state cause s)).shw.core = s.shw.core := by
  unfold enterState
  repeat' first
    | (simp; done)
    | rw [each_core]
    | rw [when_core]
    | split
    | intro h
    | (simp; skip)

@[simp] theorem diverge_core (cause content canvas mask : Nat) (s : Device) : ((diverge cause content canvas mask s)).shw.core = s.shw.core := by
  unfold diverge
  split
  · rfl
  · dsimp only
    split
    · rfl
    · rw [startResync_core, Device.raise_shw, enterState_core]
      simp

@[simp] theorem ridgeSend_core (kind : Nat) (data : List Nat) (s : Device) : ((ridgeSend kind data s)).shw.core = s.shw.core := by
  unfold ridgeSend
  repeat' first
    | (simp; done)
    | rw [each_core]
    | rw [when_core]
    | split
    | intro h
    | (simp; skip)

@[simp] theorem captureLayer_core (n : Nat) (rd : Nat → Word) (newest : Option (Nat × BitVec 32)) (content : Nat) (s : Device) : ((captureLayer n rd newest content s).1).shw.core = s.shw.core := by
  unfold captureLayer; simp

@[simp] theorem captureLayers_core (rd : Nat → Word) (own : Nat → Option (Nat × BitVec 32)) (content : Nat) (s : Device) : ((captureLayers rd own content s).1).shw.core = s.shw.core := by
  unfold captureLayers; simp

@[simp] theorem startComposition_core (c : FrameCtx) (s : Device) : ((startComposition c s)).shw.core = s.shw.core := by
  unfold startComposition; simp

@[simp] theorem takeFrames_core (content : Nat) (own : Table (Nat × BitVec 32)) (missed noRecord : Bool) (s : Device) : ((takeFrames content own missed noRecord s)).shw.core = s.shw.core := by
  unfold takeFrames
  repeat' first
    | (simp; done)
    | rw [each_core]
    | rw [when_core]
    | split
    | intro h
    | (simp; skip)

@[simp] theorem finishCapture_core (r : Option CaptureRecord) (s : Device) : ((finishCapture r s)).shw.core = s.shw.core := by
  unfold finishCapture
  repeat' first
    | (simp; done)
    | rw [each_core]
    | rw [when_core]
    | split
    | intro h
    | (simp; skip)

@[simp] theorem retake_core (content : Nat) (s : Device) : ((retake content s)).shw.core = s.shw.core := by
  unfold retake
  repeat' first
    | (simp; done)
    | rw [each_core]
    | rw [when_core]
    | split
    | intro h
    | (simp; skip)

@[simp] theorem ridgeTell_core (kind : Nat) (data : List Nat) (s : Device) : ((ridgeTell kind data s)).shw.core = s.shw.core := by
  unfold ridgeTell; simp

@[simp] theorem captureFrame_core (content : Nat) (s : Device) : ((captureFrame content s)).shw.core = s.shw.core := by
  unfold captureFrame
  repeat' first
    | (simp; done)
    | rw [each_core]
    | rw [when_core]
    | split
    | intro h
    | (simp; skip)

@[simp] theorem tickList_core (d : Nat) (s : Device) : ((tickList d s)).shw.core = s.shw.core := by
  unfold tickList
  repeat' first
    | (simp; done)
    | rw [each_core]
    | rw [when_core]
    | split
    | intro h
    | (simp; skip)

@[simp] theorem frameTicks_core (s : Device) : ((frameTicks s)).shw.core = s.shw.core := by
  unfold frameTicks; simp

@[simp] theorem groupPass_core (vf : Table Int) (acc : Device × FrameCtx) (g : Nat) : ((groupPass vf acc g).1).shw.core = acc.1.shw.core := by
  unfold groupPass
  dsimp only
  split
  · rfl
  · exact when_core _ _ _ rfl

@[simp] theorem idleDemands_core (content : Nat) (s : Device) : ((idleDemands content s)).shw.core = s.shw.core := by
  unfold idleDemands
  repeat' first
    | (simp; done)
    | rw [each_core]
    | rw [when_core]
    | split
    | intro h
    | (simp; skip)

@[simp] theorem addAge_core (adds : Table Nat) (s : Device) : ((addAge adds s)).shw.core = s.shw.core := by
  unfold addAge; simp

@[simp] theorem idlePass_core (s : Device) : ((idlePass s)).shw.core = s.shw.core := by
  unfold idlePass; simp

@[simp] theorem sendNetHeartbeat_core (s : Device) : ((sendNetHeartbeat s)).shw.core = s.shw.core := by
  unfold sendNetHeartbeat
  repeat' first
    | (simp; done)
    | rw [each_core]
    | rw [when_core]
    | split
    | intro h
    | (simp; skip)

@[simp] theorem sendRidgeHeartbeat_core (s : Device) : ((sendRidgeHeartbeat s)).shw.core = s.shw.core := by
  unfold sendRidgeHeartbeat
  repeat' first
    | (simp; done)
    | rw [each_core]
    | rw [when_core]
    | split
    | intro h
    | (simp; skip)

@[simp] theorem setHolding_core (b : Bool) (s : Device) : ((setHolding b s)).shw.core = s.shw.core := by
  unfold setHolding; simp

@[simp] theorem refreshHolding_core (s : Device) : ((refreshHolding s)).shw.core = s.shw.core := by
  unfold refreshHolding; simp

@[simp] theorem pairBoundary_core (s : Device) : ((pairBoundary s)).shw.core = s.shw.core := by
  unfold pairBoundary; simp

@[simp] theorem fogRefresh_core (s : Device) : ((fogRefresh s)).shw.core = s.shw.core := by
  unfold fogRefresh
  repeat' first
    | (simp; done)
    | rw [each_core]
    | rw [when_core]
    | split
    | intro h
    | (simp; skip)

@[simp] theorem fogLight_core (on : Bool) (s : Device) : ((fogLight on s)).shw.core = s.shw.core := by
  unfold fogLight; simp

@[simp] theorem gpioDrive_core (p : Nat) (level : Bool) (s : Device) : ((gpioDrive p level s)).shw.core = s.shw.core := by
  unfold gpioDrive; simp

@[simp] theorem gpioLight_core (mask value : Nat) (s : Device) : ((gpioLight mask value s)).shw.core = s.shw.core := by
  unfold gpioLight; simp

@[simp] theorem sendSession_core (slot type seq : Nat) (key body : List Byte) (s : Device) : ((sendSession slot type seq key body s)).shw.core = s.shw.core := by
  unfold sendSession; simp

@[simp] theorem sendNotice_core (slot type : Nat) (body : List Byte) (s : Device) : ((sendNotice slot type body s)).shw.core = s.shw.core := by
  unfold sendNotice
  repeat' first
    | (simp; done)
    | rw [each_core]
    | rw [when_core]
    | split
    | intro h
    | (simp; skip)

@[simp] theorem messageAction_core (code tag payload : Nat) (s : Device) : ((messageAction code tag payload s)).shw.core = s.shw.core := by
  unfold messageAction
  repeat' first
    | (simp; done)
    | rw [each_core]
    | rw [when_core]
    | split
    | intro h
    | (simp; skip)

@[simp] theorem accessFault_core (off : Nat) (s : Device) : ((accessFault off s)).shw.core = s.shw.core := (accessFault_frame _ _).core

@[simp] theorem mirrorNote_core (r off : Nat) (data : List Byte) (s : Device) : ((mirrorNote r off data s)).shw.core = s.shw.core := (mirrorNote_frame _ _ _ _).core

@[simp] theorem syncFronts_core (s : Device) : ((syncFronts s)).shw.core = s.shw.core := (syncFronts_frame _).core

@[simp] theorem noteCorrected_core (r off : Nat) (s : Device) : ((noteCorrected r off s)).shw.core = s.shw.core := (noteCorrected_frame _ _ _).core

@[simp] theorem noteErr_core (a : MemAgent) (r off cause : Nat) (s : Device) : ((noteErr a r off cause s)).shw.core = s.shw.core := by
  unfold noteErr; simp

@[simp] theorem noteParity_core (a : MemAgent) (r off : Nat) (s : Device) : ((noteParity a r off s)).shw.core = s.shw.core := (noteParity_frame _ _ _ _).core

@[simp] theorem openGranule_core (off : Nat) (s : Device) : ((openGranule off s)).shw.core = s.shw.core := (openGranule_frame _ _).core

@[simp] theorem crossWatermarks_core (q old : Nat) (s : Device) : ((crossWatermarks q old s)).shw.core = s.shw.core := (crossWatermarks_frame _ _ _).core

@[simp] theorem refreshStalls_core (s : Device) : ((refreshStalls s)).shw.core = s.shw.core := (refreshStalls_frame _).core

@[simp] theorem enterTask_core (s : Device) (port : Nat) (w0 w1 w2 w3 : Word) : ((enterTask s port w0 w1 w2 w3).2).shw.core = s.shw.core := (enterTask_frame _ _ _ _ _ _).core

@[simp] theorem ringBells_core (q : Nat) (s : Device) : ((ringBells q s)).shw.core = s.shw.core := (ringBells_frame _ _).core

@[simp] theorem itemArrives_core (q : Nat) (words : List Word) (x : QueueState) (s : Device) : ((itemArrives q words x s)).shw.core = s.shw.core := (itemArrives_frame _ _ _ _).core

@[simp] theorem itemPending_core (q : Nat) (words : List Word) (s : Device) : ((itemPending q words s)).shw.core = s.shw.core := (itemPending_frame _ _ _).core

@[simp] theorem hwPush_core (agent q : Nat) (words : List Word) (s : Device) : ((hwPush agent q words s)).shw.core = s.shw.core := (hwPush_frame _ _ _ _).core

@[simp] theorem notify_core (r off cause : Nat) (s : Device) : ((notify r off cause s)).shw.core = s.shw.core := (notify_frame _ _ _ _).core

@[simp] theorem setCond_core (off : Nat) (c : CwState) (s : Device) : ((setCond off c s)).shw.core = s.shw.core := by
  unfold setCond; simp

@[simp] theorem poisonCw_core (a : MemAgent) (r off cause : Nat) (s : Device) : ((poisonCw a r off cause s)).shw.core = s.shw.core := (poisonCw_frame _ _ _ _ _).core

@[simp] theorem writePart_core (a : MemAgent) (r cw off : Nat) (data : List Byte) (u : Upset) (s : Device) : ((writePart a r cw off data u s).1).shw.core = s.shw.core := (writePart_frame _ _ _ _ _ _ _).core

@[simp] theorem recovered_core (r cw : Nat) (s : Device) : ((recovered r cw s)).shw.core = s.shw.core := (recovered_frame _ _ _).core

@[simp] theorem writeWhole_core (r cw : Nat) (data : List Byte) (s : Device) : ((writeWhole r cw data s)).shw.core = s.shw.core := (writeWhole_frame _ _ _ _).core

@[simp] theorem memWriteU_core (a : MemAgent) (off : Nat) (data : List Byte) (u : Upset) (s : Device) : ((memWriteU a off data u s).1).shw.core = s.shw.core := (memWriteU_frame _ _ _ _ _).core

@[simp] theorem memStore_core (a : MemAgent) (off : Nat) (data : List Byte) (s : Device) : ((memStore a off data s)).shw.core = s.shw.core := (memStore_frame _ _ _ _).core

@[simp] theorem beginSlot_core (j : SnapJob) (s : Device) : ((beginSlot j s)).shw.core = s.shw.core := by
  unfold beginSlot; simp

@[simp] theorem snapshotAction_core (slot tag : Nat) (s : Device) : ((snapshotAction slot tag s)).shw.core = s.shw.core := by
  unfold snapshotAction
  repeat' first
    | (simp; done)
    | rw [each_core]
    | rw [when_core]
    | split
    | intro h
    | (simp; skip)

@[simp] theorem runAction_core (e : LlEntry) (s : Device) : ((runAction e s)).shw.core = s.shw.core := by
  unfold runAction
  repeat' first
    | (simp; done)
    | rw [each_core]
    | rw [when_core]
    | split
    | intro h
    | (simp; skip)

@[simp] theorem runEntries_core (s : Device) : ((runEntries s)).shw.core = s.shw.core := by
  unfold runEntries; simp

@[simp] theorem notePoisonRead_core (a : MemAgent) (r off : Nat) (s : Device) : ((notePoisonRead a r off s)).shw.core = s.shw.core := (notePoisonRead_frame _ _ _ _).core

@[simp] theorem readCw_core (a : MemAgent) (r off : Nat) (u : Upset) (s : Device) : ((readCw a r off u s).1).shw.core = s.shw.core := (readCw_frame _ _ _ _ _).core

@[simp] theorem memReadU_core (a : MemAgent) (off n : Nat) (u : Upset) (s : Device) : ((memReadU a off n u s).1).shw.core = s.shw.core := (memReadU_frame _ _ _ _ _).core

@[simp] theorem memRead_core (a : MemAgent) (off n : Nat) (s : Device) : ((memRead a off n s).1).shw.core = s.shw.core := (memRead_frame _ _ _ _).core

@[simp] theorem sendSweep_core (s : Device) : ((sendSweep s)).shw.core = s.shw.core := by
  unfold sendSweep; simp

@[simp] theorem sendDelta_core (s : Device) : ((sendDelta s)).shw.core = s.shw.core := by
  unfold sendDelta
  repeat' first
    | (simp; done)
    | rw [each_core]
    | rw [when_core]
    | split
    | intro h
    | (simp; skip)

@[simp] theorem frameActions_core (old : Nat) (s : Device) : ((frameActions old s)).shw.core = s.shw.core := by
  unfold frameActions; simp

@[simp] theorem cmpBeforePoint_core (s : Device) : ((cmpBeforePoint s)).shw.core = s.shw.core := by
  unfold cmpBeforePoint; simp

@[simp] theorem llSwapPoint_core (s : Device) : ((llSwapPoint s)).shw.core = s.shw.core := by
  unfold llSwapPoint; simp

@[simp] theorem mapSwapped_core (content : Nat) (s : Device) : ((mapSwapped content s)).shw.core = s.shw.core := by
  unfold mapSwapped; simp

@[simp] theorem groupReport_core (rd : Nat → Word) (s : Device) : ((groupReport rd s)).shw.core = s.shw.core := by
  unfold groupReport; simp

@[simp] theorem hdrReport_core (rd : Nat → Word) (s : Device) : ((hdrReport rd s)).shw.core = s.shw.core := by
  unfold hdrReport; simp

@[simp] theorem setTblStatus_core (table index : Nat) (c : Code) (s : Device) : ((setTblStatus table index c s)).shw.core = s.shw.core := by
  unfold setTblStatus; simp

@[simp] theorem phoReport_core (rd : Nat → Word) (s : Device) : ((phoReport rd s)).shw.core = s.shw.core := by
  unfold phoReport; simp

@[simp] theorem noteValidation_core (m : Table Word) (es : Entries) (bad : Bool) (s : Device) : ((noteValidation m es bad s)).shw.core = s.shw.core := by
  unfold noteValidation; simp

@[simp] theorem planIdle_core (s : Device) : ((planIdle s)).shw.core = s.shw.core := by
  unfold planIdle; simp

@[simp] theorem reportFrame_core (point : Nat) (s : Device) : ((reportFrame point s)).shw.core = s.shw.core := by
  unfold reportFrame; simp

@[simp] theorem stageCommit_core (c : Commit) (point : Nat) (s : Device) : ((stageCommit c point s)).shw.core = s.shw.core := by
  unfold stageCommit; simp

@[simp] theorem submitPlan_core (x : Plan) (s : Device) : ((submitPlan x s)).shw.core = s.shw.core := by
  unfold submitPlan; simp

@[simp] theorem buildSlot_core (p : Nat) (r : Profile) (t : Rat) (left : Nat → Rat) (s : Device) : ((buildSlot p r t left s)).shw.core = s.shw.core := by
  unfold buildSlot; simp

@[simp] theorem rebuildSlot_core (p : Nat) (r : Profile) (temp : Rat) (left : List Int) (s : Device) : ((rebuildSlot p r temp left s)).shw.core = s.shw.core := by
  unfold rebuildSlot; simp

@[simp] theorem writePlan_core (x : Plan) (s : Device) : ((writePlan x s)).shw.core = s.shw.core := by
  unfold writePlan; simp

@[simp] theorem replan_core (s : Device) : ((replan s)).shw.core = s.shw.core := by
  unfold replan
  split
  · rfl
  · split
    · rw [Device.setB_shw]
    · rw [submitPlan_core, writePlan_core]

@[simp] theorem planOver_core (s : Device) : ((planOver s)).shw.core = s.shw.core := by
  unfold planOver
  split
  · rw [replan_core, planIdle_core]
  · rw [Device.setF_shw, planIdle_core]

@[simp] theorem applyOne_core (acc : Device × Applied) (c : Commit) : ((applyOne acc c).1).shw.core = acc.1.shw.core := by
  unfold applyOne
  repeat' first
    | (simp; done)
    | split
    | (simp; skip)

@[simp] theorem applyDue_core (s : Device) : ((applyDue s).1).shw.core = s.shw.core := by
  unfold applyDue
  dsimp only
  rw [foldl_fst_core _ _ _ applyOne_core]
  simp

@[simp] theorem safePoint_core (s : Device) : ((safePoint s)).shw.core = s.shw.core := by
  unfold safePoint
  repeat' first
    | (simp; done)
    | rw [each_core]
    | rw [when_core]
    | split
    | intro h
    | (simp; skip)

@[simp] theorem putPlaceWord_core (off v : Nat) (s : Device) : ((putPlaceWord off v s)).shw.core = s.shw.core := by
  unfold putPlaceWord; simp

@[simp] theorem writeRanges_core (c : Nat) (s : Device) : ((writeRanges c s)).shw.core = s.shw.core := by
  unfold writeRanges; simp

@[simp] theorem applyRanging_core (c : Nat) (r : RangeResult) (s : Device) : ((applyRanging c r s)).shw.core = s.shw.core := by
  unfold applyRanging
  repeat' first
    | (simp; done)
    | rw [each_core]
    | rw [when_core]
    | split
    | intro h
    | (simp; skip)

@[simp] theorem countNotFound_core (s : Device) : ((countNotFound s)).shw.core = s.shw.core := by
  unfold countNotFound; simp

@[simp] theorem noteNotFound_core (c : Nat) (left dark : List Nat) (s : Device) : ((noteNotFound c left dark s)).shw.core = s.shw.core := by
  unfold noteNotFound
  repeat' first
    | (simp; done)
    | rw [each_core]
    | rw [when_core]
    | split
    | intro h
    | (simp; skip)

@[simp] theorem placeFixture_core (f : Nat) (p : Place) (s : Device) : ((placeFixture f p s)).shw.core = s.shw.core := by
  unfold placeFixture; simp

@[simp] theorem writePlace_core (f : Nat) (s : Device) : ((writePlace f s)).shw.core = s.shw.core := by
  unfold writePlace; simp

@[simp] theorem writePositions_core (c : Nat) (s : Device) : ((writePositions c s)).shw.core = s.shw.core := by
  unfold writePositions; simp

@[simp] theorem installPlacement_core (c : Nat) (ps : List Position) (limit : Bool) (s : Device) : ((installPlacement c ps limit s)).shw.core = s.shw.core := by
  unfold installPlacement
  repeat' first
    | (simp; done)
    | rw [each_core]
    | rw [when_core]
    | split
    | intro h
    | (simp; skip)

@[simp] theorem skipFrame_core (c : Nat) (s : Device) : ((skipFrame c s)).shw.core = s.shw.core := by
  unfold skipFrame
  repeat' first
    | (simp; done)
    | rw [each_core]
    | rw [when_core]
    | split
    | intro h
    | (simp; skip)

@[simp] theorem trainSweep_core (c : Nat) (s : Device) : ((trainSweep c s)).shw.core = s.shw.core := by
  unfold trainSweep; simp

@[simp] theorem startEyecal_core (c : Nat) (s : Device) : ((startEyecal c s)).shw.core = s.shw.core := by
  unfold startEyecal; simp

@[simp] theorem sendFrame_core (t : FrameType) (c count : Nat) (blocks : List (List Byte)) (s : Device) : ((sendFrame t c count blocks s).1).shw.core = s.shw.core := by
  unfold sendFrame; simp

@[simp] theorem rangePings_core (c n : Nat) (s : Device) : ((rangePings c n s)).shw.core = s.shw.core := by
  unfold rangePings; simp

@[simp] theorem startRanging_core (c : Nat) (s : Device) : ((startRanging c s)).shw.core = s.shw.core := by
  unfold startRanging; simp

@[simp] theorem nextCmd_core (c : Nat) (s : Device) : ((nextCmd c s)).shw.core = s.shw.core := by
  unfold nextCmd; simp

@[simp] theorem applyStage_core (c : Nat) (st : ChainStage) (s : Device) : ((applyStage c st s)).shw.core = s.shw.core := by
  unfold applyStage
  repeat' first
    | (simp; done)
    | rw [each_core]
    | rw [when_core]
    | split
    | intro h
    | (simp; skip)

@[simp] theorem writePlaced_core (cs : List Nat) (s : Device) : ((writePlaced cs s)).shw.core = s.shw.core := by
  unfold writePlaced; simp

@[simp] theorem modeChanged_core (c : Nat) (s : Device) : ((modeChanged c s)).shw.core = s.shw.core := by
  unfold modeChanged; simp

@[simp] theorem setMotion_core (c : Nat) (on : Bool) (s : Device) : ((setMotion c on s)).shw.core = s.shw.core := by
  unfold setMotion; simp

@[simp] theorem chainChanged_core (old : Nat → Word) (c : Nat) (s : Device) : ((chainChanged old c s)).shw.core = s.shw.core := by
  unfold chainChanged
  repeat' first
    | (simp; done)
    | rw [each_core]
    | rw [when_core]
    | split
    | intro h
    | (simp; skip)

@[simp] theorem takeLineSettings_core (s : Device) : ((takeLineSettings s)).shw.core = s.shw.core := by
  unfold takeLineSettings; simp

@[simp] theorem batAfterPoint_core (old : Nat → Word) (s : Device) : ((batAfterPoint old s)).shw.core = s.shw.core := by
  unfold batAfterPoint; simp

@[simp] theorem chkAfterPoint_core (old : Nat → Word) (s : Device) : ((chkAfterPoint old s)).shw.core = s.shw.core := by
  unfold chkAfterPoint; simp

@[simp] theorem invalidateBand_core (k content : Nat) (s : Device) : ((invalidateBand k content s)).shw.core = s.shw.core := by
  unfold invalidateBand; simp

@[simp] theorem cmpAfterPoint_core (old : Nat → Word) (touched : List Nat) (inval : Bool) (content : Nat) (s : Device) : ((cmpAfterPoint old touched inval content s)).shw.core = s.shw.core := by
  unfold cmpAfterPoint
  repeat' first
    | (simp; done)
    | rw [each_core]
    | rw [when_core]
    | split
    | intro h
    | (simp; skip)

@[simp] theorem writeCorr_core (g : Nat) (s : Device) : ((writeCorr g s)).shw.core = s.shw.core := by
  unfold writeCorr; simp

@[simp] theorem groupFeedback_core (g content : Nat) (eps : Int) (meas : Nat) (hmod : Int) (s : Device) : ((groupFeedback g content eps meas hmod s)).shw.core = s.shw.core := by
  unfold groupFeedback; simp

@[simp] theorem feedback_core (content : Nat) (l : List (Nat × Nat × Nat × Int)) (s : Device) : ((feedback content l s)).shw.core = s.shw.core := by
  unfold feedback
  repeat' first
    | (simp; done)
    | rw [each_core]
    | rw [when_core]
    | split
    | intro h
    | (simp; skip)

@[simp] theorem overBudget_core (z : Nat) (s : Device) : ((overBudget z s)).shw.core = s.shw.core := by
  unfold overBudget
  repeat' first
    | (simp; done)
    | rw [each_core]
    | rw [when_core]
    | split
    | intro h
    | (simp; skip)

@[simp] theorem hdrAfterPoint_core (old : Nat → Word) (content : Nat) (s : Device) : ((hdrAfterPoint old content s)).shw.core = s.shw.core := by
  unfold hdrAfterPoint
  repeat' first
    | (simp; done)
    | rw [each_core]
    | rw [when_core]
    | split
    | intro h
    | (simp; skip)

@[simp] theorem setEstimates_core (cmp pho : Nat) (s : Device) : ((setEstimates cmp pho s)).shw.core = s.shw.core := rfl

@[simp] theorem noteEstimates_core (s : Device) : ((noteEstimates s)).shw.core = s.shw.core := setEstimates_core _ _ _

@[simp] theorem noteSwaps_core (old : Nat → Word) (s : Device) : ((noteSwaps old s)).shw.core = s.shw.core := by
  unfold noteSwaps; simp

@[simp] theorem phoAfterPoint_core (old : Nat → Word) (content : Nat) (planned : Bool) (s : Device) : ((phoAfterPoint old content planned s)).shw.core = s.shw.core := by
  unfold phoAfterPoint; simp

@[simp] theorem streamReconfigured_core (old : Nat → Word) (n : Nat) (s : Device) : ((streamReconfigured old n s)).shw.core = s.shw.core := by
  unfold streamReconfigured; simp

@[simp] theorem streamPoint_core (old : Nat → Word) (s : Device) : ((streamPoint old s)).shw.core = s.shw.core := by
  unfold streamPoint; simp

theorem afterApplied_eq (old : Nat → Word) (a : Applied) (content : Nat) (s : Device) : afterApplied old a content s =
    noteEstimates (streamPoint old (batAfterPoint old (hdrAfterPoint old content (phoAfterPoint old content a.planned
      (chkAfterPoint old (cmpAfterPoint old a.touched a.inval content s)))))) := by
  unfold afterApplied
  rfl

@[simp] theorem afterApplied_core (old : Nat → Word) (a : Applied) (content : Nat) (s : Device) : ((afterApplied old a content s)).shw.core = s.shw.core := by
  rw [afterApplied_eq, noteEstimates_core, streamPoint_core, batAfterPoint_core, hdrAfterPoint_core, phoAfterPoint_core, chkAfterPoint_core, cmpAfterPoint_core]

@[simp] theorem reportParts_core (s : Device) : ((reportParts s)).shw.core = s.shw.core := by
  unfold reportParts
  repeat' first
    | (simp; done)
    | rw [each_core]
    | rw [when_core]
    | split
    | intro h
    | (simp; skip)

@[simp] theorem flashWrite_core (a : Nat) (data : List Byte) (s : Device) : ((flashWrite a data s)).shw.core = s.shw.core := by
  unfold flashWrite; simp

@[simp] theorem writeStageHeader_core (s : Device) : ((writeStageHeader s)).shw.core = s.shw.core := by
  unfold writeStageHeader; simp

@[simp] theorem setUpd_core (state : Nat) (code : Code) (part : Nat) (s : Device) : ((setUpd state code part s)).shw.core = s.shw.core := by
  unfold setUpd; simp

@[simp] theorem holdupStart_core (s : Device) : ((holdupStart s)).shw.core = s.shw.core := by
  unfold holdupStart; simp

@[simp] theorem refuse_core (c : Code) (chain : Nat) (s : Device) : ((refuse c chain s)).shw.core = s.shw.core := by
  unfold refuse; simp

@[simp] theorem startChecks_core (s : Device) : ((startChecks s)).shw.core = s.shw.core := by
  unfold startChecks
  repeat' first
    | (simp; done)
    | rw [each_core]
    | rw [when_core]
    | split
    | intro h
    | (simp; skip)

@[simp] theorem finishPart_core (k : Nat) (s : Device) : ((finishPart k s)).shw.core = s.shw.core := by
  unfold finishPart
  repeat' first
    | (simp; done)
    | rw [each_core]
    | rw [when_core]
    | split
    | intro h
    | (simp; skip)

@[simp] theorem beginPart_core (k : Nat) (s : Device) : ((beginPart k s)).shw.core = s.shw.core := by
  unfold beginPart
  repeat' first
    | (simp; done)
    | rw [each_core]
    | rw [when_core]
    | split
    | intro h
    | (simp; skip)

@[simp] theorem recordDrivers_core (c : Nat) (p : Part) (s : Device) : ((recordDrivers c p s)).shw.core = s.shw.core := by
  unfold recordDrivers; simp

@[simp] theorem drvPoint_core (s : Device) : ((drvPoint s)).shw.core = s.shw.core := by
  unfold drvPoint
  repeat' first
    | (simp; done)
    | rw [each_core]
    | rw [when_core]
    | split
    | intro h
    | (simp; skip)

@[simp] theorem swapPoint_core (s : Device) : ((swapPoint s)).shw.core = s.shw.core := by
  unfold swapPoint
  repeat' first
    | (simp; done)
    | rw [each_core]
    | rw [when_core]
    | split
    | intro h
    | (simp; skip)

@[simp] theorem updPoint_core (s : Device) : ((updPoint s)).shw.core = s.shw.core := by
  unfold updPoint
  repeat' first
    | (simp; done)
    | rw [each_core]
    | rw [when_core]
    | split
    | intro h
    | (simp; skip)

@[simp] theorem spoilAll_core (s : Device) : ((spoilAll s)).shw.core = s.shw.core := by
  unfold spoilAll
  repeat' first
    | (simp; done)
    | rw [each_core]
    | rw [when_core]
    | split
    | intro h
    | (simp; skip)

@[simp] theorem modePoint_core (a : Applied) (s : Device) : ((modePoint a s)).shw.core = s.shw.core := by
  unfold modePoint; simp

@[simp] theorem tellCommits_core (a : Applied) (s : Device) : ((tellCommits a s)).shw.core = s.shw.core := by
  unfold tellCommits; simp

@[simp] theorem compareSafety_core (s : Device) : ((compareSafety s)).shw.core = s.shw.core := by
  unfold compareSafety
  repeat' first
    | (simp; done)
    | rw [each_core]
    | rw [when_core]
    | split
    | intro h
    | (simp; skip)

@[simp] theorem armOne_core (i : Nat) (e : LlEntry) (target : Nat × Nat) (point : Nat) (s : Device) : ((armOne i e target point s)).shw.core = s.shw.core := by
  unfold armOne
  repeat' first
    | (simp; done)
    | rw [each_core]
    | rw [when_core]
    | split
    | intro h
    | (simp; skip)

@[simp] theorem armFor_core (point : Nat) (first : Nat × Nat) (s : Device) : ((armFor point first s)).shw.core = s.shw.core := by
  unfold armFor
  repeat' first
    | (simp; done)
    | rw [each_core]
    | rw [when_core]
    | split
    | intro h
    | (simp; skip)

@[simp] theorem compareOutput_core (d : FrameCtx) (s : Device) : ((compareOutput d s)).shw.core = s.shw.core := by
  unfold compareOutput
  repeat' first
    | (simp; done)
    | rw [each_core]
    | rw [when_core]
    | split
    | intro h
    | (simp; skip)

@[simp] theorem decide__core (s : Device) : ((decide_ s)).shw.core = s.shw.core := by
  unfold decide_
  repeat' first
    | (simp; done)
    | rw [each_core]
    | rw [when_core]
    | split
    | intro h
    | (simp; skip)

@[simp] theorem judgeEcho_core (d : FrameCtx) (c : Nat) (s : Device) : ((judgeEcho d c s)).shw.core = s.shw.core := by
  unfold judgeEcho; simp

@[simp] theorem judgeStated_core (c : Nat) (s : Device) : ((judgeStated c s)).shw.core = s.shw.core := by
  unfold judgeStated; simp

@[simp] theorem judgeWitnesses_core (d : Option FrameCtx) (s : Device) : ((judgeWitnesses d s)).shw.core = s.shw.core := by
  unfold judgeWitnesses
  repeat' first
    | (simp; done)
    | rw [each_core]
    | rw [when_core]
    | split
    | intro h
    | (simp; skip)

@[simp] theorem sendOutput_core (d : FrameCtx) (s : Device) : ((sendOutput d s)).shw.core = s.shw.core := by
  unfold sendOutput; simp

@[simp] theorem pairLatch_core (d : Option FrameCtx) (s : Device) : ((pairLatch d s)).shw.core = s.shw.core := by
  unfold pairLatch
  repeat' first
    | (simp; done)
    | rw [each_core]
    | rw [when_core]
    | split
    | intro h
    | (simp; skip)

@[simp] theorem noteLevels_core (c : FrameCtx) (s : Device) : ((noteLevels c s)).shw.core = s.shw.core := by
  unfold noteLevels; simp

@[simp] theorem zoneLatch_core (c : FrameCtx) (z : Nat) (r : ZoneResult) (s : Device) : ((zoneLatch c z r s)).shw.core = s.shw.core := by
  unfold zoneLatch; simp

@[simp] theorem hdrLatch_core (c : FrameCtx) (s : Device) : ((hdrLatch c s)).shw.core = s.shw.core := by
  unfold hdrLatch; simp

@[simp] theorem bootCheck_core (s : Device) : ((bootCheck s)).shw.core = s.shw.core := by
  unfold bootCheck; simp

@[simp] theorem stepCount_core (old new : Nat) (s : Device) : ((stepCount old new s)).shw.core = s.shw.core := by
  unfold stepCount; simp

@[simp] theorem rebasePtp_core (m : Mode) (frame t : Nat) (aligned : Bool) (s : Device) : ((rebasePtp m frame t aligned s)).shw.core = s.shw.core := by
  unfold rebasePtp; simp

@[simp] theorem startCount_core (s : Device) : ((startCount s)).shw.core = s.shw.core := by
  unfold startCount; simp

@[simp] theorem startZone_core (z : Nat) (s : Device) : ((startZone z s)).shw.core = s.shw.core := by
  unfold startZone; simp

@[simp] theorem startWindow_core (s : Device) : ((startWindow s)).shw.core = s.shw.core := by
  unfold startWindow
  rw [startCount_core, each_core _ _ _ fun t a => startZone_core a t]

@[simp] theorem openWindow_core (s : Device) : ((openWindow s)).shw.core = s.shw.core := by
  unfold openWindow
  repeat' first
    | (simp; done)
    | rw [each_core]
    | rw [when_core]
    | split
    | intro h
    | (simp; skip)

/-- Whether a peer has been heard, and the frame count where none has: a standby takes its peer's. -/
def place (p : Option Heartbeat) (x : ShowState) : Bool × Option (Nat × Nat) :=
  (p.isSome, if p.isNone then some (x.frame, x.rasterFrame) else none)

theorem place_fst {p q : Option Heartbeat} {x y : ShowState} (h : place p x = place q y) : p.isSome = q.isSome := congrArg Prod.fst h

theorem place_heard {p : Option Heartbeat} (x : ShowState) (h : p.isSome = true) : place p x = (true, none) := by
  cases p with
  | none => exact absurd h (by simp)
  | some a => rfl

@[simp] theorem place_commits (p : Option Heartbeat) (x : ShowState) (c : List Commit) : place p { x with commits := c } = place p x := rfl
@[simp] theorem place_lastPoint (p : Option Heartbeat) (x : ShowState) (c : Option Nat) : place p { x with lastPoint := c } = place p x := rfl
@[simp] theorem place_llSwap (p : Option Heartbeat) (x : ShowState) (c : SwapPhase) : place p { x with llSwap := c } = place p x := rfl
@[simp] theorem place_snaps (p : Option Heartbeat) (x : ShowState) (n : Nat) (c : List SnapJob) :
    place p { x with snapSeq := n, snaps := c } = place p x := rfl
@[simp] theorem place_snaps' (p : Option Heartbeat) (x : ShowState) (c : List SnapJob) : place p { x with snaps := c } = place p x := rfl
@[simp] theorem place_restarting (p : Option Heartbeat) (x : ShowState) (c : Option Nat) (n : Nat) :
    place p { x with restarting := c, restartFrom := n } = place p x := rfl
@[simp] theorem place_modeApplied (p : Option Heartbeat) (x : ShowState) (b : Bool) : place p { x with modeApplied := b } = place p x := rfl

@[simp] theorem ite_place (c : Prop) [Decidable c] (a b : Device) :
    place (if c then a else b).rdg.peer (if c then a else b).shw = if c then place a.rdg.peer a.shw else place b.rdg.peer b.shw := by split <;> rfl
@[simp] theorem ite_fst_place {α : Type} (c : Prop) [Decidable c] (a b : Device × α) :
    place (if c then a else b).1.rdg.peer (if c then a else b).1.shw = if c then place a.1.rdg.peer a.1.shw else place b.1.rdg.peer b.1.shw := by split <;> rfl
@[simp] theorem ite_snd_place {α : Type} (c : Prop) [Decidable c] (a b : α × Device) :
    place (if c then a else b).2.rdg.peer (if c then a else b).2.shw = if c then place a.2.rdg.peer a.2.shw else place b.2.rdg.peer b.2.shw := by split <;> rfl
@[simp] theorem each_place {α : Type} (s : Device) (l : List α) (g : Device → α → Device) (h : ∀ t a, place (g t a).rdg.peer (g t a).shw = place t.rdg.peer t.shw) :
    place (s.each l g).rdg.peer (s.each l g).shw = place s.rdg.peer s.shw := Device.each_keeps s (fun d => place d.rdg.peer d.shw) l g (fun t a _ => h t a)
@[simp] theorem when_place (s : Device) (b : Bool) (f : Device → Device) (h : place (f s).rdg.peer (f s).shw = place s.rdg.peer s.shw) :
    place (s.when b f).rdg.peer (s.when b f).shw = place s.rdg.peer s.shw := Device.when_keeps s (fun d => place d.rdg.peer d.shw) b f h
@[simp] theorem foldl_fst_place {α β : Type} (l : List α) (f : Device × β → α → Device × β) (x : Device × β)
    (h : ∀ y a, place (f y a).1.rdg.peer (f y a).1.shw = place y.1.rdg.peer y.1.shw) : place (l.foldl f x).1.rdg.peer (l.foldl f x).1.shw = place x.1.rdg.peer x.1.shw := by
  induction l generalizing x with
  | nil => rfl
  | cons a l ih => rw [List.foldl_cons, ih, h]
@[simp] theorem foldl_place {α : Type} (l : List α) (f : Device → α → Device) (s : Device)
    (h : ∀ y a, place (f y a).rdg.peer (f y a).shw = place y.rdg.peer y.shw) : place (l.foldl f s).rdg.peer (l.foldl f s).shw = place s.rdg.peer s.shw := by
  induction l generalizing s with
  | nil => rfl
  | cons a l ih => rw [List.foldl_cons, ih, h]

theorem MemFrame.place {s t : Device} (h : MemFrame s t) : place t.rdg.peer t.shw = place s.rdg.peer s.shw := by rw [h.1]
theorem QueFrame.place {s t : Device} (h : QueFrame s t) : place t.rdg.peer t.shw = place s.rdg.peer s.shw := h.mem.place

@[simp] theorem batCapture_place (content : Nat) (s : Device) : place (batCapture content s).rdg.peer (batCapture content s).shw = place s.rdg.peer s.shw := by
  unfold batCapture; simp

@[simp] theorem buckOff_place (c : Nat) (s : Device) : place (buckOff c s).rdg.peer (buckOff c s).shw = place s.rdg.peer s.shw := by
  unfold buckOff; simp

@[simp] theorem softStart_place (c : Nat) (s : Device) : place (softStart c s).rdg.peer (softStart c s).shw = place s.rdg.peer s.shw := by
  unfold softStart; simp

@[simp] theorem bucksForRole_place (was : Bool) (s : Device) : place (bucksForRole was s).rdg.peer (bucksForRole was s).shw = place s.rdg.peer s.shw := by
  unfold bucksForRole; simp

@[simp] theorem showPulse_place (p : Nat) (was : Bool) (s : Device) : place (showPulse p was s).rdg.peer (showPulse p was s).shw = place s.rdg.peer s.shw := by
  unfold showPulse; split_ifs <;> rfl

@[simp] theorem pulsesForRole_place (was : Bool) (s : Device) : place (pulsesForRole was s).rdg.peer (pulsesForRole was s).shw = place s.rdg.peer s.shw := by
  unfold pulsesForRole; simp

@[simp] theorem dropJobs_place (c : Nat) (s : Device) : place (dropJobs c s).rdg.peer (dropJobs c s).shw = place s.rdg.peer s.shw := by
  unfold dropJobs; simp

@[simp] theorem quietChains_place (s : Device) : place (quietChains s).rdg.peer (quietChains s).shw = place s.rdg.peer s.shw := by
  unfold quietChains; simp

@[simp] theorem owesSweep_place (s : Device) : place (owesSweep s).rdg.peer (owesSweep s).shw = place s.rdg.peer s.shw := by
  unfold owesSweep; simp

@[simp] theorem countMissed_place (after n : Nat) (dropped : List Commit) (s : Device) : place (countMissed after n dropped s).rdg.peer (countMissed after n dropped s).shw = place s.rdg.peer s.shw := by
  unfold countMissed; simp

@[simp] theorem noteModeError_place (es : Entries) (c : Code) (s : Device) : place (noteModeError es c s).rdg.peer (noteModeError es c s).shw = place s.rdg.peer s.shw := by
  unfold noteModeError
  repeat' first
    | (simp; done)
    | rw [each_place]
    | rw [when_place]
    | split
    | intro h
    | (simp; skip)

@[simp] theorem reportCommit_place (state : Nat) (o : Origin) (sched : Bool) (err : Code) (s : Device) : place (reportCommit state o sched err s).rdg.peer (reportCommit state o sched err s).shw = place s.rdg.peer s.shw := by
  unfold reportCommit; simp

@[simp] theorem skipFrames_place (old new : Nat) (s : Device) : place (skipFrames old new s).rdg.peer (skipFrames old new s).shw = place s.rdg.peer s.shw := by
  unfold skipFrames; simp

theorem takeFrame_heard (f : Nat) (s : Device) : (takeFrame f s).rdg.peer.isSome = s.rdg.peer.isSome := by
  unfold takeFrame
  split
  · rfl
  · exact (place_fst (skipFrames_place _ _ _)).trans rfl

@[simp] theorem startResync_place (s : Device) : place (startResync s).rdg.peer (startResync s).shw = place s.rdg.peer s.shw := by
  unfold startResync
  cases e : s.rdg.peer with
  | none => dsimp only; rw [owesSweep_place, e]
  | some h =>
    dsimp only
    rw [each_place _ _ _ (by simp)]
    have hs : s.rdg.peer.isSome = true := by rw [e]; rfl
    have ho : (owesSweep s).rdg.peer.isSome = true := hs
    rw [place_heard _ ((takeFrame_heard _ _).trans ho), ← e, place_heard _ hs]

@[simp] theorem startBringup_place (c : Nat) (s : Device) : place (startBringup c s).rdg.peer (startBringup c s).shw = place s.rdg.peer s.shw := by
  unfold startBringup
  repeat' first
    | (simp; done)
    | rw [each_place]
    | rw [when_place]
    | split
    | intro h
    | (simp; skip)

@[simp] theorem wakeChains_place (s : Device) : place (wakeChains s).rdg.peer (wakeChains s).shw = place s.rdg.peer s.shw := by
  unfold wakeChains; simp

@[simp] theorem enterState_place (state cause : Nat) (s : Device) : place (enterState state cause s).rdg.peer (enterState state cause s).shw = place s.rdg.peer s.shw := by
  unfold enterState
  repeat' first
    | (simp; done)
    | rw [each_place]
    | rw [when_place]
    | split
    | intro h
    | (simp; skip)

@[simp] theorem diverge_place (cause content canvas mask : Nat) (s : Device) : place (diverge cause content canvas mask s).rdg.peer (diverge cause content canvas mask s).shw = place s.rdg.peer s.shw := by
  unfold diverge
  split
  · rfl
  · dsimp only
    split
    · rfl
    · rw [startResync_place, Device.raise_shw, Device.raise_rdg, enterState_place]
      simp

@[simp] theorem ridgeSend_place (kind : Nat) (data : List Nat) (s : Device) : place (ridgeSend kind data s).rdg.peer (ridgeSend kind data s).shw = place s.rdg.peer s.shw := by
  unfold ridgeSend
  repeat' first
    | (simp; done)
    | rw [each_place]
    | rw [when_place]
    | split
    | intro h
    | (simp; skip)

@[simp] theorem captureLayer_place (n : Nat) (rd : Nat → Word) (newest : Option (Nat × BitVec 32)) (content : Nat) (s : Device) : place (captureLayer n rd newest content s).1.rdg.peer (captureLayer n rd newest content s).1.shw = place s.rdg.peer s.shw := by
  unfold captureLayer; simp

@[simp] theorem captureLayers_place (rd : Nat → Word) (own : Nat → Option (Nat × BitVec 32)) (content : Nat) (s : Device) : place (captureLayers rd own content s).1.rdg.peer (captureLayers rd own content s).1.shw = place s.rdg.peer s.shw := by
  unfold captureLayers; simp

@[simp] theorem startComposition_place (c : FrameCtx) (s : Device) : place (startComposition c s).rdg.peer (startComposition c s).shw = place s.rdg.peer s.shw := by
  unfold startComposition; simp

@[simp] theorem takeFrames_place (content : Nat) (own : Table (Nat × BitVec 32)) (missed noRecord : Bool) (s : Device) : place (takeFrames content own missed noRecord s).rdg.peer (takeFrames content own missed noRecord s).shw = place s.rdg.peer s.shw := by
  unfold takeFrames
  repeat' first
    | (simp; done)
    | rw [each_place]
    | rw [when_place]
    | split
    | intro h
    | (simp; skip)

@[simp] theorem finishCapture_place (r : Option CaptureRecord) (s : Device) : place (finishCapture r s).rdg.peer (finishCapture r s).shw = place s.rdg.peer s.shw := by
  unfold finishCapture
  repeat' first
    | (simp; done)
    | rw [each_place]
    | rw [when_place]
    | split
    | intro h
    | (simp; skip)

@[simp] theorem retake_place (content : Nat) (s : Device) : place (retake content s).rdg.peer (retake content s).shw = place s.rdg.peer s.shw := by
  unfold retake
  repeat' first
    | (simp; done)
    | rw [each_place]
    | rw [when_place]
    | split
    | intro h
    | (simp; skip)

@[simp] theorem ridgeTell_place (kind : Nat) (data : List Nat) (s : Device) : place (ridgeTell kind data s).rdg.peer (ridgeTell kind data s).shw = place s.rdg.peer s.shw := by
  unfold ridgeTell; simp

@[simp] theorem captureFrame_place (content : Nat) (s : Device) : place (captureFrame content s).rdg.peer (captureFrame content s).shw = place s.rdg.peer s.shw := by
  unfold captureFrame
  repeat' first
    | (simp; done)
    | rw [each_place]
    | rw [when_place]
    | split
    | intro h
    | (simp; skip)

@[simp] theorem tickList_place (d : Nat) (s : Device) : place (tickList d s).rdg.peer (tickList d s).shw = place s.rdg.peer s.shw := by
  unfold tickList
  repeat' first
    | (simp; done)
    | rw [each_place]
    | rw [when_place]
    | split
    | intro h
    | (simp; skip)

@[simp] theorem frameTicks_place (s : Device) : place (frameTicks s).rdg.peer (frameTicks s).shw = place s.rdg.peer s.shw := by
  unfold frameTicks; simp

@[simp] theorem groupPass_place (vf : Table Int) (acc : Device × FrameCtx) (g : Nat) : place (groupPass vf acc g).1.rdg.peer (groupPass vf acc g).1.shw = place acc.1.rdg.peer acc.1.shw := by
  unfold groupPass
  dsimp only
  split
  · rfl
  · exact when_place _ _ _ rfl

@[simp] theorem idleDemands_place (content : Nat) (s : Device) : place (idleDemands content s).rdg.peer (idleDemands content s).shw = place s.rdg.peer s.shw := by
  unfold idleDemands
  repeat' first
    | (simp; done)
    | rw [each_place]
    | rw [when_place]
    | split
    | intro h
    | (simp; skip)

@[simp] theorem addAge_place (adds : Table Nat) (s : Device) : place (addAge adds s).rdg.peer (addAge adds s).shw = place s.rdg.peer s.shw := by
  unfold addAge; simp

@[simp] theorem idlePass_place (s : Device) : place (idlePass s).rdg.peer (idlePass s).shw = place s.rdg.peer s.shw := by
  unfold idlePass; simp

@[simp] theorem sendNetHeartbeat_place (s : Device) : place (sendNetHeartbeat s).rdg.peer (sendNetHeartbeat s).shw = place s.rdg.peer s.shw := by
  unfold sendNetHeartbeat
  repeat' first
    | (simp; done)
    | rw [each_place]
    | rw [when_place]
    | split
    | intro h
    | (simp; skip)

@[simp] theorem sendRidgeHeartbeat_place (s : Device) : place (sendRidgeHeartbeat s).rdg.peer (sendRidgeHeartbeat s).shw = place s.rdg.peer s.shw := by
  unfold sendRidgeHeartbeat
  repeat' first
    | (simp; done)
    | rw [each_place]
    | rw [when_place]
    | split
    | intro h
    | (simp; skip)

@[simp] theorem setHolding_place (b : Bool) (s : Device) : place (setHolding b s).rdg.peer (setHolding b s).shw = place s.rdg.peer s.shw := by
  unfold setHolding; simp

@[simp] theorem refreshHolding_place (s : Device) : place (refreshHolding s).rdg.peer (refreshHolding s).shw = place s.rdg.peer s.shw := by
  unfold refreshHolding; simp

@[simp] theorem pairBoundary_place (s : Device) : place (pairBoundary s).rdg.peer (pairBoundary s).shw = place s.rdg.peer s.shw := by
  unfold pairBoundary; simp

@[simp] theorem fogRefresh_place (s : Device) : place (fogRefresh s).rdg.peer (fogRefresh s).shw = place s.rdg.peer s.shw := by
  unfold fogRefresh
  repeat' first
    | (simp; done)
    | rw [each_place]
    | rw [when_place]
    | split
    | intro h
    | (simp; skip)

@[simp] theorem fogLight_place (on : Bool) (s : Device) : place (fogLight on s).rdg.peer (fogLight on s).shw = place s.rdg.peer s.shw := by
  unfold fogLight; simp

@[simp] theorem gpioDrive_place (p : Nat) (level : Bool) (s : Device) : place (gpioDrive p level s).rdg.peer (gpioDrive p level s).shw = place s.rdg.peer s.shw := by
  unfold gpioDrive; simp

@[simp] theorem gpioLight_place (mask value : Nat) (s : Device) : place (gpioLight mask value s).rdg.peer (gpioLight mask value s).shw = place s.rdg.peer s.shw := by
  unfold gpioLight; simp

@[simp] theorem sendSession_place (slot type seq : Nat) (key body : List Byte) (s : Device) : place (sendSession slot type seq key body s).rdg.peer (sendSession slot type seq key body s).shw = place s.rdg.peer s.shw := by
  unfold sendSession; simp

@[simp] theorem sendNotice_place (slot type : Nat) (body : List Byte) (s : Device) : place (sendNotice slot type body s).rdg.peer (sendNotice slot type body s).shw = place s.rdg.peer s.shw := by
  unfold sendNotice
  repeat' first
    | (simp; done)
    | rw [each_place]
    | rw [when_place]
    | split
    | intro h
    | (simp; skip)

@[simp] theorem messageAction_place (code tag payload : Nat) (s : Device) : place (messageAction code tag payload s).rdg.peer (messageAction code tag payload s).shw = place s.rdg.peer s.shw := by
  unfold messageAction
  repeat' first
    | (simp; done)
    | rw [each_place]
    | rw [when_place]
    | split
    | intro h
    | (simp; skip)

@[simp] theorem accessFault_place (off : Nat) (s : Device) : place (accessFault off s).rdg.peer (accessFault off s).shw = place s.rdg.peer s.shw := (accessFault_frame _ _).place

@[simp] theorem mirrorNote_place (r off : Nat) (data : List Byte) (s : Device) : place (mirrorNote r off data s).rdg.peer (mirrorNote r off data s).shw = place s.rdg.peer s.shw := (mirrorNote_frame _ _ _ _).place

@[simp] theorem syncFronts_place (s : Device) : place (syncFronts s).rdg.peer (syncFronts s).shw = place s.rdg.peer s.shw := (syncFronts_frame _).place

@[simp] theorem noteCorrected_place (r off : Nat) (s : Device) : place (noteCorrected r off s).rdg.peer (noteCorrected r off s).shw = place s.rdg.peer s.shw := (noteCorrected_frame _ _ _).place

@[simp] theorem noteErr_place (a : MemAgent) (r off cause : Nat) (s : Device) : place (noteErr a r off cause s).rdg.peer (noteErr a r off cause s).shw = place s.rdg.peer s.shw := by
  unfold noteErr; simp

@[simp] theorem noteParity_place (a : MemAgent) (r off : Nat) (s : Device) : place (noteParity a r off s).rdg.peer (noteParity a r off s).shw = place s.rdg.peer s.shw := (noteParity_frame _ _ _ _).place

@[simp] theorem openGranule_place (off : Nat) (s : Device) : place (openGranule off s).rdg.peer (openGranule off s).shw = place s.rdg.peer s.shw := (openGranule_frame _ _).place

@[simp] theorem crossWatermarks_place (q old : Nat) (s : Device) : place (crossWatermarks q old s).rdg.peer (crossWatermarks q old s).shw = place s.rdg.peer s.shw := (crossWatermarks_frame _ _ _).place

@[simp] theorem refreshStalls_place (s : Device) : place (refreshStalls s).rdg.peer (refreshStalls s).shw = place s.rdg.peer s.shw := (refreshStalls_frame _).place

@[simp] theorem enterTask_place (s : Device) (port : Nat) (w0 w1 w2 w3 : Word) : place (enterTask s port w0 w1 w2 w3).2.rdg.peer (enterTask s port w0 w1 w2 w3).2.shw = place s.rdg.peer s.shw := (enterTask_frame _ _ _ _ _ _).place

@[simp] theorem ringBells_place (q : Nat) (s : Device) : place (ringBells q s).rdg.peer (ringBells q s).shw = place s.rdg.peer s.shw := (ringBells_frame _ _).place

@[simp] theorem itemArrives_place (q : Nat) (words : List Word) (x : QueueState) (s : Device) : place (itemArrives q words x s).rdg.peer (itemArrives q words x s).shw = place s.rdg.peer s.shw := (itemArrives_frame _ _ _ _).place

@[simp] theorem itemPending_place (q : Nat) (words : List Word) (s : Device) : place (itemPending q words s).rdg.peer (itemPending q words s).shw = place s.rdg.peer s.shw := (itemPending_frame _ _ _).place

@[simp] theorem hwPush_place (agent q : Nat) (words : List Word) (s : Device) : place (hwPush agent q words s).rdg.peer (hwPush agent q words s).shw = place s.rdg.peer s.shw := (hwPush_frame _ _ _ _).place

@[simp] theorem notify_place (r off cause : Nat) (s : Device) : place (notify r off cause s).rdg.peer (notify r off cause s).shw = place s.rdg.peer s.shw := (notify_frame _ _ _ _).place

@[simp] theorem setCond_place (off : Nat) (c : CwState) (s : Device) : place (setCond off c s).rdg.peer (setCond off c s).shw = place s.rdg.peer s.shw := by
  unfold setCond; simp

@[simp] theorem poisonCw_place (a : MemAgent) (r off cause : Nat) (s : Device) : place (poisonCw a r off cause s).rdg.peer (poisonCw a r off cause s).shw = place s.rdg.peer s.shw := (poisonCw_frame _ _ _ _ _).place

@[simp] theorem writePart_place (a : MemAgent) (r cw off : Nat) (data : List Byte) (u : Upset) (s : Device) : place (writePart a r cw off data u s).1.rdg.peer (writePart a r cw off data u s).1.shw = place s.rdg.peer s.shw := (writePart_frame _ _ _ _ _ _ _).place

@[simp] theorem recovered_place (r cw : Nat) (s : Device) : place (recovered r cw s).rdg.peer (recovered r cw s).shw = place s.rdg.peer s.shw := (recovered_frame _ _ _).place

@[simp] theorem writeWhole_place (r cw : Nat) (data : List Byte) (s : Device) : place (writeWhole r cw data s).rdg.peer (writeWhole r cw data s).shw = place s.rdg.peer s.shw := (writeWhole_frame _ _ _ _).place

@[simp] theorem memWriteU_place (a : MemAgent) (off : Nat) (data : List Byte) (u : Upset) (s : Device) : place (memWriteU a off data u s).1.rdg.peer (memWriteU a off data u s).1.shw = place s.rdg.peer s.shw := (memWriteU_frame _ _ _ _ _).place

@[simp] theorem memStore_place (a : MemAgent) (off : Nat) (data : List Byte) (s : Device) : place (memStore a off data s).rdg.peer (memStore a off data s).shw = place s.rdg.peer s.shw := (memStore_frame _ _ _ _).place

@[simp] theorem beginSlot_place (j : SnapJob) (s : Device) : place (beginSlot j s).rdg.peer (beginSlot j s).shw = place s.rdg.peer s.shw := by
  unfold beginSlot; simp

@[simp] theorem snapshotAction_place (slot tag : Nat) (s : Device) : place (snapshotAction slot tag s).rdg.peer (snapshotAction slot tag s).shw = place s.rdg.peer s.shw := by
  unfold snapshotAction
  repeat' first
    | (simp; done)
    | rw [each_place]
    | rw [when_place]
    | split
    | intro h
    | (simp; skip)

@[simp] theorem runAction_place (e : LlEntry) (s : Device) : place (runAction e s).rdg.peer (runAction e s).shw = place s.rdg.peer s.shw := by
  unfold runAction
  repeat' first
    | (simp; done)
    | rw [each_place]
    | rw [when_place]
    | split
    | intro h
    | (simp; skip)

@[simp] theorem runEntries_place (s : Device) : place (runEntries s).rdg.peer (runEntries s).shw = place s.rdg.peer s.shw := by
  unfold runEntries; simp

@[simp] theorem notePoisonRead_place (a : MemAgent) (r off : Nat) (s : Device) : place (notePoisonRead a r off s).rdg.peer (notePoisonRead a r off s).shw = place s.rdg.peer s.shw := (notePoisonRead_frame _ _ _ _).place

@[simp] theorem readCw_place (a : MemAgent) (r off : Nat) (u : Upset) (s : Device) : place (readCw a r off u s).1.rdg.peer (readCw a r off u s).1.shw = place s.rdg.peer s.shw := (readCw_frame _ _ _ _ _).place

@[simp] theorem memReadU_place (a : MemAgent) (off n : Nat) (u : Upset) (s : Device) : place (memReadU a off n u s).1.rdg.peer (memReadU a off n u s).1.shw = place s.rdg.peer s.shw := (memReadU_frame _ _ _ _ _).place

@[simp] theorem memRead_place (a : MemAgent) (off n : Nat) (s : Device) : place (memRead a off n s).1.rdg.peer (memRead a off n s).1.shw = place s.rdg.peer s.shw := (memRead_frame _ _ _ _).place

@[simp] theorem sendSweep_place (s : Device) : place (sendSweep s).rdg.peer (sendSweep s).shw = place s.rdg.peer s.shw := by
  unfold sendSweep; simp

@[simp] theorem sendDelta_place (s : Device) : place (sendDelta s).rdg.peer (sendDelta s).shw = place s.rdg.peer s.shw := by
  unfold sendDelta
  repeat' first
    | (simp; done)
    | rw [each_place]
    | rw [when_place]
    | split
    | intro h
    | (simp; skip)

@[simp] theorem frameActions_place (old : Nat) (s : Device) : place (frameActions old s).rdg.peer (frameActions old s).shw = place s.rdg.peer s.shw := by
  unfold frameActions; simp

@[simp] theorem cmpBeforePoint_place (s : Device) : place (cmpBeforePoint s).rdg.peer (cmpBeforePoint s).shw = place s.rdg.peer s.shw := by
  unfold cmpBeforePoint; simp

@[simp] theorem llSwapPoint_place (s : Device) : place (llSwapPoint s).rdg.peer (llSwapPoint s).shw = place s.rdg.peer s.shw := by
  unfold llSwapPoint; simp

@[simp] theorem mapSwapped_place (content : Nat) (s : Device) : place (mapSwapped content s).rdg.peer (mapSwapped content s).shw = place s.rdg.peer s.shw := by
  unfold mapSwapped; simp

@[simp] theorem groupReport_place (rd : Nat → Word) (s : Device) : place (groupReport rd s).rdg.peer (groupReport rd s).shw = place s.rdg.peer s.shw := by
  unfold groupReport; simp

@[simp] theorem hdrReport_place (rd : Nat → Word) (s : Device) : place (hdrReport rd s).rdg.peer (hdrReport rd s).shw = place s.rdg.peer s.shw := by
  unfold hdrReport; simp

@[simp] theorem setTblStatus_place (table index : Nat) (c : Code) (s : Device) : place (setTblStatus table index c s).rdg.peer (setTblStatus table index c s).shw = place s.rdg.peer s.shw := by
  unfold setTblStatus; simp

@[simp] theorem phoReport_place (rd : Nat → Word) (s : Device) : place (phoReport rd s).rdg.peer (phoReport rd s).shw = place s.rdg.peer s.shw := by
  unfold phoReport; simp

@[simp] theorem noteValidation_place (m : Table Word) (es : Entries) (bad : Bool) (s : Device) : place (noteValidation m es bad s).rdg.peer (noteValidation m es bad s).shw = place s.rdg.peer s.shw := by
  unfold noteValidation; simp

@[simp] theorem planIdle_place (s : Device) : place (planIdle s).rdg.peer (planIdle s).shw = place s.rdg.peer s.shw := by
  unfold planIdle; simp

@[simp] theorem reportFrame_place (point : Nat) (s : Device) : place (reportFrame point s).rdg.peer (reportFrame point s).shw = place s.rdg.peer s.shw := by
  unfold reportFrame; simp

@[simp] theorem stageCommit_place (c : Commit) (point : Nat) (s : Device) : place (stageCommit c point s).rdg.peer (stageCommit c point s).shw = place s.rdg.peer s.shw := by
  unfold stageCommit; simp

@[simp] theorem submitPlan_place (x : Plan) (s : Device) : place (submitPlan x s).rdg.peer (submitPlan x s).shw = place s.rdg.peer s.shw := by
  unfold submitPlan; simp

@[simp] theorem buildSlot_place (p : Nat) (r : Profile) (t : Rat) (left : Nat → Rat) (s : Device) : place (buildSlot p r t left s).rdg.peer (buildSlot p r t left s).shw = place s.rdg.peer s.shw := by
  unfold buildSlot; simp

@[simp] theorem rebuildSlot_place (p : Nat) (r : Profile) (temp : Rat) (left : List Int) (s : Device) : place (rebuildSlot p r temp left s).rdg.peer (rebuildSlot p r temp left s).shw = place s.rdg.peer s.shw := by
  unfold rebuildSlot; simp

@[simp] theorem writePlan_place (x : Plan) (s : Device) : place (writePlan x s).rdg.peer (writePlan x s).shw = place s.rdg.peer s.shw := by
  unfold writePlan; simp

@[simp] theorem replan_place (s : Device) : place (replan s).rdg.peer (replan s).shw = place s.rdg.peer s.shw := by
  unfold replan
  split
  · rfl
  · split
    · rw [Device.setB_rdg, Device.setB_shw]
    · rw [submitPlan_place, writePlan_place]

@[simp] theorem planOver_place (s : Device) : place (planOver s).rdg.peer (planOver s).shw = place s.rdg.peer s.shw := by
  unfold planOver
  split
  · rw [replan_place, planIdle_place]
  · rw [Device.setF_rdg, Device.setF_shw, planIdle_place]

@[simp] theorem applyOne_place (acc : Device × Applied) (c : Commit) : place (applyOne acc c).1.rdg.peer (applyOne acc c).1.shw = place acc.1.rdg.peer acc.1.shw := by
  unfold applyOne
  repeat' first
    | (simp; done)
    | split
    | (simp; skip)

@[simp] theorem applyDue_place (s : Device) : place (applyDue s).1.rdg.peer (applyDue s).1.shw = place s.rdg.peer s.shw := by
  unfold applyDue
  dsimp only
  rw [foldl_fst_place _ _ _ applyOne_place]
  simp

@[simp] theorem safePoint_place (s : Device) : place (safePoint s).rdg.peer (safePoint s).shw = place s.rdg.peer s.shw := by
  unfold safePoint
  repeat' first
    | (simp; done)
    | rw [each_place]
    | rw [when_place]
    | split
    | intro h
    | (simp; skip)

@[simp] theorem putPlaceWord_place (off v : Nat) (s : Device) : place (putPlaceWord off v s).rdg.peer (putPlaceWord off v s).shw = place s.rdg.peer s.shw := by
  unfold putPlaceWord; simp

@[simp] theorem writeRanges_place (c : Nat) (s : Device) : place (writeRanges c s).rdg.peer (writeRanges c s).shw = place s.rdg.peer s.shw := by
  unfold writeRanges; simp

@[simp] theorem applyRanging_place (c : Nat) (r : RangeResult) (s : Device) : place (applyRanging c r s).rdg.peer (applyRanging c r s).shw = place s.rdg.peer s.shw := by
  unfold applyRanging
  repeat' first
    | (simp; done)
    | rw [each_place]
    | rw [when_place]
    | split
    | intro h
    | (simp; skip)

@[simp] theorem countNotFound_place (s : Device) : place (countNotFound s).rdg.peer (countNotFound s).shw = place s.rdg.peer s.shw := by
  unfold countNotFound; simp

@[simp] theorem noteNotFound_place (c : Nat) (left dark : List Nat) (s : Device) : place (noteNotFound c left dark s).rdg.peer (noteNotFound c left dark s).shw = place s.rdg.peer s.shw := by
  unfold noteNotFound
  repeat' first
    | (simp; done)
    | rw [each_place]
    | rw [when_place]
    | split
    | intro h
    | (simp; skip)

@[simp] theorem placeFixture_place (f : Nat) (p : Place) (s : Device) : place (placeFixture f p s).rdg.peer (placeFixture f p s).shw = place s.rdg.peer s.shw := by
  unfold placeFixture; simp

@[simp] theorem writePlace_place (f : Nat) (s : Device) : place (writePlace f s).rdg.peer (writePlace f s).shw = place s.rdg.peer s.shw := by
  unfold writePlace; simp

@[simp] theorem writePositions_place (c : Nat) (s : Device) : place (writePositions c s).rdg.peer (writePositions c s).shw = place s.rdg.peer s.shw := by
  unfold writePositions; simp

@[simp] theorem installPlacement_place (c : Nat) (ps : List Position) (limit : Bool) (s : Device) : place (installPlacement c ps limit s).rdg.peer (installPlacement c ps limit s).shw = place s.rdg.peer s.shw := by
  unfold installPlacement
  repeat' first
    | (simp; done)
    | rw [each_place]
    | rw [when_place]
    | split
    | intro h
    | (simp; skip)

@[simp] theorem skipFrame_place (c : Nat) (s : Device) : place (skipFrame c s).rdg.peer (skipFrame c s).shw = place s.rdg.peer s.shw := by
  unfold skipFrame
  repeat' first
    | (simp; done)
    | rw [each_place]
    | rw [when_place]
    | split
    | intro h
    | (simp; skip)

@[simp] theorem trainSweep_place (c : Nat) (s : Device) : place (trainSweep c s).rdg.peer (trainSweep c s).shw = place s.rdg.peer s.shw := by
  unfold trainSweep; simp

@[simp] theorem startEyecal_place (c : Nat) (s : Device) : place (startEyecal c s).rdg.peer (startEyecal c s).shw = place s.rdg.peer s.shw := by
  unfold startEyecal; simp

@[simp] theorem sendFrame_place (t : FrameType) (c count : Nat) (blocks : List (List Byte)) (s : Device) : place (sendFrame t c count blocks s).1.rdg.peer (sendFrame t c count blocks s).1.shw = place s.rdg.peer s.shw := by
  unfold sendFrame; simp

@[simp] theorem rangePings_place (c n : Nat) (s : Device) : place (rangePings c n s).rdg.peer (rangePings c n s).shw = place s.rdg.peer s.shw := by
  unfold rangePings; simp

@[simp] theorem startRanging_place (c : Nat) (s : Device) : place (startRanging c s).rdg.peer (startRanging c s).shw = place s.rdg.peer s.shw := by
  unfold startRanging; simp

@[simp] theorem nextCmd_place (c : Nat) (s : Device) : place (nextCmd c s).rdg.peer (nextCmd c s).shw = place s.rdg.peer s.shw := by
  unfold nextCmd; simp

@[simp] theorem applyStage_place (c : Nat) (st : ChainStage) (s : Device) : place (applyStage c st s).rdg.peer (applyStage c st s).shw = place s.rdg.peer s.shw := by
  unfold applyStage
  repeat' first
    | (simp; done)
    | rw [each_place]
    | rw [when_place]
    | split
    | intro h
    | (simp; skip)

@[simp] theorem writePlaced_place (cs : List Nat) (s : Device) : place (writePlaced cs s).rdg.peer (writePlaced cs s).shw = place s.rdg.peer s.shw := by
  unfold writePlaced; simp

@[simp] theorem modeChanged_place (c : Nat) (s : Device) : place (modeChanged c s).rdg.peer (modeChanged c s).shw = place s.rdg.peer s.shw := by
  unfold modeChanged; simp

@[simp] theorem setMotion_place (c : Nat) (on : Bool) (s : Device) : place (setMotion c on s).rdg.peer (setMotion c on s).shw = place s.rdg.peer s.shw := by
  unfold setMotion; simp

@[simp] theorem chainChanged_place (old : Nat → Word) (c : Nat) (s : Device) : place (chainChanged old c s).rdg.peer (chainChanged old c s).shw = place s.rdg.peer s.shw := by
  unfold chainChanged
  repeat' first
    | (simp; done)
    | rw [each_place]
    | rw [when_place]
    | split
    | intro h
    | (simp; skip)

@[simp] theorem takeLineSettings_place (s : Device) : place (takeLineSettings s).rdg.peer (takeLineSettings s).shw = place s.rdg.peer s.shw := by
  unfold takeLineSettings; simp

@[simp] theorem batAfterPoint_place (old : Nat → Word) (s : Device) : place (batAfterPoint old s).rdg.peer (batAfterPoint old s).shw = place s.rdg.peer s.shw := by
  unfold batAfterPoint; simp

@[simp] theorem chkAfterPoint_place (old : Nat → Word) (s : Device) : place (chkAfterPoint old s).rdg.peer (chkAfterPoint old s).shw = place s.rdg.peer s.shw := by
  unfold chkAfterPoint; simp

@[simp] theorem invalidateBand_place (k content : Nat) (s : Device) : place (invalidateBand k content s).rdg.peer (invalidateBand k content s).shw = place s.rdg.peer s.shw := by
  unfold invalidateBand; simp

@[simp] theorem cmpAfterPoint_place (old : Nat → Word) (touched : List Nat) (inval : Bool) (content : Nat) (s : Device) : place (cmpAfterPoint old touched inval content s).rdg.peer (cmpAfterPoint old touched inval content s).shw = place s.rdg.peer s.shw := by
  unfold cmpAfterPoint
  repeat' first
    | (simp; done)
    | rw [each_place]
    | rw [when_place]
    | split
    | intro h
    | (simp; skip)

@[simp] theorem writeCorr_place (g : Nat) (s : Device) : place (writeCorr g s).rdg.peer (writeCorr g s).shw = place s.rdg.peer s.shw := by
  unfold writeCorr; simp

@[simp] theorem groupFeedback_place (g content : Nat) (eps : Int) (meas : Nat) (hmod : Int) (s : Device) : place (groupFeedback g content eps meas hmod s).rdg.peer (groupFeedback g content eps meas hmod s).shw = place s.rdg.peer s.shw := by
  unfold groupFeedback; simp

@[simp] theorem feedback_place (content : Nat) (l : List (Nat × Nat × Nat × Int)) (s : Device) : place (feedback content l s).rdg.peer (feedback content l s).shw = place s.rdg.peer s.shw := by
  unfold feedback
  repeat' first
    | (simp; done)
    | rw [each_place]
    | rw [when_place]
    | split
    | intro h
    | (simp; skip)

@[simp] theorem overBudget_place (z : Nat) (s : Device) : place (overBudget z s).rdg.peer (overBudget z s).shw = place s.rdg.peer s.shw := by
  unfold overBudget
  repeat' first
    | (simp; done)
    | rw [each_place]
    | rw [when_place]
    | split
    | intro h
    | (simp; skip)

@[simp] theorem hdrAfterPoint_place (old : Nat → Word) (content : Nat) (s : Device) : place (hdrAfterPoint old content s).rdg.peer (hdrAfterPoint old content s).shw = place s.rdg.peer s.shw := by
  unfold hdrAfterPoint
  repeat' first
    | (simp; done)
    | rw [each_place]
    | rw [when_place]
    | split
    | intro h
    | (simp; skip)

@[simp] theorem setEstimates_place (cmp pho : Nat) (s : Device) : place (setEstimates cmp pho s).rdg.peer (setEstimates cmp pho s).shw = place s.rdg.peer s.shw := rfl

@[simp] theorem noteEstimates_place (s : Device) : place (noteEstimates s).rdg.peer (noteEstimates s).shw = place s.rdg.peer s.shw := setEstimates_place _ _ _

@[simp] theorem noteSwaps_place (old : Nat → Word) (s : Device) : place (noteSwaps old s).rdg.peer (noteSwaps old s).shw = place s.rdg.peer s.shw := by
  unfold noteSwaps; simp

@[simp] theorem phoAfterPoint_place (old : Nat → Word) (content : Nat) (planned : Bool) (s : Device) : place (phoAfterPoint old content planned s).rdg.peer (phoAfterPoint old content planned s).shw = place s.rdg.peer s.shw := by
  unfold phoAfterPoint; simp

@[simp] theorem streamReconfigured_place (old : Nat → Word) (n : Nat) (s : Device) : place (streamReconfigured old n s).rdg.peer (streamReconfigured old n s).shw = place s.rdg.peer s.shw := by
  unfold streamReconfigured; simp

@[simp] theorem streamPoint_place (old : Nat → Word) (s : Device) : place (streamPoint old s).rdg.peer (streamPoint old s).shw = place s.rdg.peer s.shw := by
  unfold streamPoint; simp

@[simp] theorem afterApplied_place (old : Nat → Word) (a : Applied) (content : Nat) (s : Device) : place (afterApplied old a content s).rdg.peer (afterApplied old a content s).shw = place s.rdg.peer s.shw := by
  rw [afterApplied_eq, noteEstimates_place, streamPoint_place, batAfterPoint_place, hdrAfterPoint_place, phoAfterPoint_place, chkAfterPoint_place, cmpAfterPoint_place]

@[simp] theorem reportParts_place (s : Device) : place (reportParts s).rdg.peer (reportParts s).shw = place s.rdg.peer s.shw := by
  unfold reportParts
  repeat' first
    | (simp; done)
    | rw [each_place]
    | rw [when_place]
    | split
    | intro h
    | (simp; skip)

@[simp] theorem flashWrite_place (a : Nat) (data : List Byte) (s : Device) : place (flashWrite a data s).rdg.peer (flashWrite a data s).shw = place s.rdg.peer s.shw := by
  unfold flashWrite; simp

@[simp] theorem writeStageHeader_place (s : Device) : place (writeStageHeader s).rdg.peer (writeStageHeader s).shw = place s.rdg.peer s.shw := by
  unfold writeStageHeader; simp

@[simp] theorem setUpd_place (state : Nat) (code : Code) (part : Nat) (s : Device) : place (setUpd state code part s).rdg.peer (setUpd state code part s).shw = place s.rdg.peer s.shw := by
  unfold setUpd; simp

@[simp] theorem holdupStart_place (s : Device) : place (holdupStart s).rdg.peer (holdupStart s).shw = place s.rdg.peer s.shw := by
  unfold holdupStart; simp

@[simp] theorem refuse_place (c : Code) (chain : Nat) (s : Device) : place (refuse c chain s).rdg.peer (refuse c chain s).shw = place s.rdg.peer s.shw := by
  unfold refuse; simp

@[simp] theorem startChecks_place (s : Device) : place (startChecks s).rdg.peer (startChecks s).shw = place s.rdg.peer s.shw := by
  unfold startChecks
  repeat' first
    | (simp; done)
    | rw [each_place]
    | rw [when_place]
    | split
    | intro h
    | (simp; skip)

@[simp] theorem finishPart_place (k : Nat) (s : Device) : place (finishPart k s).rdg.peer (finishPart k s).shw = place s.rdg.peer s.shw := by
  unfold finishPart
  repeat' first
    | (simp; done)
    | rw [each_place]
    | rw [when_place]
    | split
    | intro h
    | (simp; skip)

@[simp] theorem beginPart_place (k : Nat) (s : Device) : place (beginPart k s).rdg.peer (beginPart k s).shw = place s.rdg.peer s.shw := by
  unfold beginPart
  repeat' first
    | (simp; done)
    | rw [each_place]
    | rw [when_place]
    | split
    | intro h
    | (simp; skip)

@[simp] theorem recordDrivers_place (c : Nat) (p : Part) (s : Device) : place (recordDrivers c p s).rdg.peer (recordDrivers c p s).shw = place s.rdg.peer s.shw := by
  unfold recordDrivers; simp

@[simp] theorem drvPoint_place (s : Device) : place (drvPoint s).rdg.peer (drvPoint s).shw = place s.rdg.peer s.shw := by
  unfold drvPoint
  repeat' first
    | (simp; done)
    | rw [each_place]
    | rw [when_place]
    | split
    | intro h
    | (simp; skip)

@[simp] theorem swapPoint_place (s : Device) : place (swapPoint s).rdg.peer (swapPoint s).shw = place s.rdg.peer s.shw := by
  unfold swapPoint
  repeat' first
    | (simp; done)
    | rw [each_place]
    | rw [when_place]
    | split
    | intro h
    | (simp; skip)

@[simp] theorem updPoint_place (s : Device) : place (updPoint s).rdg.peer (updPoint s).shw = place s.rdg.peer s.shw := by
  unfold updPoint
  repeat' first
    | (simp; done)
    | rw [each_place]
    | rw [when_place]
    | split
    | intro h
    | (simp; skip)

@[simp] theorem spoilAll_place (s : Device) : place (spoilAll s).rdg.peer (spoilAll s).shw = place s.rdg.peer s.shw := by
  unfold spoilAll
  repeat' first
    | (simp; done)
    | rw [each_place]
    | rw [when_place]
    | split
    | intro h
    | (simp; skip)

@[simp] theorem modePoint_place (a : Applied) (s : Device) : place (modePoint a s).rdg.peer (modePoint a s).shw = place s.rdg.peer s.shw := by
  unfold modePoint; simp

@[simp] theorem tellCommits_place (a : Applied) (s : Device) : place (tellCommits a s).rdg.peer (tellCommits a s).shw = place s.rdg.peer s.shw := by
  unfold tellCommits; simp

@[simp] theorem compareSafety_place (s : Device) : place (compareSafety s).rdg.peer (compareSafety s).shw = place s.rdg.peer s.shw := by
  unfold compareSafety
  repeat' first
    | (simp; done)
    | rw [each_place]
    | rw [when_place]
    | split
    | intro h
    | (simp; skip)

@[simp] theorem armOne_place (i : Nat) (e : LlEntry) (target : Nat × Nat) (point : Nat) (s : Device) : place (armOne i e target point s).rdg.peer (armOne i e target point s).shw = place s.rdg.peer s.shw := by
  unfold armOne
  repeat' first
    | (simp; done)
    | rw [each_place]
    | rw [when_place]
    | split
    | intro h
    | (simp; skip)

@[simp] theorem armFor_place (point : Nat) (first : Nat × Nat) (s : Device) : place (armFor point first s).rdg.peer (armFor point first s).shw = place s.rdg.peer s.shw := by
  unfold armFor
  repeat' first
    | (simp; done)
    | rw [each_place]
    | rw [when_place]
    | split
    | intro h
    | (simp; skip)

@[simp] theorem compareOutput_place (d : FrameCtx) (s : Device) : place (compareOutput d s).rdg.peer (compareOutput d s).shw = place s.rdg.peer s.shw := by
  unfold compareOutput
  repeat' first
    | (simp; done)
    | rw [each_place]
    | rw [when_place]
    | split
    | intro h
    | (simp; skip)

@[simp] theorem decide__place (s : Device) : place (decide_ s).rdg.peer (decide_ s).shw = place s.rdg.peer s.shw := by
  unfold decide_
  repeat' first
    | (simp; done)
    | rw [each_place]
    | rw [when_place]
    | split
    | intro h
    | (simp; skip)

@[simp] theorem judgeEcho_place (d : FrameCtx) (c : Nat) (s : Device) : place (judgeEcho d c s).rdg.peer (judgeEcho d c s).shw = place s.rdg.peer s.shw := by
  unfold judgeEcho; simp

@[simp] theorem judgeStated_place (c : Nat) (s : Device) : place (judgeStated c s).rdg.peer (judgeStated c s).shw = place s.rdg.peer s.shw := by
  unfold judgeStated; simp

@[simp] theorem judgeWitnesses_place (d : Option FrameCtx) (s : Device) : place (judgeWitnesses d s).rdg.peer (judgeWitnesses d s).shw = place s.rdg.peer s.shw := by
  unfold judgeWitnesses
  repeat' first
    | (simp; done)
    | rw [each_place]
    | rw [when_place]
    | split
    | intro h
    | (simp; skip)

@[simp] theorem sendOutput_place (d : FrameCtx) (s : Device) : place (sendOutput d s).rdg.peer (sendOutput d s).shw = place s.rdg.peer s.shw := by
  unfold sendOutput; simp

@[simp] theorem pairLatch_place (d : Option FrameCtx) (s : Device) : place (pairLatch d s).rdg.peer (pairLatch d s).shw = place s.rdg.peer s.shw := by
  unfold pairLatch
  repeat' first
    | (simp; done)
    | rw [each_place]
    | rw [when_place]
    | split
    | intro h
    | (simp; skip)

@[simp] theorem noteLevels_place (c : FrameCtx) (s : Device) : place (noteLevels c s).rdg.peer (noteLevels c s).shw = place s.rdg.peer s.shw := by
  unfold noteLevels; simp

@[simp] theorem zoneLatch_place (c : FrameCtx) (z : Nat) (r : ZoneResult) (s : Device) : place (zoneLatch c z r s).rdg.peer (zoneLatch c z r s).shw = place s.rdg.peer s.shw := by
  unfold zoneLatch; simp

@[simp] theorem hdrLatch_place (c : FrameCtx) (s : Device) : place (hdrLatch c s).rdg.peer (hdrLatch c s).shw = place s.rdg.peer s.shw := by
  unfold hdrLatch; simp

@[simp] theorem bootCheck_place (s : Device) : place (bootCheck s).rdg.peer (bootCheck s).shw = place s.rdg.peer s.shw := by
  unfold bootCheck; simp

@[simp] theorem stepCount_place (old new : Nat) (s : Device) : place (stepCount old new s).rdg.peer (stepCount old new s).shw = place s.rdg.peer s.shw := by
  unfold stepCount; simp

@[simp] theorem rebasePtp_place (m : Mode) (frame t : Nat) (aligned : Bool) (s : Device) : place (rebasePtp m frame t aligned s).rdg.peer (rebasePtp m frame t aligned s).shw = place s.rdg.peer s.shw := by
  unfold rebasePtp; simp

@[simp] theorem startCount_place (s : Device) : place (startCount s).rdg.peer (startCount s).shw = place s.rdg.peer s.shw := by
  unfold startCount; simp

@[simp] theorem startZone_place (z : Nat) (s : Device) : place (startZone z s).rdg.peer (startZone z s).shw = place s.rdg.peer s.shw := by
  unfold startZone; simp

@[simp] theorem startWindow_place (s : Device) : place (startWindow s).rdg.peer (startWindow s).shw = place s.rdg.peer s.shw := by
  unfold startWindow
  rw [startCount_place, each_place _ _ _ fun t a => startZone_place a t]

@[simp] theorem openWindow_place (s : Device) : place (openWindow s).rdg.peer (openWindow s).shw = place s.rdg.peer s.shw := by
  unfold openWindow
  repeat' first
    | (simp; done)
    | rw [each_place]
    | rw [when_place]
    | split
    | intro h
    | (simp; skip)

@[simp] theorem ite_im (c : Prop) [Decidable c] (a b : Device) :
    (if c then a else b).upd.imageReset = if c then a.upd.imageReset else b.upd.imageReset := by split <;> rfl
@[simp] theorem ite_fst_im {α : Type} (c : Prop) [Decidable c] (a b : Device × α) :
    ((if c then a else b).1).upd.imageReset = if c then a.1.upd.imageReset else b.1.upd.imageReset := by split <;> rfl
@[simp] theorem ite_snd_im {α : Type} (c : Prop) [Decidable c] (a b : α × Device) :
    ((if c then a else b).2).upd.imageReset = if c then a.2.upd.imageReset else b.2.upd.imageReset := by split <;> rfl
@[simp] theorem each_im {α : Type} (s : Device) (l : List α) (g : Device → α → Device) (h : ∀ t a, (g t a).upd.imageReset = t.upd.imageReset) :
    (s.each l g).upd.imageReset = s.upd.imageReset := Device.each_keeps s (fun d => d.upd.imageReset) l g (fun t a _ => h t a)
@[simp] theorem when_im (s : Device) (b : Bool) (f : Device → Device) (h : (f s).upd.imageReset = s.upd.imageReset) :
    (s.when b f).upd.imageReset = s.upd.imageReset := Device.when_keeps s (fun d => d.upd.imageReset) b f h
@[simp] theorem foldl_fst_im {α β : Type} (l : List α) (f : Device × β → α → Device × β) (x : Device × β)
    (h : ∀ y a, ((f y a).1).upd.imageReset = y.1.upd.imageReset) : ((l.foldl f x).1).upd.imageReset = x.1.upd.imageReset := by
  induction l generalizing x with
  | nil => rfl
  | cons a l ih => rw [List.foldl_cons, ih, h]
@[simp] theorem foldl_im {α : Type} (l : List α) (f : Device → α → Device) (s : Device)
    (h : ∀ y a, (f y a).upd.imageReset = y.upd.imageReset) : (l.foldl f s).upd.imageReset = s.upd.imageReset := by
  induction l generalizing s with
  | nil => rfl
  | cons a l ih => rw [List.foldl_cons, ih, h]

theorem MemFrame.im {s t : Device} (h : MemFrame s t) : t.upd.imageReset = s.upd.imageReset := by rw [h.1]
theorem QueFrame.im {s t : Device} (h : QueFrame s t) : t.upd.imageReset = s.upd.imageReset := h.mem.im

@[simp] theorem batCapture_im (content : Nat) (s : Device) : ((batCapture content s)).upd.imageReset = s.upd.imageReset := by
  unfold batCapture; simp

@[simp] theorem buckOff_im (c : Nat) (s : Device) : ((buckOff c s)).upd.imageReset = s.upd.imageReset := by
  unfold buckOff; simp

@[simp] theorem softStart_im (c : Nat) (s : Device) : ((softStart c s)).upd.imageReset = s.upd.imageReset := by
  unfold softStart; simp

@[simp] theorem bucksForRole_im (was : Bool) (s : Device) : ((bucksForRole was s)).upd.imageReset = s.upd.imageReset := by
  unfold bucksForRole; simp

@[simp] theorem showPulse_im (p : Nat) (was : Bool) (s : Device) : ((showPulse p was s)).upd.imageReset = s.upd.imageReset := by
  unfold showPulse; split_ifs <;> rfl

@[simp] theorem pulsesForRole_im (was : Bool) (s : Device) : ((pulsesForRole was s)).upd.imageReset = s.upd.imageReset := by
  unfold pulsesForRole; simp

@[simp] theorem dropJobs_im (c : Nat) (s : Device) : ((dropJobs c s)).upd.imageReset = s.upd.imageReset := by
  unfold dropJobs; simp

@[simp] theorem quietChains_im (s : Device) : ((quietChains s)).upd.imageReset = s.upd.imageReset := by
  unfold quietChains; simp

@[simp] theorem owesSweep_im (s : Device) : ((owesSweep s)).upd.imageReset = s.upd.imageReset := by
  unfold owesSweep; simp

@[simp] theorem renumber_im (f : Nat) (s : Device) : ((renumber f s)).upd.imageReset = s.upd.imageReset := by
  unfold renumber; simp

@[simp] theorem countMissed_im (after n : Nat) (dropped : List Commit) (s : Device) : ((countMissed after n dropped s)).upd.imageReset = s.upd.imageReset := by
  unfold countMissed; simp

@[simp] theorem noteModeError_im (es : Entries) (c : Code) (s : Device) : ((noteModeError es c s)).upd.imageReset = s.upd.imageReset := by
  unfold noteModeError
  repeat' first
    | (simp; done)
    | rw [each_im]
    | rw [when_im]
    | split
    | intro h
    | (simp; skip)

@[simp] theorem reportCommit_im (state : Nat) (o : Origin) (sched : Bool) (err : Code) (s : Device) : ((reportCommit state o sched err s)).upd.imageReset = s.upd.imageReset := by
  unfold reportCommit; simp

@[simp] theorem skipFrames_im (old new : Nat) (s : Device) : ((skipFrames old new s)).upd.imageReset = s.upd.imageReset := by
  unfold skipFrames; simp

@[simp] theorem takeFrame_im (f : Nat) (s : Device) : ((takeFrame f s)).upd.imageReset = s.upd.imageReset := by
  unfold takeFrame
  split
  · rfl
  · rw [skipFrames_im, Device.raise_upd, renumber_im]

@[simp] theorem startResync_im (s : Device) : ((startResync s)).upd.imageReset = s.upd.imageReset := by
  unfold startResync
  repeat' first
    | (simp; done)
    | rw [each_im]
    | rw [when_im]
    | split
    | intro h
    | (simp; skip)

@[simp] theorem startBringup_im (c : Nat) (s : Device) : ((startBringup c s)).upd.imageReset = s.upd.imageReset := by
  unfold startBringup
  repeat' first
    | (simp; done)
    | rw [each_im]
    | rw [when_im]
    | split
    | intro h
    | (simp; skip)

@[simp] theorem wakeChains_im (s : Device) : ((wakeChains s)).upd.imageReset = s.upd.imageReset := by
  unfold wakeChains; simp

@[simp] theorem enterState_im (state cause : Nat) (s : Device) : ((enterState state cause s)).upd.imageReset = s.upd.imageReset := by
  unfold enterState
  repeat' first
    | (simp; done)
    | rw [each_im]
    | rw [when_im]
    | split
    | intro h
    | (simp; skip)

@[simp] theorem diverge_im (cause content canvas mask : Nat) (s : Device) : ((diverge cause content canvas mask s)).upd.imageReset = s.upd.imageReset := by
  unfold diverge
  split
  · rfl
  · dsimp only
    split
    · rfl
    · rw [startResync_im, Device.raise_upd, enterState_im]
      simp

@[simp] theorem ridgeSend_im (kind : Nat) (data : List Nat) (s : Device) : ((ridgeSend kind data s)).upd.imageReset = s.upd.imageReset := by
  unfold ridgeSend
  repeat' first
    | (simp; done)
    | rw [each_im]
    | rw [when_im]
    | split
    | intro h
    | (simp; skip)

@[simp] theorem captureLayer_im (n : Nat) (rd : Nat → Word) (newest : Option (Nat × BitVec 32)) (content : Nat) (s : Device) : ((captureLayer n rd newest content s).1).upd.imageReset = s.upd.imageReset := by
  unfold captureLayer; simp

@[simp] theorem captureLayers_im (rd : Nat → Word) (own : Nat → Option (Nat × BitVec 32)) (content : Nat) (s : Device) : ((captureLayers rd own content s).1).upd.imageReset = s.upd.imageReset := by
  unfold captureLayers; simp

@[simp] theorem startComposition_im (c : FrameCtx) (s : Device) : ((startComposition c s)).upd.imageReset = s.upd.imageReset := by
  unfold startComposition; simp

@[simp] theorem takeFrames_im (content : Nat) (own : Table (Nat × BitVec 32)) (missed noRecord : Bool) (s : Device) : ((takeFrames content own missed noRecord s)).upd.imageReset = s.upd.imageReset := by
  unfold takeFrames
  repeat' first
    | (simp; done)
    | rw [each_im]
    | rw [when_im]
    | split
    | intro h
    | (simp; skip)

@[simp] theorem finishCapture_im (r : Option CaptureRecord) (s : Device) : ((finishCapture r s)).upd.imageReset = s.upd.imageReset := by
  unfold finishCapture
  repeat' first
    | (simp; done)
    | rw [each_im]
    | rw [when_im]
    | split
    | intro h
    | (simp; skip)

@[simp] theorem retake_im (content : Nat) (s : Device) : ((retake content s)).upd.imageReset = s.upd.imageReset := by
  unfold retake
  repeat' first
    | (simp; done)
    | rw [each_im]
    | rw [when_im]
    | split
    | intro h
    | (simp; skip)

@[simp] theorem ridgeTell_im (kind : Nat) (data : List Nat) (s : Device) : ((ridgeTell kind data s)).upd.imageReset = s.upd.imageReset := by
  unfold ridgeTell; simp

@[simp] theorem captureFrame_im (content : Nat) (s : Device) : ((captureFrame content s)).upd.imageReset = s.upd.imageReset := by
  unfold captureFrame
  repeat' first
    | (simp; done)
    | rw [each_im]
    | rw [when_im]
    | split
    | intro h
    | (simp; skip)

@[simp] theorem tickList_im (d : Nat) (s : Device) : ((tickList d s)).upd.imageReset = s.upd.imageReset := by
  unfold tickList
  repeat' first
    | (simp; done)
    | rw [each_im]
    | rw [when_im]
    | split
    | intro h
    | (simp; skip)

@[simp] theorem frameTicks_im (s : Device) : ((frameTicks s)).upd.imageReset = s.upd.imageReset := by
  unfold frameTicks; simp

@[simp] theorem groupPass_im (vf : Table Int) (acc : Device × FrameCtx) (g : Nat) : ((groupPass vf acc g).1).upd.imageReset = acc.1.upd.imageReset := by
  unfold groupPass
  dsimp only
  split
  · rfl
  · exact when_im _ _ _ rfl

@[simp] theorem idleDemands_im (content : Nat) (s : Device) : ((idleDemands content s)).upd.imageReset = s.upd.imageReset := by
  unfold idleDemands
  repeat' first
    | (simp; done)
    | rw [each_im]
    | rw [when_im]
    | split
    | intro h
    | (simp; skip)

@[simp] theorem addAge_im (adds : Table Nat) (s : Device) : ((addAge adds s)).upd.imageReset = s.upd.imageReset := by
  unfold addAge; simp

@[simp] theorem idlePass_im (s : Device) : ((idlePass s)).upd.imageReset = s.upd.imageReset := by
  unfold idlePass; simp

@[simp] theorem sendNetHeartbeat_im (s : Device) : ((sendNetHeartbeat s)).upd.imageReset = s.upd.imageReset := by
  unfold sendNetHeartbeat
  repeat' first
    | (simp; done)
    | rw [each_im]
    | rw [when_im]
    | split
    | intro h
    | (simp; skip)

@[simp] theorem sendRidgeHeartbeat_im (s : Device) : ((sendRidgeHeartbeat s)).upd.imageReset = s.upd.imageReset := by
  unfold sendRidgeHeartbeat
  repeat' first
    | (simp; done)
    | rw [each_im]
    | rw [when_im]
    | split
    | intro h
    | (simp; skip)

@[simp] theorem setHolding_im (b : Bool) (s : Device) : ((setHolding b s)).upd.imageReset = s.upd.imageReset := by
  unfold setHolding; simp

@[simp] theorem refreshHolding_im (s : Device) : ((refreshHolding s)).upd.imageReset = s.upd.imageReset := by
  unfold refreshHolding; simp

@[simp] theorem pairBoundary_im (s : Device) : ((pairBoundary s)).upd.imageReset = s.upd.imageReset := by
  unfold pairBoundary; simp

@[simp] theorem fogRefresh_im (s : Device) : ((fogRefresh s)).upd.imageReset = s.upd.imageReset := by
  unfold fogRefresh
  repeat' first
    | (simp; done)
    | rw [each_im]
    | rw [when_im]
    | split
    | intro h
    | (simp; skip)

@[simp] theorem fogLight_im (on : Bool) (s : Device) : ((fogLight on s)).upd.imageReset = s.upd.imageReset := by
  unfold fogLight; simp

@[simp] theorem gpioDrive_im (p : Nat) (level : Bool) (s : Device) : ((gpioDrive p level s)).upd.imageReset = s.upd.imageReset := by
  unfold gpioDrive; simp

@[simp] theorem gpioLight_im (mask value : Nat) (s : Device) : ((gpioLight mask value s)).upd.imageReset = s.upd.imageReset := by
  unfold gpioLight; simp

@[simp] theorem sendSession_im (slot type seq : Nat) (key body : List Byte) (s : Device) : ((sendSession slot type seq key body s)).upd.imageReset = s.upd.imageReset := by
  unfold sendSession; simp

@[simp] theorem sendNotice_im (slot type : Nat) (body : List Byte) (s : Device) : ((sendNotice slot type body s)).upd.imageReset = s.upd.imageReset := by
  unfold sendNotice
  repeat' first
    | (simp; done)
    | rw [each_im]
    | rw [when_im]
    | split
    | intro h
    | (simp; skip)

@[simp] theorem messageAction_im (code tag payload : Nat) (s : Device) : ((messageAction code tag payload s)).upd.imageReset = s.upd.imageReset := by
  unfold messageAction
  repeat' first
    | (simp; done)
    | rw [each_im]
    | rw [when_im]
    | split
    | intro h
    | (simp; skip)

@[simp] theorem accessFault_im (off : Nat) (s : Device) : ((accessFault off s)).upd.imageReset = s.upd.imageReset := (accessFault_frame _ _).im

@[simp] theorem mirrorNote_im (r off : Nat) (data : List Byte) (s : Device) : ((mirrorNote r off data s)).upd.imageReset = s.upd.imageReset := (mirrorNote_frame _ _ _ _).im

@[simp] theorem syncFronts_im (s : Device) : ((syncFronts s)).upd.imageReset = s.upd.imageReset := (syncFronts_frame _).im

@[simp] theorem noteCorrected_im (r off : Nat) (s : Device) : ((noteCorrected r off s)).upd.imageReset = s.upd.imageReset := (noteCorrected_frame _ _ _).im

@[simp] theorem noteErr_im (a : MemAgent) (r off cause : Nat) (s : Device) : ((noteErr a r off cause s)).upd.imageReset = s.upd.imageReset := by
  unfold noteErr; simp

@[simp] theorem noteParity_im (a : MemAgent) (r off : Nat) (s : Device) : ((noteParity a r off s)).upd.imageReset = s.upd.imageReset := (noteParity_frame _ _ _ _).im

@[simp] theorem openGranule_im (off : Nat) (s : Device) : ((openGranule off s)).upd.imageReset = s.upd.imageReset := (openGranule_frame _ _).im

@[simp] theorem crossWatermarks_im (q old : Nat) (s : Device) : ((crossWatermarks q old s)).upd.imageReset = s.upd.imageReset := (crossWatermarks_frame _ _ _).im

@[simp] theorem refreshStalls_im (s : Device) : ((refreshStalls s)).upd.imageReset = s.upd.imageReset := (refreshStalls_frame _).im

@[simp] theorem enterTask_im (s : Device) (port : Nat) (w0 w1 w2 w3 : Word) : ((enterTask s port w0 w1 w2 w3).2).upd.imageReset = s.upd.imageReset := (enterTask_frame _ _ _ _ _ _).im

@[simp] theorem ringBells_im (q : Nat) (s : Device) : ((ringBells q s)).upd.imageReset = s.upd.imageReset := (ringBells_frame _ _).im

@[simp] theorem itemArrives_im (q : Nat) (words : List Word) (x : QueueState) (s : Device) : ((itemArrives q words x s)).upd.imageReset = s.upd.imageReset := (itemArrives_frame _ _ _ _).im

@[simp] theorem itemPending_im (q : Nat) (words : List Word) (s : Device) : ((itemPending q words s)).upd.imageReset = s.upd.imageReset := (itemPending_frame _ _ _).im

@[simp] theorem hwPush_im (agent q : Nat) (words : List Word) (s : Device) : ((hwPush agent q words s)).upd.imageReset = s.upd.imageReset := (hwPush_frame _ _ _ _).im

@[simp] theorem notify_im (r off cause : Nat) (s : Device) : ((notify r off cause s)).upd.imageReset = s.upd.imageReset := (notify_frame _ _ _ _).im

@[simp] theorem setCond_im (off : Nat) (c : CwState) (s : Device) : ((setCond off c s)).upd.imageReset = s.upd.imageReset := by
  unfold setCond; simp

@[simp] theorem poisonCw_im (a : MemAgent) (r off cause : Nat) (s : Device) : ((poisonCw a r off cause s)).upd.imageReset = s.upd.imageReset := (poisonCw_frame _ _ _ _ _).im

@[simp] theorem writePart_im (a : MemAgent) (r cw off : Nat) (data : List Byte) (u : Upset) (s : Device) : ((writePart a r cw off data u s).1).upd.imageReset = s.upd.imageReset := (writePart_frame _ _ _ _ _ _ _).im

@[simp] theorem recovered_im (r cw : Nat) (s : Device) : ((recovered r cw s)).upd.imageReset = s.upd.imageReset := (recovered_frame _ _ _).im

@[simp] theorem writeWhole_im (r cw : Nat) (data : List Byte) (s : Device) : ((writeWhole r cw data s)).upd.imageReset = s.upd.imageReset := (writeWhole_frame _ _ _ _).im

@[simp] theorem memWriteU_im (a : MemAgent) (off : Nat) (data : List Byte) (u : Upset) (s : Device) : ((memWriteU a off data u s).1).upd.imageReset = s.upd.imageReset := (memWriteU_frame _ _ _ _ _).im

@[simp] theorem memStore_im (a : MemAgent) (off : Nat) (data : List Byte) (s : Device) : ((memStore a off data s)).upd.imageReset = s.upd.imageReset := (memStore_frame _ _ _ _).im

@[simp] theorem beginSlot_im (j : SnapJob) (s : Device) : ((beginSlot j s)).upd.imageReset = s.upd.imageReset := by
  unfold beginSlot; simp

@[simp] theorem snapshotAction_im (slot tag : Nat) (s : Device) : ((snapshotAction slot tag s)).upd.imageReset = s.upd.imageReset := by
  unfold snapshotAction
  repeat' first
    | (simp; done)
    | rw [each_im]
    | rw [when_im]
    | split
    | intro h
    | (simp; skip)

@[simp] theorem runAction_im (e : LlEntry) (s : Device) : ((runAction e s)).upd.imageReset = s.upd.imageReset := by
  unfold runAction
  repeat' first
    | (simp; done)
    | rw [each_im]
    | rw [when_im]
    | split
    | intro h
    | (simp; skip)

@[simp] theorem runEntries_im (s : Device) : ((runEntries s)).upd.imageReset = s.upd.imageReset := by
  unfold runEntries; simp

@[simp] theorem notePoisonRead_im (a : MemAgent) (r off : Nat) (s : Device) : ((notePoisonRead a r off s)).upd.imageReset = s.upd.imageReset := (notePoisonRead_frame _ _ _ _).im

@[simp] theorem readCw_im (a : MemAgent) (r off : Nat) (u : Upset) (s : Device) : ((readCw a r off u s).1).upd.imageReset = s.upd.imageReset := (readCw_frame _ _ _ _ _).im

@[simp] theorem memReadU_im (a : MemAgent) (off n : Nat) (u : Upset) (s : Device) : ((memReadU a off n u s).1).upd.imageReset = s.upd.imageReset := (memReadU_frame _ _ _ _ _).im

@[simp] theorem memRead_im (a : MemAgent) (off n : Nat) (s : Device) : ((memRead a off n s).1).upd.imageReset = s.upd.imageReset := (memRead_frame _ _ _ _).im

@[simp] theorem sendSweep_im (s : Device) : ((sendSweep s)).upd.imageReset = s.upd.imageReset := by
  unfold sendSweep; simp

@[simp] theorem sendDelta_im (s : Device) : ((sendDelta s)).upd.imageReset = s.upd.imageReset := by
  unfold sendDelta
  repeat' first
    | (simp; done)
    | rw [each_im]
    | rw [when_im]
    | split
    | intro h
    | (simp; skip)

@[simp] theorem frameActions_im (old : Nat) (s : Device) : ((frameActions old s)).upd.imageReset = s.upd.imageReset := by
  unfold frameActions; simp

@[simp] theorem cmpBeforePoint_im (s : Device) : ((cmpBeforePoint s)).upd.imageReset = s.upd.imageReset := by
  unfold cmpBeforePoint; simp

@[simp] theorem llSwapPoint_im (s : Device) : ((llSwapPoint s)).upd.imageReset = s.upd.imageReset := by
  unfold llSwapPoint; simp

@[simp] theorem mapSwapped_im (content : Nat) (s : Device) : ((mapSwapped content s)).upd.imageReset = s.upd.imageReset := by
  unfold mapSwapped; simp

@[simp] theorem groupReport_im (rd : Nat → Word) (s : Device) : ((groupReport rd s)).upd.imageReset = s.upd.imageReset := by
  unfold groupReport; simp

@[simp] theorem hdrReport_im (rd : Nat → Word) (s : Device) : ((hdrReport rd s)).upd.imageReset = s.upd.imageReset := by
  unfold hdrReport; simp

@[simp] theorem setTblStatus_im (table index : Nat) (c : Code) (s : Device) : ((setTblStatus table index c s)).upd.imageReset = s.upd.imageReset := by
  unfold setTblStatus; simp

@[simp] theorem phoReport_im (rd : Nat → Word) (s : Device) : ((phoReport rd s)).upd.imageReset = s.upd.imageReset := by
  unfold phoReport; simp

@[simp] theorem noteValidation_im (m : Table Word) (es : Entries) (bad : Bool) (s : Device) : ((noteValidation m es bad s)).upd.imageReset = s.upd.imageReset := by
  unfold noteValidation; simp

@[simp] theorem planIdle_im (s : Device) : ((planIdle s)).upd.imageReset = s.upd.imageReset := by
  unfold planIdle; simp

@[simp] theorem reportFrame_im (point : Nat) (s : Device) : ((reportFrame point s)).upd.imageReset = s.upd.imageReset := by
  unfold reportFrame; simp

@[simp] theorem stageCommit_im (c : Commit) (point : Nat) (s : Device) : ((stageCommit c point s)).upd.imageReset = s.upd.imageReset := by
  unfold stageCommit; simp

@[simp] theorem submitPlan_im (x : Plan) (s : Device) : ((submitPlan x s)).upd.imageReset = s.upd.imageReset := by
  unfold submitPlan; simp

@[simp] theorem buildSlot_im (p : Nat) (r : Profile) (t : Rat) (left : Nat → Rat) (s : Device) : ((buildSlot p r t left s)).upd.imageReset = s.upd.imageReset := by
  unfold buildSlot; simp

@[simp] theorem rebuildSlot_im (p : Nat) (r : Profile) (temp : Rat) (left : List Int) (s : Device) : ((rebuildSlot p r temp left s)).upd.imageReset = s.upd.imageReset := by
  unfold rebuildSlot; simp

@[simp] theorem writePlan_im (x : Plan) (s : Device) : ((writePlan x s)).upd.imageReset = s.upd.imageReset := by
  unfold writePlan; simp

@[simp] theorem replan_im (s : Device) : ((replan s)).upd.imageReset = s.upd.imageReset := by
  unfold replan
  split
  · rfl
  · split
    · rw [Device.setB_upd]
    · rw [submitPlan_im, writePlan_im]

@[simp] theorem planOver_im (s : Device) : ((planOver s)).upd.imageReset = s.upd.imageReset := by
  unfold planOver
  split
  · rw [replan_im, planIdle_im]
  · rw [Device.setF_upd, planIdle_im]

@[simp] theorem applyOne_im (acc : Device × Applied) (c : Commit) : ((applyOne acc c).1).upd.imageReset = acc.1.upd.imageReset := by
  unfold applyOne
  repeat' first
    | (simp; done)
    | split
    | (simp; skip)

@[simp] theorem applyDue_im (s : Device) : ((applyDue s).1).upd.imageReset = s.upd.imageReset := by
  unfold applyDue
  dsimp only
  rw [foldl_fst_im _ _ _ applyOne_im]

@[simp] theorem safePoint_im (s : Device) : ((safePoint s)).upd.imageReset = s.upd.imageReset := by
  unfold safePoint
  repeat' first
    | (simp; done)
    | rw [each_im]
    | rw [when_im]
    | split
    | intro h
    | (simp; skip)

@[simp] theorem putPlaceWord_im (off v : Nat) (s : Device) : ((putPlaceWord off v s)).upd.imageReset = s.upd.imageReset := by
  unfold putPlaceWord; simp

@[simp] theorem writeRanges_im (c : Nat) (s : Device) : ((writeRanges c s)).upd.imageReset = s.upd.imageReset := by
  unfold writeRanges; simp

@[simp] theorem applyRanging_im (c : Nat) (r : RangeResult) (s : Device) : ((applyRanging c r s)).upd.imageReset = s.upd.imageReset := by
  unfold applyRanging
  repeat' first
    | (simp; done)
    | rw [each_im]
    | rw [when_im]
    | split
    | intro h
    | (simp; skip)

@[simp] theorem countNotFound_im (s : Device) : ((countNotFound s)).upd.imageReset = s.upd.imageReset := by
  unfold countNotFound; simp

@[simp] theorem noteNotFound_im (c : Nat) (left dark : List Nat) (s : Device) : ((noteNotFound c left dark s)).upd.imageReset = s.upd.imageReset := by
  unfold noteNotFound
  repeat' first
    | (simp; done)
    | rw [each_im]
    | rw [when_im]
    | split
    | intro h
    | (simp; skip)

@[simp] theorem placeFixture_im (f : Nat) (p : Place) (s : Device) : ((placeFixture f p s)).upd.imageReset = s.upd.imageReset := by
  unfold placeFixture; simp

@[simp] theorem writePlace_im (f : Nat) (s : Device) : ((writePlace f s)).upd.imageReset = s.upd.imageReset := by
  unfold writePlace; simp

@[simp] theorem writePositions_im (c : Nat) (s : Device) : ((writePositions c s)).upd.imageReset = s.upd.imageReset := by
  unfold writePositions; simp

@[simp] theorem installPlacement_im (c : Nat) (ps : List Position) (limit : Bool) (s : Device) : ((installPlacement c ps limit s)).upd.imageReset = s.upd.imageReset := by
  unfold installPlacement
  repeat' first
    | (simp; done)
    | rw [each_im]
    | rw [when_im]
    | split
    | intro h
    | (simp; skip)

@[simp] theorem skipFrame_im (c : Nat) (s : Device) : ((skipFrame c s)).upd.imageReset = s.upd.imageReset := by
  unfold skipFrame
  repeat' first
    | (simp; done)
    | rw [each_im]
    | rw [when_im]
    | split
    | intro h
    | (simp; skip)

@[simp] theorem trainSweep_im (c : Nat) (s : Device) : ((trainSweep c s)).upd.imageReset = s.upd.imageReset := by
  unfold trainSweep; simp

@[simp] theorem startEyecal_im (c : Nat) (s : Device) : ((startEyecal c s)).upd.imageReset = s.upd.imageReset := by
  unfold startEyecal; simp

@[simp] theorem sendFrame_im (t : FrameType) (c count : Nat) (blocks : List (List Byte)) (s : Device) : ((sendFrame t c count blocks s).1).upd.imageReset = s.upd.imageReset := by
  unfold sendFrame; simp

@[simp] theorem rangePings_im (c n : Nat) (s : Device) : ((rangePings c n s)).upd.imageReset = s.upd.imageReset := by
  unfold rangePings; simp

@[simp] theorem startRanging_im (c : Nat) (s : Device) : ((startRanging c s)).upd.imageReset = s.upd.imageReset := by
  unfold startRanging; simp

@[simp] theorem nextCmd_im (c : Nat) (s : Device) : ((nextCmd c s)).upd.imageReset = s.upd.imageReset := by
  unfold nextCmd; simp

@[simp] theorem applyStage_im (c : Nat) (st : ChainStage) (s : Device) : ((applyStage c st s)).upd.imageReset = s.upd.imageReset := by
  unfold applyStage
  repeat' first
    | (simp; done)
    | rw [each_im]
    | rw [when_im]
    | split
    | intro h
    | (simp; skip)

@[simp] theorem writePlaced_im (cs : List Nat) (s : Device) : ((writePlaced cs s)).upd.imageReset = s.upd.imageReset := by
  unfold writePlaced; simp

@[simp] theorem modeChanged_im (c : Nat) (s : Device) : ((modeChanged c s)).upd.imageReset = s.upd.imageReset := by
  unfold modeChanged; simp

@[simp] theorem setMotion_im (c : Nat) (on : Bool) (s : Device) : ((setMotion c on s)).upd.imageReset = s.upd.imageReset := by
  unfold setMotion; simp

@[simp] theorem chainChanged_im (old : Nat → Word) (c : Nat) (s : Device) : ((chainChanged old c s)).upd.imageReset = s.upd.imageReset := by
  unfold chainChanged
  repeat' first
    | (simp; done)
    | rw [each_im]
    | rw [when_im]
    | split
    | intro h
    | (simp; skip)

@[simp] theorem takeLineSettings_im (s : Device) : ((takeLineSettings s)).upd.imageReset = s.upd.imageReset := by
  unfold takeLineSettings; simp

@[simp] theorem batAfterPoint_im (old : Nat → Word) (s : Device) : ((batAfterPoint old s)).upd.imageReset = s.upd.imageReset := by
  unfold batAfterPoint; simp

@[simp] theorem chkAfterPoint_im (old : Nat → Word) (s : Device) : ((chkAfterPoint old s)).upd.imageReset = s.upd.imageReset := by
  unfold chkAfterPoint; simp

@[simp] theorem invalidateBand_im (k content : Nat) (s : Device) : ((invalidateBand k content s)).upd.imageReset = s.upd.imageReset := by
  unfold invalidateBand; simp

@[simp] theorem cmpAfterPoint_im (old : Nat → Word) (touched : List Nat) (inval : Bool) (content : Nat) (s : Device) : ((cmpAfterPoint old touched inval content s)).upd.imageReset = s.upd.imageReset := by
  unfold cmpAfterPoint
  repeat' first
    | (simp; done)
    | rw [each_im]
    | rw [when_im]
    | split
    | intro h
    | (simp; skip)

@[simp] theorem writeCorr_im (g : Nat) (s : Device) : ((writeCorr g s)).upd.imageReset = s.upd.imageReset := by
  unfold writeCorr; simp

@[simp] theorem groupFeedback_im (g content : Nat) (eps : Int) (meas : Nat) (hmod : Int) (s : Device) : ((groupFeedback g content eps meas hmod s)).upd.imageReset = s.upd.imageReset := by
  unfold groupFeedback; simp

@[simp] theorem feedback_im (content : Nat) (l : List (Nat × Nat × Nat × Int)) (s : Device) : ((feedback content l s)).upd.imageReset = s.upd.imageReset := by
  unfold feedback
  repeat' first
    | (simp; done)
    | rw [each_im]
    | rw [when_im]
    | split
    | intro h
    | (simp; skip)

@[simp] theorem overBudget_im (z : Nat) (s : Device) : ((overBudget z s)).upd.imageReset = s.upd.imageReset := by
  unfold overBudget
  repeat' first
    | (simp; done)
    | rw [each_im]
    | rw [when_im]
    | split
    | intro h
    | (simp; skip)

@[simp] theorem hdrAfterPoint_im (old : Nat → Word) (content : Nat) (s : Device) : ((hdrAfterPoint old content s)).upd.imageReset = s.upd.imageReset := by
  unfold hdrAfterPoint
  repeat' first
    | (simp; done)
    | rw [each_im]
    | rw [when_im]
    | split
    | intro h
    | (simp; skip)

@[simp] theorem setEstimates_im (cmp pho : Nat) (s : Device) : ((setEstimates cmp pho s)).upd.imageReset = s.upd.imageReset := rfl

@[simp] theorem noteEstimates_im (s : Device) : ((noteEstimates s)).upd.imageReset = s.upd.imageReset := setEstimates_im _ _ _

@[simp] theorem noteSwaps_im (old : Nat → Word) (s : Device) : ((noteSwaps old s)).upd.imageReset = s.upd.imageReset := by
  unfold noteSwaps; simp

@[simp] theorem phoAfterPoint_im (old : Nat → Word) (content : Nat) (planned : Bool) (s : Device) : ((phoAfterPoint old content planned s)).upd.imageReset = s.upd.imageReset := by
  unfold phoAfterPoint; simp

@[simp] theorem streamReconfigured_im (old : Nat → Word) (n : Nat) (s : Device) : ((streamReconfigured old n s)).upd.imageReset = s.upd.imageReset := by
  unfold streamReconfigured; simp

@[simp] theorem streamPoint_im (old : Nat → Word) (s : Device) : ((streamPoint old s)).upd.imageReset = s.upd.imageReset := by
  unfold streamPoint; simp

@[simp] theorem afterApplied_im (old : Nat → Word) (a : Applied) (content : Nat) (s : Device) : ((afterApplied old a content s)).upd.imageReset = s.upd.imageReset := by
  rw [afterApplied_eq, noteEstimates_im, streamPoint_im, batAfterPoint_im, hdrAfterPoint_im, phoAfterPoint_im, chkAfterPoint_im, cmpAfterPoint_im]

@[simp] theorem reportParts_im (s : Device) : ((reportParts s)).upd.imageReset = s.upd.imageReset := by
  unfold reportParts
  repeat' first
    | (simp; done)
    | rw [each_im]
    | rw [when_im]
    | split
    | intro h
    | (simp; skip)

@[simp] theorem flashWrite_im (a : Nat) (data : List Byte) (s : Device) : ((flashWrite a data s)).upd.imageReset = s.upd.imageReset := by
  unfold flashWrite; simp

@[simp] theorem writeStageHeader_im (s : Device) : ((writeStageHeader s)).upd.imageReset = s.upd.imageReset := by
  unfold writeStageHeader; simp

@[simp] theorem setUpd_im (state : Nat) (code : Code) (part : Nat) (s : Device) : ((setUpd state code part s)).upd.imageReset = s.upd.imageReset := by
  unfold setUpd; simp

@[simp] theorem holdupStart_im (s : Device) : ((holdupStart s)).upd.imageReset = s.upd.imageReset := by
  unfold holdupStart; simp

@[simp] theorem refuse_im (c : Code) (chain : Nat) (s : Device) : ((refuse c chain s)).upd.imageReset = s.upd.imageReset := by
  unfold refuse; simp

@[simp] theorem startChecks_im (s : Device) : ((startChecks s)).upd.imageReset = s.upd.imageReset := by
  unfold startChecks
  repeat' first
    | (simp; done)
    | rw [each_im]
    | rw [when_im]
    | split
    | intro h
    | (simp; skip)

@[simp] theorem finishPart_im (k : Nat) (s : Device) : ((finishPart k s)).upd.imageReset = s.upd.imageReset := by
  unfold finishPart
  repeat' first
    | (simp; done)
    | rw [each_im]
    | rw [when_im]
    | split
    | intro h
    | (simp; skip)

@[simp] theorem beginPart_im (k : Nat) (s : Device) : ((beginPart k s)).upd.imageReset = s.upd.imageReset := by
  unfold beginPart
  repeat' first
    | (simp; done)
    | rw [each_im]
    | rw [when_im]
    | split
    | intro h
    | (simp; skip)

@[simp] theorem recordDrivers_im (c : Nat) (p : Part) (s : Device) : ((recordDrivers c p s)).upd.imageReset = s.upd.imageReset := by
  unfold recordDrivers; simp

@[simp] theorem drvPoint_im (s : Device) : ((drvPoint s)).upd.imageReset = s.upd.imageReset := by
  unfold drvPoint
  repeat' first
    | (simp; done)
    | rw [each_im]
    | rw [when_im]
    | split
    | intro h
    | (simp; skip)

@[simp] theorem swapPoint_im (s : Device) : ((swapPoint s)).upd.imageReset = s.upd.imageReset := by
  unfold swapPoint
  repeat' first
    | (simp; done)
    | rw [each_im]
    | rw [when_im]
    | split
    | intro h
    | (simp; skip)

@[simp] theorem updPoint_im (s : Device) : ((updPoint s)).upd.imageReset = s.upd.imageReset := by
  unfold updPoint
  repeat' first
    | (simp; done)
    | rw [each_im]
    | rw [when_im]
    | split
    | intro h
    | (simp; skip)

@[simp] theorem spoilAll_im (s : Device) : ((spoilAll s)).upd.imageReset = s.upd.imageReset := by
  unfold spoilAll
  repeat' first
    | (simp; done)
    | rw [each_im]
    | rw [when_im]
    | split
    | intro h
    | (simp; skip)

@[simp] theorem modePoint_im (a : Applied) (s : Device) : ((modePoint a s)).upd.imageReset = s.upd.imageReset := by
  unfold modePoint; simp

@[simp] theorem tellCommits_im (a : Applied) (s : Device) : ((tellCommits a s)).upd.imageReset = s.upd.imageReset := by
  unfold tellCommits; simp

@[simp] theorem compareSafety_im (s : Device) : ((compareSafety s)).upd.imageReset = s.upd.imageReset := by
  unfold compareSafety
  repeat' first
    | (simp; done)
    | rw [each_im]
    | rw [when_im]
    | split
    | intro h
    | (simp; skip)

@[simp] theorem armOne_im (i : Nat) (e : LlEntry) (target : Nat × Nat) (point : Nat) (s : Device) : ((armOne i e target point s)).upd.imageReset = s.upd.imageReset := by
  unfold armOne
  repeat' first
    | (simp; done)
    | rw [each_im]
    | rw [when_im]
    | split
    | intro h
    | (simp; skip)

@[simp] theorem armFor_im (point : Nat) (first : Nat × Nat) (s : Device) : ((armFor point first s)).upd.imageReset = s.upd.imageReset := by
  unfold armFor
  repeat' first
    | (simp; done)
    | rw [each_im]
    | rw [when_im]
    | split
    | intro h
    | (simp; skip)

/-- A commit point that no image reset follows leaves the raster where it is. -/
theorem commitPoint_core (s : Device) (hi : s.upd.imageReset = false) : (commitPoint s).shw.core = s.shw.core := by
  unfold commitPoint
  dsimp only
  rw [if_neg (by simp [hi])]
  simp

theorem commitPoint_place (s : Device) (hi : s.upd.imageReset = false) :
    place (commitPoint s).rdg.peer (commitPoint s).shw = place s.rdg.peer s.shw := by
  unfold commitPoint
  dsimp only
  rw [if_neg (by simp [hi])]
  simp

theorem commitPoint_im (s : Device) (hi : s.upd.imageReset = false) : (commitPoint s).upd.imageReset = false := by
  unfold commitPoint
  dsimp only
  rw [if_neg (by simp [hi])]
  simp [hi]

end Sys2Proof.Machine
end

