-- ==== Sys2Proof/Laws/Net.lean ====
section
/-! SUPPORT. Which rules a network register has, and where its streams and universes are kept. -/

namespace Sys2Proof.Machine

/-- TAIL of a receive ring takes an index below the ring's size (R67). -/
theorem portHandler_rxTail (w : Who) (off : Nat) (v : Word) (p k : Nat) (hk : k < 16) : portHandler w off v p (0x10C + 16 * k) =
    { plainHandler w off v with check := fun s => if v.toNat ≠ 0 && s.rn (R.NET_RXRk_SIZE p k) ≤ v.toNat then .range else .ok } := by
  interval_cases k <;> rfl

/-- TAIL of a transmit queue takes an index below the queue's size, and settles its credit first (R70). -/
theorem portHandler_txTail (w : Who) (off : Nat) (v : Word) (p k : Nat) (hk : k < 8) : portHandler w off v p (0x20C + 32 * k) =
    { plainHandler w off v with
      check := fun s => if v.toNat ≠ 0 && s.rn (R.NET_TXQq_SIZE p k) ≤ v.toNat then .range else .ok
      effect := fun s => (plainHandler w off v).effect (settleCredit p k s) } := by
  interval_cases k <;> rfl

/-- A register of a port has its port's rules. -/
theorem netHandler_port (w : Who) (off : Nat) (v : Word) (h : off < 0x4C000) :
    netHandler w off v = portHandler w off v ((off - 0x40000) / 0x2000) ((off - 0x40000) % 0x2000) := if_pos h

variable (s : Device)

theorem Device.stream_setStream (n k : Nat) (x : StreamState) : (s.setStream n x).stream k = if k = n then x else s.stream k :=
  Table.getD_setD _ _ _ _ _

theorem Device.univ_setUniverse (n k : Nat) (x : UniverseState) : (s.setUniverse n x).univ k = if k = n then x else s.univ k :=
  Table.getD_setD _ _ _ _ _

end Sys2Proof.Machine
end

