-- ==== Sys2Proof/Laws/RegMap.lean ====
section
/-! SUPPORT. The register map's rows lie on word addresses, so no register is found off them or past the map's end. -/

namespace Sys2Proof.Machine

/-- A row whose first offset and strides are multiples of 4. -/
def RegSpec.aligned (r : RegSpec) : Bool := r.off % 4 = 0 && r.s1 % 4 = 0 && r.s2 % 4 = 0

theorem specsSYS_aligned : specsSYS.all RegSpec.aligned = true := by decide
theorem specsBOOT_aligned : specsBOOT.all RegSpec.aligned = true := by decide
theorem specsKPR_aligned : specsKPR.all RegSpec.aligned = true := by decide
theorem specsEVT_aligned : specsEVT.all RegSpec.aligned = true := by decide
theorem specsNET_aligned : specsNET.all RegSpec.aligned = true := by decide
theorem specsSHOW_aligned : specsSHOW.all RegSpec.aligned = true := by decide
theorem specsQUE_aligned : specsQUE.all RegSpec.aligned = true := by decide
theorem specsSCH_aligned : specsSCH.all RegSpec.aligned = true := by decide
theorem specsCMP_aligned : specsCMP.all RegSpec.aligned = true := by decide
theorem specsCHK_aligned : specsCHK.all RegSpec.aligned = true := by decide
theorem specsPHO_aligned : specsPHO.all RegSpec.aligned = true := by decide
theorem specsBAT_aligned : specsBAT.all RegSpec.aligned = true := by decide
theorem specsPVW_aligned : specsPVW.all RegSpec.aligned = true := by decide
theorem specsHDR_aligned : specsHDR.all RegSpec.aligned = true := by decide
theorem specsMTR_aligned : specsMTR.all RegSpec.aligned = true := by decide
theorem specsMEM_aligned : specsMEM.all RegSpec.aligned = true := by decide
theorem specsRDG_aligned : specsRDG.all RegSpec.aligned = true := by decide
theorem specsUPD_aligned : specsUPD.all RegSpec.aligned = true := by decide
theorem specsHKP_aligned : specsHKP.all RegSpec.aligned = true := by decide

theorem all_ite {α : Type} {p : α → Bool} {c : Prop} [Decidable c] {a b : List α} (ha : a.all p = true) (hb : b.all p = true) :
    (if c then a else b).all p = true := by
  split <;> assumption

theorem blockSpecs_aligned (off : Nat) : (blockSpecs off).all RegSpec.aligned = true := by
  unfold blockSpecs
  exact all_ite specsSYS_aligned (all_ite specsBOOT_aligned
    (all_ite specsKPR_aligned
    (all_ite specsEVT_aligned
    (all_ite specsNET_aligned
    (all_ite specsSHOW_aligned
    (all_ite specsQUE_aligned
    (all_ite specsSCH_aligned
    (all_ite specsCMP_aligned
    (all_ite specsCHK_aligned
    (all_ite specsPHO_aligned
    (all_ite specsBAT_aligned
    (all_ite specsPVW_aligned
    (all_ite specsHDR_aligned
    (all_ite specsMTR_aligned
    (all_ite specsMEM_aligned
    (all_ite specsRDG_aligned
    (all_ite specsUPD_aligned
    (all_ite specsHKP_aligned (rfl)))))))))))))))))))

theorem RegSpec.covers_aligned (r : RegSpec) (off : Nat) (a : r.aligned = true) (c : r.covers off = true) : off % 4 = 0 := by
  simp only [RegSpec.aligned, Bool.and_eq_true, decide_eq_true_eq] at a
  obtain ⟨⟨ho, h1⟩, h2⟩ := a
  simp only [RegSpec.covers, Bool.and_eq_true, decide_eq_true_eq] at c
  obtain ⟨le, _, hf⟩ := c
  have e4 : (if r.s1 = 0 then off - r.off else (off - r.off) % r.s1) % 4 = 0 := by
    by_cases hz : r.s2 = 0
    · rw [if_pos hz] at hf; omega
    · rw [if_neg hz] at hf
      have d : r.s2 ∣ (if r.s1 = 0 then off - r.off else (off - r.off) % r.s1) := Nat.dvd_of_mod_eq_zero hf
      exact Nat.mod_eq_zero_of_dvd ((Nat.dvd_of_mod_eq_zero h2).trans d)
  have d4 : (off - r.off) % 4 = 0 := by
    by_cases hz : r.s1 = 0
    · rw [if_pos hz] at e4; exact e4
    · rw [if_neg hz] at e4
      have := Nat.mod_mod_of_dvd (off - r.off) (Nat.dvd_of_mod_eq_zero h1)
      omega
  omega

/-- No register lies off a word address. -/
theorem specAt_misaligned (off : Nat) (h : off % 4 ≠ 0) : specAt off = none := by
  unfold specAt
  rw [List.find?_eq_none]
  intro r hr c
  exact h (r.covers_aligned off (List.all_eq_true.mp (blockSpecs_aligned off) r hr) c)

/-- No register lies past the map's end. -/
theorem specAt_past_end (off : Nat) (h : mapEnd ≤ off) : specAt off = none := by
  unfold mapEnd at h
  unfold specAt blockSpecs
  repeat rw [if_neg (by omega)]
  rfl

end Sys2Proof.Machine
end

