-- ==== Sys2Proof/Laws/Sched.lean ====
section
/-! SUPPORT. What the operations of the queues and the scheduler leave in a queue, in a task slot and in the cores' registers. -/

namespace Sys2Proof.Machine

theorem Device.queue_setQueue (s : Device) (q p : Nat) (x : QueueState) : (s.setQueue q x).queue p = if p = q then x else s.queue p := Table.getD_setD _ _ _ _ _

theorem crossWatermarks_queue (q old p : Nat) (s : Device) : (crossWatermarks q old s).queue p = s.queue p ∧ (crossWatermarks q old s).que = s.que ∧ (crossWatermarks q old s).clock = s.clock ∧ (crossWatermarks q old s).resp = s.resp := by
  have e : (crossWatermarks q old s).que = s.que ∧ (crossWatermarks q old s).clock = s.clock ∧ (crossWatermarks q old s).resp = s.resp := by
    unfold crossWatermarks Device.when; dsimp only; split <;> split <;> exact ⟨rfl, rfl, rfl⟩
  exact ⟨by unfold Device.queue; rw [e.1], e⟩

theorem updQueue_spec (s : Device) (q : Nat) (x : QueueState) : ∃ y : QueueState, y = { x with staleFrom := y.staleFrom, staleDone := y.staleDone } ∧
    (s.updQueue q x).que = (s.setQueue q y).que ∧ (s.updQueue q x).queue q = y ∧ (∀ p, p ≠ q → (s.updQueue q x).queue p = s.queue p) ∧ (s.updQueue q x).clock = s.clock ∧ (s.updQueue q x).resp = s.resp := by
  unfold Device.updQueue
  dsimp only
  have key : ∀ y : QueueState, y = { x with staleFrom := y.staleFrom, staleDone := y.staleDone } → ∃ z : QueueState, z = { x with staleFrom := z.staleFrom, staleDone := z.staleDone } ∧ (crossWatermarks q (s.queue q).level (s.setQueue q y)).que = (s.setQueue q z).que ∧
      (crossWatermarks q (s.queue q).level (s.setQueue q y)).queue q = z ∧ (∀ p, p ≠ q → (crossWatermarks q (s.queue q).level (s.setQueue q y)).queue p = s.queue p) ∧ (crossWatermarks q (s.queue q).level (s.setQueue q y)).clock = s.clock ∧ (crossWatermarks q (s.queue q).level (s.setQueue q y)).resp = s.resp := by
    intro y hy
    have c := fun p => crossWatermarks_queue q (s.queue q).level p (s.setQueue q y)
    refine ⟨y, hy, (c 0).2.1, ?_, ?_, (c 0).2.2.1, (c 0).2.2.2⟩
    · rw [(c q).1, Device.queue_setQueue, if_pos rfl]
    · intro p hp; rw [(c p).1, Device.queue_setQueue, if_neg hp]
  apply key
  split_ifs <;> rfl

theorem Device.when_reg (s : Device) (b : Bool) (f : Device → Device) (o : Nat) (h : (f s).reg o = s.reg o) : (s.when b f).reg o = s.reg o := by
  unfold Device.when; split
  · exact h
  · rfl

theorem crossWatermarks_reg (q old o : Nat) (s : Device) (n1 : o ≠ R.QUE_STATUS q) (n2 : o ≠ R.QUE_HI_COUNT q) (n3 : o ≠ R.QUE_LO_COUNT q) : (crossWatermarks q old s).reg o = s.reg o := by
  unfold crossWatermarks
  dsimp only
  refine (Device.when_reg _ _ _ _ ?_).trans (Device.when_reg _ _ _ _ ?_)
  · rw [Device.reg_raise, Device.reg_count, if_neg n3, Device.reg_setB, if_neg n1]
  · rw [Device.reg_raise, Device.reg_count, if_neg n2, Device.reg_setB, if_neg n1]

theorem updQueue_reg (s : Device) (q : Nat) (x : QueueState) (o : Nat) (n1 : o ≠ R.QUE_STATUS q) (n2 : o ≠ R.QUE_HI_COUNT q) (n3 : o ≠ R.QUE_LO_COUNT q) : (s.updQueue q x).reg o = s.reg o := by
  unfold Device.updQueue
  dsimp only
  rw [crossWatermarks_reg _ _ _ _ n1 n2 n3]; rfl

theorem itemArrives_spec (q : Nat) (ws : List Word) (x : QueueState) (s : Device) (hb : s.rb (R.QUE_CTRL q) 1 = false) :
    ((itemArrives q ws x s).queue q).items = x.items ++ [⟨ws, s.que.arrivals + 1, .pending⟩] ∧ (∀ p, p ≠ q → (itemArrives q ws x s).queue p = s.queue p) := by
  unfold itemArrives
  dsimp only
  obtain ⟨y, hy, h1, h2, h3, h4, -⟩ := updQueue_spec ({ s with que := { s.que with arrivals := s.que.arrivals + 1 } } : Device) q { x with items := x.items ++ [⟨ws, s.que.arrivals + 1, .pending⟩] }
  have hr : (Device.updQueue ({ s with que := { s.que with arrivals := s.que.arrivals + 1 } } : Device) q { x with items := x.items ++ [⟨ws, s.que.arrivals + 1, .pending⟩] }).rb (R.QUE_CTRL q) 1 = false := by
    rw [← hb]
    have this := updQueue_reg ({ s with que := { s.que with arrivals := s.que.arrivals + 1 } } : Device) q { x with items := x.items ++ [⟨ws, s.que.arrivals + 1, .pending⟩] } (R.QUE_CTRL q) (by unfold R.QUE_CTRL R.QUE_STATUS; omega) (by unfold R.QUE_CTRL R.QUE_HI_COUNT; omega) (by unfold R.QUE_CTRL R.QUE_LO_COUNT; omega)
    exact Device.rb_of_reg this 1
  rw [if_neg (by rw [hr]; decide)]
  refine ⟨?_, ?_⟩
  · rw [h2, hy]
  · intro p hp; rw [h3 p hp]; rfl

theorem itemPending_spec (q : Nat) (ws : List Word) (s : Device) (hb : s.rb (R.QUE_CTRL q) 1 = false) :
    ((itemPending q ws s).queue q).items = (s.queue q).items ++ [⟨ws, s.que.arrivals + 1, .pending⟩] ∧ (∀ p, p ≠ q → (itemPending q ws s).queue p = s.queue p) :=
  itemArrives_spec q ws _ s hb

theorem drainWaiting_none (q : Nat) (s : Device) (h : (s.queue q).waiting = []) : drainWaiting q s = s := by
  unfold drainWaiting; rw [h]; rfl

theorem refreshStalls_que (s : Device) : ∃ st, (refreshStalls s).que = { s.que with stalled := st } := by
  unfold refreshStalls
  generalize upto 41 = l
  induction l generalizing s with
  | nil => exact ⟨s.que.stalled, rfl⟩
  | cons a l ih =>
    obtain ⟨st, h⟩ := ih ((({ s with que := { s.que with stalled := s.que.stalled.setD false a (portStalled s a) } } : Device)).raiseIf (portStalled s a && !s.que.stalled.getD false a) Ev.SCH_PORT_STALL a)
    refine ⟨st, h.trans ?_⟩
    unfold Device.raiseIf; split <;> rfl

theorem Device.raiseIf_fields (s : Device) (b : Bool) (e p : Nat) : (s.raiseIf b e p).que = s.que ∧ (s.raiseIf b e p).banked = s.banked ∧ (s.raiseIf b e p).resp = s.resp := by
  unfold Device.raiseIf; split <;> exact ⟨rfl, rfl, rfl⟩

theorem enterTask_spec (s : Device) (port : Nat) (w0 w1 w2 w3 : Word) :
    (enterTask s port w0 w1 w2 w3).1 = freeSlot s.que.tasks + 4096 * (s.que.gens.getD 0 (freeSlot s.que.tasks) % 16) ∧
    (∃ t, t.handle = freeSlot s.que.tasks + 4096 * (s.que.gens.getD 0 (freeSlot s.que.tasks) % 16) ∧ t.w0 = w0 ∧ t.w1 = w1 ∧ t.w3 = w3 ∧
      t.state = (if wbit w3 11 then .delayed (wfld w3 31 16) else .ready s.que.order false) ∧
      (enterTask s port w0 w1 w2 w3).2.que.tasks = s.que.tasks.put (freeSlot s.que.tasks) t) ∧
    (enterTask s port w0 w1 w2 w3).2.que.queues = s.que.queues := by
  have e : ∃ (X : Device) (b : Bool) (p : Nat), (enterTask s port w0 w1 w2 w3).2 = refreshStalls (X.raiseIf b Ev.SCH_SLOTS_LOW p) ∧ X.que.queues = s.que.queues ∧
      X.que.tasks = s.que.tasks.put (freeSlot s.que.tasks) { handle := freeSlot s.que.tasks + 4096 * (s.que.gens.getD 0 (freeSlot s.que.tasks) % 16), w0 := w0, w1 := w1, w2 := w2, w3 := w3, port := port, order := s.que.order, state := if wbit w3 11 then .delayed (wfld w3 31 16) else .ready s.que.order false } := by
    unfold enterTask
    generalize refreshStalls = f
    exact ⟨_, _, _, rfl, rfl, rfl⟩
  have e1 : (enterTask s port w0 w1 w2 w3).1 = freeSlot s.que.tasks + 4096 * (s.que.gens.getD 0 (freeSlot s.que.tasks) % 16) := by
    unfold enterTask
    generalize refreshStalls = f
    rfl
  obtain ⟨X, b, p, h1, h2, h3⟩ := e
  obtain ⟨st, h⟩ := refreshStalls_que (X.raiseIf b Ev.SCH_SLOTS_LOW p)
  rw [h1]
  generalize refreshStalls (X.raiseIf b Ev.SCH_SLOTS_LOW p) = u at h
  have hr := (Device.raiseIf_fields X b Ev.SCH_SLOTS_LOW p).1
  generalize X.raiseIf b Ev.SCH_SLOTS_LOW p = y at h hr
  refine ⟨e1, ⟨{ handle := freeSlot s.que.tasks + 4096 * (s.que.gens.getD 0 (freeSlot s.que.tasks) % 16), w0 := w0, w1 := w1, w2 := w2, w3 := w3, port := port, order := s.que.order, state := if wbit w3 11 then .delayed (wfld w3 31 16) else .ready s.que.order false }, rfl, rfl, rfl, rfl, rfl, ?_⟩, ?_⟩
  · rw [h, hr, ← h3]
  · rw [h, hr, ← h2]

theorem Device.find_setTask (s : Device) (t : Task) (k : Nat) : (s.setTask t).que.tasks.find k = if k = t.handle % 4096 then some t else s.que.tasks.find k := Table.find_put _ _ _ _

theorem dispatchTo_spec (c : Nat) (t : Task) (hit : Bool) (s : Device) :
    (dispatchTo c t hit s).que.tasks.find (t.handle % 4096) = some { t with state := .running c, wait := none } ∧
    (dispatchTo c t hit s).reg (R.SCH_Cc_HANDLE c) = BitVec.ofNat 32 t.handle ∧ (dispatchTo c t hit s).reg (R.SCH_Cc_ENTRY c) = t.w0 ∧
    (dispatchTo c t hit s).reg (R.SCH_Cc_ARG c) = t.w1 ∧ (dispatchTo c t hit s).sent = s.sent ++ [⟨.core c, [t.handle, t.w0.toNat, t.w1.toNat]⟩] ∧
    (dispatchTo c t hit s).reg R.SCH_AFF_MISS = s.reg R.SCH_AFF_MISS ∧ (dispatchTo c t hit s).clock = s.clock := by
  unfold dispatchTo Device.when
  dsimp only
  have n1 : R.SCH_Cc_HANDLE c ≠ R.SCH_Cc_ENTRY c := by unfold R.SCH_Cc_HANDLE R.SCH_Cc_ENTRY; omega
  have n2 : R.SCH_Cc_HANDLE c ≠ R.SCH_Cc_ARG c := by unfold R.SCH_Cc_HANDLE R.SCH_Cc_ARG; omega
  have n3 : R.SCH_Cc_ENTRY c ≠ R.SCH_Cc_ARG c := by unfold R.SCH_Cc_ENTRY R.SCH_Cc_ARG; omega
  have m1 : R.SCH_Cc_HANDLE c ≠ R.SCH_DISPATCHED := by unfold R.SCH_Cc_HANDLE R.SCH_DISPATCHED; omega
  have m2 : R.SCH_Cc_ENTRY c ≠ R.SCH_DISPATCHED := by unfold R.SCH_Cc_ENTRY R.SCH_DISPATCHED; omega
  have m3 : R.SCH_Cc_ARG c ≠ R.SCH_DISPATCHED := by unfold R.SCH_Cc_ARG R.SCH_DISPATCHED; omega
  have k1 : R.SCH_Cc_HANDLE c ≠ R.SCH_AFF_HIT := by unfold R.SCH_Cc_HANDLE R.SCH_AFF_HIT; omega
  have k2 : R.SCH_Cc_ENTRY c ≠ R.SCH_AFF_HIT := by unfold R.SCH_Cc_ENTRY R.SCH_AFF_HIT; omega
  have k3 : R.SCH_Cc_ARG c ≠ R.SCH_AFF_HIT := by unfold R.SCH_Cc_ARG R.SCH_AFF_HIT; omega
  have j1 : R.SCH_AFF_MISS ≠ R.SCH_Cc_HANDLE c := by unfold R.SCH_Cc_HANDLE R.SCH_AFF_MISS; omega
  have j2 : R.SCH_AFF_MISS ≠ R.SCH_Cc_ENTRY c := by unfold R.SCH_Cc_ENTRY R.SCH_AFF_MISS; omega
  have j3 : R.SCH_AFF_MISS ≠ R.SCH_Cc_ARG c := by unfold R.SCH_Cc_ARG R.SCH_AFF_MISS; omega
  have j4 : R.SCH_AFF_MISS ≠ R.SCH_DISPATCHED := by decide
  have j5 : R.SCH_AFF_MISS ≠ R.SCH_AFF_HIT := by decide
  split
  · refine ⟨(Table.find_put _ _ _ _).trans (if_pos rfl), ?_, ?_, ?_, rfl, ?_, rfl⟩
    · simp only [Device.reg_count, Device.reg_send, Device.reg_setReg, Device.reg_setN, n1, n2, m1, k1, if_false, if_true]
    · simp only [Device.reg_count, Device.reg_send, Device.reg_setReg, Device.reg_setN, n3, m2, k2, if_false, if_true]
    · simp only [Device.reg_count, Device.reg_send, Device.reg_setReg, Device.reg_setN, m3, k3, if_false, if_true]
    · simp only [Device.reg_count, Device.reg_send, Device.reg_setReg, Device.reg_setN, j1, j2, j3, j4, j5, if_false]; rfl
  · refine ⟨(Table.find_put _ _ _ _).trans (if_pos rfl), ?_, ?_, ?_, rfl, ?_, rfl⟩
    · simp only [Device.reg_count, Device.reg_send, Device.reg_setReg, Device.reg_setN, n1, n2, m1, k1, if_false, if_true]
    · simp only [Device.reg_count, Device.reg_send, Device.reg_setReg, Device.reg_setN, n3, m2, k2, if_false, if_true]
    · simp only [Device.reg_count, Device.reg_send, Device.reg_setReg, Device.reg_setN, m3, k3, if_false, if_true]
    · simp only [Device.reg_count, Device.reg_send, Device.reg_setReg, Device.reg_setN, j1, j2, j3, j4, j5, if_false]; rfl

theorem afterFree_none (s : Device) (h : s.que.queues = []) : afterFree s = refreshStalls s := by
  unfold afterFree
  generalize refreshStalls s = u
  rw [h]; rfl

theorem Table.put_running (m : Table Task) (k : Nat) (t : Task) (c : Nat) (ht : t.state ≠ .running c) (h : (m.map (·.2)).find? (fun t => t.state = .running c) = none) :
    ((m.put k t).map (·.2)).find? (fun t => t.state = .running c) = none := by
  rw [List.find?_eq_none] at h ⊢
  intro x hx
  obtain ⟨p, hp, rfl⟩ := List.mem_map.mp hx
  rcases Table.mem_put m k t p hp with rfl | hm
  · simpa using ht
  · exact h _ (List.mem_map.mpr ⟨p, hm, rfl⟩)

theorem refreshStalls_reg (s : Device) (o : Nat) : (refreshStalls s).reg o = s.reg o := by
  unfold refreshStalls
  generalize upto 41 = l
  induction l generalizing s with
  | nil => rfl
  | cons a l ih => exact (ih _).trans (Device.reg_raiseIf _ _ _ _ _)

end Sys2Proof.Machine
end

