-- ==== Sys2Proof/Laws/Show.lean ====
section
/-! SUPPORT. The point passed last and a pending restart while a frame starts; the raster's run to a line. -/

namespace Sys2Proof.Machine

@[simp] theorem ite_lastp (c : Prop) [Decidable c] (a b : Device) :
    (if c then a else b).shw.lastPoint = if c then a.shw.lastPoint else b.shw.lastPoint := by split <;> rfl
@[simp] theorem ite_fst_lastp {α : Type} (c : Prop) [Decidable c] (a b : Device × α) :
    ((if c then a else b).1).shw.lastPoint = if c then a.1.shw.lastPoint else b.1.shw.lastPoint := by split <;> rfl
@[simp] theorem ite_snd_lastp {α : Type} (c : Prop) [Decidable c] (a b : α × Device) :
    ((if c then a else b).2).shw.lastPoint = if c then a.2.shw.lastPoint else b.2.shw.lastPoint := by split <;> rfl
@[simp] theorem each_lastp {α : Type} (s : Device) (l : List α) (g : Device → α → Device) (h : ∀ t a, (g t a).shw.lastPoint = t.shw.lastPoint) :
    (s.each l g).shw.lastPoint = s.shw.lastPoint := Device.each_keeps s (fun d => d.shw.lastPoint) l g (fun t a _ => h t a)
@[simp] theorem when_lastp (s : Device) (b : Bool) (f : Device → Device) (h : (f s).shw.lastPoint = s.shw.lastPoint) :
    (s.when b f).shw.lastPoint = s.shw.lastPoint := Device.when_keeps s (fun d => d.shw.lastPoint) b f h
@[simp] theorem foldl_fst_lastp {α β : Type} (l : List α) (f : Device × β → α → Device × β) (x : Device × β)
    (h : ∀ y a, ((f y a).1).shw.lastPoint = y.1.shw.lastPoint) : ((l.foldl f x).1).shw.lastPoint = x.1.shw.lastPoint := by
  induction l generalizing x with
  | nil => rfl
  | cons a l ih => rw [List.foldl_cons, ih, h]
@[simp] theorem foldl_lastp {α : Type} (l : List α) (f : Device → α → Device) (s : Device)
    (h : ∀ y a, (f y a).shw.lastPoint = y.shw.lastPoint) : (l.foldl f s).shw.lastPoint = s.shw.lastPoint := by
  induction l generalizing s with
  | nil => rfl
  | cons a l ih => rw [List.foldl_cons, ih, h]

theorem MemFrame.lastp {s t : Device} (h : MemFrame s t) : t.shw.lastPoint = s.shw.lastPoint := by rw [h.1]
theorem QueFrame.lastp {s t : Device} (h : QueFrame s t) : t.shw.lastPoint = s.shw.lastPoint := h.mem.lastp

@[simp] theorem fogRefresh_lastp (s : Device) : ((fogRefresh s)).shw.lastPoint = s.shw.lastPoint := by
  unfold fogRefresh
  repeat' first
    | (simp; done)
    | rw [each_lastp]
    | rw [when_lastp]
    | split
    | intro h
    | (simp; skip)

@[simp] theorem fogLight_lastp (on : Bool) (s : Device) : ((fogLight on s)).shw.lastPoint = s.shw.lastPoint := by
  unfold fogLight; simp

@[simp] theorem gpioDrive_lastp (p : Nat) (level : Bool) (s : Device) : ((gpioDrive p level s)).shw.lastPoint = s.shw.lastPoint := by
  unfold gpioDrive; simp

@[simp] theorem gpioLight_lastp (mask value : Nat) (s : Device) : ((gpioLight mask value s)).shw.lastPoint = s.shw.lastPoint := by
  unfold gpioLight; simp

@[simp] theorem sendSession_lastp (slot type seq : Nat) (key body : List Byte) (s : Device) : ((sendSession slot type seq key body s)).shw.lastPoint = s.shw.lastPoint := by
  unfold sendSession; simp

@[simp] theorem sendNotice_lastp (slot type : Nat) (body : List Byte) (s : Device) : ((sendNotice slot type body s)).shw.lastPoint = s.shw.lastPoint := by
  unfold sendNotice
  repeat' first
    | (simp; done)
    | rw [each_lastp]
    | rw [when_lastp]
    | split
    | intro h
    | (simp; skip)

@[simp] theorem messageAction_lastp (code tag payload : Nat) (s : Device) : ((messageAction code tag payload s)).shw.lastPoint = s.shw.lastPoint := by
  unfold messageAction
  repeat' first
    | (simp; done)
    | rw [each_lastp]
    | rw [when_lastp]
    | split
    | intro h
    | (simp; skip)

@[simp] theorem accessFault_lastp (off : Nat) (s : Device) : ((accessFault off s)).shw.lastPoint = s.shw.lastPoint := (accessFault_frame _ _).lastp

@[simp] theorem mirrorNote_lastp (r off : Nat) (data : List Byte) (s : Device) : ((mirrorNote r off data s)).shw.lastPoint = s.shw.lastPoint := (mirrorNote_frame _ _ _ _).lastp

@[simp] theorem syncFronts_lastp (s : Device) : ((syncFronts s)).shw.lastPoint = s.shw.lastPoint := (syncFronts_frame _).lastp

@[simp] theorem noteCorrected_lastp (r off : Nat) (s : Device) : ((noteCorrected r off s)).shw.lastPoint = s.shw.lastPoint := (noteCorrected_frame _ _ _).lastp

@[simp] theorem noteErr_lastp (a : MemAgent) (r off cause : Nat) (s : Device) : ((noteErr a r off cause s)).shw.lastPoint = s.shw.lastPoint := by
  unfold noteErr; simp

@[simp] theorem noteParity_lastp (a : MemAgent) (r off : Nat) (s : Device) : ((noteParity a r off s)).shw.lastPoint = s.shw.lastPoint := (noteParity_frame _ _ _ _).lastp

@[simp] theorem openGranule_lastp (off : Nat) (s : Device) : ((openGranule off s)).shw.lastPoint = s.shw.lastPoint := (openGranule_frame _ _).lastp

@[simp] theorem crossWatermarks_lastp (q old : Nat) (s : Device) : ((crossWatermarks q old s)).shw.lastPoint = s.shw.lastPoint := (crossWatermarks_frame _ _ _).lastp

@[simp] theorem refreshStalls_lastp (s : Device) : ((refreshStalls s)).shw.lastPoint = s.shw.lastPoint := (refreshStalls_frame _).lastp

@[simp] theorem enterTask_lastp (s : Device) (port : Nat) (w0 w1 w2 w3 : Word) : ((enterTask s port w0 w1 w2 w3).2).shw.lastPoint = s.shw.lastPoint := (enterTask_frame _ _ _ _ _ _).lastp

@[simp] theorem ringBells_lastp (q : Nat) (s : Device) : ((ringBells q s)).shw.lastPoint = s.shw.lastPoint := (ringBells_frame _ _).lastp

@[simp] theorem itemArrives_lastp (q : Nat) (words : List Word) (x : QueueState) (s : Device) : ((itemArrives q words x s)).shw.lastPoint = s.shw.lastPoint := (itemArrives_frame _ _ _ _).lastp

@[simp] theorem itemPending_lastp (q : Nat) (words : List Word) (s : Device) : ((itemPending q words s)).shw.lastPoint = s.shw.lastPoint := (itemPending_frame _ _ _).lastp

@[simp] theorem hwPush_lastp (agent q : Nat) (words : List Word) (s : Device) : ((hwPush agent q words s)).shw.lastPoint = s.shw.lastPoint := (hwPush_frame _ _ _ _).lastp

@[simp] theorem notify_lastp (r off cause : Nat) (s : Device) : ((notify r off cause s)).shw.lastPoint = s.shw.lastPoint := (notify_frame _ _ _ _).lastp

@[simp] theorem setCond_lastp (off : Nat) (c : CwState) (s : Device) : ((setCond off c s)).shw.lastPoint = s.shw.lastPoint := by
  unfold setCond; simp

@[simp] theorem poisonCw_lastp (a : MemAgent) (r off cause : Nat) (s : Device) : ((poisonCw a r off cause s)).shw.lastPoint = s.shw.lastPoint := (poisonCw_frame _ _ _ _ _).lastp

@[simp] theorem writePart_lastp (a : MemAgent) (r cw off : Nat) (data : List Byte) (u : Upset) (s : Device) : ((writePart a r cw off data u s).1).shw.lastPoint = s.shw.lastPoint := (writePart_frame _ _ _ _ _ _ _).lastp

@[simp] theorem recovered_lastp (r cw : Nat) (s : Device) : ((recovered r cw s)).shw.lastPoint = s.shw.lastPoint := (recovered_frame _ _ _).lastp

@[simp] theorem writeWhole_lastp (r cw : Nat) (data : List Byte) (s : Device) : ((writeWhole r cw data s)).shw.lastPoint = s.shw.lastPoint := (writeWhole_frame _ _ _ _).lastp

@[simp] theorem memWriteU_lastp (a : MemAgent) (off : Nat) (data : List Byte) (u : Upset) (s : Device) : ((memWriteU a off data u s).1).shw.lastPoint = s.shw.lastPoint := (memWriteU_frame _ _ _ _ _).lastp

@[simp] theorem memStore_lastp (a : MemAgent) (off : Nat) (data : List Byte) (s : Device) : ((memStore a off data s)).shw.lastPoint = s.shw.lastPoint := (memStore_frame _ _ _ _).lastp

@[simp] theorem beginSlot_lastp (j : SnapJob) (s : Device) : ((beginSlot j s)).shw.lastPoint = s.shw.lastPoint := by
  unfold beginSlot; simp

@[simp] theorem snapshotAction_lastp (slot tag : Nat) (s : Device) : ((snapshotAction slot tag s)).shw.lastPoint = s.shw.lastPoint := by
  unfold snapshotAction
  repeat' first
    | (simp; done)
    | rw [each_lastp]
    | rw [when_lastp]
    | split
    | intro h
    | (simp; skip)

@[simp] theorem runAction_lastp (e : LlEntry) (s : Device) : ((runAction e s)).shw.lastPoint = s.shw.lastPoint := by
  unfold runAction
  repeat' first
    | (simp; done)
    | rw [each_lastp]
    | rw [when_lastp]
    | split
    | intro h
    | (simp; skip)

@[simp] theorem runEntries_lastp (s : Device) : ((runEntries s)).shw.lastPoint = s.shw.lastPoint := by
  unfold runEntries; simp

@[simp] theorem noteModeError_lastp (es : Entries) (c : Code) (s : Device) : ((noteModeError es c s)).shw.lastPoint = s.shw.lastPoint := by
  unfold noteModeError
  repeat' first
    | (simp; done)
    | rw [each_lastp]
    | rw [when_lastp]
    | split
    | intro h
    | (simp; skip)

@[simp] theorem groupReport_lastp (rd : Nat → Word) (s : Device) : ((groupReport rd s)).shw.lastPoint = s.shw.lastPoint := by
  unfold groupReport; simp

@[simp] theorem hdrReport_lastp (rd : Nat → Word) (s : Device) : ((hdrReport rd s)).shw.lastPoint = s.shw.lastPoint := by
  unfold hdrReport; simp

@[simp] theorem notePoisonRead_lastp (a : MemAgent) (r off : Nat) (s : Device) : ((notePoisonRead a r off s)).shw.lastPoint = s.shw.lastPoint := (notePoisonRead_frame _ _ _ _).lastp

@[simp] theorem readCw_lastp (a : MemAgent) (r off : Nat) (u : Upset) (s : Device) : ((readCw a r off u s).1).shw.lastPoint = s.shw.lastPoint := (readCw_frame _ _ _ _ _).lastp

@[simp] theorem memReadU_lastp (a : MemAgent) (off n : Nat) (u : Upset) (s : Device) : ((memReadU a off n u s).1).shw.lastPoint = s.shw.lastPoint := (memReadU_frame _ _ _ _ _).lastp

@[simp] theorem memRead_lastp (a : MemAgent) (off n : Nat) (s : Device) : ((memRead a off n s).1).shw.lastPoint = s.shw.lastPoint := (memRead_frame _ _ _ _).lastp

@[simp] theorem setTblStatus_lastp (table index : Nat) (c : Code) (s : Device) : ((setTblStatus table index c s)).shw.lastPoint = s.shw.lastPoint := by
  unfold setTblStatus; simp

@[simp] theorem phoReport_lastp (rd : Nat → Word) (s : Device) : ((phoReport rd s)).shw.lastPoint = s.shw.lastPoint := by
  unfold phoReport; simp

@[simp] theorem noteValidation_lastp (m : Table Word) (es : Entries) (bad : Bool) (s : Device) : ((noteValidation m es bad s)).shw.lastPoint = s.shw.lastPoint := by
  unfold noteValidation; simp

@[simp] theorem reportCommit_lastp (state : Nat) (o : Origin) (sched : Bool) (err : Code) (s : Device) : ((reportCommit state o sched err s)).shw.lastPoint = s.shw.lastPoint := by
  unfold reportCommit; simp

@[simp] theorem reportFrame_lastp (point : Nat) (s : Device) : ((reportFrame point s)).shw.lastPoint = s.shw.lastPoint := by
  unfold reportFrame; simp

@[simp] theorem stageCommit_lastp (c : Commit) (point : Nat) (s : Device) : ((stageCommit c point s)).shw.lastPoint = s.shw.lastPoint := by
  unfold stageCommit; simp

@[simp] theorem armOne_lastp (i : Nat) (e : LlEntry) (target : Nat × Nat) (point : Nat) (s : Device) : ((armOne i e target point s)).shw.lastPoint = s.shw.lastPoint := by
  unfold armOne
  repeat' first
    | (simp; done)
    | rw [each_lastp]
    | rw [when_lastp]
    | split
    | intro h
    | (simp; skip)

@[simp] theorem armFor_lastp (point : Nat) (first : Nat × Nat) (s : Device) : ((armFor point first s)).shw.lastPoint = s.shw.lastPoint := by
  unfold armFor
  repeat' first
    | (simp; done)
    | rw [each_lastp]
    | rw [when_lastp]
    | split
    | intro h
    | (simp; skip)

@[simp] theorem sendNetHeartbeat_lastp (s : Device) : ((sendNetHeartbeat s)).shw.lastPoint = s.shw.lastPoint := by
  unfold sendNetHeartbeat
  repeat' first
    | (simp; done)
    | rw [each_lastp]
    | rw [when_lastp]
    | split
    | intro h
    | (simp; skip)

@[simp] theorem sendRidgeHeartbeat_lastp (s : Device) : ((sendRidgeHeartbeat s)).shw.lastPoint = s.shw.lastPoint := by
  unfold sendRidgeHeartbeat
  repeat' first
    | (simp; done)
    | rw [each_lastp]
    | rw [when_lastp]
    | split
    | intro h
    | (simp; skip)

@[simp] theorem setHolding_lastp (b : Bool) (s : Device) : ((setHolding b s)).shw.lastPoint = s.shw.lastPoint := by
  unfold setHolding; simp

@[simp] theorem refreshHolding_lastp (s : Device) : ((refreshHolding s)).shw.lastPoint = s.shw.lastPoint := by
  unfold refreshHolding; simp

@[simp] theorem ite_rs (c : Prop) [Decidable c] (a b : Device) :
    (if c then a else b).shw.restarting = if c then a.shw.restarting else b.shw.restarting := by split <;> rfl
@[simp] theorem ite_fst_rs {α : Type} (c : Prop) [Decidable c] (a b : Device × α) :
    ((if c then a else b).1).shw.restarting = if c then a.1.shw.restarting else b.1.shw.restarting := by split <;> rfl
@[simp] theorem ite_snd_rs {α : Type} (c : Prop) [Decidable c] (a b : α × Device) :
    ((if c then a else b).2).shw.restarting = if c then a.2.shw.restarting else b.2.shw.restarting := by split <;> rfl
@[simp] theorem each_rs {α : Type} (s : Device) (l : List α) (g : Device → α → Device) (h : ∀ t a, (g t a).shw.restarting = t.shw.restarting) :
    (s.each l g).shw.restarting = s.shw.restarting := Device.each_keeps s (fun d => d.shw.restarting) l g (fun t a _ => h t a)
@[simp] theorem when_rs (s : Device) (b : Bool) (f : Device → Device) (h : (f s).shw.restarting = s.shw.restarting) :
    (s.when b f).shw.restarting = s.shw.restarting := Device.when_keeps s (fun d => d.shw.restarting) b f h
@[simp] theorem foldl_fst_rs {α β : Type} (l : List α) (f : Device × β → α → Device × β) (x : Device × β)
    (h : ∀ y a, ((f y a).1).shw.restarting = y.1.shw.restarting) : ((l.foldl f x).1).shw.restarting = x.1.shw.restarting := by
  induction l generalizing x with
  | nil => rfl
  | cons a l ih => rw [List.foldl_cons, ih, h]
@[simp] theorem foldl_rs {α : Type} (l : List α) (f : Device → α → Device) (s : Device)
    (h : ∀ y a, (f y a).shw.restarting = y.shw.restarting) : (l.foldl f s).shw.restarting = s.shw.restarting := by
  induction l generalizing s with
  | nil => rfl
  | cons a l ih => rw [List.foldl_cons, ih, h]

theorem MemFrame.rs {s t : Device} (h : MemFrame s t) : t.shw.restarting = s.shw.restarting := by rw [h.1]
theorem QueFrame.rs {s t : Device} (h : QueFrame s t) : t.shw.restarting = s.shw.restarting := h.mem.rs

@[simp] theorem batCapture_rs (content : Nat) (s : Device) : ((batCapture content s)).shw.restarting = s.shw.restarting := by
  unfold batCapture; simp

@[simp] theorem buckOff_rs (c : Nat) (s : Device) : ((buckOff c s)).shw.restarting = s.shw.restarting := by
  unfold buckOff; simp

@[simp] theorem softStart_rs (c : Nat) (s : Device) : ((softStart c s)).shw.restarting = s.shw.restarting := by
  unfold softStart; simp

@[simp] theorem bucksForRole_rs (was : Bool) (s : Device) : ((bucksForRole was s)).shw.restarting = s.shw.restarting := by
  unfold bucksForRole; simp

@[simp] theorem showPulse_rs (p : Nat) (was : Bool) (s : Device) : ((showPulse p was s)).shw.restarting = s.shw.restarting := by
  unfold showPulse; split_ifs <;> rfl

@[simp] theorem pulsesForRole_rs (was : Bool) (s : Device) : ((pulsesForRole was s)).shw.restarting = s.shw.restarting := by
  unfold pulsesForRole; simp

@[simp] theorem dropJobs_rs (c : Nat) (s : Device) : ((dropJobs c s)).shw.restarting = s.shw.restarting := by
  unfold dropJobs; simp

@[simp] theorem quietChains_rs (s : Device) : ((quietChains s)).shw.restarting = s.shw.restarting := by
  unfold quietChains; simp

@[simp] theorem owesSweep_rs (s : Device) : ((owesSweep s)).shw.restarting = s.shw.restarting := by
  unfold owesSweep; simp

@[simp] theorem renumber_rs (f : Nat) (s : Device) : ((renumber f s)).shw.restarting = s.shw.restarting := by
  unfold renumber; simp

@[simp] theorem countMissed_rs (after n : Nat) (dropped : List Commit) (s : Device) : ((countMissed after n dropped s)).shw.restarting = s.shw.restarting := by
  unfold countMissed; simp

@[simp] theorem noteModeError_rs (es : Entries) (c : Code) (s : Device) : ((noteModeError es c s)).shw.restarting = s.shw.restarting := by
  unfold noteModeError
  repeat' first
    | (simp; done)
    | rw [each_rs]
    | rw [when_rs]
    | split
    | intro h
    | (simp; skip)

@[simp] theorem reportCommit_rs (state : Nat) (o : Origin) (sched : Bool) (err : Code) (s : Device) : ((reportCommit state o sched err s)).shw.restarting = s.shw.restarting := by
  unfold reportCommit; simp

@[simp] theorem skipFrames_rs (old new : Nat) (s : Device) : ((skipFrames old new s)).shw.restarting = s.shw.restarting := by
  unfold skipFrames; simp

@[simp] theorem takeFrame_rs (f : Nat) (s : Device) : ((takeFrame f s)).shw.restarting = s.shw.restarting := by
  unfold takeFrame
  split
  · rfl
  · rw [skipFrames_rs, Device.raise_shw, renumber_rs]

@[simp] theorem startResync_rs (s : Device) : ((startResync s)).shw.restarting = s.shw.restarting := by
  unfold startResync
  repeat' first
    | (simp; done)
    | rw [each_rs]
    | rw [when_rs]
    | split
    | intro h
    | (simp; skip)

@[simp] theorem startBringup_rs (c : Nat) (s : Device) : ((startBringup c s)).shw.restarting = s.shw.restarting := by
  unfold startBringup
  repeat' first
    | (simp; done)
    | rw [each_rs]
    | rw [when_rs]
    | split
    | intro h
    | (simp; skip)

@[simp] theorem wakeChains_rs (s : Device) : ((wakeChains s)).shw.restarting = s.shw.restarting := by
  unfold wakeChains; simp

@[simp] theorem enterState_rs (state cause : Nat) (s : Device) : ((enterState state cause s)).shw.restarting = s.shw.restarting := by
  unfold enterState
  repeat' first
    | (simp; done)
    | rw [each_rs]
    | rw [when_rs]
    | split
    | intro h
    | (simp; skip)

@[simp] theorem diverge_rs (cause content canvas mask : Nat) (s : Device) : ((diverge cause content canvas mask s)).shw.restarting = s.shw.restarting := by
  unfold diverge
  split
  · rfl
  · dsimp only
    split
    · rfl
    · rw [startResync_rs, Device.raise_shw, enterState_rs]
      simp

@[simp] theorem ridgeSend_rs (kind : Nat) (data : List Nat) (s : Device) : ((ridgeSend kind data s)).shw.restarting = s.shw.restarting := by
  unfold ridgeSend
  repeat' first
    | (simp; done)
    | rw [each_rs]
    | rw [when_rs]
    | split
    | intro h
    | (simp; skip)

@[simp] theorem captureLayer_rs (n : Nat) (rd : Nat → Word) (newest : Option (Nat × BitVec 32)) (content : Nat) (s : Device) : ((captureLayer n rd newest content s).1).shw.restarting = s.shw.restarting := by
  unfold captureLayer; simp

@[simp] theorem captureLayers_rs (rd : Nat → Word) (own : Nat → Option (Nat × BitVec 32)) (content : Nat) (s : Device) : ((captureLayers rd own content s).1).shw.restarting = s.shw.restarting := by
  unfold captureLayers; simp

@[simp] theorem startComposition_rs (c : FrameCtx) (s : Device) : ((startComposition c s)).shw.restarting = s.shw.restarting := by
  unfold startComposition; simp

@[simp] theorem takeFrames_rs (content : Nat) (own : Table (Nat × BitVec 32)) (missed noRecord : Bool) (s : Device) : ((takeFrames content own missed noRecord s)).shw.restarting = s.shw.restarting := by
  unfold takeFrames
  repeat' first
    | (simp; done)
    | rw [each_rs]
    | rw [when_rs]
    | split
    | intro h
    | (simp; skip)

@[simp] theorem finishCapture_rs (r : Option CaptureRecord) (s : Device) : ((finishCapture r s)).shw.restarting = s.shw.restarting := by
  unfold finishCapture
  repeat' first
    | (simp; done)
    | rw [each_rs]
    | rw [when_rs]
    | split
    | intro h
    | (simp; skip)

@[simp] theorem retake_rs (content : Nat) (s : Device) : ((retake content s)).shw.restarting = s.shw.restarting := by
  unfold retake
  repeat' first
    | (simp; done)
    | rw [each_rs]
    | rw [when_rs]
    | split
    | intro h
    | (simp; skip)

@[simp] theorem ridgeTell_rs (kind : Nat) (data : List Nat) (s : Device) : ((ridgeTell kind data s)).shw.restarting = s.shw.restarting := by
  unfold ridgeTell; simp

@[simp] theorem captureFrame_rs (content : Nat) (s : Device) : ((captureFrame content s)).shw.restarting = s.shw.restarting := by
  unfold captureFrame
  repeat' first
    | (simp; done)
    | rw [each_rs]
    | rw [when_rs]
    | split
    | intro h
    | (simp; skip)

@[simp] theorem tickList_rs (d : Nat) (s : Device) : ((tickList d s)).shw.restarting = s.shw.restarting := by
  unfold tickList
  repeat' first
    | (simp; done)
    | rw [each_rs]
    | rw [when_rs]
    | split
    | intro h
    | (simp; skip)

@[simp] theorem frameTicks_rs (s : Device) : ((frameTicks s)).shw.restarting = s.shw.restarting := by
  unfold frameTicks; simp

@[simp] theorem groupPass_rs (vf : Table Int) (acc : Device × FrameCtx) (g : Nat) : ((groupPass vf acc g).1).shw.restarting = acc.1.shw.restarting := by
  unfold groupPass
  dsimp only
  split
  · rfl
  · exact when_rs _ _ _ rfl

@[simp] theorem idleDemands_rs (content : Nat) (s : Device) : ((idleDemands content s)).shw.restarting = s.shw.restarting := by
  unfold idleDemands
  repeat' first
    | (simp; done)
    | rw [each_rs]
    | rw [when_rs]
    | split
    | intro h
    | (simp; skip)

@[simp] theorem addAge_rs (adds : Table Nat) (s : Device) : ((addAge adds s)).shw.restarting = s.shw.restarting := by
  unfold addAge; simp

@[simp] theorem idlePass_rs (s : Device) : ((idlePass s)).shw.restarting = s.shw.restarting := by
  unfold idlePass; simp

@[simp] theorem sendNetHeartbeat_rs (s : Device) : ((sendNetHeartbeat s)).shw.restarting = s.shw.restarting := by
  unfold sendNetHeartbeat
  repeat' first
    | (simp; done)
    | rw [each_rs]
    | rw [when_rs]
    | split
    | intro h
    | (simp; skip)

@[simp] theorem sendRidgeHeartbeat_rs (s : Device) : ((sendRidgeHeartbeat s)).shw.restarting = s.shw.restarting := by
  unfold sendRidgeHeartbeat
  repeat' first
    | (simp; done)
    | rw [each_rs]
    | rw [when_rs]
    | split
    | intro h
    | (simp; skip)

@[simp] theorem setHolding_rs (b : Bool) (s : Device) : ((setHolding b s)).shw.restarting = s.shw.restarting := by
  unfold setHolding; simp

@[simp] theorem refreshHolding_rs (s : Device) : ((refreshHolding s)).shw.restarting = s.shw.restarting := by
  unfold refreshHolding; simp

@[simp] theorem pairBoundary_rs (s : Device) : ((pairBoundary s)).shw.restarting = s.shw.restarting := by
  unfold pairBoundary; simp

@[simp] theorem fogRefresh_rs (s : Device) : ((fogRefresh s)).shw.restarting = s.shw.restarting := by
  unfold fogRefresh
  repeat' first
    | (simp; done)
    | rw [each_rs]
    | rw [when_rs]
    | split
    | intro h
    | (simp; skip)

@[simp] theorem fogLight_rs (on : Bool) (s : Device) : ((fogLight on s)).shw.restarting = s.shw.restarting := by
  unfold fogLight; simp

@[simp] theorem gpioDrive_rs (p : Nat) (level : Bool) (s : Device) : ((gpioDrive p level s)).shw.restarting = s.shw.restarting := by
  unfold gpioDrive; simp

@[simp] theorem gpioLight_rs (mask value : Nat) (s : Device) : ((gpioLight mask value s)).shw.restarting = s.shw.restarting := by
  unfold gpioLight; simp

@[simp] theorem sendSession_rs (slot type seq : Nat) (key body : List Byte) (s : Device) : ((sendSession slot type seq key body s)).shw.restarting = s.shw.restarting := by
  unfold sendSession; simp

@[simp] theorem sendNotice_rs (slot type : Nat) (body : List Byte) (s : Device) : ((sendNotice slot type body s)).shw.restarting = s.shw.restarting := by
  unfold sendNotice
  repeat' first
    | (simp; done)
    | rw [each_rs]
    | rw [when_rs]
    | split
    | intro h
    | (simp; skip)

@[simp] theorem messageAction_rs (code tag payload : Nat) (s : Device) : ((messageAction code tag payload s)).shw.restarting = s.shw.restarting := by
  unfold messageAction
  repeat' first
    | (simp; done)
    | rw [each_rs]
    | rw [when_rs]
    | split
    | intro h
    | (simp; skip)

@[simp] theorem accessFault_rs (off : Nat) (s : Device) : ((accessFault off s)).shw.restarting = s.shw.restarting := (accessFault_frame _ _).rs

@[simp] theorem mirrorNote_rs (r off : Nat) (data : List Byte) (s : Device) : ((mirrorNote r off data s)).shw.restarting = s.shw.restarting := (mirrorNote_frame _ _ _ _).rs

@[simp] theorem syncFronts_rs (s : Device) : ((syncFronts s)).shw.restarting = s.shw.restarting := (syncFronts_frame _).rs

@[simp] theorem noteCorrected_rs (r off : Nat) (s : Device) : ((noteCorrected r off s)).shw.restarting = s.shw.restarting := (noteCorrected_frame _ _ _).rs

@[simp] theorem noteErr_rs (a : MemAgent) (r off cause : Nat) (s : Device) : ((noteErr a r off cause s)).shw.restarting = s.shw.restarting := by
  unfold noteErr; simp

@[simp] theorem noteParity_rs (a : MemAgent) (r off : Nat) (s : Device) : ((noteParity a r off s)).shw.restarting = s.shw.restarting := (noteParity_frame _ _ _ _).rs

@[simp] theorem openGranule_rs (off : Nat) (s : Device) : ((openGranule off s)).shw.restarting = s.shw.restarting := (openGranule_frame _ _).rs

@[simp] theorem crossWatermarks_rs (q old : Nat) (s : Device) : ((crossWatermarks q old s)).shw.restarting = s.shw.restarting := (crossWatermarks_frame _ _ _).rs

@[simp] theorem refreshStalls_rs (s : Device) : ((refreshStalls s)).shw.restarting = s.shw.restarting := (refreshStalls_frame _).rs

@[simp] theorem enterTask_rs (s : Device) (port : Nat) (w0 w1 w2 w3 : Word) : ((enterTask s port w0 w1 w2 w3).2).shw.restarting = s.shw.restarting := (enterTask_frame _ _ _ _ _ _).rs

@[simp] theorem ringBells_rs (q : Nat) (s : Device) : ((ringBells q s)).shw.restarting = s.shw.restarting := (ringBells_frame _ _).rs

@[simp] theorem itemArrives_rs (q : Nat) (words : List Word) (x : QueueState) (s : Device) : ((itemArrives q words x s)).shw.restarting = s.shw.restarting := (itemArrives_frame _ _ _ _).rs

@[simp] theorem itemPending_rs (q : Nat) (words : List Word) (s : Device) : ((itemPending q words s)).shw.restarting = s.shw.restarting := (itemPending_frame _ _ _).rs

@[simp] theorem hwPush_rs (agent q : Nat) (words : List Word) (s : Device) : ((hwPush agent q words s)).shw.restarting = s.shw.restarting := (hwPush_frame _ _ _ _).rs

@[simp] theorem notify_rs (r off cause : Nat) (s : Device) : ((notify r off cause s)).shw.restarting = s.shw.restarting := (notify_frame _ _ _ _).rs

@[simp] theorem setCond_rs (off : Nat) (c : CwState) (s : Device) : ((setCond off c s)).shw.restarting = s.shw.restarting := by
  unfold setCond; simp

@[simp] theorem poisonCw_rs (a : MemAgent) (r off cause : Nat) (s : Device) : ((poisonCw a r off cause s)).shw.restarting = s.shw.restarting := (poisonCw_frame _ _ _ _ _).rs

@[simp] theorem writePart_rs (a : MemAgent) (r cw off : Nat) (data : List Byte) (u : Upset) (s : Device) : ((writePart a r cw off data u s).1).shw.restarting = s.shw.restarting := (writePart_frame _ _ _ _ _ _ _).rs

@[simp] theorem recovered_rs (r cw : Nat) (s : Device) : ((recovered r cw s)).shw.restarting = s.shw.restarting := (recovered_frame _ _ _).rs

@[simp] theorem writeWhole_rs (r cw : Nat) (data : List Byte) (s : Device) : ((writeWhole r cw data s)).shw.restarting = s.shw.restarting := (writeWhole_frame _ _ _ _).rs

@[simp] theorem memWriteU_rs (a : MemAgent) (off : Nat) (data : List Byte) (u : Upset) (s : Device) : ((memWriteU a off data u s).1).shw.restarting = s.shw.restarting := (memWriteU_frame _ _ _ _ _).rs

@[simp] theorem memStore_rs (a : MemAgent) (off : Nat) (data : List Byte) (s : Device) : ((memStore a off data s)).shw.restarting = s.shw.restarting := (memStore_frame _ _ _ _).rs

@[simp] theorem beginSlot_rs (j : SnapJob) (s : Device) : ((beginSlot j s)).shw.restarting = s.shw.restarting := by
  unfold beginSlot; simp

@[simp] theorem snapshotAction_rs (slot tag : Nat) (s : Device) : ((snapshotAction slot tag s)).shw.restarting = s.shw.restarting := by
  unfold snapshotAction
  repeat' first
    | (simp; done)
    | rw [each_rs]
    | rw [when_rs]
    | split
    | intro h
    | (simp; skip)

@[simp] theorem runAction_rs (e : LlEntry) (s : Device) : ((runAction e s)).shw.restarting = s.shw.restarting := by
  unfold runAction
  repeat' first
    | (simp; done)
    | rw [each_rs]
    | rw [when_rs]
    | split
    | intro h
    | (simp; skip)

@[simp] theorem runEntries_rs (s : Device) : ((runEntries s)).shw.restarting = s.shw.restarting := by
  unfold runEntries; simp

@[simp] theorem notePoisonRead_rs (a : MemAgent) (r off : Nat) (s : Device) : ((notePoisonRead a r off s)).shw.restarting = s.shw.restarting := (notePoisonRead_frame _ _ _ _).rs

@[simp] theorem readCw_rs (a : MemAgent) (r off : Nat) (u : Upset) (s : Device) : ((readCw a r off u s).1).shw.restarting = s.shw.restarting := (readCw_frame _ _ _ _ _).rs

@[simp] theorem memReadU_rs (a : MemAgent) (off n : Nat) (u : Upset) (s : Device) : ((memReadU a off n u s).1).shw.restarting = s.shw.restarting := (memReadU_frame _ _ _ _ _).rs

@[simp] theorem memRead_rs (a : MemAgent) (off n : Nat) (s : Device) : ((memRead a off n s).1).shw.restarting = s.shw.restarting := (memRead_frame _ _ _ _).rs

@[simp] theorem sendSweep_rs (s : Device) : ((sendSweep s)).shw.restarting = s.shw.restarting := by
  unfold sendSweep; simp

@[simp] theorem sendDelta_rs (s : Device) : ((sendDelta s)).shw.restarting = s.shw.restarting := by
  unfold sendDelta
  repeat' first
    | (simp; done)
    | rw [each_rs]
    | rw [when_rs]
    | split
    | intro h
    | (simp; skip)

@[simp] theorem frameActions_rs (old : Nat) (s : Device) : ((frameActions old s)).shw.restarting = s.shw.restarting := by
  unfold frameActions; simp

theorem commitPoint_lastPoint (s : Device) (hi : s.upd.imageReset = false) : (commitPoint s).shw.lastPoint = some s.shw.frame := by
  unfold commitPoint
  dsimp only
  rw [if_neg (by simp [hi])]
  simp

/-! ### What the equations say of each field -/

/-- The timebase without what changes from line to line. -/
def ShowState.still (x : ShowState) : ShowState := { x.core with time := 0, line := 0, sub := 0 }

theorem still_of_core {x y : ShowState} (h : x.core = y.core) : x.still = y.still := by unfold ShowState.still; rw [h]

theorem still_fields {x y : ShowState} (h : x.still = y.still) :
    x.running = y.running ∧ x.mode = y.mode ∧ x.rasterStart = y.rasterStart ∧ x.sel = y.sel ∧ x.phase = y.phase ∧
      x.armedAt = y.armedAt ∧ x.ppsSeen = y.ppsSeen ∧ x.measured = y.measured ∧ x.offset = y.offset := by
  simp only [ShowState.still, ShowState.core, ShowState.mk.injEq] at h
  tauto

theorem core_fields {x y : ShowState} (h : x.core = y.core) : x.time = y.time ∧ x.line = y.line ∧ x.sub = y.sub := by
  simp only [ShowState.core, ShowState.mk.injEq] at h
  tauto

/-- Where no peer has been heard the frame count is kept, and none is heard. -/
theorem place_fields {p q : Option Heartbeat} {x y : ShowState} (h : place p x = place q y) (hq : q = none) :
    p = none ∧ x.frame = y.frame ∧ x.rasterFrame = y.rasterFrame := by
  subst hq
  cases p with
  | none => simpa [place] using h
  | some p => simp [place] at h

/-! ### The run to a line -/

/-- `t` follows `s` in one frame: the raster, its mode and its sources are the same, no peer has been heard since, and no image reset is due. -/
structure SameFrame (s t : Device) : Prop where
  still : t.shw.still = s.shw.still
  place : place t.rdg.peer t.shw = place s.rdg.peer s.shw
  im    : t.upd.imageReset = s.upd.imageReset

theorem SameFrame.refl (s : Device) : SameFrame s s := ⟨rfl, rfl, rfl⟩

theorem SameFrame.trans {s t u : Device} (h : SameFrame s t) (g : SameFrame t u) : SameFrame s u :=
  ⟨g.still.trans h.still, g.place.trans h.place, g.im.trans h.im⟩

theorem elapse_same (n : Nat) (s : Device) : SameFrame s (s.elapse n) :=
  ⟨by simp [ShowState.still, ShowState.core], by simp [place], by simp⟩

theorem elapseShow_cases (t : Nat) (s : Device) : elapseShow t s = s ∨ ∃ n, elapseShow t s = s.elapse n := by
  unfold elapseShow
  dsimp only
  generalize wrapDiff 64 t s.shw.time = d
  split
  · exact .inr ⟨_, rfl⟩
  · exact .inl rfl

theorem elapseShow_same (t : Nat) (s : Device) : SameFrame s (elapseShow t s) := by
  rcases elapseShow_cases t s with h | ⟨n, h⟩ <;> rw [h]
  · exact .refl s
  · exact elapse_same n s

theorem elapseShow_lastPoint (t : Nat) (s : Device) : (elapseShow t s).shw.lastPoint = s.shw.lastPoint := by
  rcases elapseShow_cases t s with h | ⟨n, h⟩ <;> rw [h]
  exact Device.elapse_shw_lastPoint s n

theorem line_same (l n : Nat) (s : Device) : SameFrame s { s with shw := { s.shw with line := l, sub := n } } := ⟨rfl, rfl, rfl⟩

theorem atLine_same (l : Nat) (s : Device) : SameFrame s (atLine l s) := by
  unfold atLine
  dsimp only
  exact (elapseShow_same _ s).trans (line_same _ _ _)

theorem atLine_line (l : Nat) (s : Device) : (atLine l s).shw.line = l ∧ (atLine l s).shw.sub = 0 := by
  unfold atLine
  dsimp only
  exact ⟨rfl, rfl⟩

theorem line_lastPoint (l n : Nat) (s : Device) :
    ({ s with shw := { s.shw with line := l, sub := n } } : Device).shw.lastPoint = s.shw.lastPoint := rfl

theorem atLine_lastPoint (l : Nat) (s : Device) : (atLine l s).shw.lastPoint = s.shw.lastPoint := by
  unfold atLine
  exact (line_lastPoint l 0 _).trans (elapseShow_lastPoint (lineInstant s l) s)

theorem runEntries_same (s : Device) : SameFrame s (runEntries s) := ⟨still_of_core (by simp), by simp, by simp⟩

theorem commitPoint_same (s : Device) (hi : s.upd.imageReset = false) : SameFrame s (commitPoint s) :=
  ⟨still_of_core (commitPoint_core s hi), commitPoint_place s hi, (commitPoint_im s hi).trans hi.symm⟩

theorem visitLine_same (l : Nat) (s : Device) (hi : s.upd.imageReset = false) : SameFrame s (visitLine l s) := by
  unfold visitLine
  dsimp only
  have h := atLine_same l s
  split
  · exact h.trans (commitPoint_same _ (h.im.trans hi))
  · exact h.trans (runEntries_same _)

theorem visitLine_line (l : Nat) (s : Device) (hi : s.upd.imageReset = false) :
    (visitLine l s).shw.line = l ∧ (visitLine l s).shw.sub = 0 := by
  unfold visitLine
  dsimp only
  have h := atLine_line l s
  split
  · have c := core_fields (commitPoint_core (atLine l s) ((atLine_same l s).im.trans hi))
    exact ⟨c.2.1.trans h.1, c.2.2.trans h.2⟩
  · have c := core_fields (runEntries_core (atLine l s))
    exact ⟨c.2.1.trans h.1, c.2.2.trans h.2⟩

/-- The stops of a frame lie ahead of the present line and not beyond the line that is run to. -/
theorem nextStop_mem {s : Device} {upTo l : Nat} (h : nextStop s upTo = some l) : s.shw.line < l ∧ l ≤ upTo := by
  unfold nextStop at h
  dsimp only at h
  generalize ha : List.filter _ _ = stops at h
  have all : ∀ x ∈ stops, s.shw.line < x ∧ x ≤ upTo := by
    intro x hx
    rw [← ha] at hx
    simpa using (List.mem_filter.mp hx).2
  have fold : ∀ (k : List Nat) (a : Option Nat), (∀ x ∈ k, s.shw.line < x ∧ x ≤ upTo) → (∀ b, a = some b → s.shw.line < b ∧ b ≤ upTo) →
      ∀ b, k.foldl (fun (a : Option Nat) l => match a with
        | some b => some (min b l)
        | none => some l) a = some b → s.shw.line < b ∧ b ≤ upTo := by
    intro k
    induction k with
    | nil => intro a _ ha b hb; exact ha b hb
    | cons x k ih =>
      intro a hk ha b hb
      refine ih _ (fun y hy => hk y (by simp [hy])) ?_ b hb
      have hx := hk x (by simp)
      cases a with
      | none => intro c hc; cases hc; exact hx
      | some a => have := ha a rfl; intro c hc; cases hc; omega
  exact fold stops none all (by simp) l h

theorem runLines_same (n upTo : Nat) (s : Device) (hi : s.upd.imageReset = false) : SameFrame s (runLines n upTo s) := by
  induction n generalizing s with
  | zero =>
    unfold runLines
    split
    · exact atLine_same _ s
    · exact .refl s
  | succ n ih =>
    unfold runLines
    split
    · next l hl =>
      have h := visitLine_same l s hi
      exact h.trans (ih _ (h.im.trans hi))
    · split
      · exact atLine_same _ s
      · exact .refl s

theorem runLines_line (n upTo : Nat) (s : Device) (hi : s.upd.imageReset = false) (le : s.shw.line ≤ upTo) :
    (runLines n upTo s).shw.line = upTo := by
  induction n generalizing s with
  | zero =>
    unfold runLines
    split
    · rfl
    · omega
  | succ n ih =>
    unfold runLines
    split
    · next l hl =>
      have m := nextStop_mem hl
      exact ih _ ((visitLine_same l s hi).im.trans hi) (by rw [(visitLine_line l s hi).1]; exact m.2)
    · split
      · rfl
      · omega

/-- The raster that runs to a line ahead in the frame stands there, in the same frame. -/
theorem runTo_line (l : Nat) (s : Device) (hi : s.upd.imageReset = false) (r : s.shw.running = true) (lt : s.shw.line < l)
    (v : l < s.shw.mode.vTotal) : SameFrame s (runTo l s) ∧ (runTo l s).shw.line = l := by
  unfold runTo
  rw [if_pos (by simp [r, lt, v])]
  exact ⟨runLines_same _ _ s hi, runLines_line _ _ s hi lt.le⟩

theorem runTo_here (l : Nat) (s : Device) (h : l ≤ s.shw.line) : runTo l s = s := by
  unfold runTo
  rw [if_neg (by simp; omega)]

/-! ### The commit point lies on the way -/

theorem SameFrame.frame {s t : Device} (h : SameFrame s t) (hp : s.rdg.peer = none) : t.rdg.peer = none ∧ t.shw.frame = s.shw.frame := by
  have := place_fields h.place hp
  exact ⟨this.1, this.2.1⟩

theorem SameFrame.mode {s t : Device} (h : SameFrame s t) : t.shw.mode = s.shw.mode := (still_fields h.still).2.1

theorem runEntries_lastPoint (s : Device) : (runEntries s).shw.lastPoint = s.shw.lastPoint := by simp

/-- A line that is visited passes the commit point when it is line V_ACTIVE, and keeps a point that was passed. -/
theorem visitLine_lastPoint (l : Nat) (s : Device) (hi : s.upd.imageReset = false) (hp : s.rdg.peer = none)
    (h : l = s.shw.mode.vActive ∨ s.shw.lastPoint = some s.shw.frame) : (visitLine l s).shw.lastPoint = some s.shw.frame := by
  unfold visitLine
  dsimp only
  have a := atLine_same l s
  have fr := (a.frame hp).2
  have lp := atLine_lastPoint l s
  have md := a.mode
  generalize atLine l s = u at a fr lp md
  have im : u.upd.imageReset = false := a.im.trans hi
  split
  · rw [commitPoint_lastPoint u im, fr]
  · next c =>
    rw [runEntries_lastPoint, lp]
    rcases h with h | h
    · subst h
      rw [md, fr, lp] at c
      simpa using c
    · exact h

theorem foldMin_le (k : List Nat) (a : Option Nat) (x : Nat) (h : x ∈ k ∨ ∃ b, a = some b ∧ b ≤ x) :
    ∃ b, k.foldl (fun (a : Option Nat) l => match a with
      | some b => some (min b l)
      | none => some l) a = some b ∧ b ≤ x := by
  induction k generalizing a with
  | nil => simpa using h
  | cons y k ih =>
    refine ih _ ?_
    rcases h with h | ⟨b, hb, le⟩
    · rcases List.mem_cons.mp h with h | h
      · subst h
        right
        cases a with
        | none => exact ⟨_, rfl, le_refl _⟩
        | some b => exact ⟨_, rfl, by omega⟩
      · exact .inl h
    · right
      subst hb
      exact ⟨_, rfl, by omega⟩

/-- While the commit point lies ahead the next stop comes no later. -/
theorem nextStop_le (s : Device) (upTo : Nat) (h : s.shw.lastPoint ≠ some s.shw.frame) (lt : s.shw.line < s.shw.mode.vActive)
    (le : s.shw.mode.vActive ≤ upTo) : ∃ l, nextStop s upTo = some l ∧ l ≤ s.shw.mode.vActive := by
  unfold nextStop
  dsimp only
  refine foldMin_le _ _ _ (.inl ?_)
  rw [if_pos h]
  simp [lt, le]

theorem runLines_keepsPoint (n upTo : Nat) (s : Device) (hi : s.upd.imageReset = false) (hp : s.rdg.peer = none)
    (h : s.shw.lastPoint = some s.shw.frame) : (runLines n upTo s).shw.lastPoint = some s.shw.frame := by
  induction n generalizing s with
  | zero =>
    unfold runLines
    split
    · rw [atLine_lastPoint, h]
    · exact h
  | succ n ih =>
    unfold runLines
    split
    · next l hl =>
      have v := visitLine_same l s hi
      have f := v.frame hp
      rw [ih _ (v.im.trans hi) f.1 (by rw [visitLine_lastPoint l s hi hp (.inr h), f.2]), f.2]
    · split
      · rw [atLine_lastPoint, h]
      · exact h

/-- A run over line V_ACTIVE passes the frame's commit point. -/
theorem runLines_passes (n upTo : Nat) (s : Device) (hi : s.upd.imageReset = false) (hp : s.rdg.peer = none)
    (lt : s.shw.line < s.shw.mode.vActive) (le : s.shw.mode.vActive ≤ upTo) (fuel : upTo - s.shw.line ≤ n) :
    (runLines n upTo s).shw.lastPoint = some s.shw.frame := by
  induction n generalizing s with
  | zero => omega
  | succ n ih =>
    by_cases h : s.shw.lastPoint = some s.shw.frame
    · exact runLines_keepsPoint _ _ s hi hp h
    · obtain ⟨l, hl, hle⟩ := nextStop_le s upTo h lt le
      have m := nextStop_mem hl
      have v := visitLine_same l s hi
      have f := v.frame hp
      have ln := (visitLine_line l s hi).1
      unfold runLines
      rw [hl]
      dsimp only
      rcases Nat.lt_or_eq_of_le hle with c | c
      · rw [ih _ (v.im.trans hi) f.1 (by rw [ln, v.mode]; exact c) (by rw [v.mode]; exact le) (by rw [ln]; omega), f.2]
      · rw [runLines_keepsPoint _ _ _ (v.im.trans hi) f.1 (by rw [visitLine_lastPoint l s hi hp (.inl c), f.2]), f.2]

theorem runTo_passes (l : Nat) (s : Device) (hi : s.upd.imageReset = false) (hp : s.rdg.peer = none) (r : s.shw.running = true)
    (lt : s.shw.line < s.shw.mode.vActive) (le : s.shw.mode.vActive ≤ l) (v : l < s.shw.mode.vTotal) :
    (runTo l s).shw.lastPoint = some s.shw.frame := by
  unfold runTo
  rw [if_pos (by simp [r, v]; omega)]
  exact runLines_passes _ _ s hi hp lt le (by omega)

/-! ### A frame starts -/

theorem core_all {x y : ShowState} (h : x.core = y.core) :
    x.line = y.line ∧ x.sub = y.sub ∧ x.time = y.time ∧ x.mode = y.mode ∧ x.running = y.running ∧ x.armedAt = y.armedAt ∧ x.sel = y.sel ∧
      x.rasterStart = y.rasterStart := by
  simp only [ShowState.core, ShowState.mk.injEq] at h
  tauto

theorem stepped_core (old new p : Nat) (a : Bool) (u : Device) :
    (frameActions old ((stepCount old new u).raiseIf a Ev.MODE_APPLIED p)).shw.core = u.shw.core := by
  rw [frameActions_core, Device.raiseIf_shw, stepCount_core]

theorem stepped_frame (old new p : Nat) (a : Bool) (u : Device) (hp : u.rdg.peer = none) :
    (frameActions old ((stepCount old new u).raiseIf a Ev.MODE_APPLIED p)).shw.frame = u.shw.frame := by
  have h : place (frameActions old ((stepCount old new u).raiseIf a Ev.MODE_APPLIED p)).rdg.peer
      (frameActions old ((stepCount old new u).raiseIf a Ev.MODE_APPLIED p)).shw = place u.rdg.peer u.shw := by
    rw [frameActions_place, Device.raiseIf_shw, Device.raiseIf_rdg, stepCount_place]
  exact (place_fields h hp).2.1

/-- A frame's start leaves the timebase at line 0 of the next count, under the mode in the registers; where no peer has been heard the count is
the one that R27 or R28 gives. -/
theorem startFrame_fields (s : Device) (set : (nextCount s.shw.time s).2 = false) :
    (startFrame s).shw.line = 0 ∧ (startFrame s).shw.sub = 0 ∧ (startFrame s).shw.time = s.shw.time ∧ (startFrame s).shw.mode = modeOf s.reg ∧
      (startFrame s).shw.running = s.shw.running ∧ (startFrame s).shw.armedAt = s.shw.armedAt ∧
      (s.rdg.peer = none → (startFrame s).shw.frame = (nextCount s.shw.time s).1) := by
  unfold startFrame
  dsimp only
  rw [set]
  simp only [Bool.false_eq_true, if_false]
  have c := fun u => core_all (stepped_core s.shw.frame (nextCount s.shw.time s).1 (nextCount s.shw.time s).1 s.shw.modeApplied u)
  exact ⟨(c _).1, (c _).2.1, (c _).2.2.1, (c _).2.2.2.1, (c _).2.2.2.2.1, (c _).2.2.2.2.2.1, fun hp => stepped_frame _ _ _ _ _ hp⟩

/-- The same when the count is a SHOW_FRAME_SET, which is then no longer armed. -/
theorem startFrame_set (s : Device) (set : (nextCount s.shw.time s).2 = true) (hp : s.rdg.peer = none) :
    (startFrame s).shw.line = 0 ∧ (startFrame s).shw.armedAt = none ∧ (startFrame s).shw.frame = (nextCount s.shw.time s).1 := by
  unfold startFrame
  dsimp only
  rw [set]
  simp only [if_true]
  have c := fun u a => core_all (stepped_core s.shw.frame (nextCount s.shw.time s).1 (nextCount s.shw.time s).1 a u)
  exact ⟨(c _ _).1, (c _ _).2.2.2.2.2.1, stepped_frame _ _ _ _ _ hp⟩

end Sys2Proof.Machine
end

