-- ==== Sys2Proof/Tests/Slice0.lean ====
section
/-! SUPPORT. Tests: commands of units that do not exist are refused, and for each statement with hypotheses a concrete state and operands
that meet all of them together, clause by clause. -/

open Sys2Proof Sys2Proof.Machine

section

set_option Elab.async false

/-- A device with some registers set. -/
def testDev (rs : List (Nat × Nat)) : Device := rs.foldl (fun s p => s.setReg p.1 (BitVec.ofNat 32 p.2)) {}

/-- A device whose raster runs, at a line of the reset mode, with some registers set. -/
def testRun (line : Nat) (rs : List (Nat × Nat)) : Device :=
  { testDev rs with shw := { running := true, line := line } }

/-! ### Units -/

/-- For each check of `Instr.wellFormed`, a command of the first unit that does not exist. -/
theorem test_units_refused : ([.snapshotTaken 4, .glkVPulse 2 0, .glkLossTimeout 2, .timingModeWrite .safety 0x60054 0, .netFrameRx 6 [] false 0,
    .classifierItemPush 6 0, .classifierItemPush 0 16, .netRxTailWrite .safety 6 0 0, .netRxTailWrite .safety 0 16 0,
    .netTxTailWrite .safety 6 0 0, .netTxTailWrite .safety 0 8 0, .netFrameTx 6 0, .txtsTagRead .safety 6, .cascadeForward 1 [] 0 0 false,
    .cascadeForward 4 [] 0 0 false, .linkChange 6 0, .streamSkewWaitEnd 32, .streamLost 32, .pathLost 32 1, .pathLost 0 0, .pathLost 0 3,
    .sacnSourceLost 4096 [], .sacnSyncLost 4096, .quePush 14 0 0, .quePush 0 32 0, .quePop 14 0, .quePop 0 32, .queDataRead 14 0,
    .queDataRead 0 32, .queMark 14 0, .queMark 0 32, .queRewind 14 0, .queRewind 0 32, .queRelease 14 0 0, .queRelease 0 32 0,
    .queFlush .safety 32 0, .queStale 32, .doorbellSubmit 32, .taskSubmit 9 0, .taskEligible 4096, .affinityWaitExpiry 4096, .taskDone 9 0 0,
    .taskDone 0 8 0, .delayListTick 8, .taskCancel 9 0] : List Instr).all (fun c => !c.wellFormed) = true := by decide

/-- The same for the later chapters. -/
theorem test_later_units_refused : ([.chkExpectFrameWrite .safety 0x11ffe4 0, .chkExpectFrameWrite .safety 0x120020 0,
    .chkExpectFrameWrite .safety 0x121024 0, .sensorPoll 1024 none, .chainFrameStart 512, .railStrobe 512, .chainLatchIssue 512,
    .readbackTurn 512 false, .readbackStreamRx 512 [], .headroomStale 4095, .chainEnum .safety 512 0, .identityCheck 512 [],
    .chainRange .safety 512 0, .eyecal .safety 512 0, .dmxFrameStart 512, .rdmWindow 512 [] [], .motionHoldExpiry 512, .bankSupply 16 0,
    .buckReferenceChange 16, .buckPeriod 16 0 0, .buckEnable .safety 16 0, .buckFaultClear .safety 16 0, .energyCycleEnd 15, .energyCycleEnd 64,
    .noZeroCross 64, .calStart .safety 64 0, .calGainPhase 64, .pulseEmit 8, .pulseWidthEnd 8, .discard .safety 32 0, .discardDone 32,
    .sramUncorrectable 8 0, .noticeEvent 16, .sessionIdleTimeout 16, .ridgeResendTimeout 2, .ridgeBlockLockLoss 2, .witnessLatchSeen 512,
    .railReset 7, .drvActivate 512, .gpioEdge 32 true 0] : List Instr).all (fun c => !c.wellFormed) = true := by decide

/-- The last units that exist are the device's. -/
theorem test_last_units_exist : ([.snapshotTaken 3, .glkVPulse 1 0, .netFrameRx 5 [] false 0, .classifierItemPush 5 15, .cascadeForward 3 [] 0 0 false,
    .pathLost 31 2, .sacnSyncLost 4095, .quePush 13 31 0, .taskDone 8 7 0, .taskEligible 4095, .chkExpectFrameWrite .safety 0x120fe8 0, .sensorPoll 1023 none,
    .headroomStale 4094, .chainLatchIssue 511, .bankSupply 15 0, .energyCycleEnd 16, .energyCycleEnd 63, .pulseEmit 7, .discardDone 31,
    .sramUncorrectable 7 0, .noticeEvent 15, .witnessLatchSeen 511, .railReset 6, .gpioEdge 31 true 0] : List Instr).all Instr.wellFormed = true := by
  decide

/-! ### The queue of commands -/

theorem test_wit_front : ({ pending := [.ppsInEdge, .por] } : State).pending = .ppsInEdge :: [.por] := rfl

theorem test_wit_idle : State.reset.pending = [] := rfl

theorem test_wit_queue : ({ pending := [.netFrameTx 5 0] } : State).queueWf = true := by decide

/-! ### Raster and sources -/

theorem test_wit_raster : (testRun 0 []).steady ∧ (testRun 0 []).shw.line < (testRun 0 []).shw.mode.vActive ∧
    (testRun 0 []).shw.mode.vActive < (testRun 0 []).shw.mode.vTotal ∧ 0 < wrapDiff 64 (lineInstant (testRun 0 []) 1) (testRun 0 []).shw.time := by
  simp only [Device.steady]; decide +kernel

theorem test_wit_raster_last : (testRun 1123 []).steady ∧ (testRun 1123 []).shw.line + 1 < (testRun 1123 []).shw.mode.vTotal := by
  simp only [Device.steady]; decide +kernel

theorem test_wit_boundary : (testRun 1124 []).steady ∧ (testRun 1124 []).ownCount ∧ (testRun 1124 []).shw.line + 1 = (testRun 1124 []).shw.mode.vTotal ∧
    (testRun 1124 []).shw.armedAt = none := by
  simp only [Device.steady, Device.ownCount]; decide +kernel

/-- With a frame set armed. -/
def testArmed : Device := { testRun 1124 [] with shw := { (testRun 1124 []).shw with armedAt := some 0 } }

theorem test_wit_boundary_armed : testArmed.steady ∧ testArmed.ownCount ∧ testArmed.shw.armedAt ≠ none ∧
    testArmed.rb R.SHOW_FRAME_SET_CTRL 1 = false := by
  simp only [Device.steady, Device.ownCount]; decide +kernel

theorem test_wit_latch : (testRun 0 []).steady ∧ (testRun 0 []).shw.line = (testRun 0 []).shw.mode.latch ∧ noLatches (testRun 0 []) = false := by
  simp only [Device.steady]; decide +kernel

/-- In a raster restart under free-run. -/
def testRestart : Device := { testRun 1124 [] with shw := { (testRun 1124 []).shw with restarting := some 0 } }

theorem test_wit_restart : testRestart.shw.restarting ≠ none ∧ testRestart.rdg.peer = none ∧ testRestart.shw.line + 1 = testRestart.shw.mode.vTotal ∧
    testRestart.shw.sel = 5 := by decide +kernel

/-- Booted as far as the choice of a source, with word clock qualified. -/
def testBooted : Device :=
  { testDev [(R.BOOT_STATUS, 2), (R.SHOW_SRC_ORDER, 0x501234)] with shw := { srcs := [(1, { qualified := true })] } }

theorem test_wit_start : testBooted.shw.running = false ∧ testBooted.rdg.peer = none ∧ testBooted.rf R.BOOT_STATUS 3 0 = 2 ∧
    firstSource testBooted = 1 := by decide +kernel

/-- Booted as far, with free-run alone, at a time. -/
def testFree (clock : Nat) : Device := { testDev [(R.BOOT_STATUS, 2), (R.BOOT_SRC_WAIT, 2500)] with clock := clock }

theorem test_wit_start_waits : (testFree 0).shw.running = false ∧ (testFree 0).rdg.peer = none ∧ (testFree 0).rf R.BOOT_STATUS 3 0 = 2 ∧
    firstSource (testFree 0) = 5 ∧ (srcOrder (testFree 0)).head? ≠ some 5 ∧
    (testFree 0).clock < (testFree 0).sys.released.getD 0 + 1000000 * (testFree 0).rf R.BOOT_SRC_WAIT 12 0 ∧
    (testFree 10000000000000).sys.released.getD 0 + 1000000 * (testFree 10000000000000).rf R.BOOT_SRC_WAIT 12 0 ≤ (testFree 10000000000000).clock ∧
    firstSource (testFree 10000000000000) = 5 := by decide +kernel

/-- With source k qualified and sel selected. -/
def testSource (k sel : Nat) : Device :=
  { testRun 0 [] with shw := { running := true, sel := sel, srcs := [(k, { qualified := true })] } }

theorem test_wit_loss : (∀ k ∈ [0, 1, 2, 3, 4], ((testSource k k).src k).qualified = true ∧ (testSource k k).shw.running = true ∧
    (testSource k k).shw.sel = k ∧ (testSource k 5).shw.sel ≠ k) := by decide +kernel

/-- With a PTP offset measured before. -/
def testOffset : Device := { testRun 0 [] with shw := { running := true, ptp := { last := some 5 } } }

theorem test_wit_qualify_ptp : testOffset.shw.running = true ∧
    ptpMine testOffset (testOffset.rf R.SHOW_PTP_CFG 10 8) (testOffset.rf R.SHOW_PTP_CFG 7 0) = true ∧ testOffset.shw.sel ≠ 0 ∧
    (testOffset.src 0).qualified = false ∧ testOffset.shw.ptp.last = some 5 ∧ ((256004 : Int) - 0 - testOffset.shw.ptp.delay - 5).natAbs < 256000 := by
  decide +kernel

/-- Genlock with an edge one frame period before. -/
def testEdges : Device := { testRun 0 [] with shw := { running := true, srcs := [(1, { lastEdge := some 0 })] } }

theorem test_wit_qualify_glk : testEdges.shw.sel ≠ 1 ∧ (testEdges.src 1).qualified = false ∧ (testEdges.src 1).lastEdge = some 0 ∧
    (((16666667 : Nat) : Int) * testEdges.shw.mode.num - testEdges.shw.mode.frameNum).natAbs * 10000 ≤ testEdges.shw.mode.frameNum := by
  decide +kernel

theorem test_wit_qualify_ltc : let s := testRun 0 [(R.SHOW_LTC_CFG, 2)]
    s.shw.sel ≠ 3 ∧ (s.src 3).qualified = false ∧ s.shw.mode.num * 1 = s.rf R.SHOW_LTC_CFG 3 0 * 30 * s.shw.mode.den := by decide +kernel

theorem test_wit_qualify_wclk : let s := testRun 0 []
    s.shw.sel ≠ 4 ∧ (s.src 4).qualified = false ∧ wclkWhole (s.reg R.SHOW_WCLK_CFG) s.shw.mode = true ∧
    (((1000 * wclkHz (s.reg R.SHOW_WCLK_CFG) : Nat) : Int) - ((1000 * wclkHz (s.reg R.SHOW_WCLK_CFG) : Nat) : Int)).natAbs * 2000 ≤
      1000 * wclkHz (s.reg R.SHOW_WCLK_CFG) := by decide +kernel

theorem test_wit_holdover : let s := { testRun 0 [] with shw := { running := true, phase := .holdover, holdSince := some 0 } }
    s.shw.phase = .holdover ∧ s.shw.holdSince = some 0 := by decide +kernel

/-- Genlock stays qualified ahead of the selected free-run. -/
def testRevert (en : Nat) : Device := { testSource 1 5 with regs := (testDev [(R.SHOW_SRC_ORDER, 0x543210), (R.SHOW_CTRL, en)]).regs }

theorem test_wit_revert : (testRevert 2).rb R.SHOW_CTRL 1 = true ∧ (testRevert 2).rf R.SHOW_HOLD_CFG 27 16 ≠ 0 ∧
    earlierSources (testRevert 2) ≠ [] ∧ (∀ k ∈ earlierSources (testRevert 2), (testRevert 2).clock < revertTime (testRevert 2) k) ∧
    (let s := { testRevert 2 with clock := 60000000000000 }; (earlierSources s).find? (fun j => revertTime s j ≤ s.clock) = some 1) ∧
    (testRevert 0).rb R.SHOW_CTRL 1 = false ∧ earlierSources (testRun 0 []) = [] := by decide +kernel

theorem test_wit_pps : (testDev [(R.SHOW_CTRL, 16)]).rb R.SHOW_CTRL 4 = true ∧ (testDev [(R.SHOW_CTRL, 16)]).shw.ppsOut = false ∧
    (let s : Device := { shw := { ppsOut := true, time := 100000000 } }; s.shw.ppsOut = true ∧ s.shw.time % 1000000000 ≤ 100000000) ∧
    (let s : Device := { testDev [(R.SHOW_FRAME_SET_CTRL, 2)] with shw := { armedAt := some 0 } };
      s.shw.armedAt = some 0 ∧ s.rb R.SHOW_FRAME_SET_CTRL 1 = true ∧ s.shw.ppsSeen = false) := by decide +kernel

/-- With the Keeper in slot 0. -/
def testKeeper : Device := { testDev [(R.CMP_CANVAS_MAX, 0xffffff)] with kpr := { keeper := some 0 } }

/-- The same under PTP. -/
def testPtp : Device := { testKeeper with shw := { running := true, sel := 0 } }

theorem test_wit_show_writes :
    (writeCode testKeeper (.session 0) R.SHOW_FRAME_SET_CTRL 1 (showHandler (.session 0) R.SHOW_FRAME_SET_CTRL 1) = .ok ∧ wbit 1 0 = true) ∧
    (writeCode testPtp (.session 0) R.SHOW_CTRL 4 (showHandler (.session 0) R.SHOW_CTRL 4) = .ok ∧ wbit 4 2 = true) ∧
    (writeCode testKeeper (.session 0) R.SHOW_LL_CTRL 2 (showHandler (.session 0) R.SHOW_LL_CTRL 2) = .ok ∧ wbit 2 1 = true ∧
      wbit 2 0 = testKeeper.rb R.SHOW_LL_CTRL 0) ∧
    (writeCode testKeeper (.session 0) R.SHOW_LL_CTRL 1 (showHandler (.session 0) R.SHOW_LL_CTRL 1) = .ok ∧ wbit 1 1 = false ∧
      testKeeper.shw.running = false) := by decide +kernel

theorem test_wit_direct : isShadowed R.SHOW_LATCH_LINE = true ∧ R.SHOW_LATCH_LINE ∈ modeRegs ∧
    writeCode testKeeper (.session 0) R.SHOW_LATCH_LINE 4 (directHandler R.SHOW_LATCH_LINE 4) = .ok := by decide +kernel

/-! ### Register access -/

theorem test_wit_addresses : (1 % 4 ≠ 0) ∧ mapEnd % 4 = 0 ∧ mapEnd ≤ mapEnd ∧ agentsOnly R.SCH_SUB_W0 = true ∧ R.SCH_SUB_W0 % 4 = 0 := by
  decide +kernel

theorem test_wit_plain : R.SHOW_SLEW ∈ plainRegs ∧ rdgState testKeeper = 0 ∧ testKeeper.kpr.keeper = some 0 ∧
    offsetValueCode R.SHOW_SLEW (testKeeper.reg R.SHOW_SLEW) = .ok ∧ offsetValueCode R.SHOW_SLEW 0xffffffff ≠ .ok ∧ testKeeper.kpr.keeper ≠ some 1 := by
  decide +kernel

theorem test_wit_rc : let off := R.NET_RX_FCS 5
    addressCheck off = .ok ∧ isRc off = true ∧ agentsOnly off = false ∧ isOctetsLo off = false ∧ oneRead off = false ∧ companions off = [] ∧
    (∀ p ∈ List.range 6, off ≠ R.NET_TXTS_TAG p) := by decide +kernel

theorem test_wit_octets : R.NET_RX_OCTETS_LO 5 < mapEnd ∧ R.NET_RX_OCTETS_LO 5 % 4 = 0 ∧ isOctetsLo (R.NET_RX_OCTETS_LO 5) = true := by
  decide +kernel

/-- A reader whose show time is latched. -/
def testLatched : Device := ((({} : Device).latch .safety R.SHOW_TIME_LO 7).latch .safety R.SHOW_POS 9)

theorem test_wit_show_reads : testLatched.latched .safety R.SHOW_TIME_LO = some 7 ∧ testLatched.latched .safety R.SHOW_POS = some 9 ∧
    testLatched.latched .safety R.SHOW_TIME_HI = none ∧ readerNo (.session 0) ≠ readerNo .safety ∧ ({} : Device).latched .safety R.SHOW_TIME_LO = none := by
  decide +kernel

/-- A snapshot being written, a bank being validated. -/
def testJobs : Device := { shw := { snaps := [⟨3, 1, []⟩], llSwap := .validating } }

theorem test_wit_background : testJobs.shw.snaps.find? (fun k => k.slot = 3) = some ⟨3, 1, []⟩ ∧
    (∀ k ∈ testJobs.shw.snaps.erase ⟨3, 1, []⟩, k.slot ≠ 3) ∧ testJobs.shw.llSwap = .validating := by decide +kernel

/-! ### Network -/

/-- Port 5 enabled. -/
def testPort : Device := testDev [(R.NET_CTRL 5, 1)]

/-- A frame of a length, of an EtherType, without its check sequence. -/
def testFrame (n etype : Nat) : List Byte := List.replicate 12 0 ++ beBytes 2 etype ++ List.replicate (n - 18) 0

/-- A frame with its check sequence. -/
def withFcs (f : List Byte) : List Byte := f ++ leBytes 4 (fcs32 f)

theorem test_wit_rx : testPort.rb (R.NET_CTRL 5) 0 = true ∧ testPort.rb (R.NET_CTRL 4) 0 = false ∧
    (testFrame 64 0).length = 60 ∧ (withFcs (testFrame 64 0)).length = 64 ∧
    testPort.rn (R.NET_MAX_FRAME 5) + (if isTagged (withFcs (testFrame 4000 0)) then 4 else 0) < (withFcs (testFrame 4000 0)).length ∧
    64 ≤ testPort.rn (R.NET_MAX_FRAME 5) ∧
    (let f := List.replicate 4000 (0xff : Byte); testPort.rn (R.NET_MAX_FRAME 5) + (if isTagged f then 4 else 0) < f.length ∧ ∀ x ∈ (ringFor testPort 5 f (parseFrame f)).toList, ringFree testPort 5 x.1 = 0) ∧
    fcs32 ((testFrame 68 0).take 60) ≠ leAt (testFrame 68 0) 60 4 := by decide +kernel

theorem test_wit_rx_pause : let f := withFcs (List.replicate 12 0 ++ beBytes 4 0x88080001 ++ List.replicate 44 0)
    64 ≤ f.length ∧ f.length ≤ testPort.rn (R.NET_MAX_FRAME 5) + (if isTagged f then 4 else 0) ∧
    fcs32 (f.take (f.length - 4)) = leAt f (f.length - 4) 4 ∧ isPause (f.take (f.length - 4)) (parseFrame (f.take (f.length - 4))) = true := by decide +kernel

/-- Rings of 8 descriptors on port 5, and a completed frame of its last ring. -/
def testRings : Device :=
  { testDev [(R.NET_RXRk_SIZE 5 15, 8), (R.NET_TXQq_SIZE 5 7, 8), (R.NET_RXRk_QUEUE 5 15, 31), (R.QUE_CTRL 31, 1), (R.QUE_SIZE 31, 64)] with
    net := { completed := [(95, [[0, 1, 64]])] }, kpr := { keeper := some 0 } }

theorem test_wit_rings : accessCode testRings (.session 0) (R.NET_RXRk_TAIL 5 15) 7 = .ok ∧ offsetValueCode (R.NET_RXRk_TAIL 5 15) 7 = .ok ∧
    (7 : Word).toNat < testRings.rn (R.NET_RXRk_SIZE 5 15) ∧ accessCode testRings (.session 0) (R.NET_RXRk_TAIL 5 15) 8 = .ok ∧
    offsetValueCode (R.NET_RXRk_TAIL 5 15) 8 = .ok ∧ testRings.rn (R.NET_RXRk_SIZE 5 15) ≤ (8 : Word).toNat ∧
    accessCode testRings (.session 0) (R.NET_TXQq_TAIL 5 7) 7 = .ok ∧ offsetValueCode (R.NET_TXQq_TAIL 5 7) 7 = .ok ∧
    (7 : Word).toNat < testRings.rn (R.NET_TXQq_SIZE 5 7) ∧ offsetValueCode (R.NET_TXQq_TAIL 5 7) 8 = .ok ∧
    accessCode testRings (.session 0) (R.NET_TXQq_TAIL 5 7) 8 = .ok ∧ testRings.rn (R.NET_TXQq_SIZE 5 7) ≤ (8 : Word).toNat := by decide +kernel

theorem test_wit_classifier : testRings.net.completed.getD [] (16 * 5 + 15) = [0, 1, 64] :: [] ∧
    testRings.rb (R.QUE_CTRL (testRings.rf (R.NET_RXRk_QUEUE 5 15) 4 0)) 0 = true ∧
    hwRoom testRings (testRings.rf (R.NET_RXRk_QUEUE 5 15) 4 0) 3 = true ∧
    (let s := { testRings with regs := [] }; s.rb (R.QUE_CTRL (s.rf (R.NET_RXRk_QUEUE 5 15) 4 0)) 0 = false) := by decide +kernel

/-- A frame waits in the last transmit queue of port 5, and a time-stamp in its FIFO. -/
def testTx : Device :=
  { testDev [(R.NET_CTRL 5, 1), (R.NET_TXQq_SIZE 5 7, 8), (R.NET_TXQq_TAIL 5 7, 1)] with
    net := { txts := [(5, [⟨1, 2⟩])] }, mem := { cells := [(10, 2)], filled := [(0, 64)] } }

theorem test_wit_tx : testTx.rb (R.NET_CTRL 5) 0 = true ∧ txEligible testTx 5 7 = true ∧ (∀ k ∈ List.range 8, 7 < k → txEligible testTx 5 k = false) ∧
    testTx.net.txts.getD [] 5 = [⟨1, 2⟩] ∧ testTx.net.txts.getD [] 4 = [] ∧ testTx.rb (R.NET_CTRL 4) 0 = false := by decide +kernel

/-- A frame that is being forwarded waits on port 5, whose queues are empty. -/
def testFwd : Device := { testDev [(R.NET_CTRL 5, 1)] with net := { fwd := [(5, [⟨withFcs (testFrame 64 0), 2, 0, false⟩])] } }

theorem test_wit_tx_forwarded : testFwd.rb (R.NET_CTRL 5) 0 = true ∧ testFwd.net.fwd.getD [] 5 = [⟨withFcs (testFrame 64 0), 2, 0, false⟩] ∧
    txEligible testFwd 5 7 = false ∧ testTx.net.fwd.getD [] 5 = [] ∧
    (let f := withFcs (testFrame 64 0); fcs32 (f.take (f.length - 4)) = leAt f (f.length - 4) 4) := by decide +kernel

/-- The cascade enabled, with frames that wait for port 2, or for the line of port 2. -/
def testCascade (n free : Nat) (slow : Nat) : Device :=
  { testDev [(R.NET_CASCADE_CTRL, 1), (R.NET_CTRL 2, 1), (R.NET_CTRL 3, 1 + 2 * slow)] with
    net := { fwd := [(2, List.replicate n ⟨List.replicate 1500 0, 3, 0, false⟩)], lineFree := [(2, free)] } }

/-- A broadcast frame. -/
def testBroadcast : List Byte := withFcs (List.replicate 6 0xff ++ List.replicate 54 0)

theorem test_wit_cascade : forwards (testCascade 0 0 0) 3 testBroadcast = true ∧ forwards ({} : Device) 3 testBroadcast = false ∧
    fwdWaits (testCascade 0 0 0) 2 = false ∧ fwdWaits (testCascade 0 9 0) 2 = true ∧ fwdBytes (testCascade 0 0 0) 2 + testBroadcast.length ≤ 65536 ∧
    fcs32 (testBroadcast.take (testBroadcast.length - 4)) = leAt testBroadcast (testBroadcast.length - 4) 4 := by decide +kernel

theorem test_wit_cascade_full : 65536 < fwdBytes (testCascade 44 0 0) 2 + testBroadcast.length ∧ forwards (testCascade 44 0 0) 3 testBroadcast = true := by
  decide +kernel

theorem test_wit_cascade_stomp : let f := List.replicate 64 (0xff : Byte)
    fcs32 (f.take (f.length - 4)) ≠ leAt f (f.length - 4) 4 ∧ forwards (testCascade 0 0 0) 3 f = true ∧ forwards (testCascade 0 0 1) 3 f = true ∧
    (testCascade 0 0 0).rf (R.NET_CTRL 3) 2 1 = (testCascade 0 0 0).rf (R.NET_CTRL 2) 2 1 ∧
    (testCascade 0 0 1).rf (R.NET_CTRL 3) 2 1 ≠ (testCascade 0 0 1).rf (R.NET_CTRL 2) 2 1 ∧
    fwdWaits (testCascade 0 0 1) 2 = false := by decide +kernel

theorem test_wit_cascade_own : let s := { testCascade 0 0 0 with regs := ((testCascade 0 0 0).regs.put (R.NET_MAC_LO 3) 0).put (R.NET_MAC_HI 3) 0 }
    isGroupMac (beAt (testFrame 64 0) 0 6) = false ∧ beAt (testFrame 64 0) 0 6 = stationMac s 3 ∧
    isPause (testFrame 64 0x8808) (parseFrame (testFrame 64 0x8808)) = false := by decide +kernel

/-- The last stream and the last universe, with what can be lost. -/
def testLosses : Device :=
  { testDev [(R.STRM_CTRL 31, 5)] with
    net := { streams := [(31, { pathPkt := [(1, 0)], waitUntil := some 9, rtp := some 1 })],
             universes := [(4095, { sources := [⟨[1], 100, 0, 0, 0, [], none, 0⟩], syncFrom := some 0 })] } }

theorem test_wit_losses : (testLosses.stream 31).lost = false ∧ testLosses.rb (R.STRM_CTRL 31) 0 = true ∧
    (testLosses.stream 31).pathLost.getD false 2 = false ∧ testLosses.rb (R.STRM_CTRL 31) 2 = true ∧
    (testLosses.stream 31).waitUntil = some 9 ∧ (testLosses.stream 31).rtp ≠ none ∧ (testLosses.stream 31).early = [] ∧
    (testLosses.univ 4095).sources.find? (fun y => y.cid = [1]) = some ⟨[1], 100, 0, 0, 0, [], none, 0⟩ ∧
    (testLosses.univ 4095).syncFrom = some 0 ∧ (testLosses.univ 4094).syncFrom = none ∧ testLosses.rb (R.STRM_CTRL 30) 0 = false := by decide +kernel

/-! ### Queues and the scheduler -/

/-- The last queue enabled, with an item pending. -/
def testQueue : Device :=
  { testDev [(R.QUE_CTRL 31, 1), (R.QUE_SIZE 31, 64), (R.QUE_STALE_TIME 31, 10)] with
    que := { queues := [(31, { items := [⟨[1], 0, .pending⟩], current := [(13, (0, 1))], staleFrom := some 0 })] } }

theorem test_wit_queue_push : (testQueue.queue 31).discard.getD 0 13 = 0 ∧ (testQueue.queue 31).asm.find 13 = none ∧ holdFor testQueue 13 = none ∧
    headerCode testQueue 13 31 1 = .ok ∧ wfld 1 6 0 = 1 ∧ testQueue.rb (R.QUE_CTRL 31) 1 = false ∧
    headerCode testQueue 13 31 2 = .ok ∧ 1 < wfld 2 6 0 ∧ headerCode testQueue 8 30 1 ≠ .ok ∧
    (testQueue.queue 30).discard.getD 0 8 = 0 ∧ (testQueue.queue 30).asm.find 8 = none ∧ holdFor testQueue 8 = none ∧
    (testQueue.queue 31).waiting = [] := by decide +kernel

theorem test_wit_queue_waits : let s := testQueue.setReg (R.QUE_SIZE 31) 0
    (headerCode s 13 31 1 = .capacity ∨ headerCode s 13 31 1 = .busy) ∧ 9 ≤ 13 ∧ wfld 1 6 0 = 1 ∧ (s.queue 31).waiting = [] ∧
    (s.queue 31).discard.getD 0 13 = 0 ∧ (s.queue 31).asm.find 13 = none ∧ holdFor s 13 = none := by decide +kernel

theorem test_wit_queue_read : bestItem (testQueue.queue 31).pendings = some ⟨[1], 0, .pending⟩ ∧ bestItem (testQueue.queue 30).pendings = none ∧
    (testQueue.queue 31).current.find 13 = some (0, 1) ∧
    (testQueue.queue 31).items.find? (fun i => i.arrival = 0) = some ⟨[1], 0, .pending⟩ ∧ (testQueue.queue 31).current.find 12 = none := by decide +kernel

theorem test_wit_queue_commands : (testQueue.queue 31).waiting = [] ∧ (testQueue.queue 31).staleFrom = some 0 ∧
    testQueue.rn (R.QUE_STALE_TIME 31) ≠ 0 ∧ (testQueue.queue 31).staleDone = false ∧ (testQueue.queue 31).pendings ≠ [] ∧
    (let s := { testQueue with kpr := { keeper := some 0 } }
     writeCode s (.session 0) (R.QUE_CTRL 31) 5 (queHandler (.session 0) (R.QUE_CTRL 31) 5) = .ok ∧ wbit 5 2 = true ∧ wbit 5 1 = false) := by
  decide +kernel

/-- Agent 8 has written a task for all cores into its window. -/
def testSubmit : Device :=
  (({ testDev [(R.SCH_CORE_EN, 255), (R.SCH_CTRL, 1)] with que := { queues := [(31, { bells := 1 })] } } : Device).setBank (agentWho 8) R.SCH_SUB_W2
    0xff000000).setReg (R.QUE_DB_CFG 31) 0xff000000

theorem test_wit_submit : taskCode testSubmit 40 (testSubmit.bankReg (agentWho 8) R.SCH_SUB_W0) (testSubmit.bankReg (agentWho 8) R.SCH_SUB_W2) 0 = .ok ∧
    taskCode ({} : Device) 40 (({} : Device).bankReg (agentWho 8) R.SCH_SUB_W0) (({} : Device).bankReg (agentWho 8) R.SCH_SUB_W2) 0 ≠ .ok ∧
    (testSubmit.queue 31).bells = 1 ∧ (testSubmit.queue 31).waiting = [] ∧ portStalled testSubmit 31 = false ∧
    taskCode testSubmit 31 (testSubmit.reg (R.QUE_DB_ENTRY 31)) (testSubmit.reg (R.QUE_DB_CFG 31)) (testSubmit.reg (R.QUE_DB_AFF 31)) = .ok := by
  decide +kernel

/-- A task for all cores in slot 4095. -/
def testTask (st : TaskState) (w2 w3 : Word) (wait : Option Nat) : Task := ⟨4095, 0, 0, w2, w3, 40, 0, st, wait, false, []⟩

/-- A device with one task, or the same. -/
def testTasks (t : Task) : Device := { testDev [(R.SCH_CORE_EN, 255), (R.SCH_CTRL, 1)] with que := { tasks := [(4095, t)] } }

theorem test_wit_dispatch : let t := testTask (.ready 0 true) 0xff000000 0 none
    (testTasks t).rb R.SCH_CTRL 0 = true ∧ selection (testTasks t) = t :: [] ∧ placeTask (testTasks t) t = .run 0 false := by decide +kernel

theorem test_wit_affinity : let t := testTask (.ready 0 true) 0xff000000 0 (some 9)
    (testTasks t).que.tasks.find 4095 = some t ∧ t.handle % 4096 = 4095 ∧ t.wait = some 9 ∧ (eligibleCores (testTasks t) t).head? = some 0 ∧
    (testTasks t).rb R.SCH_CTRL 0 = true := by decide +kernel

theorem test_wit_affinity_idle : let t := testTask (.ready 0 true) 0xff000000 0 (some 9)
    ∀ k, runningOn (testTasks t) k = none ∧ t.state ≠ .running k := fun _ => ⟨rfl, fun h => by cases h⟩

theorem test_wit_delay : let t := testTask (.delayed 1) 0xff000000 0xf00 none
    (((testTasks t).que.tasks.map (·.2)).filter (fun t => wbit t.w3 11 && wfld t.w3 10 8 = 7)) = [t] ∧ t.state = .delayed (0 + 1) ∧
    (testTasks t).rb (R.SCH_DLY_CFGd 7) 31 = false ∧ ((testTasks t).setReg (R.SCH_DLY_CFGd 7) 0x80000000).rb (R.SCH_DLY_CFGd 7) 31 = true ∧
    (let u := testTask (.ready 0 false) 0xff000000 0 none; (testTasks u).que.tasks.find 4095 = some u ∧ u.state = .ready 0 false) := by decide +kernel

theorem test_wit_done : let t := testTask (.running 7) 0xff000000 0 none
    runningOn (testTasks t) 7 = some t ∧ t.handle = wfld 4095 15 0 ∧ (testTasks t).que.queues = [] ∧ t.flow = none ∧ t.held = [] ∧
    wfld 4095 31 16 = 0 ∧ wfld 0x10000 31 16 ≠ 0 ∧ runningOn (testTasks t) 6 = none ∧ (testTasks t).que.tasks.find (wfld 4095 15 0 % 4096) = some t ∧
    (testTasks t).que.tasks.find (wfld 4094 15 0 % 4096) = none := by decide +kernel

/-- Two tasks of one ordered flow, the younger running. -/
def testFlow : Device :=
  { testDev [(R.SCH_CORE_EN, 255)] with
    que := { tasks := [(0, ⟨0, 0, 0, 0xff000140, 0, 40, 0, .running 6, none, false, []⟩), (1, ⟨1, 0, 0, 0xff000140, 0, 40, 1, .running 7, none, false, []⟩)] } }

theorem test_wit_cancel : let t := testTask (.delayed 1) 0xff000000 0x800 none
    (testTasks t).que.tasks.find (wfld 4095 15 0 % 4096) = some t ∧ t.handle = wfld 4095 15 0 ∧ t.state = .delayed 1 ∧ t.flow = none ∧
    (testTasks t).que.queues = [] := by decide +kernel

theorem test_wit_flow : runningOn testFlow 7 = some ⟨1, 0, 0, 0xff000140, 0, 40, 1, .running 7, none, false, []⟩ ∧
    isOldest testFlow ⟨1, 0, 0, 0xff000140, 0, 40, 1, .running 7, none, false, []⟩ = false ∧ testFlow.que.queues = [] ∧ wfld 1 15 0 = 1 := by decide +kernel
/-! ### Composition and photometry -/

/-- A content frame, composed or not, with some registers of its own. -/
def testCtx (n : Nat) (composed : Bool) (rs : List (Nat × Nat)) : FrameCtx :=
  { content := n, regs := rs.foldl (fun t p => t.put p.1 (BitVec.ofNat 32 p.2)) [], start := 0, composed := composed }

/-- The last content frame in the pipeline, awaited or not. -/
def testPipe (c : FrameCtx) (awaiting : Option Nat) : Device := { pipe := [c], rdg := { awaiting := awaiting } }

theorem test_wit_composition : let c := testCtx (2 ^ 48 - 1) false []
    (testPipe c none).pipe.find? (fun c => !c.composed) = some c ∧ c.content < 2 ^ 48 ∧ (testPipe c none).rdg.awaiting ≠ some c.content ∧
    (testPipe c (some (2 ^ 48 - 1))).rdg.awaiting = some c.content ∧ ({} : Device).pipe.find? (fun c => !c.composed) = none := by decide +kernel

theorem test_wit_composition_writes :
    writeCode testKeeper (.session 0) (R.CHK_EXPECT_FRAME_LO 63) 7 (cmpHandler (.session 0) (R.CHK_EXPECT_FRAME_LO 63) 7) = .ok ∧
    writeCode testKeeper (.session 0) (R.CHK_EXPECT_FRAME_HI 0) 7 (cmpHandler (.session 0) (R.CHK_EXPECT_FRAME_HI 0) 7) = .ok ∧
    accessCode testKeeper (.session 0) R.CMP_COEF_CTRL 1 = .ok ∧ offsetValueCode R.CMP_COEF_CTRL 1 = .ok ∧ wbit 1 0 = true ∧
    safeCode testKeeper (testKeeper.cmp.safeStage ++ []) = .ok ∧ safeCode testKeeper (testKeeper.cmp.safeStage ++ [(1, 0)]) ≠ .ok := by decide +kernel

theorem test_wit_passes : let c := testCtx (2 ^ 48 - 1) true [(R.PHO_CTRL, 1)]
    (testPipe c none).pipe.find? (fun c => c.composed && !c.passed && wbit (c.rd R.PHO_CTRL) 0) = some c ∧ c.content < 2 ^ 48 ∧
    (testPipe c none).pipe.find? (fun c => !c.passed && wbit (c.rd R.PHO_CTRL) 0) = some c ∧
    (let e := testCtx 0 true [(R.PHO_CTRL, 0)]
     (testPipe e none).pipe.find? (fun c => c.composed && !c.passed && wbit (c.rd R.PHO_CTRL) 0) = none ∧
     (testPipe e none).pipe.find? (fun c => !c.passed && wbit (c.rd R.PHO_CTRL) 0) = none) := by decide +kernel

/-- Memory written with some bytes, from offset 0, and the Keeper's session 0. -/
def testMem (rs : List (Nat × Nat)) (cells : Table Byte) : Device :=
  { testDev ([(R.MEM_Rr_BASE 0, 0), (R.MEM_Rr_SIZE 0, 16), (R.MEM_Rr_CFG 0, 1), (R.MEM_CARVE_BASE, 16)] ++ rs) with
    mem := { cells := cells, filled := [(0, 65536)] }, kpr := { keeper := some 0 } }

theorem test_wit_plans :
    writeCode testKeeper (.session 0) R.PHO_MAP_CTRL 2 (phoHandler (.session 0) R.PHO_MAP_CTRL 2) = .ok ∧ wbit 2 1 = true ∧
    ({ pho := { mapSwap := .validating } } : Device).pho.mapSwap = .validating ∧ testKeeper.pho.mapSwap ≠ .validating ∧
    writeCode testKeeper (.session 0) R.PHO_REPLAN_CFG 0x1010001 (phoHandler (.session 0) R.PHO_REPLAN_CFG 0x1010001) = .ok ∧
    wbit 0x1010001 24 = true ∧ testKeeper.pho.planning = false ∧ rdgState testKeeper = 0 ∧ inStandby testKeeper = false ∧
    ({ pho := { planning := true } } : Device).pho.planning = true ∧ inStandby ({ pho := { planning := true } } : Device) = false ∧
    inStandby (testDev [(R.RDG_STATUS, 5)]) = true ∧ (testDev [(R.RDG_STATUS, 5)]).pho.planning = false := by decide +kernel

theorem test_wit_sensors : leAt (sensorEntry (testMem [(R.PHO_SENS_BASE, 0)] [(32 * 1023, 2)]) 1023) 0 1 = 2 ∧
    (testMem [(R.PHO_SENS_BASE, 0)] []).rb R.PHO_CTRL 3 = false ∧ leAt (sensorEntry (testMem [(R.PHO_SENS_BASE, 0)] []) 1023) 0 1 ≠ 2 ∧
    ({} : Device).pho.ageSaving = none ∧ ({ pho := { ageSaving := some [] } } : Device).pho.ageSaving = some [] := by decide +kernel

/-! ### Sessions, the Keeper, commit groups and events -/

/-- An open session of a client that may become Keeper. -/
def testSession : Session := { serviceSession 0 with port := 4, ip := 7, udp := 9, keyBytes := [1], highest := 5 }

/-- Slot 0 open to a client, slot 15 to USB, which holds the role or not. -/
def testUsb (keeper : Option Nat) (rs : List (Nat × Nat)) : Device :=
  { testDev rs with kpr := { sessions := [(0, testSession), (15, serviceSession 0)], keys := [(1, ⟨[1], 1, 0⟩)], keeper := keeper } }

/-- A message on the USB interface. -/
def testMsg (body : List Byte) : Msg := ⟨7, 0, 0, 1, BitVec.ofNat 16 (28 + body.length), 15, 0, 0, 0, body, []⟩

/-- A client's message of a type, with a good tag or not. -/
def testSigned (type : Nat) (seq : BitVec 32) (session : Byte) (body : List Byte) : Msg :=
  let m : Msg := ⟨4, 7, 9, 1, BitVec.ofNat 16 (28 + body.length), session, 1, 0, seq, body, []⟩
  { m with tag := (hmac256 [1] (coveredBytes type m)).take 16 }

/-- Its tag is good, and no other is. -/
theorem test_signed (type : Nat) (seq : BitVec 32) (session : Byte) (body tag : List Byte) :
    tagOk type { testSigned type seq session body with tag := tag } [1] = decide (tag = (testSigned type seq session body).tag) := rfl

theorem test_signed_tag : (testSigned 0x02 6 0 []).tag ≠ [] ∧
    (testSigned 0x01 1 0xFF [0, 0, 0, 0, 0, 0, 0, 0, 0, 0, 0, 0, 0, 0, 0, 0]).tag ≠ [] := by decide +kernel

theorem test_wit_messages : shapely (testMsg []) = true ∧ shapely { testMsg [] with version := 2 } = false ∧ (testUsb none []).kpr.sessions.find 3 = none ∧
    (testUsb none []).kpr.sessions.find 0 = some testSession ∧ (testMsg []).session.toNat = 15 ∧ shapely (testSigned 0x02 5 0 []) = true ∧
    tagOk 0x02 { testSigned 0x02 6 0 [] with tag := [] } [1] = false ∧ tagOk 0x02 (testSigned 0x02 5 0 []) [1] = true ∧ seqOk testSession 5 = false ∧
    (gate 0x02 (testMsg []) (testUsb none [])).2 = some 15 :=
  ⟨by decide, by decide, by decide, by decide, by decide, rfl, (test_signed ..).trans (decide_eq_false test_signed_tag.1.symm),
    (test_signed ..).trans (decide_eq_true rfl), by decide, by decide⟩

theorem test_wit_sessions : (let m := testSigned 0x01 1 0xFF [0, 0, 0, 0, 0, 0, 0, 0, 0, 0, 0, 0, 0, 0, 0, 0]
     shapely m = true ∧ m.session = 0xFF ∧ tagOk 0x01 m [1] = true ∧ tagOk 0x01 { m with tag := [] } [1] = false ∧ bodyCode m 16 = .ok ∧ m.port = 4 ∧
     ({ kpr := { keys := [(1, ⟨[1], 1, 0⟩)] } } : Device).kpr.keys.find m.key.toNat = some ⟨[1], 1, 0⟩) ∧
    (upto 15).find? (fun j => ((({} : Device).kpr.sessions.find j).isNone)) = some 0 ∧
    (gate 0x02 (testSigned 0x02 6 0 []) (testUsb none [])).2 = some 0 ∧ bodyCode (testSigned 0x02 6 0 []) 0 = .ok ∧
    (testUsb none []).kpr.sessions.find 0 = some testSession ∧ (testUsb none []).kpr.sessions.find 15 ≠ none ∧ ({} : Device).kpr.sessions.find 15 = none := by
  refine ⟨⟨rfl, rfl, (test_signed ..).trans (decide_eq_true rfl), (test_signed ..).trans (decide_eq_false test_signed_tag.2.symm), rfl, rfl, rfl⟩, by decide, ?_,
    rfl, by decide, by decide, by decide⟩
  have h : tagOk 0x02 (testSigned 0x02 6 0 []) testSession.keyBytes = true := (test_signed ..).trans (decide_eq_true rfl)
  unfold gate
  dsimp only
  rw [if_neg (by decide)]
  rw [show (testUsb none []).kpr.sessions.find (testSigned 0x02 6 0 []).session.toNat = some testSession from rfl]
  dsimp only
  rw [if_neg (by decide), if_neg (by decide), h, if_neg (by decide), if_neg (by decide)]
  rfl

/-- A region of 256 MiB under the testing device's registers, and the USB session as the Keeper. -/
def testServed : Device :=
  testUsb (some 15) [(R.MEM_Rr_BASE 0, 0), (R.MEM_Rr_SIZE 0, 0x10000), (R.MEM_Rr_CFG 0, 1), (R.MEM_CARVE_BASE, 0x10000), (R.PHO_LAT_BASE, 0x10000)]

/-- Whether a message of a type is accepted there. -/
def testAccepted (type : Nat) (m : Msg) : Bool := (gate type m testServed).2 = some 15

/-- A read of a count that is accepted and in range. -/
def testRead (lo hi : Byte) : Bool :=
  let m := testMsg [0, 0, 6, 0, lo, hi, 0, 0]
  testAccepted 0x10 m && bodyCode m 6 = .ok && 1 ≤ bodyNum m 4 2 && bodyNum m 4 2 ≤ 256

theorem test_wit_requests : testAccepted 0x03 (testMsg []) = true ∧ bodyCode (testMsg []) 0 = .ok ∧
    testAccepted 0x40 (testMsg (List.replicate 32 1)) = true ∧ bodyCode (testMsg (List.replicate 32 1)) 32 = .ok ∧
    ((gate 0x40 (testMsg (List.replicate 32 1)) testServed).1.kpr.sessions.find 15).isSome = true ∧
    testRead 1 0 ∧ testRead 0 1 ∧ ¬ testRead 0 0 ∧ ¬ testRead 1 1 ∧ testAccepted 0x10 (testMsg [0, 0, 6, 0, 0, 0, 0, 0]) = true ∧
    testAccepted 0x10 (testMsg [0, 0, 6, 0, 1, 1, 0, 0]) = true := by decide +kernel

theorem test_wit_request_write : let m := testMsg (leBytes 4 R.SHOW_SLEW ++ leBytes 4 (resetOf R.SHOW_SLEW).toNat)
    testAccepted 0x11 m = true ∧ m.body.length = 8 ∧
    valueCode m 15 (bodyNum m 0 4) (BitVec.ofNat 32 (bodyNum m 4 4)) (gate 0x11 m testServed).1 = .ok ∧
    valueCode m 15 1 0 (gate 0x11 m testServed).1 ≠ .ok := by decide +kernel

theorem test_wit_request_memory : let m := testMsg [0, 0, 0, 8, 0, 0, 0, 0, 4, 0, 0, 0]
    let e := testMsg [1, 0, 0, 0, 0, 0, 0, 0, 4, 0, 0, 0]
    let t := (gate 0x12 m testServed).1
    testAccepted 0x12 m = true ∧ bodyCode m 10 = .ok ∧ firstCode [memPlaceCode t (bodyNum m 0 8) (bodyNum m 8 2), memRangeCode t (bodyNum m 0 8) (bodyNum m 8 2)] = .ok ∧
    testAccepted 0x12 e = true ∧ bodyCode e 10 = .ok ∧ firstCode [memPlaceCode t (bodyNum e 0 8) (bodyNum e 8 2), memRangeCode t (bodyNum e 0 8) (bodyNum e 8 2)] ≠ .ok ∧
    testAccepted 0x13 m = true ∧ 8 ≤ m.body.length ∧ firstCode [memPlaceCode t (bodyNum m 0 8) (m.body.drop 8).length, standbyCode t 15, keeperCode t 15 m,
        if writeRefused t (.who (.session 15)) (bodyNum m 0 8) (m.body.drop 8).length then .locked else .ok, memRangeCode t (bodyNum m 0 8) (m.body.drop 8).length] = .ok ∧
    testAccepted 0x13 e = true ∧ memPlaceCode t (bodyNum e 0 8) (e.body.drop 8).length ≠ .ok := by decide +kernel

/-- A device whose Keeper is the client of slot 0, at a rank, with preemption or not. -/
def testRank (keeper : Option Nat) (prio preempt : Nat) : Device :=
  { testUsb keeper [(R.KPR_CFG, preempt)] with kpr := { (testUsb keeper []).kpr with prio := prio } }

theorem test_wit_keeper : let m := testMsg [5, 0, 0, 0]
    let ok (s : Device) : Prop := (gate 0x20 m s).2 = some 15 ∧ bodyCode m 1 = .ok ∧ standbyCode (gate 0x20 m s).1 15 = .ok ∧
      ((gate 0x20 m s).1.kpr.sessions.find 15).map (fun e => (e.keeperRight, decide (e.prioMin ≤ bodyNum m 0 1))) = some (true, true)
    ok (testRank none 0xFF 0) ∧ (gate 0x20 m (testRank none 0xFF 0)).1.kpr.keeper = none ∧
    ok (testRank (some 15) 9 0) ∧ (gate 0x20 m (testRank (some 15) 9 0)).1.rb R.KPR_CFG 0 = false ∧ (gate 0x20 m (testRank (some 15) 9 0)).1.kpr.keeper = some 15 ∧
    ok (testRank (some 0) 9 0) ∧ (gate 0x20 m (testRank (some 0) 9 0)).1.kpr.keeper = some 0 ∧
    ok (testRank (some 0) 6 1) ∧ (gate 0x20 m (testRank (some 0) 6 1)).1.rb R.KPR_CFG 0 = true ∧ bodyNum m 0 1 < (gate 0x20 m (testRank (some 0) 6 1)).1.kpr.prio ∧
    (∀ q ∈ (gate 0x20 m (testRank (some 0) 6 1)).1.kpr.sessions, q.2.request = none) := by decide +kernel

theorem test_wit_keeper_refused : let m := testMsg [5, 0, 0, 0]
    let s (right : Bool) : Device := { kpr := { sessions := [(15, { serviceSession 0 with keeperRight := right, prioMin := 6 })] } }
    (∀ right, (gate 0x20 m (s right)).2 = some 15 ∧ standbyCode (gate 0x20 m (s right)).1 15 = .ok ∧
      ((gate 0x20 m (s right)).1.kpr.sessions.find 15).map (fun e => (e.keeperRight, decide (bodyNum m 0 1 < e.prioMin))) = some (right, true)) ∧ bodyCode m 1 = .ok := by
  decide +kernel

theorem test_wit_keeper_ends : let m := testMsg [0xFF, 0, 0, 0]
    (gate 0x21 (testMsg []) testServed).2 = some 15 ∧ bodyCode (testMsg []) 0 = .ok ∧ ((gate 0x21 (testMsg []) testServed).1.kpr.sessions.find 15).isSome = true ∧
    (gate 0x22 m testServed).2 = some 15 ∧ bodyCode m 1 = .ok ∧ (gate 0x22 m testServed).1.kpr.keeper = some 15 ∧ bodyNum m 0 1 = 0xFF ∧
    (gate 0x22 m (testUsb none [])).2 = some 15 ∧ (gate 0x22 m (testUsb none [])).1.kpr.keeper ≠ some 15 ∧
    (let s : Device := { kpr := { keeper := some 3, lease := some 9 } }; s.kpr.keeper = some 3 ∧ s.kpr.lease = some 9) ∧ ({} : Device).kpr.keeper = none ∧
    (let e := { testSession with request := some (5, 0) }
     let s : Device := { kpr := { window := some 9, sessions := [(0, e)] } }
     s.kpr.window = some 9 ∧ bestRequest s = some (0, 5, 0) ∧ s.kpr.sessions.find 0 = some e) ∧
    (let s : Device := { kpr := { window := some 9 } }; s.kpr.window = some 9 ∧ bestRequest s = none) := by decide +kernel

theorem test_wit_groups : let m := testMsg ([63, 0, 0, 0] ++ leBytes 4 R.PHO_CTRL ++ [0, 0, 0, 0])
    let t := (gate 0x30 m testServed).1
    testAccepted 0x30 m = true ∧ m.body.length = 4 + 8 * 1 ∧ bodyNum m 1 1 ≤ 1 ∧ inStandby t = false ∧ keeperCode t 15 m = .ok ∧
    loadFailure ((upto 1).map (fun i => (bodyNum m (4 + 8 * i) 4, BitVec.ofNat 32 (bodyNum m (8 + 8 * i) 4)))) = none ∧
    (if bodyNum m 1 1 = 1 then t.kpr.counts.getD 0 (bodyNum m 0 1) else 0) + 1 ≤ 512 ∧
    (let c := testMsg [63, 0, 0, 0, 0, 0, 0, 0, 0, 0, 0, 0]
     let t := (gate 0x31 c testServed).1
     testAccepted 0x31 c = true ∧ bodyCode c 10 = .ok ∧ bodyNum c 1 1 = 0 ∧ inStandby t = false ∧ keeperCode t 15 c = .ok) := by decide +kernel

theorem test_wit_group_registers : let w := Who.session 0
    writeCode testKeeper w R.KPR_GRP_CMD 1 (kprHandler w R.KPR_GRP_CMD 1) = .ok ∧ wbit 1 0 = true ∧ wbit 1 1 = false ∧
    (let s := testKeeper.setBank w R.KPR_GRP_OFS (BitVec.ofNat 32 R.PHO_CTRL)
     writeCode s w R.KPR_GRP_CMD 2 (kprHandler w R.KPR_GRP_CMD 2) = .ok ∧ wbit 2 0 = false ∧ wbit 2 1 = true ∧
     entryLoadCode (s.bankReg w R.KPR_GRP_OFS).toNat = .ok ∧ s.kpr.counts.getD 0 ((s.bankReg w R.KPR_GRP_SEL).toNat % 256) < 512) ∧
    writeCode testKeeper w R.KPR_COMMIT 0x80000000 (kprHandler w R.KPR_COMMIT 0x80000000) = .ok ∧ wbit 0x80000000 31 = true ∧ wbit 0x80000000 8 = false := by
  decide +kernel

/-- An event raised with a route. -/
def testEvent (route : Nat) : Device := { testDev [(R.EVT_ROUTEe 255, route), (R.EVT_LOG_SIZE, 0)] with evt := { raised := [⟨255, 0, 0, 0, 0, 0⟩] } }

theorem test_wit_events : ({} : Device).evt.raised = [] ∧ nextEvent (testEvent 0) = some ⟨255, 0, 0, 0, 0, 0⟩ ∧ nextEvent (testEvent 0x800) = some ⟨255, 0, 0, 0, 0, 0⟩ ∧
    wbit ((testEvent 0).reg (R.EVT_ROUTEe 255)) 11 = false ∧ wbit ((testEvent 0x800).reg (R.EVT_ROUTEe 255)) 11 = true ∧
    (∀ r ∈ [0, 0x800], wbit ((testEvent r).reg (R.EVT_ROUTEe 255)) 9 = false ∧ wbit ((testEvent r).reg (R.EVT_ROUTEe 255)) 10 = false ∧
      wfld ((testEvent r).reg (R.EVT_ROUTEe 255)) 7 0 = 0 ∧ (testEvent r).rf R.EVT_LOG_SIZE 16 0 = 0) ∧
    (let e := { serviceSession 0 with gatherFrom := some 3, gathered := [[1]] }
     let s : Device := { kpr := { sessions := [(15, e)] } }
     s.kpr.sessions.find 15 = some e ∧ e.gatherFrom = some 3 ∧ e.gathered ≠ [] ∧ s.kpr.sessions.find 0 = none) := by decide +kernel

/-! ### Memory and housekeeping -/

theorem test_wit_memory : regionOf ({} : Device) 0 = none ∧
    (let s := { testMem [] [] with mem := { lostLines := [0] } }
     regionOf s 0 = some 0 ∧ inOneRegion s 0 4 = true ∧ lineLost s (.who (.core 7 false)) 0 = true) ∧
    (let s := testMem [(R.MEM_Rr_CFG 0, 0x41)] []
     inOneRegion s 0 4 = true ∧ lineLost s (.who .safety) 0 = false ∧ writeRefused s (.who .safety) 0 4 = true) ∧
    regionOf (testMem [] []) 0x8000 = some 0 ∧ lineLost (testMem [] []) .show 0x8000 = false ∧ (testMem [] []).mem.zeroFill = none ∧ (testMem [] []).mem.discards = [] ∧
    decodeCw (regionClass (testMem [] []) 0) ((testMem [] []).mem.cond.getD .good (cwOf (testMem [] []) 0 0x8000)) (peek (testMem [] []) (cwOf (testMem [] []) 0 0x8000) (cwBytes (regionClass (testMem [] []) 0))) .none = .good ∧
    0x8000 % cwBytes (regionClass (testMem [] []) 0) = 0 := by decide +kernel

theorem test_wit_memory_agent : ∀ i k, MemAgent.show ≠ .who (.core i k) := fun _ _ h => by cases h

theorem test_wit_memory_write : let s := testMem [(R.PHO_LAT_BASE, 0x10000), (R.MEM_Rr_CFG 0, 5)] []
    regionOf s 0x8000 = some 0 ∧ cwBytes (regionClass s 0) = 8 ∧ lineLost s (.who .repair) 0x8000 = false ∧ writeRefused s (.who .repair) 0x8000 8 = false ∧
    s.mem.zeroFill = none ∧ s.mem.discards = [] := by decide +kernel

theorem test_wit_upkeep : let w := Who.session 0
    (let s := testMem [(R.MEM_ZF_BASE, 1), (R.MEM_ZF_SIZE, 15)] []
     writeCode s w R.MEM_ZF_CTRL 1 (memHandler w R.MEM_ZF_CTRL 1) = .ok ∧ wbit 1 0 = true ∧ s.mem.zeroFill = none) ∧
    (let z : ZeroFill := { base := 4096, size := 61440, front := 0, start := 0 }
     z.size % 4096 = 0 ∧ z.base < 2 ^ 34 ∧ ({ mem := { zeroFill := some z } } : Device).mem.zeroFill = some z) ∧
    (let s := testMem [(R.MEM_TEST_CTRL, 1), (R.MEM_TEST_ADDR, 2047)] []
     writeCode s w R.MEM_TEST_CMD 2 (memHandler w R.MEM_TEST_CMD 2) = .ok ∧ writeCode s w R.MEM_TEST_CMD 1 (memHandler w R.MEM_TEST_CMD 1) = .ok ∧
     s.mem.zeroFill = none ∧ s.mem.discards = [] ∧ wbit 2 0 = false ∧ wbit 2 1 = true ∧ wbit 1 1 = false ∧ unwritten s (testUnit s) = false) ∧
    (let s := testMem [(R.MEM_CTRL, 1)] []
     s.rb R.MEM_CTRL 0 = true ∧ scrubAt s (scrubRegions s) s.mem.scrubPos = some (0, 0) ∧ s.mem.scrubPos + cwBytes (regionClass s 0) < scrubTotal s ∧
     (let t := { s with mem := { s.mem with scrubPos := 65504 } }
      scrubAt t (scrubRegions t) t.mem.scrubPos = some (0, 65504) ∧ scrubTotal t ≤ t.mem.scrubPos + cwBytes (regionClass t 0)) ∧
     decodeCw (regionClass s 0) (s.mem.cond.getD .good 0) (peek s 0 (cwBytes (regionClass s 0))) .none = .good) ∧ ({} : Device).mem.lastShort = none := by
  decide +kernel

/-- The core-voltage loop with a fault or not, after a request. -/
def testAvs (status tries : Nat) (fast : Bool) : Device :=
  { testDev [(R.HKP_AVS_CFG, 1), (R.HKP_AVS_STATUS, status), (R.HKP_VCORE_REQ, 800)] with hkp := { tries := tries, fast := fast } }

theorem test_wit_voltage : ({} : Device).hkp.shutRun = 0 ∧ ({} : Device).rb R.HKP_PMB_CFG 0 = false ∧ (testDev [(R.HKP_PMB_CFG, 1)]).rb R.HKP_PMB_CFG 0 = true ∧
    avsRuns (testAvs 4 0 false) = false ∧ avsRuns (testAvs 0 0 true) = true ∧ (testAvs 0 2 false).hkp.tries < 3 ∧ 3 ≤ (testAvs 0 3 false).hkp.tries ∧
    (testAvs 0 0 false).rn R.HKP_VCORE_REQ = 800 ∧ (testAvs 0 0 true).hkp.fast = true ∧ (testAvs 0 0 false).hkp.plan = none ∧
    (∀ c, ({} : Device).hkp.eyes.find c = none) := ⟨rfl, by decide, by decide, by decide, by decide, by decide, by decide, by decide, rfl, rfl, fun _ => rfl⟩

theorem test_wit_sensor_release : (let s := testDev [(R.HKP_Ts_CFG 11, 0x100), (R.HKP_THERM_CFG, 0x7d00)]
     11 ∈ sensorsInUse s ∧ (0 : Int) < 16 * (((s.rf R.HKP_THERM_CFG 15 8 : Nat) : Int) - 10)) := by decide +kernel

/-- FOG_N asserted or not, with SAFE_N as a source. -/
def testFog (on : Nat) (low : Bool) (clock : Nat) : Device :=
  { testDev [(R.HKP_FOG_CFG, 0x10004), (R.HKP_FOG_STATUS, on)] with hkp := { safeLow := low }, clock := clock }

theorem test_wit_fog : (fogSources (testFog 0 true 0)).any (fun b => b) = true ∧ (testFog 0 true 0).rb R.HKP_FOG_STATUS 0 = false ∧
    (fogSources (testFog 1 false 0)).any (fun b => b) = false ∧ (testFog 1 false 0).rb R.HKP_FOG_STATUS 0 = true ∧ (testFog 1 false 0).clock < fogMinEnd (testFog 1 false 0) := by
  decide +kernel

theorem test_wit_pins : gpioFunc (testDev [(R.HKP_GPIOp_CFG 31, 0x23)]) 31 = 3 ∧ (testDev [(R.HKP_GPIOp_CFG 31, 0x23)]).rb R.HKP_GPIO_IN 31 ≠ true ∧
    (testDev [(R.HKP_GPIOp_CFG 31, 0x23)]).rf (R.HKP_GPIOp_CFG 31) 5 4 = 2 ∧ gpioFunc ({} : Device) 31 ≠ 3 ∧
    writeCode testKeeper (.session 0) R.HKP_GPIO_SET 0x80000000 (hkpHandler (.session 0) R.HKP_GPIO_SET 0x80000000) = .ok ∧
    writeCode testKeeper (.session 0) R.HKP_GPIO_CLR 0x80000000 (hkpHandler (.session 0) R.HKP_GPIO_CLR 0x80000000) = .ok := by decide +kernel

/-! ### Preview -/

/-- With the Keeper in slot 0 and some registers set. -/
def testKeep (rs : List (Nat × Nat)) : Device := { testDev rs with kpr := { keeper := some 0 } }

/-- The port off or on in command mode, with a status, and a frame being sent until an instant. -/
def testPanel (ctrl status ends : Nat) : Device :=
  { testKeep [(R.PVW_CTRL, ctrl), (R.PVW_STATUS, status), (R.PVW_CMD_CTRL, 0)] with pvw := { frameEnd := ends } }

theorem test_wit_preview_writes : let w := Who.session 0
    writeCode (testKeep []) w R.PVW_CTRL 0xc11 (pvwHandler w R.PVW_CTRL 0xc11) = .ok ∧ wbit 0xc11 0 = true ∧
    writeCode (testPanel 0xc11 1 0) w R.PVW_CTRL 0xc10 (pvwHandler w R.PVW_CTRL 0xc10) = .ok ∧ wbit 0xc10 0 = false ∧
    (testPanel 0xc11 1 0).rb R.PVW_CTRL 0 = true ∧
    writeCode (testKeep []) w R.PVW_APPLY 1 (pvwHandler w R.PVW_APPLY 1) = .ok ∧ pvwRuns (testKeep []) = false ∧
    writeCode (testPanel 0xc11 1 0) w R.PVW_APPLY 1 (pvwHandler w R.PVW_APPLY 1) = .ok ∧ pvwRuns (testPanel 0xc11 1 0) = true ∧
    writeCode (testKeep []) w R.PVW_CMD_CTRL 0x1013f (pvwHandler w R.PVW_CMD_CTRL 0x1013f) = .ok ∧ wbit 0x1013f 16 = true ∧
    (testKeep []).rb R.PVW_CMD_CTRL 17 = false ∧ (testKeep [(R.PVW_CMD_CTRL, 0x20000)]).rb R.PVW_CMD_CTRL 17 = true := by decide +kernel

theorem test_wit_preview_frames : pvwRuns (testPanel 0xc13 1 9) = true ∧ braced (testPanel 0xc13 1 9) = false ∧ pvwRuns ({} : Device) = false ∧
    (let s := testDev [(R.PVW_CTRL, 0xc13), (R.PVW_STATUS, 1), (R.SYS_STATUS, 4)]
     pvwRuns s = true ∧ braced s = true ∧ s.rb R.PVW_CTRL 1 = true) ∧
    (let s := testDev [(R.PVW_CTRL, 0xc11), (R.PVW_STATUS, 1), (R.SYS_STATUS, 4)]
     pvwRuns s = true ∧ braced s = true ∧ s.rb R.PVW_CTRL 1 = false) ∧
    pvwCommand (testPanel 0xc13 1 9) = true ∧ pvwBusy (testPanel 0xc13 1 9) = true ∧ (testPanel 0xc13 1 9).rb R.PVW_STATUS 1 = false ∧
    pvwCommand (testPanel 0xc13 3 0) = true ∧ (testPanel 0xc13 3 0).rb R.PVW_STATUS 1 = true ∧ pvwBusy (testPanel 0xc13 3 0) = false ∧
    braced (testPanel 0xc13 3 0) = false := by decide +kernel

/-! ### Metering -/

/-- The last pulse output enabled, with what is due and a backlog. -/
def testPulse (backlog : Nat) (due active : Bool) : Device :=
  { testKeep [(R.MTR_Pp_CFG 7, 1), (R.MTR_Pp_BACKLOG 7, backlog), (R.MTR_GAP_STATUS, 2)] with
    mtr := { pulses := [(7, { due := due, active := active })], saving := if active then some [1] else none } }

theorem test_wit_pulses : (testPulse 0 true false).rb (R.MTR_Pp_CFG 7) 0 = true ∧ pulseGated (testPulse 0 true false) 7 = false ∧
    ((testPulse 0 true false).pulse 7).due = true ∧ (testPulse 0 false false).rn (R.MTR_Pp_BACKLOG 7) = 0 ∧
    ((testPulse 0 false false).pulse 7).due = false ∧ (testPulse 5 false false).rn (R.MTR_Pp_BACKLOG 7) ≠ 0 ∧
    ((testPulse 0 false false).pulse 7).active = false ∧ ((testPulse 0 false true).pulse 7).active = true ∧
    (testPulse 0 false false).mtr.saving = none ∧ (testPulse 0 false true).mtr.saving = some [1] ∧
    pulseGated (testDev [(R.MTR_Pp_CFG 7, 9), (R.RDG_STATUS, 3)]) 7 = true := by decide +kernel

theorem test_wit_metering_writes : let w := Who.session 0
    let s := testPulse 0 false false
    writeCode s w R.MTR_CMD 1 (mtrHandler w R.MTR_CMD 1) = .ok ∧ wbit 1 0 = true ∧ s.mtr.saving = none ∧
    writeCode s w R.MTR_GAP_END_HI 1 (mtrHandler w R.MTR_GAP_END_HI 1) = .ok := by decide +kernel

/-! ### Chains -/

/-- The last chain as an HLK chain that may send. -/
def testLink : Device :=
  { testKeep [(R.BAT_CTRL, 1), (R.BAT_CHn_CFG 511, 1), (R.BAT_BANKb_STATUS 15, 1)] with
    bat := { chains := [(511, { motionEnd := some 5 })], rdm := some (511, []) } }

theorem test_wit_chains : sends testLink = true ∧ chainLive testLink 511 = true ∧ chainMode testLink.reg 511 = 0 ∧
    (testLink.chain 511).motionEnd = some 5 ∧ (testLink.chain 0).motionEnd = none ∧ (testLink.chain 511).turned = none ∧ chainLive testLink 0 = false ∧
    testLink.rb (R.BAT_BANKb_STATUS 15) 0 = supplyOk 3135 ∧ testLink.rb (R.BAT_BANKb_STATUS 14) 0 = supplyOk 3134 ∧
    testLink.bat.rdm = some (511, []) ∧ testKeeper.bat.rdm = none ∧ sends (testDev [(R.RDG_STATUS, 1)]) = false ∧
    noLatches (testDev [(R.SYS_STATUS, 4)]) = true ∧ pairActive (testDev [(R.SYS_STATUS, 4)]) = false := by decide +kernel

theorem test_wit_chain_writes : let w := Who.session 0
    writeCode testLink w (R.BAT_CHn_CMD 511) 1 (batHandler w (R.BAT_CHn_CMD 511) 1) = .ok ∧ wbit 1 0 = true ∧
    writeCode testKeeper w R.BAT_RDM_CTRL 0x101ff (batHandler w R.BAT_RDM_CTRL 0x101ff) = .ok ∧ wbit 0x101ff 16 = true := by decide +kernel

/-! ### Bucks -/

/-- The last buck channel enabled or not, with a status, after some periods of over current. -/
def testBuck (ctrl status run : Nat) : Device :=
  { testKeep [(R.HDR_Bc_CTRL 15, ctrl), (R.HDR_Bc_STATUS 15, status)] with hdr := { bucks := [(15, { ocRun := run })] } }

theorem test_wit_bucks : buckRuns (testBuck 0 0 0) 15 = false ∧ buckRuns (testBuck 1 1 0) 15 = true ∧
    (buckStep (testBuck 1 1 0) 15 0 0).next.ocRun < 8 ∧ (buckStep (testBuck 1 1 0) 15 0 0).ov = false ∧
    8 ≤ (buckStep (testBuck 1 1 7) 15 0 1200000).next.ocRun ∧ (testDev [(R.SYS_STATUS, 4)]).rb R.SYS_STATUS 2 = true ∧
    buckGroup ({} : Device) 15 = none ∧ testRestart.shw.restarting ≠ none := by decide +kernel

theorem test_wit_buck_writes : let w := Who.session 0
    writeCode (testBuck 1 1 0) w (R.HDR_Bc_CTRL 15) 0 (hdrHandler w (R.HDR_Bc_CTRL 15) 0) = .ok ∧ wbit 0 0 = false ∧
    writeCode (testBuck 0 0 0) w (R.HDR_Bc_CTRL 15) 1 (hdrHandler w (R.HDR_Bc_CTRL 15) 1) = .ok ∧ wbit 1 0 = true ∧
    (testBuck 0 0 0).rb (R.HDR_Bc_CTRL 15) 0 = false ∧ inStandby (testBuck 0 0 0) = false ∧ (testBuck 0 0 0).rb (R.HDR_Bc_STATUS 15) 1 = false ∧
    writeCode (testBuck 0 2 0) w (R.HDR_Bc_CTRL 15) 1 (hdrHandler w (R.HDR_Bc_CTRL 15) 1) = .ok ∧ (testBuck 0 2 0).rb (R.HDR_Bc_STATUS 15) 1 = true ∧
    writeCode (testBuck 1 2 0) w (R.HDR_Bc_STATUS 15) 2 (hdrHandler w (R.HDR_Bc_STATUS 15) 2) = .ok ∧ wbit 2 1 = true ∧
    (testBuck 1 2 0).rb (R.HDR_Bc_CTRL 15) 0 = true ∧ (testBuck 1 2 0).rb (R.HDR_Bc_STATUS 15) 1 = true := by decide +kernel

theorem test_wit_stale : let s := testMem [(R.HDR_CTRL, 2)] [(4, 0x80)]
    (!(s.group 0).stale && s.rb R.HDR_CTRL 1 && !inStandby s && (groupOf s s.reg (groupBank s.reg) 0).rail && staleDue s 0) = true ∧
    ({} : Device).rb R.HDR_CTRL 1 = false := by decide +kernel

/-! ### Active and standby -/

/-- A unit in a state of a pair, lane 1 up or down, after some resends. -/
def testPair (state link resends : Nat) : Device :=
  { testDev [(R.RDG_STATUS, state), (R.RDG_LINK, link)] with
    rdg := { resends := [(1, resends)], held := if resends = 3 then [(15, [1])] else [] } }

theorem test_wit_pair : rdgState ({} : Device) = 0 ∧ inStandby ({} : Device) = false ∧ pairActive ({} : Device) = false ∧
    ({} : Device).rdg.awaiting = none ∧ ({} : Device).rdg.evidence = none ∧ (testPair 2 2 3).rb R.RDG_LINK 1 = true ∧
    3 ≤ (testPair 2 2 3).rdg.resends.getD 0 1 ∧ (testPair 2 2 2).rdg.resends.getD 0 1 < 3 ∧ (testPair 2 2 2).rb R.RDG_LINK 1 = true ∧
    (testPair 2 0 0).rb R.RDG_LINK 1 = false ∧ (testDev [(R.RDG_CTRL, 0)]).rb R.RDG_CTRL 2 = false ∧ rdgState (testPair 2 2 3) ≠ 0 ∧
    (testPair 2 2 3).rdg.ridgeMiss < 2 ∧ ridgeUp (testPair 2 2 3) = false ∧ (testPair 2 2 2).rdg.held = [] ∧
    (testPair 2 2 3).rdg.held = (15, [1]) :: [] := by decide +kernel

theorem test_wit_health : let r := List.replicate 60 (0x5a : Byte) ++ leBytes 4 (crc32c (List.replicate 60 0x5a))
    r.length = 64 ∧ leAt r 60 4 = crc32c (r.take 60) ∧ ([] : List Byte).length ≠ 64 ∧ rdgState (testPair 2 2 0) ≠ 0 := by decide +kernel

/-! ### Reset, supply and update -/

theorem test_wit_resets : let w := Who.session 0
    (testDev [(R.SYS_WDT_CFG, 0x10064)]).rb R.SYS_WDT_CFG 16 = true ∧ (testDev [(R.SYS_WDT_CFG, 0x64)]).rb R.SYS_WDT_CFG 16 = false ∧
    writeCode testKeeper w R.SYS_CMD 0xf (sysHandler w R.SYS_CMD 0xf) = .ok ∧ wbit 0xf 0 = true ∧
    writeCode testKeeper w R.SYS_CMD 1 (sysHandler w R.SYS_CMD 1) = .ok ∧ wbit 1 1 = false ∧
    writeCode testKeeper .safety R.SYS_WDT_KICK 0x4B49434B (sysHandler .safety R.SYS_WDT_KICK 0x4B49434B) = .ok ∧
    ({} : Device).sys.released = none ∧ ({} : Device).sys.hot = false ∧ ({ sys := { released := some 0 } } : Device).sys.released ≠ none ∧
    ({} : Device).sys.slot = none ∧ (testDev [(R.BOOT_STATUS, 4)]).rf R.BOOT_STATUS 3 0 ≠ 0 ∧ (testDev [(R.BOOT_STATUS, 4)]).rf R.BOOT_STATUS 3 0 ≠ 1 := by
  decide +kernel

/-- With supply work under way, in brace state or not. -/
def testSupply (saving tally : Bool) (status : Nat) : Device :=
  { testDev [(R.SYS_STATUS, status)] with sys := { saving := saving }, mtr := { tally := tally } }

theorem test_wit_supply : (testSupply true true 4).mtr.tally = true ∧ (testSupply false false 0).mtr.tally = false ∧ testArmed.mtr.tally = false ∧
    testArmed.shw.running = true ∧ (testSupply false false 0).shw.running = false ∧ (testSupply false true 4).sys.saving = false ∧
    (testSupply true true 4).sys.saving = true ∧ (testSupply false false 0).sys.pwrErase = false ∧ braced (testSupply false true 4) = true ∧
    braced (testSupply false true 0) = false := by decide +kernel

theorem test_wit_holdup : let w := Who.session 0
    (testDev [(R.SYS_HU_PERIOD, 0)]).rf R.SYS_HU_PERIOD 10 0 = 0 ∧ (testDev [(R.SYS_HU_PERIOD, 2047), (R.SYS_STATUS, 4)]).rf R.SYS_HU_PERIOD 10 0 ≠ 0 ∧
    braced (testDev [(R.SYS_HU_PERIOD, 2047), (R.SYS_STATUS, 4)]) = true ∧ braced (testDev [(R.SYS_HU_PERIOD, 2047)]) = false ∧
    ({} : Device).sys.holdup = false ∧ (let s : Device := { sys := { holdup := true } }; s.sys.holdup = true ∧ s.upd.checking = false) ∧
    writeCode testKeeper w R.SYS_CMD 0xe (sysHandler w R.SYS_CMD 0xe) = .ok ∧ wbit 0xe 0 = false ∧ wbit 0xe 1 = true ∧ wbit 0xe 2 = true ∧ wbit 0xe 3 = true ∧
    (let s := { testKeep [(R.BOOT_TRIAL, 1)] with sys := { trialFrom := some 3 } }
     s.sys.trialFrom = some 3 ∧ s.rb R.BOOT_TRIAL 0 = true ∧ writeCode s (.core 0 true) R.BOOT_TRIAL 2 (sysHandler (.core 0 true) R.BOOT_TRIAL 2) = .ok ∧ wbit 2 1 = true) ∧
    testKeeper.rb R.BOOT_TRIAL 0 = false ∧ testKeeper.sys.trialFrom = none ∧ writeCode testKeeper (.core 0 true) R.BOOT_TRIAL 2 (sysHandler (.core 0 true) R.BOOT_TRIAL 2) = .ok := by
  decide +kernel

/-- A unit in an update state, a handover and a block being waited for. -/
def testUpdate (state : Nat) : Device :=
  { testKeep [(R.UPD_STATE, state)] with
    upd := { writing := some (0, []), handover := some 7, safetyOld := some (1, 2, 3), imageReset := true, drvNow := some 511 }, clock := 2000000 }

theorem test_wit_update : let w := Who.session 0
    ({} : Device).upd.writing = none ∧ (testUpdate 1).upd.writing ≠ none ∧
    writeCode (testUpdate 1) w R.UPD_CMD 1 (updHandler w R.UPD_CMD 1) = .ok ∧ wbit 1 0 = true ∧ wbit 1 1 = false ∧ wbit 1 2 = false ∧
    updState (testUpdate 3) ≠ 2 ∧ updState (testUpdate 2) = 2 ∧ updState (testUpdate 2) ≠ 3 ∧ updState (testUpdate 3) = 3 ∧
    ({} : Device).upd.handover = none ∧ (testUpdate 5).upd.handover = some 7 ∧ ({} : Device).upd.safetyOld = none ∧
    (testUpdate 5).upd.safetyOld = some (1, 2, 3) ∧ 3 + 1000000 < (testUpdate 5).clock ∧ updState (testUpdate 4) ≠ 5 ∧ (testUpdate 5).upd.imageReset = true ∧
    updState (testUpdate 2) < 3 ∧ 7 < updState (testUpdate 8) ∧ (testUpdate 5).upd.drvNow ≠ none := by decide +kernel

end
end

section
/-! PROOFS. Register access (R8 to R12, R93, R361, R368, R398): what a rejected access leaves, a plain register's write, and a read-to-clear read. -/

namespace Sys2Proof.Machine

/-! ### The commands -/

/-- The commands that read one register (R10, R86, R369). -/
def readCommands (w : Who) (off : Nat) : List Instr := [.rcRegisterRead w off, .octetsLoRead w off, .latchingLoRead w off]

/-- Each read command answers what the read of the register gives. -/
theorem runs_readCommand {s : State} {w : Who} {off : Nat} {c : Instr} {P : Device → Prop} (hc : c ∈ readCommands w off)
    (p : P (answerRead (readReg w off s.dev))) : s.runs c P := by
  simp only [readCommands, List.mem_cons, List.not_mem_nil, or_false] at hc
  rcases hc with rfl | rfl | rfl <;> exact State.runs_of (fun d => answerRead (readReg w off d)) rfl p

theorem runs_registerWrite {s : State} {w : Who} {off : Nat} {v : Word} {P : Device → Prop} (p : P (writeReg w off v s.dev)) :
    s.runs (.registerWrite w off v) P := State.runs_of (writeReg w off v) rfl p

/-! ### Addresses -/

theorem addressCheck_misaligned {off : Nat} (h : off % 4 ≠ 0) : addressCheck off = .align := if_pos h

theorem addressCheck_past_end {off : Nat} (h : off % 4 = 0) (e : mapEnd ≤ off) : addressCheck off = .noSuch := by
  simp [addressCheck, h, e]

theorem addressCheck_inside {off : Nat} (h : off % 4 = 0) (e : off < mapEnd) : addressCheck off = .ok := by
  simp [addressCheck, h, e]

/-- The registers that belong to the agents lie inside the map (R93). -/
theorem agentsOnly_lt_mapEnd {off : Nat} (h : agentsOnly off = true) : off < mapEnd := by
  unfold agentsOnly R.SCH_SUB_W0 R.SCH_SUB_RESULT R.SCH_Cc_HANDLE at h
  simp only [Bool.or_eq_true, Bool.and_eq_true, decide_eq_true_eq] at h
  unfold mapEnd
  omega

/-- The alignment of a value is asked of registers inside the map alone (R127, R164, R104, R117). -/
theorem valueAlign_past_end {off : Nat} (v : Word) (e : mapEnd ≤ off) : valueAlign off v = .ok := by
  unfold mapEnd at e
  simp [valueAlign, show ¬ off < 0x102000 by omega, show ¬ off < 0x71000 by omega]

theorem valueAlign_eq_ok_or_align (off : Nat) (v : Word) : valueAlign off v = .ok ∨ valueAlign off v = .align := by
  unfold valueAlign
  split_ifs
  · exact .inr rfl
  · exact .inr rfl
  · exact .inl rfl

@[simp] theorem firstCode_ok_cons (l : List Code) : firstCode (.ok :: l) = firstCode l := rfl

theorem firstCode_cons_of_ne {c : Code} (h : c ≠ .ok) (l : List Code) : firstCode (c :: l) = c := if_neg h

/-- A write at a bad address fails by the address: the alignment of the value, which is judged before, is asked inside the map alone and has the code of
a misaligned address (R520). -/
theorem accessCode_bad_address {off : Nat} (s : Device) (w : Who) (v : Word) (bad : addressCheck off ≠ .ok) :
    accessCode s w off v = addressCheck off := by
  unfold accessCode
  rcases valueAlign_eq_ok_or_align off v with hv | hv
  · rw [hv, firstCode_ok_cons, firstCode_cons_of_ne bad]
  · have misaligned : off % 4 ≠ 0 := fun m => by
      have e : mapEnd ≤ off := not_lt.mp fun lt => bad (addressCheck_inside m lt)
      rw [valueAlign_past_end v e] at hv
      cases hv
    rw [hv, addressCheck_misaligned misaligned]
    rfl

/-! ### Rejected reads -/

/-- A read at a bad address answers the address's code and changes nothing else (R8, R9). -/
theorem answerRead_bad_address {off : Nat} (s : Device) (w : Who) (bad : addressCheck off ≠ .ok) :
    answerRead (readReg w off s) = s.answer (addressCheck off) := by
  simp [readReg, bad, answerRead]

/-- A session's read of a register that belongs to the agents is refused (R93). -/
theorem answerRead_agentsOnly {off : Nat} (s : Device) (k : Nat) (good : addressCheck off = .ok) (ag : agentsOnly off = true) :
    answerRead (readReg (.session k) off s) = s.answer .locked := by
  simp [readReg, good, ag, answerRead]

/-! ### Writes -/

/-- A write to a register with no rule of its own is judged by the common checks, then by its value (R520). -/
theorem writeCode_plainHandler (s : Device) (w : Who) (off : Nat) (v : Word) :
    writeCode s w off v (plainHandler w off v) = if accessCode s w off v = .ok then offsetValueCode off v else accessCode s w off v := by
  unfold writeCode plainHandler
  split_ifs with a
  · by_cases c : offsetValueCode off v = .ok
    · rw [a, c]; rfl
    · rw [a, firstCode_ok_cons, firstCode_ok_cons, firstCode_cons_of_ne c]
  · exact firstCode_cons_of_ne a _

/-- A rejected write of such a register changes nothing but the answer, which names the register (R12). -/
theorem regWrite_plainHandler_rejected {s : Device} {w : Who} {off : Nat} {v : Word}
    (no : writeCode s w off v (plainHandler w off v) ≠ .ok) :
    regWrite s w off v (plainHandler w off v) = s.answerAt (writeCode s w off v (plainHandler w off v)) off := regWrite_rejected no

/-- An offset that no register lies at has no rule of its own. -/
theorem writeHandler_unlisted {off : Nat} (w : Who) (v : Word) (no : specAt off = none) : writeHandler w off v = plainHandler w off v := by
  simp [writeHandler, isShadowed, blockHandler, no]

theorem specAt_bad_address {off : Nat} (bad : addressCheck off ≠ .ok) : specAt off = none := by
  by_cases m : off % 4 = 0
  · exact specAt_past_end off (not_lt.mp fun lt => bad (addressCheck_inside m lt))
  · exact specAt_misaligned off m

/-- A write at a bad address answers the address's code and changes nothing else (R8, R9). -/
theorem writeReg_bad_address {off : Nat} (s : Device) (w : Who) (v : Word) (bad : addressCheck off ≠ .ok) :
    writeReg w off v s = s.answerAt (addressCheck off) off := by
  have code : writeCode s w off v (plainHandler w off v) = addressCheck off := by
    rw [writeCode_plainHandler, accessCode_bad_address s w v bad, if_neg bad]
  rw [writeReg, writeHandler_unlisted w v (specAt_bad_address bad), regWrite_plainHandler_rejected (code ▸ bad), code]

/-- Every access at a bad address answers the address's code, a write with the offset, and changes nothing else. -/
theorem runs_bad_address (s : State) (w : Who) {off : Nat} (v : Word) (bad : addressCheck off ≠ .ok) :
    (∀ c ∈ readCommands w off, s.runs c fun d => d = s.dev.answer (addressCheck off)) ∧
      s.runs (.registerWrite w off v) fun d => d = s.dev.answerAt (addressCheck off) off :=
  ⟨fun _ hc => runs_readCommand hc (answerRead_bad_address s.dev w bad), runs_registerWrite (writeReg_bad_address s.dev w v bad)⟩

/-- Settles O17: an address that fails its check fails every read and write before anything else, and an agents' register fails a session's read. -/
theorem badAddressesAreRejected : Obligations.BadAddressesAreRejected := by
  intro s w off v
  refine ⟨fun m => ?_, fun m e => ?_, fun ag m k c hc => ?_⟩
  · have code := addressCheck_misaligned m
    have rejected := runs_bad_address s w v (off := off) (by rw [code]; decide)
    rwa [code] at rejected
  · have code := addressCheck_past_end m e
    have rejected := runs_bad_address s w v (off := off) (by rw [code]; decide)
    rwa [code] at rejected
  · exact runs_readCommand hc (answerRead_agentsOnly s.dev k (addressCheck_inside m (agentsOnly_lt_mapEnd ag)) ag)

/-! ### Plain registers -/

/-- The row of a plain register: RW access, neither shadowed nor kept per reader, without LK bits. -/
theorem plainRegs_spec {off : Nat} (h : off ∈ plainRegs) :
    ∃ r, specAt off = some r ∧ r.access = .rw ∧ r.sh = false ∧ r.banked = false ∧ r.lk = 0 := by
  have rows : ∀ o ∈ plainRegs, (specAt o).any (fun r => r.access = .rw && !r.sh && !r.banked && r.lk = 0) = true := by decide
  obtain ⟨r, hr, row⟩ := (Option.any_eq_true ..).mp (rows off h)
  simp only [Bool.and_eq_true, Bool.not_eq_true', decide_eq_true_eq] at row
  obtain ⟨⟨⟨rw, sh⟩, banked⟩, lk⟩ := row
  exact ⟨r, hr, rw, sh, banked, lk⟩

/-- A plain register lies outside the ranges that ask for more than the Keeper's right (R93, R142, R295), and is not BOOT_TRIAL. -/
theorem plainRegs_unreserved {off : Nat} (h : off ∈ plainRegs) :
    agentsOnly off = false ∧ isLayer15 off = false ∧ isCalReg off = false ∧ off ≠ R.BOOT_TRIAL := by
  revert off; decide

theorem plainRegs_addressCheck {off : Nat} (h : off ∈ plainRegs) : addressCheck off = .ok := by
  revert off; decide

theorem plainRegs_valueAlign {off : Nat} (v : Word) (h : off ∈ plainRegs) : valueAlign off v = .ok := by
  simp only [plainRegs, List.mem_cons, List.not_mem_nil, or_false] at h
  rcases h with rfl | rfl | rfl | rfl | rfl <;> rfl

/-- No plain register has a rule of its own. -/
theorem plainRegs_writeHandler {off : Nat} (w : Who) (v : Word) (h : off ∈ plainRegs) : writeHandler w off v = plainHandler w off v := by
  obtain ⟨r, hr, _, sh, _, _⟩ := plainRegs_spec h
  have rule : blockHandler w off v = plainHandler w off v := by
    simp only [plainRegs, List.mem_cons, List.not_mem_nil, or_false] at h
    unfold blockHandler
    rw [hr]
    rcases h with rfl | rfl | rfl | rfl | rfl <;> rfl
  simp [writeHandler, isShadowed, hr, sh, rule]

/-- A unit that is no part of a pair applies no standby rule (R387, R398). -/
theorem standbyCheck_alone {s : Device} (alone : rdgState s = 0) (w : Who) (off : Nat) : standbyCheck s w off = .ok := by
  simp [standbyCheck, inStandby, alone]

/-- A unit that is no part of a pair forwards no write (R398). -/
theorem forwardWrite_alone {s : Device} (alone : rdgState s = 0) (off : Nat) (v : Word) (p : Nat) : forwardWrite off v p s = s := by
  simp [forwardWrite, ridgeTell, pairActive, alone]

/-- Before its value is looked at, a session's write of a plain register fails only by not being the Keeper's (R10, R361). -/
theorem accessCode_plainRegs {s : Device} {off : Nat} (h : off ∈ plainRegs) (alone : rdgState s = 0) (k : Nat) (v : Word) :
    accessCode s (.session k) off v = if s.kpr.keeper = some k then .ok else .notKeeper := by
  obtain ⟨r, hr, rw, _, banked, lk⟩ := plainRegs_spec h
  obtain ⟨noAgent, noLayer, noCal, noTrial⟩ := plainRegs_unreserved h
  have right : rightCheck s (.session k) off r v = if s.kpr.keeper = some k then .ok else .notKeeper := by
    by_cases keeper : s.kpr.keeper = some k <;>
      simp [rightCheck, isKeeper, keeper, banked, noAgent, noLayer, noCal, noTrial, rw, lk]
  unfold accessCode
  simp only [plainRegs_valueAlign v h, plainRegs_addressCheck h, standbyCheck_alone alone, hr, right, firstCode_ok_cons]
  split_ifs <;> rfl

/-- The code of a session's write of a plain register: the Keeper's is judged by the value alone. -/
theorem writeCode_plainRegs {s : Device} {off : Nat} (h : off ∈ plainRegs) (alone : rdgState s = 0) (k : Nat) (v : Word) :
    writeCode s (.session k) off v (plainHandler (.session k) off v) =
      if s.kpr.keeper = some k then offsetValueCode off v else .notKeeper := by
  rw [writeCode_plainHandler, accessCode_plainRegs h alone]
  by_cases keeper : s.kpr.keeper = some k <;> simp [keeper]

theorem writeReg_plainRegs_rejected {s : Device} {w : Who} {off : Nat} {v : Word} (h : off ∈ plainRegs)
    (no : writeCode s w off v (plainHandler w off v) ≠ .ok) :
    writeReg w off v s = s.answerAt (writeCode s w off v (plainHandler w off v)) off := by
  rw [writeReg, plainRegs_writeHandler w v h, regWrite_plainHandler_rejected no]

/-- An accepted write of a plain register is its store: a unit that is no part of a pair forwards nothing. -/
theorem writeReg_plainRegs_stored {s : Device} {w : Who} {off : Nat} {v : Word} (h : off ∈ plainRegs) (alone : rdgState s = 0)
    (ok : writeCode s w off v (plainHandler w off v) = .ok) : writeReg w off v s = storeWrite w off v (s.answer .ok) := by
  obtain ⟨r, hr, _, _, banked, _⟩ := plainRegs_spec h
  have other : R.RDG_STATUS ≠ off := by
    rintro rfl
    revert h; decide
  have still : rdgState (storeWrite w off v (s.answer .ok)) = 0 := by
    rw [← alone, rdgState, rdgState, Device.rf, Device.rf, Device.rn, Device.rn, storeWrite_reg hr banked, if_neg other]
    rfl
  rw [writeReg, plainRegs_writeHandler w v h, regWrite_ok ok]
  exact forwardWrite_alone still off v _

/-- Settles O18: the write's code is the Keeper check, then the value's; what is accepted is stored, what is not leaves the answer alone. -/
theorem plainRegisterWrites : Obligations.PlainRegisterWrites := by
  intro s off k v h alone
  have code := writeCode_plainRegs h alone k v
  refine ⟨fun keeper ok => ?_, fun keeper bad => ?_, fun other => ?_⟩
  · rw [if_pos keeper, ok] at code
    obtain ⟨r, hr, _, _, banked, _⟩ := plainRegs_spec h
    obtain ⟨took, keeps, frame⟩ := storeWrite_took (w := .session k) (v := v) (s.dev.answer .ok) (off := off) (by simp [hr, banked])
    refine runs_registerWrite ?_
    rw [writeReg_plainRegs_stored h alone code]
    exact ⟨took, keeps, frame⟩
  · rw [if_pos keeper] at code
    exact runs_registerWrite (by rw [writeReg_plainRegs_rejected h (code ▸ bad), code]; rfl)
  · rw [if_neg other] at code
    exact runs_registerWrite (by rw [writeReg_plainRegs_rejected h (by rw [code]; decide), code]; rfl)

/-! ### Read-to-clear reads -/

/-- The offsets that read as NET_TXTS_TAG are the six ports' tags. -/
theorem txtsTag_of_mod {off : Nat} (lo : 0x40000 ≤ off) (hi : off < 0x4C000) (m : off % 0x2000 = R.NET_TXTS_TAG 0 % 0x2000) :
    ∃ p, p < 6 ∧ off = R.NET_TXTS_TAG p := by
  unfold R.NET_TXTS_TAG at *
  exact ⟨(off - 0x40000) / 0x2000, by omega, by omega⟩

/-- A read of a read-to-clear register that latches nothing and serves no latch: its value, and the clear by a reader that may (R10, R368). -/
theorem readReg_rc {off : Nat} (s : Device) (w : Who) (good : addressCheck off = .ok) (rc : isRc off = true) (anyone : agentsOnly off = false)
    (octets : isOctetsLo off = false) (one : oneRead off = false) (latchesNone : companions off = [])
    (tag : ∀ p, p < 6 → off ≠ R.NET_TXTS_TAG p) :
    readReg w off s = (if clears s w then clearRead off s else s, .ok, liveValue s w off) := by
  have frame : off ≠ R.SHOW_FRAME_LO := by rintro rfl; revert rc; decide
  have time : off ≠ R.SHOW_TIME_LO := by rintro rfl; revert rc; decide
  have noTag : ¬ ((0x40000 ≤ off ∧ off < 0x4C000) ∧ off % 0x2000 = R.NET_TXTS_TAG 0 % 0x2000) := fun ⟨⟨lo, hi⟩, m⟩ => by
    obtain ⟨p, hp, e⟩ := txtsTag_of_mod lo hi m
    exact tag p hp e
  unfold readReg
  cases w <;> simp [good, anyone, frame, time, noTag, octets, one, latchesNone, rc]

/-- Settles O19: the read is answered with the live value, and the clear touches the register and its sample mark alone. -/
theorem readToClearReads : Obligations.ReadToClearReads := by
  intro s w off good rc anyone octets one latchesNone tag
  refine runs_readCommand (c := .rcRegisterRead w off) (w := w) (off := off) (by simp [readCommands]) ?_
  rw [readReg_rc s.dev w good rc anyone octets one latchesNone tag]
  cases clears s.dev w
  · exact ⟨rfl, rfl, Device.keepsRegs_refl _ rfl, rfl⟩
  · refine ⟨rfl, ?_, ?_, rfl⟩
    · exact s.dev.reg_setReg_same off 0
    · exact Device.keepsRegs_congr (Device.keepsRegs_setReg (Device.keepsRegs_refl _ rfl) off 0 (by simp)) rfl

end Sys2Proof.Machine
end

section
/-! PROOFS. The raster (R16, R17, R28, R34, R39, R228, R439): the lines of a frame, its boundary, the latch, the restart and the first start. -/

namespace Sys2Proof.Machine

/-! ### Time passes to an instant -/

/-- A count that lies ahead is reached by adding the signed difference (R18). -/
theorem add_wrapDiff {a b : Nat} (ahead : 0 < wrapDiff 64 a b) : (b + (wrapDiff 64 a b).toNat) % 2 ^ 64 = a % 2 ^ 64 := by
  unfold wrapDiff sext at *
  split_ifs at * <;> omega

theorem Device.elapse_time (s : Device) (n : Nat) : (s.elapse n).shw.time = (s.shw.time + n) % 2 ^ 64 := rfl

theorem elapseShow_ahead {t : Nat} {s : Device} (ahead : 0 < wrapDiff 64 t s.shw.time) :
    elapseShow t s = s.elapse (wrapDiff 64 t s.shw.time).toNat := if_pos ahead

theorem elapseShow_time {t : Nat} {s : Device} (ahead : 0 < wrapDiff 64 t s.shw.time) : (elapseShow t s).shw.time = t % 2 ^ 64 := by
  rw [elapseShow_ahead ahead, Device.elapse_time, add_wrapDiff ahead]

@[simp] theorem elapseShow_regs (t : Nat) (s : Device) : (elapseShow t s).regs = s.regs := by
  rcases elapseShow_cases t s with h | ⟨n, h⟩ <;> rw [h]
  rfl

@[simp] theorem elapseShow_rdg (t : Nat) (s : Device) : (elapseShow t s).rdg = s.rdg := by
  rcases elapseShow_cases t s with h | ⟨n, h⟩ <;> rw [h]
  rfl

theorem elapseShow_modeOf (t : Nat) (s : Device) : modeOf (elapseShow t s).reg = modeOf s.reg :=
  congrArg modeOf (funext (Device.reg_congr (elapseShow_regs t s)))

theorem elapseShow_running (t : Nat) (s : Device) : (elapseShow t s).shw.running = s.shw.running := by
  obtain ⟨running, _⟩ := still_fields (elapseShow_same t s).still
  exact running

theorem elapseShow_sel (t : Nat) (s : Device) : (elapseShow t s).shw.sel = s.shw.sel := by
  obtain ⟨_, _, _, sel, _⟩ := still_fields (elapseShow_same t s).still
  exact sel

theorem atLine_eq (l : Nat) (s : Device) : atLine l s =
    { elapseShow (lineInstant s l) s with shw := { (elapseShow (lineInstant s l) s).shw with line := l, sub := 0 } } := rfl

theorem setLine_time (l n : Nat) (s : Device) :
    ({ s with shw := { s.shw with line := l, sub := n } } : Device).shw.time = s.shw.time := rfl

theorem atLine_time {l : Nat} {s : Device} (ahead : 0 < wrapDiff 64 (lineInstant s l) s.shw.time) :
    (atLine l s).shw.time = lineInstant s l % 2 ^ 64 := by
  rw [atLine_eq, setLine_time, elapseShow_time ahead]

/-- A count's successor (R29). -/
theorem frameAdd_one (f : Nat) : frameAdd f 1 = (f + 1) % 2 ^ 48 := by
  unfold frameAdd
  omega

/-! ### The next line -/

theorem visitLine_core (l : Nat) (s : Device) (noReset : s.upd.imageReset = false) :
    (visitLine l s).shw.core = (atLine l s).shw.core := by
  unfold visitLine
  dsimp only
  split
  · exact commitPoint_core _ ((atLine_same l s).im.trans noReset)
  · exact runEntries_core _

theorem runLines_done (n : Nat) {upTo : Nat} {s : Device} (done : upTo ≤ s.shw.line) : runLines n upTo s = s := by
  have still : ¬ s.shw.line < upTo := not_lt.mpr done
  cases n with
  | zero => exact if_neg still
  | succ n =>
    unfold runLines
    split
    · next l stop =>
      have between := nextStop_mem stop
      omega
    · exact if_neg still

/-- The run to the next line stops there alone: the timebase is that of the line's start. -/
theorem runTo_next_core {s : Device} (noReset : s.upd.imageReset = false) (running : s.shw.running = true)
    (inside : s.shw.line + 1 < s.shw.mode.vTotal) : (runTo (s.shw.line + 1) s).shw.core = (atLine (s.shw.line + 1) s).shw.core := by
  obtain ⟨n, hn⟩ : ∃ n, s.shw.mode.vTotal = n + 1 := ⟨s.shw.mode.vTotal - 1, by omega⟩
  rw [runTo, if_pos (by simp [running, inside]), hn, runLines]
  split
  · next l stop =>
    obtain ⟨after, upTo⟩ := nextStop_mem stop
    obtain rfl : l = s.shw.line + 1 := by omega
    rw [runLines_done n (visitLine_line _ s noReset).1.ge, visitLine_core _ s noReset]
  · rw [if_pos (Nat.lt_succ_self _)]

/-- Settles O6: the run to the next line stops only there, and the run to line V_ACTIVE passes the commit point on its way. -/
theorem rasterRunsWithinItsFrame : Obligations.RasterRunsWithinItsFrame := by
  intro s ⟨running, _, noPeer, noReset⟩ _
  refine ⟨fun inside => State.runs_of lineStart rfl ?_, fun before inside => State.runs_of pointReached rfl ?_⟩
  · obtain ⟨same, line⟩ := runTo_line (s.dev.shw.line + 1) s.dev noReset running (Nat.lt_succ_self _) inside
    obtain ⟨time, _, sub⟩ := core_fields (runTo_next_core noReset running inside)
    exact ⟨line, sub.trans (atLine_line _ _).2, (same.frame noPeer).2, same.mode, fun ahead => time.trans (atLine_time ahead)⟩
  · obtain ⟨same, line⟩ := runTo_line s.dev.shw.mode.vActive s.dev noReset running before inside
    exact ⟨line, (same.frame noPeer).2, same.mode, runTo_passes _ s.dev noReset noPeer running before le_rfl inside⟩

/-! ### The frame boundary -/

/-- The count of a raster that numbers its own frames (R28): a FRAME_SET that is due, or one more. -/
theorem nextCount_own {s : Device} (own : s.ownCount) (t : Nat) : nextCount t s =
    if s.shw.armedAt.isSome && (!s.rb R.SHOW_FRAME_SET_CTRL 1 || s.shw.ppsSeen) then
      (s.get64 R.SHOW_FRAME_SET_LO R.SHOW_FRAME_SET_HI % 2 ^ 48, true)
    else (frameAdd s.shw.frame 1, false) := by
  have notPtp : ¬ (s.shw.sel = 0 && s.shw.phase ≠ .holdover) = true := by
    rcases own with h | h <;> simp [h]
  rw [nextCount, if_neg notPtp]

/-- What the boundary's count is made from does not change while time passes. -/
theorem nextCount_elapseShow {s : Device} (own : s.ownCount) (t u : Nat) : nextCount u (elapseShow t s) = nextCount u s := by
  rcases elapseShow_cases t s with h | ⟨n, h⟩ <;> rw [h]
  rw [nextCount_own own, nextCount_own (s := s.elapse n) own]
  rfl

/-- At the end of the last line the next frame starts, once its instant has come (R17). -/
theorem frameBoundary_of_lastLine {s : Device} (running : s.shw.running = true) (settled : s.shw.restarting = none)
    (last : s.shw.line + 1 = s.shw.mode.vTotal) :
    frameBoundary s = startFrame (elapseShow (lineInstant s s.shw.mode.vTotal) s) := by
  simp [frameBoundary, running, settled, runTo_here (s.shw.mode.vTotal - 1) s (by omega)]

/-- With no FRAME_SET armed the frame that starts at an instant is one more, under the mode in the registers. -/
theorem startFrame_next {s : Device} (own : s.ownCount) (noPeer : s.rdg.peer = none) (idle : s.shw.armedAt = none) (t : Nat) :
    let u := startFrame (elapseShow t s)
    u.shw.frame = (s.shw.frame + 1) % 2 ^ 48 ∧ u.shw.line = 0 ∧ u.shw.sub = 0 ∧ u.shw.running = s.shw.running ∧ u.shw.mode = modeOf s.reg := by
  have count : ∀ i, nextCount i (elapseShow t s) = (frameAdd s.shw.frame 1, false) := fun i => by
    rw [nextCount_elapseShow own, nextCount_own own, if_neg (by simp [idle])]
  obtain ⟨line, sub, _, mode, running, _, frame⟩ := startFrame_fields (elapseShow t s) (by rw [count])
  refine ⟨?_, line, sub, running.trans (elapseShow_running t s), mode.trans (elapseShow_modeOf t s)⟩
  rw [frame (by rw [elapseShow_rdg, noPeer]), count, frameAdd_one]

/-- A FRAME_SET that is due is the count of the frame that starts, and is no longer armed (R28). -/
theorem startFrame_frameSet {s : Device} (own : s.ownCount) (noPeer : s.rdg.peer = none) (armed : s.shw.armedAt ≠ none)
    (due : s.rb R.SHOW_FRAME_SET_CTRL 1 = false ∨ s.shw.ppsSeen = true) (t : Nat) :
    let u := startFrame (elapseShow t s)
    u.shw.frame = s.get64 R.SHOW_FRAME_SET_LO R.SHOW_FRAME_SET_HI % 2 ^ 48 ∧ u.shw.armedAt = none ∧ u.shw.line = 0 := by
  have set : (s.shw.armedAt.isSome && (!s.rb R.SHOW_FRAME_SET_CTRL 1 || s.shw.ppsSeen)) = true := by
    rcases due with now | seen
    · simp [now, Option.isSome_iff_ne_none.mpr armed]
    · simp [seen, Option.isSome_iff_ne_none.mpr armed]
  have count : ∀ i, nextCount i (elapseShow t s) = (s.get64 R.SHOW_FRAME_SET_LO R.SHOW_FRAME_SET_HI % 2 ^ 48, true) := fun i => by
    rw [nextCount_elapseShow own, nextCount_own own, if_pos set]
  obtain ⟨line, free, frame⟩ := startFrame_set (elapseShow t s) (by rw [count]) (by rw [elapseShow_rdg, noPeer])
  exact ⟨by rw [frame, count], free, line⟩

/-- Settles O7: the boundary's count is the device's own, and a frame's start takes it at line 0. -/
theorem frameBoundaryAdvancesTheCount : Obligations.FrameBoundaryAdvancesTheCount := by
  intro s ⟨running, settled, noPeer, _⟩ own last
  have boundary := frameBoundary_of_lastLine running settled last
  refine ⟨fun idle => State.runs_of frameBoundary rfl ?_, fun armed due => State.runs_of frameBoundary rfl ?_⟩
  · rw [boundary, ← running]
    exact startFrame_next own noPeer idle _
  · rw [boundary]
    exact startFrame_frameSet own noPeer armed due _

/-! ### The latch instant -/

@[simp] theorem bootCheck_pipe (s : Device) : (bootCheck s).pipe = s.pipe := by
  unfold bootCheck
  dsimp only
  split_ifs <;> simp

/-- The end of a latch keeps the place of the raster, where no peer has been heard that could move it, and what is left of the pipeline. -/
theorem bootCheck_fields {s t : Device} (core : t.shw.core = s.shw.core) (here : place t.rdg.peer t.shw = place s.rdg.peer s.shw)
    (noPeer : s.rdg.peer = none) :
    let u := bootCheck t
    u.shw.line = s.shw.line ∧ u.shw.frame = s.shw.frame ∧ u.shw.time = s.shw.time ∧ u.pipe = t.pipe := by
  obtain ⟨time, line, _⟩ := core_fields ((bootCheck_core t).trans core)
  obtain ⟨_, frame, _⟩ := place_fields ((bootCheck_place t).trans here) noPeer
  exact ⟨line, frame, time, bootCheck_pipe t⟩

/-- The content frames that are due at a latch instant: all but the newest (R228). -/
def dueFrames (s : Device) : List FrameCtx := s.pipe.filter (fun d => d.content ≠ frameAdd s.shw.frame (-1))

/-- The latch of a content frame, and what it leaves of the pipeline. -/
def latchOf (d : FrameCtx) (due : List FrameCtx) (s : Device) : Device :=
  let t := pairLatch (some d) (openWindow (hdrLatch d s))
  { t with pipe := t.pipe.filter (fun e => !due.any (fun x => x.content = e.content)) }

/-- On the latch line the newest frame that is due is latched, and all that are due leave the pipeline. -/
theorem latchInstant_due {s : Device} (running : s.shw.running = true) (line : s.shw.line = s.shw.mode.latch) (latches : noLatches s = false)
    {d : FrameCtx} (due : (dueFrames s).getLast? = some d) : latchInstant s = bootCheck (latchOf d (dueFrames s) s) := by
  unfold dueFrames at due
  simp only [latchInstant, running, runTo_here _ s line.ge, latches, Bool.not_true, Bool.false_eq_true, if_false, due]
  rfl

theorem latchInstant_none {s : Device} (running : s.shw.running = true) (line : s.shw.line = s.shw.mode.latch) (latches : noLatches s = false)
    (due : dueFrames s = []) : latchInstant s = bootCheck (pairLatch none s) := by
  unfold dueFrames at due
  simp only [latchInstant, running, runTo_here _ s line.ge, latches, Bool.not_true, Bool.false_eq_true, if_false, due, List.getLast?_nil]

theorem latchOf_core (d : FrameCtx) (due : List FrameCtx) (s : Device) : (latchOf d due s).shw.core = s.shw.core := by
  simp [latchOf]

theorem latchOf_place (d : FrameCtx) (due : List FrameCtx) (s : Device) :
    place (latchOf d due s).rdg.peer (latchOf d due s).shw = place s.rdg.peer s.shw := by
  simp [latchOf]

/-- No frame of the list stays in the pipeline. -/
theorem latchOf_empties {d c e : FrameCtx} {due : List FrameCtx} {s : Device} (hc : c ∈ due) (he : e ∈ (latchOf d due s).pipe) :
    e.content ≠ c.content := by
  unfold latchOf at he
  generalize pairLatch (some d) (openWindow (hdrLatch d s)) = t at he
  have kept := (List.mem_filter.mp he).2
  simp only [Bool.not_eq_true', List.any_eq_false, decide_eq_true_eq] at kept
  exact fun same => kept c hc same.symm

/-- Settles O8: what is latched leaves with every older frame, and nothing of the latch moves the raster. -/
theorem latchInstantEmptiesThePipeline : Obligations.LatchInstantEmptiesThePipeline := by
  intro s ⟨running, _, noPeer, _⟩ line latches
  refine State.runs_of latchInstant rfl ?_
  have isDue : ∀ c ∈ s.dev.pipe, c.content ≠ frameAdd s.dev.shw.frame (-1) → c ∈ dueFrames s.dev := fun c hc old =>
    List.mem_filter.mpr ⟨hc, decide_eq_true old⟩
  cases due : (dueFrames s.dev).getLast? with
  | some d =>
    rw [latchInstant_due running line latches due]
    obtain ⟨sameLine, sameFrame, sameTime, left⟩ := bootCheck_fields (latchOf_core d (dueFrames s.dev) s.dev) (latchOf_place d _ s.dev) noPeer
    refine ⟨sameLine, sameFrame, sameTime, ?_⟩
    rw [left]
    exact fun c hc old e he => latchOf_empties (isDue c hc old) he
  | none =>
    have empty := List.getLast?_eq_none_iff.mp due
    rw [latchInstant_none running line latches empty]
    obtain ⟨sameLine, sameFrame, sameTime, _⟩ := bootCheck_fields (pairLatch_core none s.dev) (pairLatch_place none s.dev) noPeer
    refine ⟨sameLine, sameFrame, sameTime, fun c hc old => absurd (isDue c hc old) ?_⟩
    rw [empty]
    exact List.not_mem_nil

/-! ### The raster starts -/

theorem startRaster_eq (f t : Nat) (s : Device) : startRaster f t s = rasterAt f (elapseShow t s) := rfl

theorem rasterAt_fields (f : Nat) (s : Device) :
    let u := rasterAt f s
    u.shw.running = true ∧ u.shw.line = 0 ∧ u.shw.frame = f ∧ u.shw.restarting = none ∧ u.shw.mode = modeOf s.reg ∧ u.shw.sel = s.shw.sel ∧
      u.rdg = s.rdg := ⟨rfl, rfl, rfl, rfl, rfl, rfl, rfl⟩

/-- The raster that starts stands at line 0 of its frame, with its source. -/
theorem startRaster_fields (f t : Nat) (s : Device) :
    let u := startRaster f t s
    u.shw.running = true ∧ u.shw.line = 0 ∧ u.shw.frame = f ∧ u.shw.restarting = none ∧ u.shw.mode = modeOf s.reg ∧ u.shw.sel = s.shw.sel ∧
      u.rdg = s.rdg := by
  have fields := rasterAt_fields f (elapseShow t s)
  rwa [← startRaster_eq, elapseShow_modeOf, elapseShow_sel, elapseShow_rdg] at fields

/-- A frame's actions leave the raster as it stands: no peer has been heard that could move it. -/
theorem frameActions_fields (old : Nat) {s t : Device} (core : t.shw.core = s.shw.core)
    (here : place t.rdg.peer t.shw = place s.rdg.peer s.shw) (noPeer : s.rdg.peer = none) :
    let u := frameActions old t
    u.shw.running = s.shw.running ∧ u.shw.line = s.shw.line ∧ u.shw.mode = s.shw.mode ∧ u.shw.sel = s.shw.sel ∧ u.shw.frame = s.shw.frame := by
  obtain ⟨line, _, _, mode, running, _, sel, _⟩ := core_all ((frameActions_core old t).trans core)
  obtain ⟨_, frame, _⟩ := place_fields ((frameActions_place old t).trans here) noPeer
  exact ⟨running, line, mode, sel, frame⟩

/-- The mode depends on its own registers alone (R31). -/
theorem modeOf_congr {rd rd' : Nat → Word} (h : ∀ o ∈ modeRegs, rd o = rd' o) : modeOf rd = modeOf rd' := by
  unfold modeOf
  rw [h R.SHOW_V_TOTAL (by decide), h R.SHOW_V_ACTIVE (by decide), h R.SHOW_LATCH_LINE (by decide), h R.SHOW_RATE_NUM (by decide),
    h R.SHOW_RATE_DEN (by decide)]

/-! ### The restart -/

theorem restartMoved_sel (s : Device) : (restartMoved s).shw.sel = s.shw.sel := by
  unfold restartMoved
  dsimp only
  split <;> rfl

theorem restartMoved_rdg (s : Device) : (restartMoved s).rdg = s.rdg := by
  unfold restartMoved
  dsimp only
  split <;> rfl

theorem restartMoved_mode (s : Device) {o : Nat} (h : o ∈ modeRegs) : (restartMoved s).reg o = s.reg o := by
  unfold restartMoved
  dsimp only
  split
  · rw [Device.reg_set64, Device.reg_setN]
    revert h o
    simp only [modeRegs, List.mem_cons, List.not_mem_nil, or_false]
    rintro o (rfl | rfl | rfl | rfl | rfl) <;> rfl
  · rfl

/-- A restart that is aligned leaves nothing waiting: MODE_STATE.RESTARTING and REALIGN are cleared (R39). -/
def restartCleared (s : Device) : Device := ((restartMoved s).setB R.SHOW_MODE_STATE 1 false).setB R.SHOW_CTRL 2 false

theorem restartInstant_internal {s : Device} (h : s.shw.sel = 4 ∨ s.shw.sel = 5) (m : Mode) (start limit : Nat) :
    restartInstant m start limit s = (start, true) := by
  unfold restartInstant
  rcases h with h | h <;> simp only [h]

/-- Under free-run or word clock a restart is aligned at the end of the old frame, and the new one is F + 1 (R39). -/
theorem restartPlan_internal {s : Device} (h : s.shw.sel = 4 ∨ s.shw.sel = 5) (limit : Nat) : restartPlan limit s =
    (restartCleared s, frameAdd s.shw.frame 1, movedTime (restartOffset s) s.shw.restartFrom) := by
  have moved : (restartMoved s).shw.sel = 4 ∨ (restartMoved s).shw.sel = 5 := by rwa [restartMoved_sel]
  have notPtp : s.shw.sel ≠ 0 := by rcases h with h | h <;> rw [h] <;> decide
  simp [restartPlan, restartInstant_internal moved, notPtp, restartCleared]

theorem restartCleared_rdg (s : Device) : (restartCleared s).rdg = s.rdg := restartMoved_rdg s

theorem restartCleared_mode (s : Device) : modeOf (restartCleared s).reg = modeOf s.reg := by
  refine modeOf_congr fun o ho => ?_
  have other : o ≠ R.SHOW_CTRL ∧ o ≠ R.SHOW_MODE_STATE := by
    revert o; decide
  rw [restartCleared, Device.reg_setB, if_neg other.1, Device.reg_setB, if_neg other.2, restartMoved_mode s ho]

/-- The restart under an internal source: frame F + 1 starts on the new raster (R39). -/
theorem rasterRestart_internal {s : Device} {limit : Nat} (waits : s.shw.restarting = some limit)
    (last : s.shw.line + 1 = s.shw.mode.vTotal) (internal : s.shw.sel = 4 ∨ s.shw.sel = 5) :
    rasterRestart s = frameActions s.shw.frame (refreshHolding ((startRaster (frameAdd s.shw.frame 1)
      (movedTime (restartOffset s) s.shw.restartFrom) (restartCleared s)).raise Ev.MODE_APPLIED (frameAdd s.shw.frame 1))) := by
  have here : runTo (s.shw.mode.vTotal - 1) s = s := runTo_here _ _ (by omega)
  simp only [rasterRestart, waits, Option.isSome_some, if_true, here, restartPlan_internal internal, stepCount]

theorem restarted_fields (old p : Nat) {s : Device} (noPeer : s.rdg.peer = none) :
    let t := frameActions old (refreshHolding (s.raise Ev.MODE_APPLIED p))
    t.shw.running = s.shw.running ∧ t.shw.line = s.shw.line ∧ t.shw.mode = s.shw.mode ∧ t.shw.frame = s.shw.frame ∧
      t.shw.restarting = s.shw.restarting := by
  obtain ⟨running, line, mode, _, frame⟩ := frameActions_fields old (t := refreshHolding (s.raise Ev.MODE_APPLIED p)) (s := s)
    (by simp) (by simp) noPeer
  exact ⟨running, line, mode, frame, by simp⟩

/-- Settles O9: the plan of an internal source is frame F + 1 at the old frame's end, and the actions of a frame's start keep the raster. -/
theorem restartStartsTheNewRaster : Obligations.RestartStartsTheNewRaster := by
  intro s waits noPeer last internal
  obtain ⟨limit, waits⟩ := Option.ne_none_iff_exists'.mp waits
  refine State.runs_of rasterRestart rfl ?_
  rw [rasterRestart_internal waits last internal]
  obtain ⟨running, line, frame, settled, mode, _, rdg⟩ := startRaster_fields (frameAdd s.dev.shw.frame 1)
    (movedTime (restartOffset s.dev) s.dev.shw.restartFrom) (restartCleared s.dev)
  obtain ⟨runs, atLine, inMode, inFrame, noRestart⟩ := restarted_fields s.dev.shw.frame (frameAdd s.dev.shw.frame 1)
    (by rw [rdg, restartCleared_rdg, noPeer])
  refine ⟨?_, atLine.trans line, noRestart.trans settled, runs.trans running, ?_⟩
  · rw [inFrame, frame, frameAdd_one]
  · rw [inMode, mode, restartCleared_mode]

/-! ### The first raster -/

theorem rasterBegun_fields {s : Device} (noPeer : s.rdg.peer = none) :
    let t := rasterBegun s
    t.shw.running = s.shw.running ∧ t.shw.line = s.shw.line ∧ t.shw.mode = s.shw.mode ∧ t.shw.sel = s.shw.sel ∧ t.shw.frame = s.shw.frame := by
  unfold rasterBegun
  exact frameActions_fields _ (by simp) (by simp) noPeer

/-- Selecting a source changes neither the registers nor the frame count, and no peer is heard by it. -/
theorem selectSource_fields (k : Nat) (s : Device) :
    let t := selectSource k s
    t.shw.sel = k ∧ t.shw.frame = s.shw.frame ∧ t.regs = s.regs ∧ t.rdg = s.rdg := by
  simp [selectSource]

/-- The device whose raster starts on its first source, which is not PTP. -/
def sourced (s : Device) : Device :=
  let t := if firstSource s = s.shw.sel then s else selectSource (firstSource s) s
  { t with shw := { t.shw with mode := modeOf t.reg } }

theorem sourced_fields (s : Device) :
    let t := sourced s
    t.shw.sel = firstSource s ∧ t.shw.frame = s.shw.frame ∧ t.regs = s.regs ∧ t.rdg = s.rdg := by
  unfold sourced
  split
  · next same => exact ⟨same.symm, rfl, rfl, rfl⟩
  · exact selectSource_fields _ s

theorem rasterFirst_eq (s : Device) : rasterFirst s =
    if s.shw.running || s.rf R.BOOT_STATUS 3 0 ≠ 2 then s
    else
      let m := modeOf (if firstSource s = s.shw.sel then s else selectSource (firstSource s) s).reg
      let t := if firstSource s = 0 then ptpAligned (sourced s) m (sourced s).shw.time else (sourced s).shw.time
      rasterBegun (startRaster (if firstSource s = 0 then ptpFrame (sourced s) m t else (sourced s).shw.frame) t (sourced s)) := rfl

theorem rasterFirst_notPtp {s : Device} (stopped : s.shw.running = false) (loaded : s.rf R.BOOT_STATUS 3 0 = 2) (notPtp : firstSource s ≠ 0) :
    rasterFirst s = rasterBegun (startRaster s.shw.frame (sourced s).shw.time (sourced s)) := by
  rw [rasterFirst_eq, if_neg (by simp [stopped, loaded])]
  simp only [if_neg notPtp, (sourced_fields s).2.1]

/-- What the first raster starts as (R28, R439). -/
theorem rasterFirst_fields {s : Device} (stopped : s.shw.running = false) (noPeer : s.rdg.peer = none) (loaded : s.rf R.BOOT_STATUS 3 0 = 2)
    (notPtp : firstSource s ≠ 0) :
    let t := rasterFirst s
    t.shw.running = true ∧ t.shw.line = 0 ∧ t.shw.frame = s.shw.frame ∧ t.shw.mode = modeOf s.reg ∧ t.shw.sel = firstSource s := by
  rw [rasterFirst_notPtp stopped loaded notPtp]
  obtain ⟨sel, _, regs, rdg⟩ := sourced_fields s
  obtain ⟨running, line, frame, _, mode, source, alone⟩ := startRaster_fields s.shw.frame (sourced s).shw.time (sourced s)
  obtain ⟨runs, atLine, inMode, onSource, inFrame⟩ := rasterBegun_fields (by rw [alone, rdg, noPeer])
  refine ⟨runs.trans running, atLine.trans line, inFrame.trans frame, ?_, ?_⟩
  · rw [inMode, mode, funext (Device.reg_congr regs)]
  · rw [onSource, source, sel]

/-- The first source depends on what is held of the sources, the mode and the registers alone. -/
theorem firstSource_congr {s t : Device} (srcs : t.shw.srcs = s.shw.srcs) (mode : t.shw.mode = s.shw.mode) (regs : t.regs = s.regs) :
    firstSource t = firstSource s := by
  have reg : t.reg = s.reg := funext (Device.reg_congr regs)
  have ok : srcOk t = srcOk s := by
    funext k
    simp only [srcOk, Device.src, srcs, mode, reg]
  have order : srcOrder t = srcOrder s := by
    unfold srcOrder Device.rf Device.rn
    rw [reg]
  rw [firstSource, firstSource, ok, order]

/-- BOOT_SRC_WAIT at its end: the wait passes, is told, and the raster starts. -/
theorem srcWaitExpired_begins {s : Device} (stopped : s.shw.running = false) (loaded : s.rf R.BOOT_STATUS 3 0 = 2) :
    ∃ t p, srcWaitExpired s = rasterFirst ((s.elapseTo t).raise Ev.SRC_WAIT_EXPIRED p) :=
  ⟨_, _, if_neg (by simp [stopped, loaded])⟩

/-- The wait changes neither the mode in the registers nor the first source. -/
theorem waited_reads (s : Device) (t p : Nat) :
    modeOf ((s.elapseTo t).raise Ev.SRC_WAIT_EXPIRED p).reg = modeOf s.reg ∧
      firstSource ((s.elapseTo t).raise Ev.SRC_WAIT_EXPIRED p) = firstSource s :=
  ⟨modeOf_congr fun o _ => by simp, firstSource_congr (by simp) (by simp) (by simp)⟩

/-- Settles O10: the first raster starts with the frame count that stands, on the first source; waiting for a source is all that can keep it. -/
theorem rasterStartsOnTheFirstSource : Obligations.RasterStartsOnTheFirstSource := by
  intro s stopped noPeer loaded
  refine ⟨fun notPtp => ⟨fun due => State.runs_of rasterStart rfl ?_, State.runs_of srcWaitExpired rfl ?_⟩, fun free later early =>
    State.runs_of rasterStart rfl ?_⟩
  · have goesOn : rasterStart s.dev = rasterFirst s.dev := by
      rcases due with source | first | waited
      · simp [rasterStart, source]
      · simp [rasterStart, first]
      · simp [rasterStart, not_lt.mpr waited]
    rw [goesOn]
    exact rasterFirst_fields stopped noPeer loaded notPtp
  · obtain ⟨t, p, begun⟩ := srcWaitExpired_begins stopped loaded
    rw [begun]
    obtain ⟨mode, source⟩ := waited_reads s.dev t p
    have fields := rasterFirst_fields (s := (s.dev.elapseTo t).raise Ev.SRC_WAIT_EXPIRED p) (by simpa using stopped) (by simpa using noPeer)
      ((Device.rf_of_reg (by simp) 3 0).trans loaded) (source ▸ notPtp)
    rwa [mode, source, Device.raise_shw, Device.elapseTo_shw_frame] at fields
  · exact if_pos (by simp [free, later, early])

end Sys2Proof.Machine
end

section
/-! PROOFS. The idle step, time sources and PPS (R16, R20 to R30). -/

namespace Sys2Proof.Machine

/-! ### The idle step -/

/-- Settles O2: the cycle that passes is the step's 4 ns. -/
theorem idleStepPassesOneCycle : Obligations.IdleStepPassesOneCycle := by
  intro s idle
  refine ⟨{ s with dev := s.dev.elapse cycleNs }, ?_, idle, rfl, rfl, rfl⟩
  rw [step, idle]

/-! ### What is held of the sources -/

@[simp] theorem Device.src_setSrc_same (s : Device) (k : Nat) (x : SrcState) : (s.setSrc k x).src k = x := by
  simp [Device.src, Device.setSrc, Table.getD_setD]

theorem Device.src_setSrc_other (s : Device) {k j : Nat} (x : SrcState) (other : j ≠ k) : (s.setSrc k x).src j = s.src j := by
  simp [Device.src, Device.setSrc, Table.getD_setD, other]

/-- What is held of the sources lies in the timebase alone. -/
theorem Device.src_congr {s t : Device} (same : t.shw.srcs = s.shw.srcs) (k : Nat) : t.src k = s.src k := by
  rw [Device.src, Device.src, same]

@[simp] theorem Device.src_raise (s : Device) (ev p k : Nat) : (s.raise ev p).src k = s.src k := rfl

/-! ### The loss of a source -/

/-- What a loss leaves of a source (R21). -/
def lostSrc (x : SrcState) : SrcState := { x with qualified := false, good := 0, bad := 0, lastEdge := none }

/-- The loss of a source that is not selected touches that source alone. -/
theorem srcLost_other {s : Device} {k : Nat} (other : s.shw.sel ≠ k) : srcLost k s = s.setSrc k (lostSrc (s.src k)) := by
  refine if_pos ?_
  simp [Device.setSrc, other]

theorem srcLost_selected {s : Device} {k : Nat} (selected : s.shw.sel = k) (qualified : (s.src k).qualified = true) :
    srcLost k s = (beginHoldover (s.setSrc k (lostSrc (s.src k)))).raise Ev.LOCK_LOST k := by
  refine if_neg ?_
  simp [Device.setSrc, selected, qualified]

/-- What holdover begins with: the mean rate of the last 16 s of lock, from now on, under the source that was lost (R22, R24). -/
theorem beginHoldover_fields (s : Device) :
    let t := beginHoldover s
    t.shw.phase = .holdover ∧ t.shw.holdSince = some s.clock ∧ t.shw.sel = s.shw.sel ∧
      t.shw.rate = (meanRate s.clock s.shw.rates).getD s.shw.rate ∧ t.shw.srcs = s.shw.srcs ∧ t.evt = s.evt ∧
      s.keepsRegs t [R.SHOW_RATE_ADJ] ∧ t = { s with regs := t.regs, shw := t.shw } := by
  refine ⟨rfl, rfl, rfl, rfl, rfl, rfl, ?_, rfl⟩
  exact Device.keepsRegs_setReg (Device.keepsRegs_refl _ rfl) R.SHOW_RATE_ADJ _ (by simp)

/-- Each loss command is the loss of its source. -/
theorem runs_lossOf {s : State} {k : Nat} {P : Device → Prop} (hk : k < 5) (p : P (srcLost k s.dev)) : s.runs (lossOf k) P := by
  match k, hk with
  | 0, _ => exact State.runs_of (srcLost 0) rfl p
  | 1, _ => exact State.runs_unit (fun _ => decide (0 < 2)) (srcLost 1) rfl rfl p
  | 2, _ => exact State.runs_unit (fun _ => decide (1 < 2)) (srcLost 2) rfl rfl p
  | 3, _ => exact State.runs_of (srcLost 3) rfl p
  | 4, _ => exact State.runs_of (srcLost 4) rfl p

/-- Settles O11: the selected source's loss is holdover's begin and LOCK_LOST, any other's touches that source alone. -/
theorem sourceLossBeginsHoldover : Obligations.SourceLossBeginsHoldover := by
  intro s k hk qualified
  have lost := s.dev.src_setSrc_same k (lostSrc (s.dev.src k))
  refine ⟨fun selected => runs_lossOf hk ?_, fun other => runs_lossOf hk ?_⟩
  · rw [srcLost_selected selected qualified]
    obtain ⟨phase, since, sel, rate, srcs, evt, regs, frame⟩ := beginHoldover_fields (s.dev.setSrc k (lostSrc (s.dev.src k)))
    refine ⟨phase, since, sel.trans selected, ?_, rate, ?_, fun j hj => ?_, regs, ?_⟩
    · rw [Device.src_raise, Device.src_congr (s := s.dev.setSrc k (lostSrc (s.dev.src k))) srcs, lost]
      rfl
    · have quiet : s.dev.newEvents (beginHoldover (s.dev.setSrc k (lostSrc (s.dev.src k)))) [] := Device.newEvents_none evt
      have raised := Device.newEvents_raise quiet Ev.LOCK_LOST k
      rwa [Nat.mod_eq_of_lt (by omega)] at raised
    · exact (Device.src_congr srcs j).trans (s.dev.src_setSrc_other _ hj)
    · rw [frame]
      rfl
  · rw [srcLost_other other]
    exact ⟨by rw [lost]; rfl, fun j hj => s.dev.src_setSrc_other _ hj, rfl⟩

/-! ### Sources qualify -/

/-- A measurement of a source that is not selected is not taken (R22). -/
theorem measure_other {s : Device} {k : Nat} (other : s.shw.sel ≠ k) (off : Int) : measure k off s = s := if_pos (by simp [other])

/-- A source that is not selected qualifies on a running raster: the selection stays (R20). -/
theorem srcQualified_other {s : Device} {k : Nat} (running : s.shw.running = true) (other : s.shw.sel ≠ k) (unqualified : (s.src k).qualified = false) :
    srcQualified k s = s.setSrc k { s.src k with qualified := true, bad := 0, since := s.clock } := by
  unfold srcQualified
  rw [if_neg (by simp [unqualified])]
  have run : (s.setSrc k { s.src k with qualified := true, bad := 0, since := s.clock }).shw.running = true := running
  have sel : (s.setSrc k { s.src k with qualified := true, bad := 0, since := s.clock }).shw.sel ≠ k := other
  simp [run, sel]

/-- What is held of a source that qualifies at an instant where a condition holds. -/
def qualifiedIf (b : Bool) (now : Nat) (x : SrcState) : SrcState := if b then { x with qualified := true, bad := 0, since := now } else x

theorem qualifiedIf_qualified (b : Bool) (now : Nat) {x : SrcState} (unqualified : x.qualified = false) : (qualifiedIf b now x).qualified = b := by
  cases b
  · exact unqualified
  · rfl

@[simp] theorem qualifiedIf_good (b : Bool) (now : Nat) (x : SrcState) : (qualifiedIf b now x).good = x.good := by cases b <;> rfl

@[simp] theorem qualifiedIf_lastEdge (b : Bool) (now : Nat) (x : SrcState) : (qualifiedIf b now x).lastEdge = x.lastEdge := by cases b <;> rfl

theorem srcQualified_running (k : Nat) (s : Device) : (srcQualified k s).shw.running = s.shw.running := by
  unfold srcQualified selectSource
  dsimp only
  split_ifs <;> simp [Device.setSrc]

/-- The device once the count of a source's good measurements has been noted: at `n` of them it qualifies (R21). -/
def noteGood (k n : Nat) (x : SrcState) (s : Device) : Device := if x.good = n then srcQualified k (s.setSrc k x) else s.setSrc k x

theorem noteGood_running {s : Device} {k : Nat} (running : s.shw.running = true) (n : Nat) (x : SrcState) :
    (noteGood k n x s).shw.running = true := by
  unfold noteGood
  split_ifs
  · rw [srcQualified_running]; exact running
  · exact running

/-- Noting it for a source that is not selected touches that source alone. -/
theorem noteGood_other {s : Device} {k : Nat} (running : s.shw.running = true) (other : s.shw.sel ≠ k) (n : Nat) {x : SrcState}
    (unqualified : x.qualified = false) :
    let t := noteGood k n x s
    t.src k = qualifiedIf (decide (x.good = n)) s.clock x ∧ t = { s with shw := { s.shw with srcs := t.shw.srcs } } := by
  unfold noteGood
  have noted := s.src_setSrc_same k x
  by_cases all : x.good = n
  · rw [if_pos all, srcQualified_other (s := s.setSrc k x) running other (by rw [noted]; exact unqualified), noted]
    exact ⟨by rw [Device.src_setSrc_same, decide_eq_true all]; rfl, rfl⟩
  · rw [if_neg all]
    exact ⟨by rw [noted, decide_eq_false all]; rfl, rfl⟩

/-- The window's measurement of a source that is not selected: its count goes up, the last one qualifies it, and the raster is not measured. -/
theorem measure_noteGood {s : Device} {k : Nat} (running : s.shw.running = true) (other : s.shw.sel ≠ k) (n g : Nat) {x : SrcState}
    (unqualified : x.qualified = false) (count : x.good = min (n + 1) (g + 1)) (off : Int) :
    let t := measure k off (noteGood k (n + 1) x s)
    (t.src k).qualified = decide (n ≤ g) ∧ (t.src k).good = min (n + 1) (g + 1) ∧ (t.src k).lastEdge = x.lastEdge ∧
      t = { s with shw := { s.shw with srcs := t.shw.srcs } } := by
  obtain ⟨noted, frame⟩ := noteGood_other running other (n + 1) unqualified
  have unmeasured : measure k off (noteGood k (n + 1) x s) = noteGood k (n + 1) x s := measure_other (by rw [frame]; exact other) off
  dsimp only
  rw [unmeasured, noted]
  refine ⟨?_, by rw [qualifiedIf_good, count], by rw [qualifiedIf_lastEdge], frame⟩
  rw [qualifiedIf_qualified _ _ unqualified, count]
  exact decide_eq_decide.mpr (by omega)

/-- PTP's next offset that moved by less than 1 µs (R21, log 60). -/
theorem ptpTimed_still {s : Device} {origin rx e : Int} (last : s.shw.ptp.last = some e)
    (close : (rx - origin - s.shw.ptp.delay - e).natAbs < 256000) :
    ∃ off, ptpTimed origin rx s = measure 0 off (noteGood 0 8 { s.src 0 with good := min 8 ((s.src 0).good + 1) }
      (s.setPtp { s.shw.ptp with waits := none, ms := some (rx - origin), last := some (rx - origin - s.shw.ptp.delay) })) := by
  refine ⟨(rx - origin - s.shw.ptp.delay) / 256, ?_⟩
  simp only [ptpTimed, last, close, noteGood, decide_true, if_true, Device.src_setSrc_same]

/-- What is held of a source after an edge or a frame that fits. -/
def fitSrc (n edge : Nat) (x : SrcState) : SrcState := { x with good := min n (x.good + 1), bad := 0, lastEdge := some edge }

/-- A V pulse whose period fits (R21). -/
theorem glkPulse_fits {s : Device} {i e edge : Nat} (running : s.shw.running = true) (last : (s.src (i + 1)).lastEdge = some e)
    (fits : (wrapDiff 64 edge e * s.shw.mode.num - s.shw.mode.frameNum).natAbs * 10000 ≤ s.shw.mode.frameNum) :
    ∃ off, glkPulse i edge s = measure (i + 1) off (noteGood (i + 1) 8 (fitSrc 8 edge (s.src (i + 1))) s) := by
  have good := noteGood_running (s := s) (k := i + 1) running 8 (fitSrc 8 edge (s.src (i + 1)))
  refine ⟨rasterOffset (noteGood (i + 1) 8 (fitSrc 8 edge (s.src (i + 1))) s) (movedTime (sext 32
    ((noteGood (i + 1) 8 (fitSrc 8 edge (s.src (i + 1))) s).rn R.SHOW_GLK_DELAY)) edge), ?_⟩
  unfold glkPulse
  simp only [last, fits, decide_true, Option.isNone_some, Bool.false_eq_true, if_false, if_true]
  exact (if_neg (by decide)).trans (if_pos good)

/-- A valid timecode frame at the right rate (R21). -/
theorem ltcHeard_valid {s : Device} {num den edge : Nat} (running : s.shw.running = true)
    (rate : s.shw.mode.num * den = s.rf R.SHOW_LTC_CFG 3 0 * num * s.shw.mode.den) :
    ∃ off, ltcHeard true num den edge s = measure 3 off (noteGood 3 4 (fitSrc 4 edge (s.src 3)) s) := by
  have good := noteGood_running (s := s) (k := 3) running 4 (fitSrc 4 edge (s.src 3))
  refine ⟨rasterOffset (noteGood 3 4 (fitSrc 4 edge (s.src 3)) s) edge, ?_⟩
  unfold ltcHeard
  simp only [rate, decide_true, Bool.and_true, Bool.true_and, if_true]
  exact (if_neg (by decide)).trans (if_pos good)

/-- A word clock within 500 ppm of its rate that makes whole frames (R21). -/
theorem wclkWindow_fits {s : Device} {mHz : Nat} (whole : wclkWhole (s.reg R.SHOW_WCLK_CFG) s.shw.mode = true)
    (near : (((mHz : Nat) : Int) - ((1000 * wclkHz (s.reg R.SHOW_WCLK_CFG) : Nat) : Int)).natAbs * 2000 ≤ 1000 * wclkHz (s.reg R.SHOW_WCLK_CFG)) :
    wclkWindow mHz s = measure 4 0 (srcQualified 4 s) := if_pos (by simp only [near, whole, decide_true, Bool.and_self])

/-- Settles O12: each window's last measurement qualifies its source, and a source that is not selected is not measured. -/
theorem sourcesQualifyInTheirWindows : Obligations.SourcesQualifyInTheirWindows := by
  intro s running
  refine ⟨fun port domain seq origin rx e mine other unqualified last close => ?_, fun i e edge hi other unqualified last fits => ?_,
    fun num den edge other unqualified rate => ?_, fun mHz other unqualified whole near => ?_⟩
  · refine State.runs_of (ptpHeard (.sync port domain seq false origin rx)) rfl ?_
    have heard : ptpHeard (.sync port domain seq false origin rx) s.dev = ptpTimed origin rx s.dev := by
      simp [ptpHeard, mine]
    obtain ⟨off, timed⟩ := ptpTimed_still last close
    rw [heard, timed]
    obtain ⟨qualified, good, _, frame⟩ := measure_noteGood (s := s.dev.setPtp { s.dev.shw.ptp with
      waits := none, ms := some (rx - origin), last := some (rx - origin - s.dev.shw.ptp.delay) }) (k := 0) running other 7 (s.dev.src 0).good
      (x := { s.dev.src 0 with good := min 8 ((s.dev.src 0).good + 1) }) unqualified rfl off
    refine ⟨qualified, good, ?_, ?_⟩
    · rw [frame]; rfl
    · rw [frame]; rfl
  · refine State.runs_unit (fun _ => decide (i < 2)) (glkPulse i edge) rfl (decide_eq_true hi) ?_
    obtain ⟨off, pulse⟩ := glkPulse_fits running last fits
    rw [pulse]
    exact measure_noteGood (x := fitSrc 8 edge (s.dev.src (i + 1))) running other 7 (s.dev.src (i + 1)).good unqualified rfl off
  · refine State.runs_of (ltcHeard true num den edge) rfl ?_
    obtain ⟨off, heard⟩ := ltcHeard_valid (edge := edge) running rate
    rw [heard]
    obtain ⟨qualified, good, _, frame⟩ := measure_noteGood (x := fitSrc 4 edge (s.dev.src 3)) running other 3 (s.dev.src 3).good unqualified rfl off
    exact ⟨qualified, good, frame⟩
  · refine State.runs_of (wclkWindow mHz) rfl ?_
    rw [wclkWindow_fits whole near, srcQualified_other running other unqualified, measure_other (s := s.dev.setSrc 4 _) (by exact other)]
    exact ⟨by rw [Device.src_setSrc_same], rfl⟩

/-! ### The order of sources -/

/-- The order names sources by their numbers of R20. -/
theorem mem_srcOrder_lt {s : Device} {k : Nat} (h : k ∈ srcOrder s) : k < 6 := by
  unfold srcOrder at h
  dsimp only at h
  split_ifs at h
  · exact of_decide_eq_true (List.mem_filter.mp h).2
  · rcases List.mem_append.mp h with h | h
    · exact of_decide_eq_true (List.mem_filter.mp h).2
    · rw [List.mem_singleton.mp h]
      decide

theorem firstSource_lt (s : Device) : firstSource s < 6 := by
  unfold firstSource
  cases found : (srcOrder s).find? (srcOk s) with
  | none => decide
  | some k => exact mem_srcOrder_lt (List.mem_of_find?_eq_some found)

theorem earlierSources_lt {s : Device} {k : Nat} (h : k ∈ earlierSources s) : k < 6 :=
  mem_srcOrder_lt ((List.takeWhile_sublist _).subset (List.mem_filter.mp h).1)

/-- An earlier source is not the selected one. -/
theorem earlierSources_ne_sel {s : Device} {k : Nat} (h : k ∈ earlierSources s) : s.shw.sel ≠ k :=
  Ne.symm (of_decide_eq_true (List.mem_takeWhile_imp (p := fun j => decide (j ≠ s.shw.sel)) (List.mem_filter.mp h).1))

/-! ### Selection -/

/-- What a selection leaves (R22): the phase is measured anew, holdover is over, and SRC_CHANGE tells of another source. -/
theorem selectSource_spec {k : Nat} (s : Device) (hk : k < 6) :
    let t := selectSource k s
    t.shw.sel = k ∧ t.shw.phase = (if k = 5 then .freerun else .acquire) ∧ t.shw.holdSince = none ∧
      s.newEvents t (if s.shw.sel ≠ k then [(Ev.SRC_CHANGE, k)] else []) ∧ t = { s with shw := t.shw, evt := t.evt } := by
  unfold selectSource
  dsimp only
  refine ⟨by simp, by simp, by simp, ?_, ?_⟩
  · have quiet := Device.newEvents_none (s := s) (t := { s with shw := { s.shw with
      sel := k, phase := if k = 5 then .freerun else .acquire, locks := 0, measured := false, holdSince := none, stepDue := false,
      rates := [] } }) rfl
    have told := Device.newEvents_raiseIf quiet (decide (s.shw.sel ≠ k)) Ev.SRC_CHANGE k
    rw [Nat.mod_eq_of_lt (by omega)] at told
    simpa using told
  · cases decide (s.shw.sel ≠ k) <;> rfl

theorem elapseTo_eq (t : Nat) (s : Device) : s.elapseTo t = { s with clock := (s.elapseTo t).clock, shw := (s.elapseTo t).shw } := by
  unfold Device.elapseTo
  split <;> rfl

/-- A selection at an instant that lies ahead or has come. -/
theorem selectSource_elapseTo {k : Nat} (s : Device) (hk : k < 6) (t : Nat) :
    let u := selectSource k (s.elapseTo t)
    u.clock = max s.clock t ∧ s.newEvents u (if s.shw.sel ≠ k then [(Ev.SRC_CHANGE, k)] else []) ∧
      u = { s with clock := u.clock, shw := u.shw, evt := u.evt } := by
  obtain ⟨_, _, _, told, frame⟩ := selectSource_spec (s.elapseTo t) hk
  dsimp only
  refine ⟨by rw [frame]; exact s.elapseTo_clock t, ?_, ?_⟩
  · rw [Device.elapseTo_shw_sel] at told
    exact Device.newEvents_append (Device.newEvents_none (s.elapseTo_evt t)) told
  · have passed := elapseTo_eq t s
    generalize s.elapseTo t = u at *
    rw [frame, passed]

/-! ### Holdover's end and revert -/

theorem holdoverExpired_eq {s : Device} {t : Nat} (holds : s.shw.phase = .holdover) (since : s.shw.holdSince = some t) :
    holdoverExpired s = (selectSource (firstSource s) (s.elapseTo (t + 1000000000 * s.rf R.SHOW_HOLD_CFG 11 0))).raise
      Ev.HOLDOVER_EXPIRED s.shw.sel := by
  have first : ∀ u, firstSource (s.elapseTo u) = firstSource s := fun u => firstSource_congr (by simp) (by simp) (by simp)
  simp only [holdoverExpired, holds, since, first, Device.elapseTo_shw_sel]

/-- A source that has stayed qualified for REVERT_S is reselected, the first of them in the order (R26). -/
theorem sourceRevert_due {s : Device} (enabled : s.rb R.SHOW_CTRL 1 = true) (wait : s.rf R.SHOW_HOLD_CFG 27 16 ≠ 0) {k : Nat}
    (due : (earlierSources s).find? (fun j => revertTime s j ≤ s.clock) = some k) : sourceRevert s = selectSource k s := by
  unfold earlierSources revertTime at due
  simp [sourceRevert, enabled, wait, due]

/-- Where none has, the one that will have first is reselected then (R26). -/
theorem sourceRevert_first {s : Device} (enabled : s.rb R.SHOW_CTRL 1 = true) (wait : s.rf R.SHOW_HOLD_CFG 27 16 ≠ 0) {k : Nat} {rest : List Nat}
    (noneDue : (earlierSources s).find? (fun j => revertTime s j ≤ s.clock) = none)
    (first : sortBy (fun a b => decide (revertTime s a ≤ revertTime s b)) (earlierSources s) = k :: rest) :
    sourceRevert s = selectSource k (s.elapseTo (revertTime s k)) := by
  unfold earlierSources revertTime at *
  simp only [sourceRevert, enabled, wait, noneDue, first, Bool.not_true, decide_false, Bool.or_self, Bool.false_eq_true, if_false]

theorem sourceRevert_never {s : Device} (no : s.rb R.SHOW_CTRL 1 = false ∨ s.rf R.SHOW_HOLD_CFG 27 16 = 0 ∨ earlierSources s = []) :
    sourceRevert s = s := by
  unfold earlierSources at no
  rcases no with off | never | noEarlier
  · simp [sourceRevert, off]
  · simp [sourceRevert, never]
  · simp only [sourceRevert, noEarlier, sortBy, List.find?_nil, List.foldr_nil, ite_self]

/-- Settles O13: holdover ends and revert happens by a selection, at the instant that the order and the waits give. -/
theorem holdoverAndRevertSelectByTheOrder : Obligations.HoldoverAndRevertSelectByTheOrder := by
  intro s
  refine ⟨fun t holds since => State.runs_of holdoverExpired rfl ?_, fun enabled wait => ⟨fun k due => State.runs_of sourceRevert rfl ?_,
    fun nonempty early => State.runs_of sourceRevert rfl ?_⟩, fun never => State.runs_of sourceRevert rfl (sourceRevert_never never)⟩
  · rw [holdoverExpired_eq holds since]
    obtain ⟨sel, phase, ended, _, _⟩ := selectSource_spec (s.dev.elapseTo (t + 1000000000 * s.dev.rf R.SHOW_HOLD_CFG 11 0)) (firstSource_lt s.dev)
    obtain ⟨clock, told, frame⟩ := selectSource_elapseTo s.dev (firstSource_lt s.dev) (t + 1000000000 * s.dev.rf R.SHOW_HOLD_CFG 11 0)
    refine ⟨sel, phase, ended, clock, Device.newEvents_raise told Ev.HOLDOVER_EXPIRED s.dev.shw.sel, ?_⟩
    rw [frame]
    rfl
  · rw [sourceRevert_due enabled wait due]
    have earlier := List.mem_of_find?_eq_some due
    obtain ⟨sel, _, _, told, frame⟩ := selectSource_spec s.dev (earlierSources_lt earlier)
    rw [if_pos (earlierSources_ne_sel earlier)] at told
    exact ⟨sel, by rw [frame], told, frame⟩
  · have noneDue : (earlierSources s.dev).find? (fun j => revertTime s.dev j ≤ s.dev.clock) = none :=
      List.find?_eq_none.mpr fun k hk => by simpa using early k hk
    cases sorted : sortBy (fun a b => decide (revertTime s.dev a ≤ revertTime s.dev b)) (earlierSources s.dev) with
    | nil => exact absurd ((sortBy_eq_nil _ _).mp sorted) nonempty
    | cons k rest =>
      obtain ⟨earlier, least⟩ := sortBy_head (revertTime s.dev) _ k rest sorted
      rw [sourceRevert_first enabled wait noneDue sorted]
      obtain ⟨sel, _, _, _, _⟩ := selectSource_spec (s.dev.elapseTo (revertTime s.dev k)) (earlierSources_lt earlier)
      obtain ⟨clock, told, frame⟩ := selectSource_elapseTo s.dev (earlierSources_lt earlier) (revertTime s.dev k)
      rw [if_pos (earlierSources_ne_sel earlier)] at told
      rw [max_eq_right (early k earlier).le] at clock
      exact ⟨k, earlier, least, sel, clock, told, frame⟩

/-! ### PPS -/

/-- What is left of a second of show time (R30). -/
def toNextSecond (s : Device) : Nat := (1000000000 - s.shw.time % 1000000000) % 1000000000

theorem toNextSecond_spec (s : Device) : toNextSecond s < 1000000000 ∧ (s.shw.time + toNextSecond s) % 1000000000 = 0 := by
  unfold toNextSecond
  omega

/-- The PPS output is driven. -/
def drivePps (b : Bool) (s : Device) : Device := ({ s with shw := { s.shw with ppsOut := b } } : Device).send (.pin pinPps) [b2n b]

theorem drivePps_fields (b : Bool) (s : Device) :
    let t := drivePps b s
    t.shw.ppsOut = b ∧ t.shw.time = s.shw.time ∧ t.clock = s.clock ∧ t.sent = s.sent ++ [⟨.pin pinPps, [b2n b]⟩] ∧
      t = { s with shw := t.shw, sent := t.sent } := ⟨rfl, rfl, rfl, rfl, rfl⟩

theorem ppsRise_eq {s : Device} (enabled : s.rb R.SHOW_CTRL 4 = true) (low : s.shw.ppsOut = false) :
    ppsRise s = drivePps true (s.elapse (toNextSecond s)) := if_neg (by simp [enabled, low])

theorem ppsFall_eq {s : Device} (high : s.shw.ppsOut = true) :
    ppsFall s = drivePps false (s.elapse (100000000 - s.shw.time % 1000000000)) := if_neg (by simp [high])

/-- A drive after a time: local time passes, and the frame is the pin, the timebase and the clock. -/
theorem drivePps_elapse (b : Bool) (n : Nat) (s : Device) :
    let t := drivePps b (s.elapse n)
    t = { s with clock := t.clock, shw := t.shw, sent := t.sent } := by
  obtain ⟨_, _, clock, _, frame⟩ := drivePps_fields b (s.elapse n)
  dsimp only
  rw [clock]
  exact frame

/-- An event raised after a wait. -/
theorem raise_elapseTo_eq (t ev p : Nat) (s : Device) :
    let u := (s.elapseTo t).raise ev p
    u = { s with clock := u.clock, shw := u.shw, evt := u.evt } := by
  unfold Device.elapseTo
  split <;> rfl

theorem ppsMissing_eq {s : Device} {t : Nat} (armed : s.shw.armedAt = some t) (onPps : s.rb R.SHOW_FRAME_SET_CTRL 1 = true)
    (unseen : s.shw.ppsSeen = false) : ppsMissing s = (s.elapseTo (t + 1500000000)).raise Ev.PPS_IN_MISSING 0 := by
  simp [ppsMissing, armed, onPps, unseen]

/-- Settles O14: the pulse follows whole seconds, and the request is kept while its edge is missing. -/
theorem ppsFollowsTheShowTime : Obligations.PpsFollowsTheShowTime := by
  intro s
  refine ⟨fun enabled low => State.runs_of ppsRise rfl ?_, fun high inPulse => State.runs_of ppsFall rfl ?_, ?_,
    fun t armed onPps unseen => State.runs_of ppsMissing rfl ?_⟩
  · rw [ppsRise_eq enabled low]
    obtain ⟨out, time, clock, sent, _⟩ := drivePps_fields true (s.dev.elapse (toNextSecond s.dev))
    obtain ⟨less, whole⟩ := toNextSecond_spec s.dev
    refine ⟨toNextSecond s.dev, less, whole, clock, ?_, out, sent, drivePps_elapse _ _ _⟩
    rw [time, Device.elapse_time]
  · rw [ppsFall_eq high]
    obtain ⟨out, _, clock, sent, _⟩ := drivePps_fields false (s.dev.elapse (100000000 - s.dev.shw.time % 1000000000))
    exact ⟨_, by omega, clock, out, sent, drivePps_elapse _ _ _⟩
  · exact State.runs_of (fun d => { d with shw := { d.shw with ppsSeen := d.shw.ppsSeen || d.shw.armedAt.isSome } }) rfl rfl
  · rw [ppsMissing_eq armed onPps unseen]
    refine ⟨?_, ?_, ?_, ?_⟩
    · rw [Device.raise_shw, Device.elapseTo_shw_armedAt, armed]
    · rw [Device.raise_clock, Device.elapseTo_clock]
    · exact Device.newEvents_raise (Device.newEvents_none (s.dev.elapseTo_evt _)) Ev.PPS_IN_MISSING 0
    · exact raise_elapseTo_eq ..

end Sys2Proof.Machine
end

section
/-! PROOFS. SHOW's own registers and background work (R28, R37, R39, R45, R49, R51, R522): control writes, direct writes, snapshots, light-list swaps. -/

namespace Sys2Proof.Machine

/-! ### Accepted writes -/

/-- An accepted write whose effect is the plain store with a change of the timebase: what it stores, what it leaves, and its answer. -/
theorem regWrite_stored {s : Device} {w : Who} {off : Nat} {v : Word} {h : Handler} {x : ShowState} (ok : writeCode s w off v h = .ok)
    (plain : (specAt off).map (·.banked) = some false)
    (effect : h.effect (s.answer .ok) = { storeWrite w off v (s.answer .ok) with shw := x }) :
    let t := regWrite s w off v h
    t.shw = x ∧ s.tookWrite t off v ∧ s.keepsRegs t [off] ∧ t.resp = { code := .ok } ∧
      t = { s with regs := t.regs, shw := t.shw, resp := t.resp, sent := t.sent } := by
  obtain ⟨took, keeps, frame⟩ := storeWrite_took (w := w) (v := v) (s.answer .ok) plain
  dsimp only
  rw [regWrite_ok ok, effect, forwardWrite_eq]
  refine ⟨rfl, took, keeps, ?_, ?_⟩
  · rw [frame]; rfl
  · rw [frame]; rfl

/-- The plain store leaves the timebase. -/
theorem storeWrite_shw {w : Who} {off : Nat} {v : Word} (s : Device) : (storeWrite w off v s).shw = s.shw := by
  rw [storeWrite_eq]

/-- SHOW_FRAME_SET_CTRL with ARM arms the request (R28). -/
theorem frameSetCtrl_effect (w : Who) {v : Word} (arm : wbit v 0 = true) (s : Device) : (showHandler w R.SHOW_FRAME_SET_CTRL v).effect s =
    { storeWrite w R.SHOW_FRAME_SET_CTRL v s with shw := { s.shw with armedAt := some s.clock, ppsSeen := false } } := by
  have effect : (showHandler w R.SHOW_FRAME_SET_CTRL v).effect s =
      (let t := storeWrite w R.SHOW_FRAME_SET_CTRL v s
       if wbit v 0 then { t with shw := { t.shw with armedAt := some t.clock, ppsSeen := false } } else t) := rfl
  rw [effect, if_pos arm, storeWrite_eq]

/-- SHOW_CTRL is stored as it is written (R39, R56). -/
theorem showCtrl_effect (w : Who) (v : Word) (s : Device) : (showHandler w R.SHOW_CTRL v).effect s =
    { storeWrite w R.SHOW_CTRL v s with shw := s.shw } := by
  have effect : (showHandler w R.SHOW_CTRL v).effect s = storeWrite w R.SHOW_CTRL v s := rfl
  rw [effect, storeWrite_eq]

/-- SHOW_LL_CTRL: SWAP begins the validation (R45); where the list is not enabled on a running raster nothing is armed (R51). -/
theorem llCtrl_effect (w : Who) {v : Word} {s : Device} (noArm : (!s.rb R.SHOW_LL_CTRL 0 && wbit v 0 && s.shw.running) = false) :
    (showHandler w R.SHOW_LL_CTRL v).effect s =
      { storeWrite w R.SHOW_LL_CTRL v s with shw := if wbit v 1 then { s.shw with llSwap := .validating } else s.shw } := by
  have effect : (showHandler w R.SHOW_LL_CTRL v).effect s = (llCtrlHandler w v).effect s := rfl
  have kept := storeWrite_shw (w := w) (off := R.SHOW_LL_CTRL) (v := v) s
  rw [effect]
  unfold llCtrlHandler
  dsimp only
  generalize storeWrite w R.SHOW_LL_CTRL v s = t at *
  rw [← kept] at noArm ⊢
  cases wbit v 1 <;> exact if_neg (by rw [Bool.not_eq_true]; exact noArm)

/-- Settles O15: each write is its register's store, with what the written bits begin in the timebase. -/
theorem showControlWritesTakeEffect : Obligations.ShowControlWritesTakeEffect := by
  intro s w v
  refine ⟨fun ok arm => State.runs_of (fun d => regWrite d w R.SHOW_FRAME_SET_CTRL v (showHandler w R.SHOW_FRAME_SET_CTRL v)) rfl ?_,
    fun ok realign => State.runs_of (fun d => regWrite d w R.SHOW_CTRL v (showHandler w R.SHOW_CTRL v)) rfl ?_,
    fun ok swap same => State.runs_of (fun d => regWrite d w R.SHOW_LL_CTRL v (showHandler w R.SHOW_LL_CTRL v)) rfl ?_,
    fun ok noSwap idle => State.runs_of (fun d => regWrite d w R.SHOW_LL_CTRL v (showHandler w R.SHOW_LL_CTRL v)) rfl ?_⟩
  · exact regWrite_stored ok (by decide) (frameSetCtrl_effect w arm _)
  · obtain ⟨shw, took, keeps, _, frame⟩ := regWrite_stored ok (by decide) (showCtrl_effect w v _)
    refine ⟨tookWrite_w1s took 2 (by decide) (by decide) realign, took, keeps, ?_⟩
    rw [shw] at frame
    exact frame
  · have noArm : (!s.dev.rb R.SHOW_LL_CTRL 0 && wbit v 0 && s.dev.shw.running) = false := by simp [same]
    obtain ⟨shw, took, keeps, _, frame⟩ := regWrite_stored ok (by decide) (llCtrl_effect (s := s.dev.answer .ok) w noArm)
    rw [if_pos swap] at shw
    exact ⟨shw, took, keeps, frame⟩
  · have noArm : (!s.dev.rb R.SHOW_LL_CTRL 0 && wbit v 0 && s.dev.shw.running) = false := by
      rcases idle with off | stopped
      · simp [off]
      · simp [stopped]
    obtain ⟨shw, took, keeps, _, frame⟩ := regWrite_stored ok (by decide) (llCtrl_effect (s := s.dev.answer .ok) w noArm)
    rw [noSwap] at shw
    refine ⟨tookWrite_rw took 0 (by decide) (by decide), keeps, ?_⟩
    rw [shw] at frame
    exact frame

/-! ### Direct writes -/

theorem get64_set64 (s : Device) {lo hi v : Nat} (apart : lo ≠ hi) (fits : v < 2 ^ 64) : (s.set64 lo hi v).get64 lo hi = v := by
  unfold Device.get64 Device.rn
  rw [Device.reg_set64, Device.reg_set64, if_neg apart, if_pos rfl, if_pos rfl, BitVec.toNat_ofNat, BitVec.toNat_ofNat]
  omega

theorem frameAdd_lt (f : Nat) (d : Int) : frameAdd f d < 2 ^ 48 := by
  unfold frameAdd
  omega

/-- The report of a direct write that is pending (R59). -/
theorem stageCommit_direct (es : Entries) (point : Nat) (s : Device) :
    let t := stageCommit { origin := .direct, target := none, entries := es } point s
    t.rf R.SHOW_COMMIT_STATE 1 0 = 1 ∧ t.rb R.SHOW_COMMIT_STATE 3 = true ∧
      t.get64 R.SHOW_COMMIT_FRAME_LO R.SHOW_COMMIT_FRAME_HI = frameAdd point 1 ∧
      t = { s with regs := t.regs, shw := { s.shw with commits := s.shw.commits ++ [{ origin := .direct, target := none, entries := es }] } } := by
  have state : (stageCommit { origin := .direct, target := none, entries := es } point s).rn R.SHOW_COMMIT_STATE = 9 := by
    unfold stageCommit reportFrame reportCommit Device.rn
    rw [Device.reg_set64, if_neg (by decide), if_neg (by decide), Device.reg_setN, if_pos rfl]
    rfl
  refine ⟨?_, ?_, ?_, rfl⟩
  · unfold Device.rf
    rw [state]
    decide
  · unfold Device.rb
    rw [state]
    decide
  · exact get64_set64 _ (by decide) ((frameAdd_lt _ _).trans (by decide))

/-- The commits that stay when a register is written directly (R522): all but an earlier direct write to it. -/
def commitsBut (off : Nat) (x : ShowState) : List Commit :=
  x.commits.filter (fun c => !(c.origin = .direct && c.entries.any (fun e => e.1 = off)))

/-- A direct write as the commit it stages (R522). -/
def directCommit (off : Nat) (v : Word) : Commit := { origin := .direct, target := none, entries := [(off, directMask off, v)] }

theorem nextPoint_congr {s t : Device} (same : t.shw = s.shw) : nextPoint t = nextPoint s := by
  unfold nextPoint
  rw [same]

/-- The effect of a direct write: the commit staged, and its report. -/
theorem stageDirect_fields (off : Nat) (v : Word) (s : Device) :
    let t := stageDirect off v s
    t.shw = { s.shw with commits := commitsBut off s.shw ++ [directCommit off v] } ∧ t.rf R.SHOW_COMMIT_STATE 1 0 = 1 ∧
      t.rb R.SHOW_COMMIT_STATE 3 = true ∧ t.get64 R.SHOW_COMMIT_FRAME_LO R.SHOW_COMMIT_FRAME_HI = frameAdd (nextPoint s) 1 ∧
      t.resp = s.resp ∧ t.clock = s.clock ∧ t.before = s.before ∧ t.pipe = s.pipe ∧ t.cmp = s.cmp ∧ t.kpr = s.kpr := by
  obtain ⟨noted, _⟩ := noteValidation_frame (settingsAt s (nextPoint s)) [(off, directMask off, v)] false s
  unfold stageDirect
  dsimp only
  generalize noteValidation (settingsAt s (nextPoint s)) [(off, directMask off, v)] false s = u at *
  have shw : u.shw = s.shw := by rw [noted]
  obtain ⟨state, direct, frame, staged⟩ := stageCommit_direct [(off, directMask off, v)] (nextPoint u)
    { u with shw := { u.shw with commits := commitsBut off u.shw } }
  refine ⟨(congrArg Device.shw staged).trans ?_, state, direct, frame.trans (by rw [nextPoint_congr shw]), (congrArg Device.resp staged).trans ?_,
    (congrArg Device.clock staged).trans ?_, (congrArg Device.before staged).trans ?_, (congrArg Device.pipe staged).trans ?_,
    (congrArg Device.cmp staged).trans ?_, (congrArg Device.kpr staged).trans ?_⟩
  · rw [shw]
    rfl
  all_goals rw [noted]

/-- An accepted direct write is its commit, staged; what a pair is told changes only what is sent. -/
theorem regWrite_direct {s : Device} {w : Who} {off : Nat} {v : Word} (ok : writeCode s w off v (directHandler off v) = .ok) :
    ∃ sent, regWrite s w off v (directHandler off v) = { stageDirect off v (s.answer .ok) with sent := sent } :=
  ⟨_, (regWrite_ok ok).trans (forwardWrite_eq ..)⟩

/-- Both commands of a direct write are the register's write (R37, R522). -/
theorem runs_directWrite {s : State} {w : Who} {off : Nat} {v : Word} {c : Instr} {P : Device → Prop} (notSafety : w ≠ .safety)
    (shadowed : isShadowed off = true) (hc : c = .shDirectWrite w off v ∨ (off ∈ modeRegs ∧ c = .timingModeWrite w off v))
    (p : P (regWrite s.dev w off v (directHandler off v))) : s.runs c P := by
  rcases hc with rfl | ⟨mode, rfl⟩
  · have handler : writeHandler w off v = directHandler off v := by simp [writeHandler, shadowed, notSafety]
    rw [← handler] at p
    exact State.runs_of (writeReg w off v) rfl p
  · exact State.runs_unit (fun _ => modeRegs.contains off) (fun d => regWrite d w off v (directHandler off v)) rfl
      (List.contains_iff_mem.mpr mode) p

/-- Settles O16: the write's effect is the commit staged and its report, and a pair's forward reads none of it. -/
theorem directWritesAreStaged : Obligations.DirectWritesAreStaged := by
  intro s w off v notSafety shadowed ok c hc
  refine runs_directWrite notSafety shadowed hc ?_
  obtain ⟨sent, written⟩ := regWrite_direct ok
  obtain ⟨shw, state, direct, frame, resp, clock, before, pipe, cmp, kpr⟩ := stageDirect_fields off v (s.dev.answer .ok)
  rw [nextPoint_congr (t := s.dev.answer .ok) (s := s.dev) rfl] at frame
  rw [written]
  generalize stageDirect off v (s.dev.answer .ok) = t at *
  exact ⟨shw, state, direct, frame, resp, clock, before, pipe, cmp, kpr⟩

/-! ### Snapshots -/

/-- The bits and the event of a slot that has been written (R49). -/
def tellSnapshot (slot tag : Nat) (s : Device) : Device :=
  ((((s.when (s.rb R.SHOW_SNAP_STATUS (4 + slot)) (fun s => s.setB R.SHOW_SNAP_STATUS (8 + slot) true)).setB R.SHOW_SNAP_STATUS slot true).setB
    R.SHOW_SNAP_STATUS (4 + slot) true).setB R.SHOW_SNAP_STATUS (12 + slot) false).raise Ev.SNAPSHOT_TAKEN (pay2 slot tag)

@[simp] theorem tellSnapshot_shw (slot tag : Nat) (s : Device) : (tellSnapshot slot tag s).shw = s.shw := by
  unfold tellSnapshot
  cases s.rb R.SHOW_SNAP_STATUS (4 + slot) <;> simp

theorem tellSnapshot_rb {slot : Nat} (hs : slot < 4) (tag : Nat) (s : Device) :
    let t := tellSnapshot slot tag s
    t.rb R.SHOW_SNAP_STATUS slot = true ∧ t.rb R.SHOW_SNAP_STATUS (4 + slot) = true ∧ t.rb R.SHOW_SNAP_STATUS (12 + slot) = false := by
  unfold tellSnapshot
  dsimp only
  rw [Device.rb_of_reg (Device.reg_raise ..), Device.rb_of_reg (Device.reg_raise ..), Device.rb_of_reg (Device.reg_raise ..)]
  refine ⟨?_, ?_, ?_⟩
  · rw [Device.rb_setB _ _ _ _ _ _ (by omega), if_neg (by omega), Device.rb_setB _ _ _ _ _ _ (by omega), if_neg (by omega),
      Device.rb_setB _ _ _ _ _ _ (by omega), if_pos ⟨rfl, rfl⟩]
  · rw [Device.rb_setB _ _ _ _ _ _ (by omega), if_neg (by omega), Device.rb_setB _ _ _ _ _ _ (by omega), if_pos ⟨rfl, rfl⟩]
  · rw [Device.rb_setB _ _ _ _ _ _ (by omega), if_pos ⟨rfl, rfl⟩]

theorem pay2_lt (a b : Nat) : pay2 a b < 2 ^ 64 := by
  unfold pay2
  omega

theorem tellSnapshot_told (slot tag : Nat) (s : Device) :
    ∃ e ∈ (tellSnapshot slot tag s).evt.raised, e.ev = Ev.SNAPSHOT_TAKEN ∧ e.payload = pay2 slot tag := by
  unfold tellSnapshot
  rw [Device.raise_evt_raised]
  exact ⟨_, List.mem_append_right _ (List.mem_singleton_self _), rfl, Nat.mod_eq_of_lt (pay2_lt slot tag)⟩

/-- A snapshot whose slot has no other job is the slot's last (R49). -/
theorem snapshotDone_last {s : Device} {slot : Nat} {j : SnapJob} (job : s.shw.snaps.find? (fun k => k.slot = slot) = some j)
    (last : ∀ k ∈ s.shw.snaps.erase j, k.slot ≠ slot) :
    snapshotDone slot s = tellSnapshot slot j.tag { memStore .show (snapAt s slot) j.bytes s with
      shw := { s.shw with snaps := s.shw.snaps.erase j } } := by
  have shw : (memStore .show (snapAt s slot) j.bytes s).shw = s.shw := by rw [(memStore_frame .show (snapAt s slot) j.bytes s).1]
  have noOther : (s.shw.snaps.erase j).find? (fun k => k.slot = slot) = none := List.find?_eq_none.mpr fun k hk => by simpa using last k hk
  simp only [snapshotDone, job, shw]
  have shown := tellSnapshot_shw slot j.tag { memStore .show (snapAt s slot) j.bytes s with
    shw := { s.shw with snaps := s.shw.snaps.erase j } }
  unfold tellSnapshot at *
  rw [shown, noOther]

/-! ### The light list's swap -/

theorem Device.rb_setN_other (s : Device) {off o : Nat} (other : o ≠ off) (v i : Nat) : (s.setN off v).rb o i = s.rb o i :=
  Device.rb_of_reg (by rw [Device.reg_setN, if_neg other]) i

/-- What a validation of the inactive bank finds (R45). -/
def swapCode (s : Device) : Option (Code × Nat) :=
  llBankCode s (1 - llActive s) s.shw.mode.vTotal (readFile (settingsLeft s) R.SHOW_V_TOTAL).toNat

/-- The device once the inactive bank's entries have been read (R523). -/
def swapRead (s : Device) : Device :=
  s.each (upto (llCount s (1 - llActive s))) (fun t i => (memRead .show (llAt t (1 - llActive s) i) 32 t).1)

theorem swapRead_shw (s : Device) : (swapRead s).shw = s.shw := by
  have read : MemFrame s (swapRead s) := MemFrame.each _ _ fun t i _ => memRead_frame .show (llAt t (1 - llActive s) i) 32 t
  rw [read.1]

/-- A bank that is good waits for its commit point. -/
theorem llValidated_good {s : Device} (validating : s.shw.llSwap = .validating) (good : swapCode s = none) : llValidated s =
    (({ swapRead s with shw := { (swapRead s).shw with llSwap := .pending } } : Device).setB R.SHOW_LL_CTRL 5 true).setN R.SHOW_LL_STATUS 0 := by
  unfold swapCode at good
  simp only [llValidated, validating, good]
  rfl

/-- A bank that is not is refused with the entry and its code. -/
theorem llValidated_bad {s : Device} (validating : s.shw.llSwap = .validating) {c : Code} {i : Nat} (bad : swapCode s = some (c, i)) :
    llValidated s = (({ swapRead s with shw := { (swapRead s).shw with llSwap := .idle } } : Device).setB R.SHOW_LL_CTRL 1 false).setN
      R.SHOW_LL_STATUS (i + 65536 * c.num) := by
  unfold swapCode at bad
  simp only [llValidated, validating, bad]
  rfl

/-- Settles O23: the slot's bits and event are those of its last job, and the swap goes by what the validation finds. -/
theorem backgroundShowWorkCompletes : Obligations.BackgroundShowWorkCompletes := by
  intro s
  refine ⟨fun slot j hs job last => State.runs_unit (fun _ => decide (slot < 4)) (snapshotDone slot) rfl (decide_eq_true hs) ?_,
    fun validating => State.runs_of llValidated rfl ?_⟩
  · rw [snapshotDone_last job last]
    obtain ⟨valid, new, free⟩ := tellSnapshot_rb hs j.tag { memStore .show (snapAt s.dev slot) j.bytes s.dev with
      shw := { s.dev.shw with snaps := s.dev.shw.snaps.erase j } }
    exact ⟨tellSnapshot_shw .., valid, new, free, tellSnapshot_told ..⟩
  · change match swapCode s.dev with | none => _ | some (c, i) => _
    cases code : swapCode s.dev with
    | none =>
      rw [llValidated_good validating code]
      exact ⟨by rw [Device.setN_shw, Device.setB_shw, swapRead_shw], by rw [Device.reg_setN, if_pos rfl]; rfl⟩
    | some failure =>
      obtain ⟨c, i⟩ := failure
      rw [llValidated_bad validating code]
      refine ⟨by rw [Device.setN_shw, Device.setB_shw, swapRead_shw], ?_, by rw [Device.reg_setN, if_pos rfl]⟩
      rw [Device.rb_setN_other _ (by decide), Device.rb_setB _ _ _ _ _ _ (by decide), if_pos ⟨rfl, rfl⟩]

end Sys2Proof.Machine
end

section
/-! PROOFS. Octet counters (R86): a read of the low word latches the high word, and clears both for a reader that clears. -/

namespace Sys2Proof.Machine

theorem isOctetsLo_iff {off : Nat} : isOctetsLo off = true ↔
    (0x40000 ≤ off ∧ off < 0x4C000) ∧ (off % 0x2000 = 0x404 ∨ off % 0x2000 = 0x42C) := by
  simp [isOctetsLo]

/-- The octet counters belong to the ports, and no agent owns one (R93). -/
theorem agentsOnly_octetsLo {off : Nat} (octets : isOctetsLo off = true) : agentsOnly off = false := by
  obtain ⟨⟨_, hi⟩, _⟩ := isOctetsLo_iff.mp octets
  unfold agentsOnly R.SCH_SUB_W0 R.SCH_SUB_RESULT R.SCH_Cc_HANDLE
  simp only [Bool.or_eq_false_iff, Bool.and_eq_false_iff, decide_eq_false_iff_not]
  omega

/-- A read at a counter's low word is the octet read: no rule of a read comes before it. -/
theorem readReg_octets {off : Nat} (s : Device) (w : Who) (good : addressCheck off = .ok) (octets : isOctetsLo off = true) :
    readReg w off s = ((readOctets w off s).1, .ok, (readOctets w off s).2) := by
  obtain ⟨⟨_, hi⟩, at_⟩ := isOctetsLo_iff.mp octets
  have frame : off ≠ R.SHOW_FRAME_LO := by unfold R.SHOW_FRAME_LO; omega
  have time : off ≠ R.SHOW_TIME_LO := by unfold R.SHOW_TIME_LO; omega
  have noTag : off % 0x2000 ≠ R.NET_TXTS_TAG 0 % 0x2000 := by unfold R.NET_TXTS_TAG; omega
  have anyone := agentsOnly_octetsLo octets
  unfold readReg
  cases w <;> simp [good, anyone, frame, time, noTag, octets]

/-- What an octet read leaves: the high word latched, both words cleared for a reader that clears, and nothing else. -/
theorem readOctets_effect (s : Device) (w : Who) (off : Nat) :
    let d := (readOctets w off s).1
    d.latched w (off + 4) = some (s.reg (off + 4)) ∧
    (d.reg off = if clears s w then 0 else s.reg off) ∧ (d.reg (off + 4) = if clears s w then 0 else s.reg (off + 4)) ∧
    s.keepsRegs d [off, off + 4] ∧ d = { s with regs := d.regs, latches := d.latches } := by
  have latched := s.latched_latch_same w (off + 4) (s.reg (off + 4))
  have kept : s.keepsRegs (s.latch w (off + 4) (s.reg (off + 4))) [off, off + 4] := Device.keepsRegs_refl _ rfl
  unfold readOctets
  cases clears s w with
  | false => exact ⟨latched, rfl, rfl, kept, rfl⟩
  | true =>
    refine ⟨latched, ?_, Device.reg_setReg_same _ _ _, ?_, rfl⟩
    · exact (Device.reg_setReg_other _ _ (by omega)).trans (Device.reg_setReg_same _ _ _)
    · exact Device.keepsRegs_setReg (Device.keepsRegs_setReg kept off 0 (by simp)) (off + 4) 0 (by simp)

/-- Settles O20: the command is the octet read, answered with the low word. -/
theorem octetsReadsLatchTheHighWord : Obligations.OctetsReadsLatchTheHighWord := by
  intro s w off inside aligned octets
  obtain ⟨latched, lo, hi, kept, frame⟩ := readOctets_effect s.dev w off
  refine runs_readCommand (c := .octetsLoRead w off) (w := w) (off := off) (by simp [readCommands]) ?_
  rw [readReg_octets s.dev w (addressCheck_inside aligned inside) octets]
  exact ⟨rfl, latched, lo, hi, kept, congrArg (Device.answerD · .ok [s.dev.reg off]) frame⟩

end Sys2Proof.Machine
end

section
/-! PROOFS. Frames that leave a port (R70, R71, R73, R75, R77): what sending one changes, which one the MAC sends, and the time-stamps. -/

namespace Sys2Proof.Machine

/-! ### A frame leaves a port -/

/-- Sending a frame changes the port's counters and the time its line is taken, and adds the frame to what was sent. -/
theorem emitFrame_eq (p : Nat) (f : List Byte) (s : Device) : emitFrame p f s =
    { s with regs := (emitFrame p f s).regs, net := { s.net with lineFree := (emitFrame p f s).net.lineFree },
             sent := s.sent ++ [⟨.port p, f.map (·.toNat)⟩] } := rfl

/-- The registers that sending a frame counts in (R87). -/
def txCounters (p : Nat) : List Nat := [R.NET_TX_FRAMES p, R.NET_TX_OCTETS_LO p, R.NET_TX_OCTETS_HI p]

theorem emitFrame_reg {p off : Nat} (f : List Byte) (s : Device) (other : off ∉ txCounters p) : (emitFrame p f s).reg off = s.reg off := by
  simp only [txCounters, List.mem_cons, List.not_mem_nil, or_false, not_or] at other
  obtain ⟨frames, lo, hi⟩ := other
  unfold emitFrame countOctets
  rw [Device.reg_set64, if_neg hi, if_neg lo, Device.reg_count, if_neg frames]
  rfl

/-- A time-stamp changes its FIFO or the overflow bit, and raises an event. -/
theorem stampTx_eq (p tag ts : Nat) (s : Device) : stampTx p tag ts s =
    { s with regs := (stampTx p tag ts s).regs, net := (stampTx p tag ts s).net, evt := (stampTx p tag ts s).evt } := by
  unfold stampTx
  dsimp only
  split_ifs <;> rfl

theorem stampTx_reg {p off : Nat} (tag ts : Nat) (s : Device) (other : off ≠ R.NET_TXTS_STATUS p) : (stampTx p tag ts s).reg off = s.reg off := by
  unfold stampTx
  dsimp only
  split_ifs
  · exact (Device.reg_setB _ _ _ _ _).trans (if_neg other)
  · rfl

/-! ### Which queue sends -/

/-- The highest number below a bound with a property is found first from above. -/
theorem find_reverse_upto {f : Nat → Bool} {n q : Nat} (below : q < n) (yes : f q = true) (no : ∀ k, q < k → k < n → f k = false) :
    (upto n).reverse.find? f = some q := by
  induction n with
  | zero => omega
  | succ n ih =>
    have above : (upto (n + 1)).reverse = n :: (upto n).reverse := by simp [upto, List.range_succ]
    rw [above]
    rcases Nat.lt_succ_iff_lt_or_eq.mp below with lt | rfl
    · rw [List.find?_cons_of_neg (by simp [no n lt])]
      exact ih lt fun k hk hn => no k hk (by omega)
    · exact List.find?_cons_of_pos yes

/-- With no frame to forward, or with queue 7 eligible, the MAC sends from its queues alone (R75). -/
theorem transmit_own {p : Nat} (ts : Nat) {s : Device} (own : s.net.fwd.getD [] p = [] ∨ txEligible s p 7 = true) :
    transmit p ts s = (((upto 8).reverse).find? (txEligible s p)).elim s fun q => transmitQueue p q ts s := by
  unfold transmit
  split
  · next x rest waits idle =>
    rcases own with noFwd | seven
    · rw [noFwd] at waits; cases waits
    · rw [seven] at idle; cases idle
  · split
    · next h => rw [h]; rfl
    · next h => rw [h]; rfl

theorem transmit_idle {p : Nat} (ts : Nat) {s : Device} (noFwd : s.net.fwd.getD [] p = []) (idle : ∀ q, q < 8 → txEligible s p q = false) :
    transmit p ts s = s := by
  have nothing : ((upto 8).reverse).find? (txEligible s p) = none :=
    List.find?_eq_none.mpr fun q hq => by simp [idle q (by simpa [upto] using hq)]
  rw [transmit_own ts (.inl noFwd), nothing]
  rfl

theorem transmit_queue {p q : Nat} (ts : Nat) {s : Device} (hq : q < 8) (may : txEligible s p q = true)
    (top : ∀ k, q < k → k < 8 → txEligible s p k = false) (own : s.net.fwd.getD [] p = [] ∨ q = 7) :
    transmit p ts s = transmitQueue p q ts s := by
  rw [transmit_own ts (own.imp_right fun h => h ▸ may), find_reverse_upto hq may top]
  rfl

/-- The frame that has waited longest to be forwarded is sent when queue 7 may not (R75). -/
theorem transmit_forwards {p : Nat} (ts : Nat) {s : Device} {x : Forwarded} {rest : List Forwarded} (waits : s.net.fwd.getD [] p = x :: rest)
    (idle : txEligible s p 7 = false) :
    transmit p ts s = sendForwarded p x ts { s with net := { s.net with fwd := s.net.fwd.setD [] p rest } } := by
  unfold transmit
  rw [waits, idle]

/-! ### A queue sends -/

/-- The device once a queue has sent a gathered frame, its credit settled in `net`: HEAD moves past the frame's descriptors (R70). -/
def queueSent (p q : Nat) (net : NetState) (gathered : List Byte × Nat) (s : Device) : Device :=
  (emitFrame p (gathered.1 ++ leBytes 4 (fcs32 gathered.1)) { s with net := net }).setN (R.NET_TXQq_HEAD p q)
    ((s.rn (R.NET_TXQq_HEAD p q) + gathered.2) % s.rn (R.NET_TXQq_SIZE p q))

/-- The first frame of a transmit queue, with the descriptors it takes (R70, R71). -/
def gatherQueue (s : Device) (p q : Nat) : List Byte × Nat :=
  gatherTx s (64 * s.rn (R.NET_TXQq_BASE p q)) (s.rn (R.NET_TXQq_SIZE p q)) (s.rn (R.NET_TXQq_HEAD p q)) (txQueued s p q)

/-- A queue sends its first frame, and a time-stamp may follow (R70, R73). -/
theorem transmitQueue_cases (p q ts : Nat) (s : Device) : ∃ net, transmitQueue p q ts s = queueSent p q net (gatherQueue s p q) s ∨
    ∃ tag stamp, transmitQueue p q ts s = stampTx p tag stamp (queueSent p q net (gatherQueue s p q) s) := by
  unfold transmitQueue
  exact ⟨_, (Classical.em _).elim (fun stamps => .inr ⟨_, _, if_pos stamps⟩) (fun plain => .inl (if_neg plain))⟩

theorem queueSent_eq (p q : Nat) (net : NetState) (gathered : List Byte × Nat) (s : Device) : queueSent p q net gathered s =
    { s with regs := (queueSent p q net gathered s).regs, net := (queueSent p q net gathered s).net,
             sent := s.sent ++ [⟨.port p, (gathered.1 ++ leBytes 4 (fcs32 gathered.1)).map (·.toNat)⟩] } := rfl

theorem queueSent_head (p q : Nat) (net : NetState) (gathered : List Byte × Nat) (s : Device) :
    (queueSent p q net gathered s).reg (R.NET_TXQq_HEAD p q) =
      BitVec.ofNat 32 ((s.rn (R.NET_TXQq_HEAD p q) + gathered.2) % s.rn (R.NET_TXQq_SIZE p q)) :=
  (Device.reg_setN _ _ _ _).trans (if_pos rfl)

/-- A queue's frame is sent with its FCS, and beside the network, registers and events nothing changes (R70, R71, R73). -/
theorem transmitQueue_eq (p q ts : Nat) (s : Device) : transmitQueue p q ts s =
    { s with regs := (transmitQueue p q ts s).regs, net := (transmitQueue p q ts s).net, evt := (transmitQueue p q ts s).evt,
             sent := s.sent ++ [⟨.port p, ((gatherQueue s p q).1 ++ leBytes 4 (fcs32 (gatherQueue s p q).1)).map (·.toNat)⟩] } := by
  obtain ⟨net, plain | ⟨tag, stamp, stamped⟩⟩ := transmitQueue_cases p q ts s
  · rw [plain]
    exact queueSent_eq ..
  · rw [stamped, stampTx_eq, queueSent_eq]

/-- HEAD moves past the frame (R70). -/
theorem transmitQueue_head (p q ts : Nat) (s : Device) : (transmitQueue p q ts s).reg (R.NET_TXQq_HEAD p q) =
    BitVec.ofNat 32 ((s.rn (R.NET_TXQq_HEAD p q) + (gatherQueue s p q).2) % s.rn (R.NET_TXQq_SIZE p q)) := by
  have apart : R.NET_TXQq_HEAD p q ≠ R.NET_TXTS_STATUS p := by unfold R.NET_TXQq_HEAD R.NET_TXTS_STATUS; omega
  obtain ⟨net, plain | ⟨tag, stamp, stamped⟩⟩ := transmitQueue_cases p q ts s
  · rw [plain, queueSent_head]
  · rw [stamped, stampTx_reg _ _ _ apart, queueSent_head]

/-! ### A forwarded frame is sent -/

/-- A forwarded frame that came without a coding error and with its own FCS. -/
def Forwarded.intact (x : Forwarded) : Prop :=
  x.bad = false ∧ fcs32 (x.frame.take (x.frame.length - 4)) = leAt x.frame (x.frame.length - 4) 4

theorem cascadeFwd_not_txCounter (o : Nat) : R.NET_CASCADE_FWD o ∉ txCounters o := by
  simp [txCounters, R.NET_CASCADE_FWD, R.NET_TX_FRAMES, R.NET_TX_OCTETS_LO, R.NET_TX_OCTETS_HI]

theorem cascadeStomped_not_txCounter (o : Nat) : R.NET_CASCADE_STOMPED o ∉ txCounters o := by
  simp [txCounters, R.NET_CASCADE_STOMPED, R.NET_TX_FRAMES, R.NET_TX_OCTETS_LO, R.NET_TX_OCTETS_HI]

/-- An intact frame is sent, corrected where the transparent clock corrects it, and counted as forwarded (R75, R77). -/
theorem sendForwarded_intact {o : Nat} {x : Forwarded} (tx : Nat) (s : Device) (good : x.intact) :
    (sendForwarded o x tx s).sent = s.sent ++ [⟨.port o, (forwardedBytes s x.from_ o x.frame x.rx tx).map (·.toNat)⟩] ∧
    (sendForwarded o x tx s).reg (R.NET_CASCADE_FWD o) = satInc (s.reg (R.NET_CASCADE_FWD o)) 1 ∧
    sendForwarded o x tx s = { s with regs := (sendForwarded o x tx s).regs,
                                      net := { s.net with lineFree := (sendForwarded o x tx s).net.lineFree },
                                      sent := (sendForwarded o x tx s).sent } := by
  obtain ⟨clean, fcs⟩ := good
  have apart : R.NET_CASCADE_FWD o ≠ R.NET_TC_CORRECTED o := by simp [R.NET_CASCADE_FWD, R.NET_TC_CORRECTED]
  have counted (f : List Byte) : ((emitFrame o f s).count (R.NET_CASCADE_FWD o) 1).reg (R.NET_CASCADE_FWD o) =
      satInc (s.reg (R.NET_CASCADE_FWD o)) 1 := by
    rw [Device.reg_count, if_pos rfl, emitFrame_reg f s (cascadeFwd_not_txCounter o)]
  unfold sendForwarded forwardedBytes
  simp only [clean, fcs, Bool.not_false, decide_true, Bool.and_self, Bool.not_true, Bool.false_eq_true, if_false]
  cases tcCorrect s x.from_ o (x.frame.take (x.frame.length - 4)) x.rx tx with
  | none => exact ⟨rfl, counted _, rfl⟩
  | some b => exact ⟨rfl, (Device.reg_count _ _ _ _).trans ((if_neg apart).trans (counted _)), rfl⟩

/-- A forwarded frame as it is sent when it is not intact: with the inverse of its FCS (R75). -/
def stompedBytes (f : List Byte) : List Byte := f.take (f.length - 4) ++ leBytes 4 (0xFFFFFFFF - fcs32 (f.take (f.length - 4)))

/-- A frame that is not intact is stomped when the ports' speeds are equal, and dropped when they differ (R75). -/
theorem sendForwarded_not_intact {o : Nat} {x : Forwarded} (tx : Nat) (s : Device) (bad : ¬ x.intact) : sendForwarded o x tx s =
    if s.rf (R.NET_CTRL x.from_) 2 1 = s.rf (R.NET_CTRL o) 2 1
    then (emitFrame o (stompedBytes x.frame) s).count (R.NET_CASCADE_STOMPED o) 1 else s := by
  have fails : (!x.bad && decide (fcs32 (x.frame.take (x.frame.length - 4)) = leAt x.frame (x.frame.length - 4) 4)) = false := by
    simpa [Forwarded.intact] using bad
  unfold sendForwarded
  dsimp only
  rw [fails]
  rfl

theorem sendForwarded_dropped {o : Nat} {x : Forwarded} (tx : Nat) {s : Device} (bad : ¬ x.intact)
    (speeds : s.rf (R.NET_CTRL x.from_) 2 1 ≠ s.rf (R.NET_CTRL o) 2 1) : sendForwarded o x tx s = s := by
  rw [sendForwarded_not_intact tx s bad, if_neg speeds]

theorem sendForwarded_stomped {o : Nat} {x : Forwarded} (tx : Nat) {s : Device} (bad : ¬ x.intact)
    (speeds : s.rf (R.NET_CTRL x.from_) 2 1 = s.rf (R.NET_CTRL o) 2 1) :
    (sendForwarded o x tx s).sent = s.sent ++ [⟨.port o, (stompedBytes x.frame).map (·.toNat)⟩] ∧
    (sendForwarded o x tx s).reg (R.NET_CASCADE_STOMPED o) = satInc (s.reg (R.NET_CASCADE_STOMPED o)) 1 := by
  rw [sendForwarded_not_intact tx s bad, if_pos speeds]
  refine ⟨rfl, ?_⟩
  rw [Device.reg_count, if_pos rfl, emitFrame_reg _ s (cascadeStomped_not_txCounter o)]

/-! ### Time-stamps -/

/-- A read of the tag takes the oldest time-stamp off the FIFO and latches its three parts (R73). -/
theorem readTxts_effect {p : Nat} (w : Who) {s : Device} {t : TxStamp} {rest : List TxStamp} (oldest : s.net.txts.getD [] p = t :: rest) :
    let d := readTxts w p s
    d.resp = { code := .ok, data := [BitVec.ofNat 32 (t.tag % 65536 + 65536)] } ∧ d.net.txts.getD [] p = rest ∧
    d.latched w (R.NET_TXTS_LO p) = some (BitVec.ofNat 32 (t.ts256 / 256)) ∧
    d.latched w (R.NET_TXTS_HI p) = some (BitVec.ofNat 32 (t.ts256 / 256 / 2 ^ 32)) ∧
    d.latched w (R.NET_TXTS_FRAC p) = some (BitVec.ofNat 32 (t.ts256 % 256)) ∧
    d = { s with net := { s.net with txts := d.net.txts }, latches := d.latches, resp := d.resp } := by
  have lo_hi : R.NET_TXTS_LO p ≠ R.NET_TXTS_HI p := by simp [R.NET_TXTS_LO, R.NET_TXTS_HI]
  have lo_frac : R.NET_TXTS_LO p ≠ R.NET_TXTS_FRAC p := by simp [R.NET_TXTS_LO, R.NET_TXTS_FRAC]
  have hi_frac : R.NET_TXTS_HI p ≠ R.NET_TXTS_FRAC p := by simp [R.NET_TXTS_HI, R.NET_TXTS_FRAC]
  have answered (d : Device) (c : Code) (l : List Word) (off : Nat) : (d.answerD c l).latched w off = d.latched w off := rfl
  unfold readTxts
  rw [oldest]
  refine ⟨rfl, (Table.getD_setD _ _ _ _ _).trans (if_pos rfl), ?_, ?_, ?_, rfl⟩ <;>
    simp only [answered, Device.latched_latch, bankKey_inj, lo_hi, lo_frac, hi_frac, if_true, if_false]

theorem readTxts_empty {p : Nat} (w : Who) {s : Device} (empty : s.net.txts.getD [] p = []) : readTxts w p s = s.answerD .ok [0] := by
  unfold readTxts
  rw [empty]

/-! ### The obligation -/

theorem runs_netFrameTx {s : State} {p : Nat} (hp : p < 6) {ts : Nat} {P : Device → Prop} (enabled : s.dev.rb (R.NET_CTRL p) 0 = true)
    (h : P (transmit p ts s.dev)) : s.runs (.netFrameTx p ts) P :=
  State.runs_unit (fun _ => decide (p < 6)) (fun s => if s.rb (R.NET_CTRL p) 0 then transmit p ts s else s) rfl (decide_eq_true hp)
    (by rwa [if_pos enabled])

theorem runs_netFrameTx_disabled {s : State} {p : Nat} (hp : p < 6) {ts : Nat} {P : Device → Prop} (disabled : s.dev.rb (R.NET_CTRL p) 0 = false)
    (h : P s.dev) : s.runs (.netFrameTx p ts) P :=
  State.runs_unit (fun _ => decide (p < 6)) (fun s => if s.rb (R.NET_CTRL p) 0 then transmit p ts s else s) rfl (decide_eq_true hp)
    (by rwa [if_neg (by simp [disabled])])

theorem runs_txtsTagRead {s : State} {w : Who} {p : Nat} (hp : p < 6) {P : Device → Prop} (h : P (readTxts w p s.dev)) :
    s.runs (.txtsTagRead w p) P :=
  State.runs_unit (fun _ => decide (p < 6)) (readTxts w p) rfl (decide_eq_true hp) h

/-- Settles O26: the MAC's choice of frame, then what sending it changes, and the FIFO's read. -/
theorem framesLeaveThePorts : Obligations.FramesLeaveThePorts := by
  intro s p hp
  refine ⟨fun ts idle => ?_, fun ts q enabled hq may top own => ?_, fun ts x rest enabled waits idle clean fcs => ?_,
    fun w t rest oldest => runs_txtsTagRead hp (readTxts_effect w oldest), fun w empty => runs_txtsTagRead hp (readTxts_empty w empty)⟩
  · cases enabled : s.dev.rb (R.NET_CTRL p) 0 with
    | false => exact runs_netFrameTx_disabled hp enabled rfl
    | true =>
      obtain ⟨noFwd, queues⟩ := idle.resolve_left (by simp [enabled])
      exact runs_netFrameTx hp enabled (transmit_idle ts noFwd queues)
  · refine runs_netFrameTx hp enabled ?_
    rw [transmit_queue ts hq may top own]
    have effect := transmitQueue_eq p q ts s.dev
    refine ⟨_, _, rfl, congrArg Device.sent effect, transmitQueue_head p q ts s.dev, ?_⟩
    rw [effect]
  · refine runs_netFrameTx hp enabled ?_
    rw [transmit_forwards ts waits idle]
    obtain ⟨sent, _, frame⟩ := sendForwarded_intact (o := p) ts { s.dev with net := { s.dev.net with fwd := s.dev.net.fwd.setD [] p rest } }
      ⟨clean, fcs⟩
    refine ⟨sent, ?_, ?_⟩
    · rw [frame]; exact (Table.getD_setD _ _ _ _ _).trans (if_pos rfl)
    · rw [frame]

end Sys2Proof.Machine
end

section
/-! PROOFS. The cascade (R63, R75, R77, R88): which frames it takes, and whether each is sent, held, stomped or dropped. -/

namespace Sys2Proof.Machine

/-! ### Which frames are taken -/

/-- A frame is forwarded exactly when the cascade and both ports are enabled, it is no flow control and it is not for the station itself. -/
theorem forwards_iff {s : Device} {p : Nat} {f : List Byte} : forwards s p f = true ↔
    s.rb R.NET_CASCADE_CTRL 0 = true ∧ s.rb (R.NET_CTRL p) 0 = true ∧ s.rb (R.NET_CTRL (5 - p)) 0 = true ∧
      isPause f (parseFrame f) = false ∧ (isGroupMac (beAt f 0 6) = true ∨ beAt f 0 6 ≠ stationMac s p) := by
  simp [forwards, and_assoc]

/-! ### The ways of a frame -/

theorem forwardFrame_refused {s : Device} {p : Nat} {f : List Byte} (rx tx : Nat) (err : Bool) (no : forwards s p f = false) :
    forwardFrame p f rx tx err s = s := by
  simp [forwardFrame, no]

/-- Past the buffer's 65,536 bytes a frame is dropped and counted. -/
theorem forwardFrame_full {s : Device} {p : Nat} {f : List Byte} (rx tx : Nat) (err : Bool) (yes : forwards s p f = true)
    (full : 65536 < fwdBytes s (5 - p) + f.length) :
    forwardFrame p f rx tx err s = s.countLeave (R.NET_CASCADE_DROP (5 - p)) Ev.CASCADE_DROP (5 - p) := by
  simp [forwardFrame, yes, full]

theorem forwardFrame_waits {s : Device} {p : Nat} {f : List Byte} (rx tx : Nat) (err : Bool) (yes : forwards s p f = true)
    (room : fwdBytes s (5 - p) + f.length ≤ 65536) (waits : fwdWaits s (5 - p) = true) :
    forwardFrame p f rx tx err s =
      { s with net := { s.net with fwd := s.net.fwd.put (5 - p) (s.net.fwd.getD [] (5 - p) ++ [⟨f, p, rx, err⟩]) } } := by
  simp [forwardFrame, yes, not_lt.mpr room, waits]

theorem forwardFrame_atOnce {s : Device} {p : Nat} {f : List Byte} (rx tx : Nat) (err : Bool) (yes : forwards s p f = true)
    (room : fwdBytes s (5 - p) + f.length ≤ 65536) (free : fwdWaits s (5 - p) = false) :
    forwardFrame p f rx tx err s = sendForwarded (5 - p) ⟨f, p, rx, err⟩ tx s := by
  simp [forwardFrame, yes, not_lt.mpr room, free]

/-! ### A counter that leaves 0 -/

/-- Counting a drop changes its counter, and is told when the counter leaves 0. -/
theorem countLeave_effect (s : Device) (off ev : Nat) {n : Nat} (small : n < 2 ^ 64) :
    let d := s.countLeave off ev n
    d.reg off = satInc (s.reg off) 1 ∧ s.keepsRegs d [off] ∧ s.newEvents d (if s.reg off = 0 then [(ev, n)] else []) ∧
    d = { s with regs := d.regs, evt := d.evt } := by
  have leaves : s.rn off = 0 ↔ s.reg off = 0 := by simp [Device.rn, ← BitVec.toNat_inj]
  have told := Device.newEvents_raiseIf (Device.newEvents_none (s := s) (t := s.count off 1) rfl) (s.rn off = 0) ev n
  simp only [List.nil_append, decide_eq_true_eq, leaves, Nat.mod_eq_of_lt small] at told
  have counted : (s.countLeave off ev n).reg off = satInc (s.reg off) 1 := by
    rw [Device.countLeave, Device.reg_raiseIf, Device.reg_count, if_pos rfl]
  refine ⟨counted, ?_, ?_, ?_⟩
  · exact Device.keepsRegs_congr (Device.keepsRegs_setReg (Device.keepsRegs_refl [off] rfl) off _ (by simp)) (Device.raiseIf_regs ..)
  · unfold Device.countLeave; simpa only [leaves] using told
  · unfold Device.countLeave; cases decide (s.rn off = 0) <;> rfl

/-! ### The obligation -/

theorem runs_cascadeForward {s : State} {p : Nat} (hp : p = 2 ∨ p = 3) {f : List Byte} {rx tx : Nat} {err : Bool} {P : Device → Prop}
    (h : P (forwardFrame p f rx tx err s.dev)) : s.runs (.cascadeForward p f rx tx err) P :=
  State.runs_unit (fun _ => p = 2 || p = 3) (forwardFrame p f rx tx err) rfl (by simpa using hp) h

/-- Settles O27: whether the frame is taken, then its way by the buffer, the output and the frame's soundness. -/
theorem theCascadeForwardsFrames : Obligations.TheCascadeForwardsFrames := by
  intro s p rx tx f err hp
  refine ⟨fun no => runs_cascadeForward hp (forwardFrame_refused rx tx err no), fun why => ?_, fun yes => ⟨fun full => ?_, fun room =>
    ⟨fun waits => ?_, fun free clean fcs => ?_, fun free unsound => ?_⟩⟩⟩
  · refine Bool.eq_false_iff.mpr fun yes => ?_
    obtain ⟨cascade, input, output, noPause, address⟩ := forwards_iff.mp yes
    rcases why with no | no | no | no | ⟨single, own⟩
    · simp [no] at cascade
    · simp [no] at input
    · simp [no] at output
    · simp [no] at noPause
    · exact address.elim (by simp [single]) (· own)
  · refine runs_cascadeForward hp ?_
    rw [forwardFrame_full rx tx err yes full]
    exact countLeave_effect s.dev _ _ (by omega)
  · refine runs_cascadeForward hp ?_
    rw [forwardFrame_waits rx tx err yes room waits]
    exact ⟨by simp [Table.getD, Table.find_put], rfl⟩
  · refine runs_cascadeForward hp ?_
    rw [forwardFrame_atOnce rx tx err yes room free]
    exact sendForwarded_intact tx s.dev ⟨clean, fcs⟩
  · have bad : ¬ (⟨f, p, rx, err⟩ : Forwarded).intact := fun ⟨clean, fcs⟩ => unsound.elim (fun coding => by simp [coding] at clean) (· fcs)
    refine ⟨fun speeds => runs_cascadeForward hp ?_, fun speeds => runs_cascadeForward hp ?_⟩
    · rw [forwardFrame_atOnce rx tx err yes room free, sendForwarded_dropped tx bad speeds]
    · rw [forwardFrame_atOnce rx tx err yes room free]
      exact sendForwarded_stomped tx bad speeds

end Sys2Proof.Machine
end

section
/-! PROOFS. What the network loses (R79, R80, R83, R84, R92): links, streams, paths, the path-skew wait, sources and synchronisation. -/

namespace Sys2Proof.Machine

/-! ### One stream, one universe -/

theorem Device.stream_of_net {s t : Device} (h : t.net = s.net) (n : Nat) : t.stream n = s.stream n := by
  unfold Device.stream
  rw [h]

theorem Device.univ_of_net {s t : Device} (h : t.net = s.net) (u : Nat) : t.univ u = s.univ u := by
  unfold Device.univ
  rw [h]

@[simp] theorem Device.stream_elapseTo (s : Device) (t n : Nat) : (s.elapseTo t).stream n = s.stream n := Device.stream_of_net (by simp) n

@[simp] theorem Device.univ_elapseTo (s : Device) (t u : Nat) : (s.elapseTo t).univ u = s.univ u := Device.univ_of_net (by simp) u

theorem Device.setStream_net_congr {s t : Device} (h : t.net = s.net) (n : Nat) (x : StreamState) :
    (t.setStream n x).net = (s.setStream n x).net := by
  unfold Device.setStream
  rw [h]

/-- A change whose network part is one stream's state changes that stream alone. -/
theorem Device.stream_of_setStream {s d : Device} {n : Nat} {x : StreamState} (h : d.net = (s.setStream n x).net) :
    d.stream n = x ∧ ∀ k, k ≠ n → d.stream k = s.stream k := by
  refine ⟨?_, fun k other => ?_⟩
  · rw [Device.stream_of_net h, Device.stream_setStream, if_pos rfl]
  · rw [Device.stream_of_net h, Device.stream_setStream, if_neg other]

/-- A change whose network part is one universe's state changes that universe alone. -/
theorem Device.univ_of_setUniverse {s d : Device} {u : Nat} {x : UniverseState} (h : d.net = (s.setUniverse u x).net) :
    d.univ u = x ∧ ∀ k, k ≠ u → d.univ k = s.univ k := by
  refine ⟨?_, fun k other => ?_⟩
  · rw [Device.univ_of_net h, Device.univ_setUniverse, if_pos rfl]
  · rw [Device.univ_of_net h, Device.univ_setUniverse, if_neg other]

/-! ### Links -/

/-- A link's change stores the port's status, and tells a change of LINK (R92). -/
def linkChanged (p : Nat) (st : BitVec 5) (s : Device) : Device :=
  (s.setN (R.NET_STATUS p) st.toNat).raiseIf (s.rb (R.NET_STATUS p) 0 ≠ st.toNat.testBit 0) Ev.LINK_CHANGE p

theorem runs_linkChange {s : State} {p : Nat} (hp : p < 6) {st : BitVec 5} {P : Device → Prop} (h : P (linkChanged p st s.dev)) :
    s.runs (.linkChange p st) P :=
  State.runs_unit (fun _ => decide (p < 6)) (linkChanged p st) rfl (decide_eq_true hp) h

theorem linkChanged_effect {p : Nat} (hp : p < 6) (st : BitVec 5) (s : Device) :
    let d := linkChanged p st s
    d.reg (R.NET_STATUS p) = BitVec.ofNat 32 st.toNat ∧ s.keepsRegs d [R.NET_STATUS p] ∧
    s.newEvents d (if s.rb (R.NET_STATUS p) 0 ≠ st.toNat.testBit 0 then [(Ev.LINK_CHANGE, p)] else []) ∧
    d = { s with regs := d.regs, evt := d.evt } := by
  unfold linkChanged
  refine ⟨?_, ?_, ?_, ?_⟩
  · rw [Device.reg_raiseIf, Device.reg_setN, if_pos rfl]
  · exact Device.keepsRegs_congr (Device.keepsRegs_setReg (Device.keepsRegs_refl _ rfl) (R.NET_STATUS p) _ (by simp)) (Device.raiseIf_regs ..)
  · have told := Device.newEvents_raiseIf (Device.newEvents_none (s := s) (t := s.setN (R.NET_STATUS p) st.toNat) rfl)
      (s.rb (R.NET_STATUS p) 0 ≠ st.toNat.testBit 0) Ev.LINK_CHANGE p
    simpa only [List.nil_append, decide_eq_true_eq, Nat.mod_eq_of_lt (show p < 2 ^ 64 by omega)] using told
  · cases decide (s.rb (R.NET_STATUS p) 0 ≠ st.toNat.testBit 0) <;> rfl

/-! ### Streams and their paths -/

/-- At an instant a stream's state changes and an event tells it. -/
def streamTold (n t ev : Nat) (f : StreamState → StreamState) (s : Device) : Device :=
  ((s.elapseTo t).setStream n (f ((s.elapseTo t).stream n))).raise ev n

theorem streamTold_effect {n : Nat} (hn : n < 32) (t ev : Nat) (f : StreamState → StreamState) (s : Device) :
    let d := streamTold n t ev f s
    d.stream n = f (s.stream n) ∧ d.clock = max s.clock t ∧ s.newEvents d [(ev, n)] ∧ ∀ k, k ≠ n → d.stream k = s.stream k := by
  have told := Device.newEvents_raise (Device.newEvents_none (s := s) (t := (s.elapseTo t).setStream n (f ((s.elapseTo t).stream n)))
    (s.elapseTo_evt t)) ev n
  rw [Nat.mod_eq_of_lt (show n < 2 ^ 64 by omega)] at told
  have net : (streamTold n t ev f s).net = ((s.elapseTo t).setStream n (f ((s.elapseTo t).stream n))).net := rfl
  obtain ⟨changed, others⟩ := Device.stream_of_setStream net
  simp only [Device.stream_elapseTo] at changed others
  exact ⟨changed, s.elapseTo_clock t, told, others⟩

/-- No packet of a stream has come for the timeout (R79). -/
def streamSilent (n : Nat) (s : Device) : Device :=
  if (s.stream n).lost || !s.rb (R.STRM_CTRL n) 0 then s
  else streamTold n ((s.stream n).lastPkt.getD (s.stream n).since + 1000000 * s.rn R.NET_STRM_TIMEOUT) Ev.STREAM_LOST
    (fun x => { x with lost := true }) s

theorem runs_streamLost {s : State} {n : Nat} (hn : n < 32) {P : Device → Prop} (h : P (streamSilent n s.dev)) : s.runs (.streamLost n) P :=
  State.runs_unit (fun _ => decide (n < 32)) (streamSilent n) rfl (decide_eq_true hn) h

theorem streamSilent_told {n : Nat} {s : Device} (was : (s.stream n).lost = false) (enabled : s.rb (R.STRM_CTRL n) 0 = true) :
    streamSilent n s = streamTold n ((s.stream n).lastPkt.getD (s.stream n).since + 1000000 * s.rn R.NET_STRM_TIMEOUT) Ev.STREAM_LOST
      (fun x => { x with lost := true }) s := if_neg (by simp [was, enabled])

theorem streamSilent_still {n : Nat} {s : Device} (still : (s.stream n).lost = true ∨ s.rb (R.STRM_CTRL n) 0 = false) :
    streamSilent n s = s := if_pos (by simpa using still)

/-- One path of a stream has been silent for the timeout (R80). -/
def pathSilent (n path : Nat) (s : Device) : Device :=
  if (s.stream n).pathLost.getD false path || !s.rb (R.STRM_CTRL n) 2 || !s.rb (R.STRM_CTRL n) 0 then s
  else streamTold n (((s.stream n).pathPkt.find path).getD (s.stream n).since + 1000000 * s.rn R.NET_STRM_TIMEOUT) Ev.PATH_LOST
    (fun x => { x with pathLost := x.pathLost.put path true }) s

theorem runs_pathLost {s : State} {n path : Nat} (hn : n < 32) (hpath : path = 1 ∨ path = 2) {P : Device → Prop}
    (h : P (pathSilent n path s.dev)) : s.runs (.pathLost n path) P :=
  State.runs_unit (fun _ => n < 32 && (path = 1 || path = 2)) (pathSilent n path) rfl (by simp [hn, hpath]) h

theorem pathSilent_told {n path : Nat} {s : Device} (was : (s.stream n).pathLost.getD false path = false)
    (enabled : s.rb (R.STRM_CTRL n) 0 = true) (seamless : s.rb (R.STRM_CTRL n) 2 = true) : pathSilent n path s =
      streamTold n (((s.stream n).pathPkt.find path).getD (s.stream n).since + 1000000 * s.rn R.NET_STRM_TIMEOUT) Ev.PATH_LOST
        (fun x => { x with pathLost := x.pathLost.put path true }) s := if_neg (by simp [was, enabled, seamless])

/-! ### The path-skew wait -/

/-- The counters of a seamless stream leave the network block and the clock as they are. -/
theorem Device.when_counts (s : Device) (b : Bool) (o m o' m' : Nat) :
    (s.when b fun s => (s.count o m).count o' m').net = s.net ∧ (s.when b fun s => (s.count o m).count o' m').clock = s.clock := by
  cases b <;> exact ⟨rfl, rfl⟩

/-- Closing a frame ends its reception and its wait, and keeps the packets of later frames (R79, R80). -/
theorem closeFrame_net {n : Nat} {s : Device} (receiving : (s.stream n).rtp ≠ none) : ∃ x : StreamState,
    x.rtp = none ∧ x.waitUntil = none ∧ x.pixels = [] ∧ x.early = (s.stream n).early ∧
    (closeFrame n s).net = (s.setStream n x).net ∧ (closeFrame n s).clock = s.clock := by
  unfold closeFrame
  dsimp only
  split
  · next closed => exact absurd closed receiving
  · generalize hu : s.when _ _ = u
    obtain ⟨net, clock⟩ : u.net = s.net ∧ u.clock = s.clock := hu ▸ Device.when_counts ..
    split
    · refine ⟨_, ?_, ?_, ?_, ?_, Device.setStream_net_congr net n _, clock⟩ <;> rfl
    · refine ⟨_, ?_, ?_, ?_, ?_, Device.setStream_net_congr net n _, clock⟩ <;> rfl

theorem drainEarly_none {n : Nat} {s : Device} (noEarly : (s.stream n).early = []) : drainEarly n s = s := by
  rw [drainEarly, noEarly]
  rfl

/-- With no packet waiting, the wait's end closes the frame and touches no other stream (R80). -/
theorem endWait_effect {n : Nat} {s : Device} (receiving : (s.stream n).rtp ≠ none) (noEarly : (s.stream n).early = []) :
    let d := endWait n s
    (d.stream n).rtp = none ∧ (d.stream n).waitUntil = none ∧ (d.stream n).pixels = [] ∧ d.clock = s.clock ∧
    ∀ k, k ≠ n → d.stream k = s.stream k := by
  obtain ⟨x, rtp, wait, pixels, early, net, clock⟩ := closeFrame_net receiving
  obtain ⟨changed, others⟩ := Device.stream_of_setStream net
  have closed : endWait n s = closeFrame n s := drainEarly_none (by rw [changed, early, noEarly])
  rw [closed]
  dsimp only
  rw [changed]
  exact ⟨rtp, wait, pixels, clock, others⟩

theorem runs_streamSkewWaitEnd {s : State} {n t : Nat} (hn : n < 32) (wait : (s.dev.stream n).waitUntil = some t) {P : Device → Prop}
    (h : P (endWait n (s.dev.elapseTo t))) : s.runs (.streamSkewWaitEnd n) P := by
  refine ⟨_, ?_, h⟩
  change execStreamSkewWaitEnd n s = _
  simp [execStreamSkewWaitEnd, State.onDevice, hn, wait]

/-! ### Sources and synchronisation -/

/-- What changes at most the memory keeps the network block, the clock and the events raised. -/
theorem MemFrame.keeps {s t : Device} (h : MemFrame s t) : t.net = s.net ∧ t.clock = s.clock ∧ ∀ e ∈ s.evt.raised, e ∈ t.evt.raised := by
  obtain ⟨frame, told⟩ := h
  exact ⟨by rw [frame], by rw [frame], fun e he => told.subset he⟩

/-- The merge of a universe's sources touches its value buffer alone (R83). -/
theorem remerge_frame (u : Nat) (s : Device) : MemFrame s (remerge u s) := by
  unfold remerge
  dsimp only
  split
  · exact .refl s
  · exact memStore_frame _ _ _ s

/-- A universe's state changes, an event tells it, and the sources that are left are merged. -/
def universeTold (u ev : Nat) (x : UniverseState) (s : Device) : Device := remerge u ((s.setUniverse u x).raise ev u)

theorem universeTold_effect {u : Nat} (hu : u < 4096) (ev : Nat) (x : UniverseState) (s : Device) :
    let d := universeTold u ev x s
    d.univ u = x ∧ d.clock = s.clock ∧ (∃ e ∈ d.evt.raised, e.ev = ev ∧ e.payload = u) ∧ ∀ k, k ≠ u → d.univ k = s.univ k := by
  obtain ⟨net, clock, events⟩ := (remerge_frame u ((s.setUniverse u x).raise ev u)).keeps
  obtain ⟨changed, others⟩ := Device.univ_of_setUniverse (s := s) (x := x) net
  have told := events _ (List.mem_append_right _ (List.mem_singleton_self _))
  exact ⟨changed, clock, ⟨_, told, rfl, Nat.mod_eq_of_lt (by omega)⟩, others⟩

theorem dropSource_eq (u : Nat) (cid : List Byte) (s : Device) : dropSource u cid s =
    universeTold u Ev.SACN_SOURCE_LOST { s.univ u with sources := (s.univ u).sources.filter (fun y => y.cid ≠ cid) } s := rfl

theorem syncGivenUp_eq (u : Nat) (s : Device) : syncGivenUp u s =
    universeTold u Ev.SACN_SYNC_LOST
      { s.univ u with sources := (s.univ u).sources.map (·.current), syncFrom := none, syncLost := true } s := rfl

theorem runs_sacnSourceLost {s : State} {u : Nat} (hu : u < 4096) {cid : List Byte} {x : SacnSource}
    (found : (s.dev.univ u).sources.find? (fun y => y.cid = cid) = some x) {P : Device → Prop}
    (h : P (dropSource u cid (s.dev.elapseTo (x.last + 1000000 * s.dev.rn R.NET_SACN_TIMEOUT)))) : s.runs (.sacnSourceLost u cid) P := by
  refine ⟨_, ?_, h⟩
  change execSacnSourceLost u cid s = _
  simp [execSacnSourceLost, State.onDevice, hu, found]

theorem runs_sacnSyncLost {s : State} {u t : Nat} (hu : u < 4096) (waits : (s.dev.univ u).syncFrom = some t) {P : Device → Prop}
    (h : P (syncGivenUp u (s.dev.elapseTo (t + 1000000 * s.dev.rn R.NET_SACN_TIMEOUT)))) : s.runs (.sacnSyncLost u) P := by
  refine ⟨_, ?_, h⟩
  change execSacnSyncLost u s = _
  simp [execSacnSyncLost, State.onDevice, hu, waits]

theorem runs_sacnSyncLost_none {s : State} {u : Nat} (hu : u < 4096) (inStep : (s.dev.univ u).syncFrom = none) {P : Device → Prop}
    (h : P s.dev) : s.runs (.sacnSyncLost u) P := by
  refine ⟨_, ?_, h⟩
  change execSacnSyncLost u s = _
  simp [execSacnSyncLost, State.onDevice, hu, inStep]

/-- A source made current holds no values for synchronisation (R84). -/
theorem SacnSource.current_pend (x : SacnSource) : x.current.pend = none := by
  unfold SacnSource.current
  split
  · rfl
  · next h => exact h

/-! ### The obligation -/

/-- Settles O28: each loss passes time to its instant, changes the one state it names and tells it. -/
theorem networkLossesAreTold : Obligations.NetworkLossesAreTold := by
  intro s
  refine ⟨fun p st hp => runs_linkChange hp (linkChanged_effect hp st s.dev), fun n hn => ⟨fun was enabled => ?_, fun still => ?_⟩,
    fun n path hn hpath was enabled seamless => ?_, fun n t hn wait receiving noEarly => ?_, fun u cid x hu found => ?_,
    fun u t hu waits => ?_, fun u hu inStep => runs_sacnSyncLost_none hu inStep rfl⟩
  · refine runs_streamLost hn ?_
    rw [streamSilent_told was enabled]
    obtain ⟨changed, clock, told, others⟩ := streamTold_effect hn
      ((s.dev.stream n).lastPkt.getD (s.dev.stream n).since + 1000000 * s.dev.rn R.NET_STRM_TIMEOUT) Ev.STREAM_LOST
      (fun x => { x with lost := true }) s.dev
    exact ⟨by rw [changed], clock, told, others⟩
  · exact runs_streamLost hn (streamSilent_still still)
  · refine runs_pathLost hn hpath ?_
    rw [pathSilent_told was enabled seamless]
    obtain ⟨changed, clock, told, others⟩ := streamTold_effect hn
      (((s.dev.stream n).pathPkt.find path).getD (s.dev.stream n).since + 1000000 * s.dev.rn R.NET_STRM_TIMEOUT) Ev.PATH_LOST
      (fun x => { x with pathLost := x.pathLost.put path true }) s.dev
    exact ⟨by simp [changed, Table.getD, Table.find_put], clock, told, others⟩
  · have effect := endWait_effect (n := n) (s := s.dev.elapseTo t) (by simpa using receiving) (by simpa using noEarly)
    simp only [Device.elapseTo_clock, Device.stream_elapseTo] at effect
    exact runs_streamSkewWaitEnd hn wait effect
  · refine runs_sacnSourceLost hu found ?_
    rw [dropSource_eq]
    obtain ⟨changed, clock, told, others⟩ := universeTold_effect hu Ev.SACN_SOURCE_LOST
      { s.dev.univ u with sources := (s.dev.univ u).sources.filter (fun y => y.cid ≠ cid) }
      (s.dev.elapseTo (x.last + 1000000 * s.dev.rn R.NET_SACN_TIMEOUT))
    simp only [Device.elapseTo_clock, Device.univ_elapseTo] at clock others ⊢
    exact ⟨by rw [changed], clock, told, others⟩
  · refine runs_sacnSyncLost hu waits ?_
    rw [syncGivenUp_eq]
    obtain ⟨changed, clock, told, others⟩ := universeTold_effect hu Ev.SACN_SYNC_LOST
      { s.dev.univ u with sources := (s.dev.univ u).sources.map (·.current), syncFrom := none, syncLost := true }
      (s.dev.elapseTo (t + 1000000 * s.dev.rn R.NET_SACN_TIMEOUT))
    simp only [Device.elapseTo_clock, Device.univ_elapseTo] at clock others ⊢
    refine ⟨changed, ?_, clock, told, others⟩
    rw [changed]
    simp [SacnSource.current_pend]

end Sys2Proof.Machine
end

section
/-! PROOFS. Items of the queues (R94 to R98): a header's ways into its queue, and the reads of POP and DATA. -/

namespace Sys2Proof.Machine

/-! ### Queues beside a change -/

/-- A queue's state depends on the table of queues alone. -/
theorem Device.queue_of_queues {s t : Device} (h : t.que.queues = s.que.queues) (q : Nat) : t.queue q = s.queue q := by
  unfold Device.queue
  rw [h]

theorem Device.queue_of_que {s t : Device} (h : t.que = s.que) (q : Nat) : t.queue q = s.queue q :=
  Device.queue_of_queues (congrArg _ h) q

theorem Table.del_of_find_none {α : Type} {m : Table α} {k : Nat} (h : m.find k = none) : m.del k = m := by
  induction m with
  | nil => rfl
  | cons p m ih =>
    obtain ⟨j, x⟩ := p
    rw [Table.find_cons] at h
    split_ifs at h with same
    simp only [Table.del, List.filter_cons, ne_comm.mp same, ne_eq, not_false_eq_true, decide_true, if_true]
    rw [← Table.del, ih h]

/-- A change that stores one queue changes that queue alone. -/
theorem Device.queue_of_setQueue {s d : Device} {q : Nat} {x : QueueState} (h : d.que = (s.setQueue q x).que) :
    d.queue q = x ∧ ∀ p, p ≠ q → d.queue p = s.queue p := by
  refine ⟨?_, fun p other => ?_⟩
  · rw [Device.queue_of_que h, Device.queue_setQueue, if_pos rfl]
  · rw [Device.queue_of_que h, Device.queue_setQueue, if_neg other]

/-- A store of a queue with its watermarks and its stale timer: the timer apart, the queue is as stored, and no other queue changes. -/
theorem updQueue_queue (s : Device) (q : Nat) (x : QueueState) : ∃ from_ done,
    (s.updQueue q x).queue q = { x with staleFrom := from_, staleDone := done } ∧ ∀ p, p ≠ q → (s.updQueue q x).queue p = s.queue p := by
  obtain ⟨y, timer, -, here, others, -, -⟩ := updQueue_spec s q x
  exact ⟨y.staleFrom, y.staleDone, here.trans timer, others⟩

/-- A change of the queues and the scheduler, answered with a code, changes nothing beside them but registers, events, what is sent and the answer. -/
theorem QueFrame.answered {s t : Device} (h : QueFrame s t) (c : Code) :
    t.answer c = { s with regs := (t.answer c).regs, que := (t.answer c).que, evt := (t.answer c).evt, sent := (t.answer c).sent,
                          resp := { code := c } } := by
  obtain ⟨frame, -⟩ := h
  rw [frame]
  rfl

/-! ### A header (R96, R97) -/

section Header

variable {s : Device} {a q : Nat} {v : Word}

/-- The item that a header begins, where the agent's pushes wait for no release. -/
def headed (v : Word) (waits : Bool) : Assembly := { words := [v], len := wfld v 6 0, held := none, waits := waits }

variable (kept : (s.queue q).discard.getD 0 a = 0) (fresh : (s.queue q).asm.find a = none) (free : holdFor s a = none)
include kept fresh free

/-- An accepted header is a whole item, or the first word of one. -/
theorem pushWord_accepted (ok : headerCode s a q v = .ok) (next : a < 9 ∨ (s.queue q).waiting = []) :
    pushWord a q v s = (if wfld v 6 0 ≤ 1 then finishItem a q (headed v false) s
      else s.updQueue q { s.queue q with asm := (s.queue q).asm.put a (headed v false) }).answer .ok := by
  have noWait : (decide (9 ≤ a) && !(s.queue q).waiting.isEmpty) = false := by
    rcases next with core | empty
    · simp [core]
    · simp [empty]
  simp [pushWord, kept, fresh, free, ok, noWait, headed]

/-- A hardware agent waits with a header for which there is no room. -/
theorem pushWord_waits (full : headerCode s a q v = .capacity ∨ headerCode s a q v = .busy) (hardware : 9 ≤ a) (one : wfld v 6 0 = 1) :
    pushWord a q v s = (finishItem a q (headed v true) s).answer .ok := by
  rcases full with full | full <;> simp [pushWord, kept, fresh, free, full, hardware, one, headed]

/-- An agent's refused header leaves at most the words to discard in its queue, and is counted and told. -/
theorem pushWord_refused (refused : headerCode s a q v ≠ .ok) (agent : a < 9) : ∃ t : Device,
    (t = s ∨ t = s.setQueue q { s.queue q with discard := (s.queue q).discard.setD 0 a (wfld v 6 0 - 1) }) ∧
    pushWord a q v s = (((t.count (R.QUE_REFUSED q) 1).setN (R.QUE_PUSH_ERR q) ((headerCode s a q v).num + 256 * a)).raise
      Ev.QUE_REFUSED q).answer (headerCode s a q v) := by
  have noHold (x : QueueState) : holdFor (s.setQueue q x) a = none := free
  by_cases range : headerCode s a q v = .range
  · exact ⟨s, .inl rfl, by simp [pushWord, kept, fresh, free, range, agent, not_le.mpr agent, Device.raiseIf]⟩
  · exact ⟨_, .inr rfl, by simp [pushWord, kept, fresh, noHold, refused, range, agent, not_le.mpr agent, Device.raiseIf]⟩

end Header

/-- A header finds no room where its blocks do not fit in the queue, or the doorbell's port holds a task back (R97). -/
theorem headerCode_noRoom {s : Device} {a q : Nat} {v : Word} (free : holdFor s a = none)
    (full : headerCode s a q v = .capacity ∨ headerCode s a q v = .busy) :
    (s.rb (R.QUE_CTRL q) 1 && (portStalled s q || (s.queue q).bells ≠ 0)) = true ∨
      s.rn (R.QUE_SIZE q) < (s.queue q).level + blockWords (wfld v 6 0) := by
  unfold headerCode at full
  dsimp only at full
  simp only [free, Option.isSome_none, Bool.false_and, Option.isNone_none, Bool.true_and, Bool.false_eq_true, if_false] at full
  split_ifs at full with off stalled reserved range big <;> simp_all

/-- Where a header finds no room, the queue takes no hardware item of its length either. -/
theorem hwRoom_of_noRoom {s : Device} {a q : Nat} {v : Word} (free : holdFor s a = none)
    (full : headerCode s a q v = .capacity ∨ headerCode s a q v = .busy) : hwRoom s q (wfld v 6 0) = false := by
  unfold hwRoom
  rcases headerCode_noRoom free full with stalled | big
  · simp only [stalled, Bool.not_true, Bool.and_false]
  · simp [not_le.mpr big]

/-- A finished word that is its whole item is pending, with SRC set. -/
theorem finishItem_headed (a q : Nat) (v : Word) (s : Device) : finishItem a q (headed v false) s =
    itemArrives q [setFld v 19 16 a] { s.queue q with asm := (s.queue q).asm.del a } s := rfl

/-- The only item that waits goes on waiting while there is no room for it. -/
theorem drainWaiting_noRoom {s : Device} {a q : Nat} {ws : List Word} (waits : (s.queue q).waiting = [(a, ws)])
    (full : hwRoom s q ws.length = false) : drainWaiting q s = s := by
  simp [drainWaiting, waits, upto, Device.each, full]

/-- A hardware agent's item without room joins those that wait, and nothing else changes. -/
theorem finishItem_waits {s : Device} {a q : Nat} {v : Word} (fresh : (s.queue q).asm.find a = none) (empty : (s.queue q).waiting = [])
    (full : hwRoom s q 1 = false) : finishItem a q (headed v true) s = s.setQueue q { s.queue q with waiting := [(a, [v])] } := by
  have joined : finishItem a q (headed v true) s = drainWaiting q (s.setQueue q { s.queue q with waiting := [(a, [v])] }) := by
    simp only [finishItem, headed, Table.del_of_find_none fresh, empty, if_true, List.nil_append]
  have here := Device.queue_setQueue s q q { s.queue q with waiting := [(a, [v])] }
  rw [if_pos rfl] at here
  rw [joined]
  refine drainWaiting_noRoom (a := a) (ws := [v]) (by rw [here]) ?_
  simp only [hwRoom, here]
  exact full

/-! ### POP and DATA (R98) -/

theorem popItem_best {s : Device} {q : Nat} {i : Item} (a : Nat) (best : bestItem (s.queue q).pendings = some i) : popItem a q s =
    (s.updQueue q { s.queue q with
      items := (s.queue q).items.map (fun j => if j.arrival = i.arrival then { j with state := .since } else j)
      current := (s.queue q).current.put a (i.arrival, 1), staleFrom := some s.clock, staleDone := false }).answerD .ok
        [i.words.getD 0 0] := by
  unfold popItem
  dsimp only
  rw [best]

theorem popItem_none {s : Device} {q : Nat} (a : Nat) (none : bestItem (s.queue q).pendings = none) : popItem a q s = s.answerD .ok [0] := by
  unfold popItem
  dsimp only
  rw [none]

theorem dataItem_next {s : Device} {a q n k : Nat} {i : Item} (current : (s.queue q).current.find a = some (n, k))
    (item : (s.queue q).items.find? (fun i => i.arrival = n) = some i) : dataItem a q s =
      (s.setQueue q { s.queue q with current := (s.queue q).current.put a (n, k + 1) }).answerD .ok [i.words.getD k 0] := by
  unfold dataItem
  dsimp only
  rw [current]
  dsimp only
  rw [item]

theorem dataItem_none {s : Device} {a q : Nat} (none : (s.queue q).current.find a = none) : dataItem a q s = s.answerD .ok [0] := by
  unfold dataItem
  dsimp only
  rw [none]

/-! ### The obligation -/

section Runs

variable {s : State} {a q : Nat} (ha : a < 14) (hq : q < 32) {P : Device → Prop}
include ha hq

theorem runs_quePush {v : Word} (h : P (pushWord a q v s.dev)) : s.runs (.quePush a q v) P :=
  State.runs_unit (fun _ => a < 14 && q < 32) (pushWord a q v) rfl (by simp [ha, hq]) h

theorem runs_quePop (h : P (popItem a q s.dev)) : s.runs (.quePop a q) P :=
  State.runs_unit (fun _ => a < 14 && q < 32) (popItem a q) rfl (by simp [ha, hq]) h

theorem runs_queDataRead (h : P (dataItem a q s.dev)) : s.runs (.queDataRead a q) P :=
  State.runs_unit (fun _ => a < 14 && q < 32) (dataItem a q) rfl (by simp [ha, hq]) h

end Runs

/-- Settles O29: a header arrives, begins an assembly, is refused or waits; then the reads of POP and DATA. -/
theorem queueItemsArriveAndAreRead : Obligations.QueueItemsArriveAndAreRead := by
  intro s a q v ha hq
  refine ⟨fun kept fresh free => ⟨fun ok one noBell next => ?_, fun ok more next => ?_, fun refused agent => ?_,
    fun full hardware one empty => ?_⟩, fun i best => ?_, fun none => runs_quePop ha hq (popItem_none a none),
    fun n k i current item => ?_, fun none => runs_queDataRead ha hq (dataItem_none none)⟩
  · refine runs_quePush ha hq ?_
    rw [pushWord_accepted kept fresh free ok next, if_pos one.le, finishItem_headed]
    obtain ⟨items, others⟩ := itemArrives_spec q [setFld v 19 16 a] { s.dev.queue q with asm := (s.dev.queue q).asm.del a } s.dev noBell
    exact ⟨items, rfl, others, (itemArrives_frame q _ _ s.dev).answered .ok⟩
  · refine runs_quePush ha hq ?_
    rw [pushWord_accepted kept fresh free ok next, if_neg (not_le.mpr more)]
    obtain ⟨from_, done, here, others⟩ := updQueue_queue s.dev q
      { s.dev.queue q with asm := (s.dev.queue q).asm.put a (headed v false) }
    refine ⟨(congrArg (fun x => Table.find x.asm a) here).trans ?_, congrArg (·.items) here, rfl, others⟩
    exact (Table.find_put _ _ _ _).trans (if_pos rfl)
  · refine runs_quePush ha hq ?_
    obtain ⟨t, skips, pushed⟩ := pushWord_refused kept fresh free refused agent
    rw [pushed]
    have regs : t.regs = s.dev.regs := by rcases skips with rfl | rfl <;> rfl
    have evt : t.evt = s.dev.evt := by rcases skips with rfl | rfl <;> rfl
    have queues : (t.queue q).items = (s.dev.queue q).items ∧ ∀ p, p ≠ q → t.queue p = s.dev.queue p := by
      rcases skips with rfl | rfl
      · exact ⟨rfl, fun p _ => rfl⟩
      · obtain ⟨here, others⟩ := Device.queue_of_setQueue (s := s.dev) (q := q) rfl
        exact ⟨congrArg (·.items) here, others⟩
    have apart : R.QUE_REFUSED q ≠ R.QUE_PUSH_ERR q := by simp [R.QUE_REFUSED, R.QUE_PUSH_ERR]
    refine ⟨queues.1, rfl, ?_, ?_, queues.2⟩
    · rw [Device.reg_answer, Device.reg_raise, Device.reg_setN, if_neg apart, Device.reg_count, if_pos rfl, Device.reg_congr regs]
    · have told := Device.newEvents_raise (Device.newEvents_none evt) Ev.QUE_REFUSED q
      rwa [Nat.mod_eq_of_lt (show q < 2 ^ 64 by omega)] at told
  · refine runs_quePush ha hq ?_
    have noRoom := hwRoom_of_noRoom free full
    rw [one] at noRoom
    rw [pushWord_waits kept fresh free full hardware one, finishItem_waits fresh empty noRoom]
    obtain ⟨here, others⟩ := Device.queue_of_setQueue (s := s.dev) (q := q) rfl
    exact ⟨congrArg (·.waiting) here, congrArg (·.items) here, rfl, others, rfl⟩
  · refine runs_quePop ha hq ?_
    rw [popItem_best a best]
    obtain ⟨from_, done, here, others⟩ := updQueue_queue s.dev q { s.dev.queue q with
      items := (s.dev.queue q).items.map (fun j => if j.arrival = i.arrival then { j with state := .since } else j)
      current := (s.dev.queue q).current.put a (i.arrival, 1), staleFrom := some s.dev.clock, staleDone := false }
    refine ⟨rfl, (congrArg (fun x => Table.find x.current a) here).trans ?_, congrArg (·.items) here, others⟩
    exact (Table.find_put _ _ _ _).trans (if_pos rfl)
  · refine runs_queDataRead ha hq ?_
    rw [dataItem_next current item]
    obtain ⟨here, others⟩ := Device.queue_of_setQueue (s := s.dev) (q := q) rfl
    refine ⟨rfl, (congrArg (fun x => Table.find x.current a) here).trans ?_, congrArg (·.items) here, others, rfl⟩
    exact (Table.find_put _ _ _ _).trans (if_pos rfl)

end Sys2Proof.Machine
end

section
/-! PROOFS. MARK, REWIND, RELEASE, FLUSH and the stale timer (R99 to R103, R117). -/

namespace Sys2Proof.Machine

/-! ### The commands of QUE_CMD (R99) -/

section Runs

variable {s : State} {a q : Nat} (ha : a < 14) (hq : q < 32) {P : Device → Prop}
include ha hq

theorem runs_queMark (h : P (markQueue q s.dev)) : s.runs (.queMark a q) P :=
  State.runs_unit (fun _ => a < 14 && q < 32) (markQueue q) rfl (by simp [ha, hq]) h

theorem runs_queRewind (h : P (rewindQueue q s.dev)) : s.runs (.queRewind a q) P :=
  State.runs_unit (fun _ => a < 14 && q < 32) (rewindQueue q) rfl (by simp [ha, hq]) h

theorem runs_queRelease {k : Nat} (hk : k < 3) (h : P (releaseQueue a q k s.dev)) : s.runs (.queRelease a q k) P :=
  State.runs_unit (fun _ => a < 14 && q < 32) (fun d => if k < 3 then releaseQueue a q k d else d.answer .reserved) rfl (by simp [ha, hq])
    (by rwa [if_pos hk])

theorem runs_queRelease_reserved {k : Nat} (hk : 3 ≤ k) (h : P (s.dev.answer .reserved)) : s.runs (.queRelease a q k) P :=
  State.runs_unit (fun _ => a < 14 && q < 32) (fun d => if k < 3 then releaseQueue a q k d else d.answer .reserved) rfl (by simp [ha, hq])
    (by rwa [if_neg (not_lt.mpr hk)])

end Runs

theorem markQueue_effect (q : Nat) (s : Device) :
    let d := markQueue q s
    (d.queue q).mark = true ∧
    (d.queue q).items = (s.queue q).items.map (fun i => if i.state = .since then { i with state := .before } else i) ∧
    d.resp = { code := .ok } ∧ (∀ p, p ≠ q → d.queue p = s.queue p) ∧ d = { s with que := d.que, resp := d.resp } := by
  obtain ⟨here, others⟩ := Device.queue_of_setQueue (s := s) (d := markQueue q s) (q := q) rfl
  exact ⟨congrArg (·.mark) here, congrArg (·.items) here, rfl, others, rfl⟩

theorem rewindQueue_effect (q : Nat) (s : Device) :
    let d := rewindQueue q s
    (d.queue q).mark = (s.queue q).mark ∧
    (d.queue q).items = (s.queue q).items.map (fun i => if i.state = .since then { i with state := .pending } else i) ∧
    d.resp = { code := .ok } ∧ ∀ p, p ≠ q → d.queue p = s.queue p := by
  obtain ⟨from_, done, here, others⟩ := updQueue_queue s q { s.queue q with
    items := (s.queue q).items.map (fun i => if i.state = .since then { i with state := .pending } else i) }
  exact ⟨congrArg (·.mark) here, congrArg (·.items) here, rfl, others⟩

/-- With no hardware item waiting, a RELEASE frees the items of its scope and lets none in. -/
theorem releaseQueue_effect {q : Nat} (a k : Nat) {s : Device} (empty : (s.queue q).waiting = []) :
    let d := releaseQueue a q k s
    (d.queue q).items = (s.queue q).items.filter (fun i => !releases (s.queue q) a k i) ∧ d.resp = { code := .ok } ∧
    ∀ p, p ≠ q → d.queue p = s.queue p := by
  obtain ⟨from_, done, here, others⟩ := updQueue_queue s q { s.queue q with
    items := (s.queue q).items.filter (fun i => !releases (s.queue q) a k i)
    current := if k = 0 then (s.queue q).current.del a else (s.queue q).current }
  unfold releaseQueue
  dsimp only
  rw [drainWaiting_none q _ ((congrArg (·.waiting) here).trans empty)]
  exact ⟨congrArg (·.items) here, rfl, others⟩

/-! ### FLUSH (R103) -/

/-- Counting and telling the items that a FLUSH cuts short leaves every queue as it is. -/
theorem flushPartials_que {α : Type} (l : List α) (q : Nat) (s : Device) :
    (s.each l fun s _ => (s.count (R.QUE_FLUSH_PARTIAL q) 1).raise Ev.QUE_FLUSH_PARTIAL q).que = s.que := by
  induction l generalizing s with
  | nil => rfl
  | cons x l ih => exact ih _

/-- With no hardware item waiting, a FLUSH empties its queue and drops the mark and every current item. -/
theorem flushQueue_effect {q : Nat} {s : Device} (empty : (s.queue q).waiting = []) :
    let d := flushQueue q s
    (d.queue q).items = [] ∧ (d.queue q).mark = false ∧ (d.queue q).current = [] ∧ (d.queue q).waiting = [] ∧
    ∀ p, p ≠ q → d.queue p = s.queue p := by
  unfold flushQueue
  dsimp only
  generalize hl : (s.queue q).asm.filter (fun p => p.2.held.isNone) = part
  generalize hx : ({ s.queue q with items := [], mark := false, current := [], discard := _, asm := _ } : QueueState) = x
  obtain ⟨from_, done, here, others⟩ := updQueue_queue s q x
  generalize hd : (s.updQueue q x).each part _ = d
  have queue (p : Nat) : d.queue p = (s.updQueue q x).queue p := Device.queue_of_que (hd ▸ flushPartials_que part q _) p
  subst hx
  have waiting : (d.queue q).waiting = [] := by rw [queue, here]; exact empty
  rw [drainWaiting_none q d waiting, queue, here]
  exact ⟨rfl, rfl, rfl, empty, fun p other => (queue p).trans (others p other)⟩

/-- QUE_CTRL's effect of a write with FLUSH and without the doorbell (R103, R117). -/
theorem queCtrl_flush (w : Who) {q : Nat} {v : Word} (hq : q < 32) (flush : wbit v 2 = true) (noBell : wbit v 1 = false) (s : Device) :
    (queHandler w (R.QUE_CTRL q) v).effect s = drainWaiting q (flushQueue q (s.setN (R.QUE_CTRL q) (v.toNat % 4))) := by
  have block : R.QUE_CTRL q % 0x80 = 0 := by unfold R.QUE_CTRL; omega
  have number : (R.QUE_CTRL q - 0x70000) / 0x80 = q := by unfold R.QUE_CTRL; omega
  simp only [queHandler, block, number, flush, noBell, if_true, Bool.false_eq_true, if_false]

theorem runs_queFlush {s : State} {w : Who} {q : Nat} {v : Word} (hq : q < 32) {P : Device → Prop}
    (h : P (regWrite s.dev w (R.QUE_CTRL q) v (queHandler w (R.QUE_CTRL q) v))) : s.runs (.queFlush w q v) P :=
  State.runs_unit (fun _ => decide (q < 32)) (fun d => regWrite d w (R.QUE_CTRL q) v (queHandler w (R.QUE_CTRL q) v)) rfl
    (decide_eq_true hq) h

/-! ### The stale timer (R102) -/

/-- At the instant of its stale timer a queue is marked stale, which is counted and told. -/
def staleTold (q t : Nat) (s : Device) : Device :=
  ((((s.elapseTo t).setQueue q { s.queue q with staleDone := true }).setB (R.QUE_STATUS q) 2 true).count
    (R.QUE_STALE_COUNT q) 1).raise Ev.QUE_STALE q

theorem staleTold_effect {q : Nat} (hq : q < 32) (t : Nat) (s : Device) :
    let d := staleTold q t s
    (d.queue q).staleDone = true ∧ d.rb (R.QUE_STATUS q) 2 = true ∧ s.newEvents d [(Ev.QUE_STALE, q)] ∧ d.clock = max s.clock t ∧
    (d.queue q).items = (s.queue q).items ∧ ∀ p, p ≠ q → d.queue p = s.queue p := by
  have elapsed (p : Nat) : (s.elapseTo t).queue p = s.queue p := Device.queue_of_que (by simp) p
  obtain ⟨here, others⟩ := Device.queue_of_setQueue (s := s.elapseTo t) (d := staleTold q t s) (q := q) rfl
  refine ⟨congrArg (·.staleDone) here, ?_, ?_, s.elapseTo_clock t, congrArg (·.items) here,
    fun p other => (others p other).trans (elapsed p)⟩
  · have apart : R.QUE_STATUS q ≠ R.QUE_STALE_COUNT q := by simp [R.QUE_STATUS, R.QUE_STALE_COUNT]
    have counted : (staleTold q t s).reg (R.QUE_STATUS q) = _ := (Device.reg_raise _ _ _ _).trans (by rw [Device.reg_count, if_neg apart])
    rw [Device.rb_of_reg counted, Device.rb_setB _ _ _ _ _ _ (by decide), if_pos ⟨rfl, rfl⟩]
  · have told := Device.newEvents_raise (Device.newEvents_none (s := s) (t := ((s.elapseTo t).setQueue q
      { s.queue q with staleDone := true }).setB (R.QUE_STATUS q) 2 true |>.count (R.QUE_STALE_COUNT q) 1) (s.elapseTo_evt t))
      Ev.QUE_STALE q
    rwa [Nat.mod_eq_of_lt (show q < 2 ^ 64 by omega)] at told

theorem runs_queStale {s : State} {q t : Nat} (hq : q < 32) (starts : (s.dev.queue q).staleFrom = some t)
    (on : s.dev.rn (R.QUE_STALE_TIME q) ≠ 0) (once : (s.dev.queue q).staleDone = false) (pending : (s.dev.queue q).pendings ≠ [])
    {P : Device → Prop} (h : P (staleTold q (t + 1000 * s.dev.rn (R.QUE_STALE_TIME q)) s.dev)) : s.runs (.queStale q) P := by
  refine ⟨_, ?_, h⟩
  change execQueStale q s = _
  simp [execQueStale, State.onDevice, hq, starts, on, once, pending, staleTold]

/-! ### The obligation -/

/-- Settles O30: what each command and the timer leave in the queue, and that no other queue changes. -/
theorem queueCommandsActOnTheirItems : Obligations.QueueCommandsActOnTheirItems := by
  intro s a q ha hq
  refine ⟨runs_queMark ha hq (markQueue_effect q s.dev), runs_queRewind ha hq (rewindQueue_effect q s.dev),
    fun k hk empty => runs_queRelease ha hq hk (releaseQueue_effect a k empty), fun k hk => runs_queRelease_reserved ha hq hk rfl,
    fun w v ok flush noBell empty => runs_queFlush hq ?_,
    fun t starts on once pending => runs_queStale hq starts on once pending (staleTold_effect hq _ s.dev)⟩
  obtain ⟨items, mark, current, waiting, others⟩ := flushQueue_effect (q := q)
    (s := (s.dev.answer .ok).setN (R.QUE_CTRL q) (v.toNat % 4)) empty
  rw [regWrite_ok ok, queCtrl_flush w hq flush noBell, drainWaiting_none q _ waiting]
  have queue := Device.queue_of_que (congrArg Device.que (forwardWrite_eq (R.QUE_CTRL q) v (nextPoint s.dev)
    (flushQueue q ((s.dev.answer .ok).setN (R.QUE_CTRL q) (v.toNat % 4)))))
  simp only [queue]
  exact ⟨items, mark, current, others⟩

end Sys2Proof.Machine
end

section
/-! PROOFS. Tasks enter their slots (R104, R105, R113 to R115): from an agent's window, and from a doorbell. -/

namespace Sys2Proof.Machine

/-! ### An agent's window (R113, R115) -/

/-- The task port of an agent: 40 for the safety pair, from 32 on for the cores (R115). -/
def agentPort (a : Nat) : Nat := if a = 8 then 40 else 32 + a

/-- What R520's checks say of the task that an agent's window holds. -/
def windowCode (s : Device) (a : Nat) (w3 : Word) : Code :=
  taskCode s (agentPort a) (s.bankReg (agentWho a) R.SCH_SUB_W0) (s.bankReg (agentWho a) R.SCH_SUB_W2) w3

theorem runs_taskSubmit {s : State} {a : Nat} (ha : a < 9) {w3 : Word} {P : Device → Prop} (h : P (submitTask a w3 s.dev)) :
    s.runs (.taskSubmit a w3) P :=
  State.runs_unit (fun _ => decide (a < 9)) (submitTask a w3) rfl (decide_eq_true ha) h

theorem submitTask_accepted {s : Device} {a : Nat} {w3 : Word} (ok : windowCode s a w3 = .ok) :
    let entered := enterTask s (agentPort a) (s.bankReg (agentWho a) R.SCH_SUB_W0) (s.bankReg (agentWho a) R.SCH_SUB_W1)
      (s.bankReg (agentWho a) R.SCH_SUB_W2) w3
    submitTask a w3 s = (entered.2.setBank (agentWho a) R.SCH_SUB_RESULT (BitVec.ofNat 32 entered.1)).answer .ok := if_pos ok

theorem submitTask_refused {s : Device} {a : Nat} {w3 : Word} (no : windowCode s a w3 ≠ .ok) :
    submitTask a w3 s = ((s.count R.SCH_REFUSED 1).setBank (agentWho a) R.SCH_SUB_RESULT
      (BitVec.ofNat 32 ((windowCode s a w3).num * 65536))).answer (windowCode s a w3) := if_neg no

/-- An accepted task stands in the lowest free slot, no other slot changes, and its handle is the result. -/
theorem submitTask_enters {s : Device} {a : Nat} {w3 : Word} (ok : windowCode s a w3 = .ok) :
    let d := submitTask a w3 s
    let slot := freeSlot s.que.tasks
    (∃ t, d.que.tasks.find slot = some t ∧ t.handle = slot + 4096 * (s.que.gens.getD 0 slot % 16) ∧ t.w3 = w3 ∧
      t.w0 = s.bankReg (agentWho a) R.SCH_SUB_W0 ∧
      t.state = (if wbit w3 11 then .delayed (wfld w3 31 16) else .ready s.que.order false) ∧
      d.bankReg (agentWho a) R.SCH_SUB_RESULT = BitVec.ofNat 32 t.handle) ∧
    d.resp = { code := .ok } ∧ ∀ k, k ≠ slot → d.que.tasks.find k = s.que.tasks.find k := by
  dsimp only
  obtain ⟨result, ⟨t, handle, w0, -, words, state, tasks⟩, -⟩ := enterTask_spec s (agentPort a) (s.bankReg (agentWho a) R.SCH_SUB_W0)
    (s.bankReg (agentWho a) R.SCH_SUB_W1) (s.bankReg (agentWho a) R.SCH_SUB_W2) w3
  have submitted := submitTask_accepted ok
  generalize enterTask s (agentPort a) _ _ _ w3 = entered at result tasks submitted
  have slots (k : Nat) : (submitTask a w3 s).que.tasks.find k = if k = freeSlot s.que.tasks then some t else s.que.tasks.find k := by
    rw [submitted]
    exact (congrArg (Table.find · k) tasks).trans (Table.find_put _ _ k t)
  refine ⟨⟨t, (slots _).trans (if_pos rfl), handle, words, w0, state, ?_⟩, by rw [submitted]; rfl, fun k other => (slots k).trans (if_neg other)⟩
  rw [submitted, handle, ← result]
  exact Device.bankReg_setBank ..

/-- A refused task is counted and answered with its code, and nothing enters (R115). -/
theorem submitTask_counts {s : Device} {a : Nat} {w3 : Word} (no : windowCode s a w3 ≠ .ok) :
    let d := submitTask a w3 s
    d.reg R.SCH_REFUSED = satInc (s.reg R.SCH_REFUSED) 1 ∧ s.keepsRegs d [R.SCH_REFUSED] ∧ d.que = s.que ∧
    d.resp = { code := windowCode s a w3 } := by
  dsimp only
  rw [submitTask_refused no]
  refine ⟨?_, Device.keepsRegs_congr (Device.keepsRegs_setReg (Device.keepsRegs_refl [R.SCH_REFUSED] rfl) R.SCH_REFUSED _ (by simp)) rfl, rfl, rfl⟩
  rw [Device.reg_answer, Device.reg_setBank, Device.reg_count, if_pos rfl]

/-! ### A doorbell (R114) -/

/-- What R520's checks say of the task that a queue's doorbell submits. -/
def bellCode (s : Device) (q : Nat) : Code := taskCode s q (s.reg (R.QUE_DB_ENTRY q)) (s.reg (R.QUE_DB_CFG q)) (s.reg (R.QUE_DB_AFF q))

theorem runs_doorbellSubmit {s : State} {q : Nat} (hq : q < 32) {P : Device → Prop} (h : P (drainWaiting q (ringBells q s.dev))) :
    s.runs (.doorbellSubmit q) P :=
  State.runs_unit (fun _ => decide (q < 32)) (fun d => drainWaiting q (ringBells q d)) rfl (decide_eq_true hq) h

/-- The one task that a doorbell holds enters when its port and its descriptor allow it. -/
theorem ringBells_one {s : Device} {q : Nat} (one : (s.queue q).bells = 1) (accepts : portStalled s q = false) (ok : bellCode s q = .ok) :
    ringBells q s = (enterTask (s.setQueue q { s.queue q with bells := 0 }) q (s.reg (R.QUE_DB_ENTRY q)) (BitVec.ofNat 32 q)
      (s.reg (R.QUE_DB_CFG q)) (s.reg (R.QUE_DB_AFF q))).2 := by
  have rung : taskCode (s.setQueue q { s.queue q with bells := 0 }) q (s.reg (R.QUE_DB_ENTRY q)) (s.reg (R.QUE_DB_CFG q))
      (s.reg (R.QUE_DB_AFF q)) = .ok := ok
  have regs (o : Nat) : (s.setQueue q { s.queue q with bells := 0 }).reg o = s.reg o := rfl
  unfold ringBells
  rw [one, show upto 1 = [0] from rfl, Device.each, List.foldl_cons, List.foldl_nil]
  simp only [one, accepts, regs, rung, Nat.sub_self, Bool.false_or, one_ne_zero, decide_false, Bool.false_eq_true, if_false, if_true]

theorem ringBells_enters {s : Device} {q : Nat} (one : (s.queue q).bells = 1) (accepts : portStalled s q = false) (ok : bellCode s q = .ok) :
    let d := ringBells q s
    let slot := freeSlot s.que.tasks
    d.queue q = { s.queue q with bells := 0 } ∧
    (∃ t, d.que.tasks.find slot = some t ∧ t.w0 = s.reg (R.QUE_DB_ENTRY q) ∧ t.w1 = BitVec.ofNat 32 q) ∧
    (∀ p, p ≠ q → d.queue p = s.queue p) ∧ ∀ k, k ≠ slot → d.que.tasks.find k = s.que.tasks.find k := by
  dsimp only
  rw [ringBells_one one accepts ok]
  obtain ⟨-, ⟨t, -, w0, w1, -, -, tasks⟩, queues⟩ := enterTask_spec (s.setQueue q { s.queue q with bells := 0 }) q
    (s.reg (R.QUE_DB_ENTRY q)) (BitVec.ofNat 32 q) (s.reg (R.QUE_DB_CFG q)) (s.reg (R.QUE_DB_AFF q))
  generalize (enterTask (s.setQueue q { s.queue q with bells := 0 }) q _ _ _ _).2 = d at tasks queues ⊢
  have queue (p : Nat) := (Device.queue_of_queues queues p).trans (Device.queue_setQueue s q p _)
  have slots (k : Nat) : d.que.tasks.find k = if k = freeSlot s.que.tasks then some t else s.que.tasks.find k :=
    (congrArg (Table.find · k) tasks).trans (Table.find_put _ _ k t)
  exact ⟨(queue q).trans (if_pos rfl), ⟨t, (slots _).trans (if_pos rfl), w0, w1⟩, fun p other => (queue p).trans (if_neg other),
    fun k other => (slots k).trans (if_neg other)⟩

/-! ### The obligation -/

/-- Settles O31: the window's task enters or is counted, and a doorbell's task enters with its queue's words. -/
theorem tasksEnterTheirSlots : Obligations.TasksEnterTheirSlots := by
  intro s
  refine ⟨fun a w3 ha => ⟨fun ok => runs_taskSubmit ha (submitTask_enters ok), fun no => runs_taskSubmit ha (submitTask_counts no)⟩,
    fun q hq one empty accepts ok => runs_doorbellSubmit hq ?_⟩
  obtain ⟨here, task, others, slots⟩ := ringBells_enters one accepts ok
  rw [drainWaiting_none q _ ((congrArg (·.waiting) here).trans empty)]
  exact ⟨congrArg (·.bells) here, task, others, slots⟩

end Sys2Proof.Machine
end

section
/-! PROOFS. Tasks run and leave (R105 to R111, R119): dispatch, the affinity wait, delay lists, DONE and cancels. -/

namespace Sys2Proof.Machine

/-! ### Dispatch (R105 to R108, R119) -/

/-- One step of the dispatcher, which does nothing while SCH_CTRL.EN = 0 (R119). -/
def dispatchStep (s : Device) : Device := if s.rb R.SCH_CTRL 0 then dispatchFrom (selection s) s else s

theorem runs_taskDispatch {s : State} {P : Device → Prop} (h : P (dispatchStep s.dev)) : s.runs .taskDispatch P :=
  State.runs_of dispatchStep rfl h

theorem dispatchStep_disabled {s : Device} (off : s.rb R.SCH_CTRL 0 = false) : dispatchStep s = s := if_neg (by simp [off])

theorem dispatchStep_first {s : Device} {t : Task} {l : List Task} {c : Nat} {hit : Bool} (on : s.rb R.SCH_CTRL 0 = true)
    (first : selection s = t :: l) (runs : placeTask s t = .run c hit) : dispatchStep s = dispatchTo c t hit s := by
  rw [dispatchStep, if_pos on, first, dispatchFrom, runs]

/-- A task's slot after a change that put a task there. -/
theorem find_tasks_put {s d : Device} {k : Nat} {t : Task} (h : d.que.tasks = s.que.tasks.put k t) :
    d.que.tasks.find k = some t ∧ ∀ j, j ≠ k → d.que.tasks.find j = s.que.tasks.find j := by
  rw [h]
  exact ⟨(Table.find_put ..).trans (if_pos rfl), fun j other => (Table.find_put ..).trans (if_neg other)⟩

/-- A task that is READY becomes eligible (R105). -/
theorem runs_taskEligible {s : State} {slot k : Nat} {t : Task} (hs : slot < 4096) (listed : s.dev.que.tasks.find slot = some t)
    (ready : t.state = .ready k false) {P : Device → Prop} (h : P (s.dev.setTask { t with state := .ready k true })) :
    s.runs (.taskEligible slot) P := by
  refine ⟨_, ?_, h⟩
  change execTaskEligible slot s = _
  simp [execTaskEligible, State.onDevice, hs, listed, ready]

/-! ### The end of an affinity wait (R107) -/

/-- A task whose wait for its recorded core has ended. -/
def Task.givesUp (t : Task) : Task := { t with wait := none, missed := true }

/-- The end of a task's affinity wait, before the task is placed. -/
def waitEnded (t : Task) (u : Nat) (s : Device) : Device := ((s.elapseTo u).count R.SCH_AFF_MISS 1).setTask t.givesUp

theorem waitEnded_reg (t : Task) (u : Nat) (s : Device) (o : Nat) :
    (waitEnded t u s).reg o = if o = R.SCH_AFF_MISS then satInc (s.reg R.SCH_AFF_MISS) 1 else s.reg o := by
  change ((s.elapseTo u).count R.SCH_AFF_MISS 1).reg o = _
  rw [Device.reg_count]
  simp only [Device.reg_elapseTo]

/-- With no core at work before, every core the task may run on is idle after its wait. -/
theorem idleCores_waitEnded {t : Task} {s : Device} (u : Nat) (idle : ∀ k, runningOn s k = none) (still : ∀ k, t.state ≠ .running k) :
    idleCores (waitEnded t u s) t.givesUp = eligibleCores s t := by
  have eligible : eligibleCores (waitEnded t u s) t.givesUp = eligibleCores s t := by
    have enabled (c : Nat) : (waitEnded t u s).rb R.SCH_CORE_EN c = s.rb R.SCH_CORE_EN c :=
      Device.rb_of_reg ((waitEnded_reg t u s _).trans (if_neg (by decide))) c
    simp only [eligibleCores, enabled]
    rfl
  have que : ((s.elapseTo u).count R.SCH_AFF_MISS 1).que = s.que := s.elapseTo_que u
  have none (c : Nat) : runningOn (waitEnded t u s) c = none := by
    refine Table.put_running _ _ _ c (still c) ?_
    rw [que]
    exact idle c
  simp [idleCores, eligible, none]

theorem runs_affinityWaitExpiry {s : State} {slot u c : Nat} {t : Task} (hs : slot < 4096) (listed : s.dev.que.tasks.find slot = some t)
    (waits : t.wait = some u) (on : s.dev.rb R.SCH_CTRL 0 = true) (lowest : (eligibleCores s.dev t).head? = some c)
    (idle : ∀ k, runningOn s.dev k = none) (still : ∀ k, t.state ≠ .running k) {P : Device → Prop}
    (h : P (dispatchTo c t.givesUp false (waitEnded t u s.dev))) : s.runs (.affinityWaitExpiry slot) P := by
  have cores := idleCores_waitEnded u idle still
  obtain ⟨l, first⟩ : ∃ l, eligibleCores s.dev t = c :: l := ⟨_, List.eq_cons_of_mem_head? lowest⟩
  rw [first] at cores
  have enabled : (waitEnded t u s.dev).rb R.SCH_CTRL 0 = true :=
    (Device.rb_of_reg ((waitEnded_reg t u s.dev _).trans (if_neg (by decide))) 0).trans on
  refine ⟨_, ?_, h⟩
  change execAffinityWaitExpiry slot s = _
  unfold waitEnded Task.givesUp at *
  simp [execAffinityWaitExpiry, State.onDevice, hs, listed, waits, cores, enabled]

/-! ### Delay lists (R109) -/

theorem runs_delayListTick {s : State} {n : Nat} (hn : n < 8) {P : Device → Prop} (h : P (localTick n s.dev)) : s.runs (.delayListTick n) P :=
  State.runs_unit (fun _ => decide (n < 8)) (localTick n) rfl (decide_eq_true hn) h

theorem localTick_frames {s : Device} {n : Nat} (frames : s.rb (R.SCH_DLY_CFGd n) 31 = true) : localTick n s = s := if_pos frames

/-- The tasks of a delay list. -/
def delayList (s : Device) (n : Nat) : List Task := (s.que.tasks.map (·.2)).filter (fun t => wbit t.w3 11 && wfld t.w3 10 8 = n)

/-- A task of a delay list after a tick that leaves it `k` ticks to wait. -/
def Task.ticked (t : Task) (k order : Nat) : Task := { t with state := if k = 0 then .ready order false else .delayed k }

/-- The only task of a list counts down, and is READY at 0. -/
theorem tickList_only {s : Device} {n k : Nat} {t : Task} (only : delayList s n = [t]) (delayed : t.state = .delayed (k + 1)) : ∃ order,
    tickList n s = { s with que := { s.que with tasks := s.que.tasks.put (t.handle % 4096) (t.ticked k s.que.order), order := order } } := by
  have sorted : sortBy (fun (t u : Task) => t.order ≤ u.order) (delayList s n) = [t] := by rw [only]; rfl
  unfold delayList at sorted
  unfold tickList
  dsimp only
  rw [sorted, Device.each, List.foldl_cons, List.foldl_nil, delayed]
  cases k with
  | zero => exact ⟨_, rfl⟩
  | succ k => exact ⟨s.que.order, rfl⟩

/-- The instant of a tick of a list's local counter: the next one lies a period later. -/
def tickInstant (n : Nat) (s : Device) : Device :=
  { s.elapseTo (dueTick s n) with que := { s.que with ticks := s.que.ticks.put n (dueTick s n + tickNs s n) } }

theorem localTick_own {s : Device} {n : Nat} (own : s.rb (R.SCH_DLY_CFGd n) 31 = false) : localTick n s = tickList n (tickInstant n s) := by
  have period : tickNs (s.elapseTo (dueTick s n)) n = tickNs s n := congrArg (1000 * ·) (Device.rf_of_reg (Device.reg_elapseTo s _ _) 9 0)
  simp [localTick, own, period, tickInstant]

/-- At a tick of its local counter the only task of a list counts down, and nothing but time and the scheduler moves. -/
theorem localTick_only {s : Device} {n k : Nat} {t : Task} (own : s.rb (R.SCH_DLY_CFGd n) 31 = false) (only : delayList s n = [t])
    (delayed : t.state = .delayed (k + 1)) :
    let d := localTick n s
    d.que.tasks = s.que.tasks.put (t.handle % 4096) (t.ticked k s.que.order) ∧
    nextTick d n = dueTick s n + tickNs s n ∧ d = { s.elapseTo (dueTick s n) with que := d.que } := by
  obtain ⟨order, ticked⟩ := tickList_only (s := tickInstant n s) (n := n) only delayed
  dsimp only
  rw [localTick_own own, ticked]
  refine ⟨rfl, ?_, rfl⟩
  simp [nextTick, tickInstant, Table.getD, Table.find_put]

/-! ### DONE (R108, R111) -/

theorem runs_taskDone {s : State} {a c : Nat} (ha : a < 9) (hc : c < 8) {v : Word} {P : Device → Prop} (h : P (doneTask c v s.dev)) :
    s.runs (.taskDone a c v) P :=
  State.runs_unit (fun _ => a < 9 && c < 8) (doneTask c v) rfl (by simp [ha, hc]) h

theorem doneTask_stranger {s : Device} {c : Nat} {v : Word} (stranger : ∀ t, runningOn s c = some t → t.handle ≠ wfld v 15 0) :
    doneTask c v s = (s.raise Ev.SCH_DONE_ERR c).answer .state := by
  unfold doneTask
  cases running : runningOn s c with
  | none => rfl
  | some t => exact if_neg (stranger t running)

/-- The task that runs on a core ends: it is held for its flow or leaves, and what waited for its slot goes on. -/
theorem doneTask_own {s : Device} {c : Nat} {v : Word} {t : Task} (running : runningOn s c = some t) (own : t.handle = wfld v 15 0)
    (clear : wfld v 31 16 = 0) :
    doneTask c v s = (afterFree (if isOldest s t then leaveTask t s else s.setTask { t with state := .doneHeld })).answer .ok := by
  simp [doneTask, running, own, clear]

/-- With no queue in use, what goes on after a task's end leaves the tasks as they are. -/
theorem afterFree_tasks {s : Device} (noQueues : s.que.queues = []) : (afterFree s).que.tasks = s.que.tasks := by
  obtain ⟨st, h⟩ := refreshStalls_que s
  rw [afterFree_none s noQueues, h]

/-- A task's slot is free. -/
def Device.freeTask (s : Device) (t : Task) : Device := { s with que := { s.que with tasks := s.que.tasks.del (t.handle % 4096) } }

theorem Device.find_freeTask (s : Device) (t : Task) : (s.freeTask t).que.tasks.find (t.handle % 4096) = none :=
  (Table.find_del ..).trans (if_pos rfl)

/-- A task of no flow, with no push held for it, leaves its slot free and does nothing else. -/
theorem leaveTask_plain {t : Task} (noFlow : t.flow = none) (noHeld : t.held = []) (s : Device) :
    leaveTask t s = s.freeTask t := by
  simp [leaveTask, releaseTask, noFlow, noHeld, Device.each, Device.freeTask]

theorem isOldest_noFlow {t : Task} (noFlow : t.flow = none) (s : Device) : isOldest s t = true := by
  unfold isOldest
  rw [noFlow]

/-! ### Cancels (R110) -/

theorem runs_taskCancel {s : State} {a : Nat} (ha : a < 9) {v : Word} {P : Device → Prop} (h : P (cancelTask v s.dev)) :
    s.runs (.taskCancel a v) P :=
  State.runs_unit (fun _ => decide (a < 9)) (cancelTask v) rfl (decide_eq_true ha) h

/-- A cancel's result is stored and answered OK. -/
def cancelResult (n : Nat) (s : Device) : Device := (s.setN R.SCH_CANCEL_RESULT n).answer .ok

theorem cancelResult_effect (n : Nat) (s : Device) :
    (cancelResult n s).reg R.SCH_CANCEL_RESULT = BitVec.ofNat 32 n ∧ s.keepsRegs (cancelResult n s) [R.SCH_CANCEL_RESULT] ∧
    cancelResult n s = { s with regs := (cancelResult n s).regs, resp := { code := .ok } } := by
  refine ⟨?_, ?_, rfl⟩
  · rw [cancelResult, Device.reg_answer, Device.reg_setN, if_pos rfl]
  · exact Device.keepsRegs_congr (Device.keepsRegs_setReg (Device.keepsRegs_refl [R.SCH_CANCEL_RESULT] rfl) R.SCH_CANCEL_RESULT _ (by simp)) rfl

theorem cancelTask_reserved {v : Word} (reserved : wfld v 31 16 ≠ 0) (s : Device) : cancelTask v s = s.answer .reserved := if_pos reserved

theorem cancelTask_stranger {s : Device} {v : Word} (clear : wfld v 31 16 = 0)
    (stranger : ∀ t, s.que.tasks.find (wfld v 15 0 % 4096) = some t → t.handle ≠ wfld v 15 0) : cancelTask v s = cancelResult 3 s := by
  cases slot : s.que.tasks.find (wfld v 15 0 % 4096) with
  | none => simp [cancelTask, clear, slot, cancelResult]
  | some t => simp [cancelTask, clear, slot, stranger t slot, cancelResult]

section Own

variable {s : Device} {v : Word} {t : Task} (slot : s.que.tasks.find (wfld v 15 0 % 4096) = some t) (own : t.handle = wfld v 15 0)
  (clear : wfld v 31 16 = 0)
include slot own clear

theorem cancelTask_running {k : Nat} (running : t.state = .running k) : cancelTask v s = cancelResult 1 s := by
  simp [cancelTask, clear, slot, own, running, cancelResult]

theorem cancelTask_delayed {n : Nat} (delayed : t.state = .delayed n) :
    cancelTask v s = cancelResult 0 ((afterFree (leaveTask { t with held := [] } s)).count R.SCH_CANCELLED 1) := by
  simp [cancelTask, clear, slot, own, delayed, cancelResult]

end Own

/-- With no queue in use, a DELAYED task of no flow is cancelled: its slot is free, and it is counted. -/
theorem cancelTask_delayed_effect {s : Device} {v : Word} {t : Task} {n : Nat} (slot : s.que.tasks.find (wfld v 15 0 % 4096) = some t)
    (own : t.handle = wfld v 15 0) (clear : wfld v 31 16 = 0) (delayed : t.state = .delayed n) (noFlow : t.flow = none)
    (noQueues : s.que.queues = []) :
    let d := cancelTask v s
    d.reg R.SCH_CANCEL_RESULT = 0 ∧ d.que.tasks.find (wfld v 15 0 % 4096) = none ∧
    d.reg R.SCH_CANCELLED = satInc (s.reg R.SCH_CANCELLED) 1 ∧ d.resp = { code := .ok } := by
  dsimp only
  rw [cancelTask_delayed slot own clear delayed, leaveTask_plain (t := { t with held := [] }) noFlow rfl]
  generalize hu : s.freeTask { t with held := [] } = u
  have queues : u.que.queues = [] := by rw [← hu]; exact noQueues
  have regs (o : Nat) : (afterFree u).reg o = s.reg o := by rw [afterFree_none u queues, refreshStalls_reg, ← hu]; rfl
  obtain ⟨result, kept, -⟩ := cancelResult_effect 0 ((afterFree u).count R.SCH_CANCELLED 1)
  refine ⟨result, ?_, ?_, rfl⟩
  · change (afterFree u).que.tasks.find _ = none
    rw [afterFree_tasks queues, ← hu, ← own]
    exact Device.find_freeTask s { t with held := [] }
  · rw [kept _ (by decide), Device.reg_count, if_pos rfl, regs]

/-! ### The obligation -/

/-- Settles O32: the dispatcher and its waits, the delay lists, DONE, then cancels. -/
theorem tasksRunAndLeave : Obligations.TasksRunAndLeave := by
  intro s
  refine ⟨fun off => runs_taskDispatch (dispatchStep_disabled off), fun t l c hit on first runs => runs_taskDispatch ?_,
    fun slot t u c hs task own waits on lowest idle still => runs_affinityWaitExpiry hs task waits on lowest idle still ?_,
    fun slot t k hs task own ready => runs_taskEligible hs task ready ?_,
    fun n t k hn own only delayed => runs_delayListTick hn ?_, fun n hn frames => runs_delayListTick hn (localTick_frames frames),
    fun a c v ha hc stranger => runs_taskDone ha hc ?_, fun a c v t ha hc running own clear noQueues => ⟨fun younger => ?_,
      fun noFlow noHeld => ?_⟩, fun a v ha clear stranger => runs_taskCancel ha ?_,
    fun a v t k ha slot own clear running => runs_taskCancel ha ?_,
    fun a v t n ha slot own clear delayed noFlow noQueues =>
      runs_taskCancel ha (cancelTask_delayed_effect slot own clear delayed noFlow noQueues),
    fun a v ha reserved => runs_taskCancel ha (cancelTask_reserved reserved _)⟩
  · rw [dispatchStep_first on first runs]
    obtain ⟨slot, handle, entry, arg, sent, -, -⟩ := dispatchTo_spec c t hit s.dev
    exact ⟨slot, handle, entry, arg, sent⟩
  · obtain ⟨runs, -, -, -, -, missed, clock⟩ := dispatchTo_spec c t.givesUp false (waitEnded t u s.dev)
    refine ⟨?_, missed.trans ((waitEnded_reg ..).trans (if_pos rfl)), clock.trans (s.dev.elapseTo_clock u)⟩
    rw [← own]
    exact runs
  · obtain ⟨here, others⟩ := find_tasks_put (s := s.dev) (d := s.dev.setTask { t with state := .ready k true }) rfl
    rw [← own]
    exact ⟨here, others, rfl⟩
  · obtain ⟨tasks, next, frame⟩ := localTick_only own only delayed
    obtain ⟨here, others⟩ := find_tasks_put tasks
    exact ⟨here, others, next, frame⟩
  · rw [doneTask_stranger stranger]
    have told := Device.newEvents_raise (Device.newEvents_none (s := s.dev) rfl) Ev.SCH_DONE_ERR c
    rw [Nat.mod_eq_of_lt (show c < 2 ^ 64 by omega)] at told
    exact ⟨told, rfl, rfl⟩
  · refine runs_taskDone ha hc ?_
    rw [doneTask_own running own clear, if_neg (by simp [younger])]
    exact ⟨(find_tasks_put (afterFree_tasks (s := s.dev.setTask { t with state := .doneHeld }) noQueues)).1, rfl⟩
  · refine runs_taskDone ha hc ?_
    rw [doneTask_own running own clear, if_pos (isOldest_noFlow noFlow s.dev), leaveTask_plain noFlow noHeld]
    refine ⟨?_, rfl⟩
    rw [Device.answer_que, afterFree_tasks (s := s.dev.freeTask t) noQueues]
    exact Device.find_freeTask s.dev t
  · rw [cancelTask_stranger clear stranger]
    exact cancelResult_effect 3 s.dev
  · rw [cancelTask_running slot own clear running]
    obtain ⟨result, -, frame⟩ := cancelResult_effect 1 s.dev
    exact ⟨result, frame⟩

end Sys2Proof.Machine
end

section
/-! PROOFS. What a byte of memory reads as (R329, R331, R334, R337, R338): regions and granules, and bytes after a store. -/

namespace Sys2Proof.Machine

/-! ### Regions and pages (R329) -/

/-- Regions and the carve-out begin and end at pages, so the bytes of one page lie in one region. -/
theorem regionOf_page (s : Device) {x y : Nat} (page : x / 4096 = y / 4096) : regionOf s x = regionOf s y := by
  have reaches (c : Nat) : 4096 * c ≤ x ↔ 4096 * c ≤ y := by omega
  have below (c d : Nat) : x < 4096 * c + 4096 * d ↔ y < 4096 * c + 4096 * d := by omega
  have holds (r : Nat) : (regionOn s r && regionBase s r ≤ x && x < regionBase s r + regionSize s r) =
      (regionOn s r && regionBase s r ≤ y && y < regionBase s r + regionSize s r) := by
    unfold regionBase regionSize
    rw [decide_eq_decide.mpr (reaches _), decide_eq_decide.mpr (below _ _)]
  unfold regionOf
  simp only [holds]
  exact if_congr (reaches _) rfl rfl

/-- Where the regions lie depends on the registers alone. -/
theorem regionOf_regs {s t : Device} (regs : t.regs = s.regs) (x : Nat) : regionOf t x = regionOf s x := by
  have reg : t.reg = s.reg := funext (Device.reg_congr regs)
  unfold regionOf carveBase regionOn regionBase regionSize Device.rf Device.rb Device.rn
  rw [reg]

theorem regionOf_some {s : Device} {x r : Nat} (h : regionOf s x = some r) :
    x < carveBase s ∧ regionBase s r ≤ x ∧ x < regionBase s r + regionSize s r := by
  unfold regionOf at h
  split_ifs at h with carve
  have holds := List.find?_some h
  simp only [Bool.and_eq_true, decide_eq_true_eq] at holds
  obtain ⟨⟨-, base⟩, last⟩ := holds
  exact ⟨not_le.mp carve, base, last⟩

theorem inOneRegion_none {s : Device} {x : Nat} (h : regionOf s x = none) (n : Nat) : inOneRegion s x n = false := by
  unfold inOneRegion
  rw [h]

/-! ### Codewords (R331) -/

theorem cwBytes_cases (cls : Nat) : cwBytes cls = 32 ∨ cwBytes cls = 8 := by
  unfold cwBytes
  split
  · exact .inl rfl
  · exact .inr rfl

/-- A codeword that begins in a region ends in it. -/
theorem inOneRegion_codeword {s : Device} {x r cls : Nat} (h : regionOf s x = some r) (aligned : x % cwBytes cls = 0) :
    inOneRegion s x (cwBytes cls) = true := by
  obtain ⟨carve, base, last⟩ := regionOf_some h
  unfold inOneRegion
  rw [h]
  unfold carveBase regionBase regionSize at *
  rw [Bool.and_eq_true, decide_eq_true_eq, decide_eq_true_eq]
  rcases cwBytes_cases cls with k | k <;> rw [k] at aligned ⊢ <;> omega

/-- The codeword of a byte begins at a multiple of its size, in the byte's page. -/
theorem cwOf_place (s : Device) (r x : Nat) :
    cwOf s r x % cwBytes (regionClass s r) = 0 ∧ cwOf s r x / 4096 = x / 4096 := by
  unfold cwOf
  rcases cwBytes_cases (regionClass s r) with k | k <;> rw [k] <;> omega

theorem cwOf_aligned {s : Device} {r x : Nat} (aligned : x % cwBytes (regionClass s r) = 0) : cwOf s r x = x := by
  rw [cwOf, aligned, Nat.sub_zero]

/-- A range of one whole codeword is that codeword. -/
theorem cwsOf_one {s : Device} {r x : Nat} (aligned : x % cwBytes (regionClass s r) = 0) :
    cwsOf s r x (cwBytes (regionClass s r)) = [x] := by
  have count : (x + cwBytes (regionClass s r) - 1) / cwBytes (regionClass s r) - x / cwBytes (regionClass s r) + 1 = 1 := by
    rcases cwBytes_cases (regionClass s r) with k | k <;> rw [k] at aligned ⊢ <;> omega
  have positive : cwBytes (regionClass s r) ≠ 0 := by rcases cwBytes_cases (regionClass s r) with k | k <;> rw [k] <;> decide
  simp only [cwsOf, count, positive, if_false]
  simp [upto, Nat.div_mul_cancel (Nat.dvd_of_mod_eq_zero aligned)]

/-- With no fill and no discard under way the fronts stand. -/
theorem syncFronts_idle {s : Device} (noFill : s.mem.zeroFill = none) (noDiscard : s.mem.discards = []) : syncFronts s = s := by
  have filled : fillFront s = s := by
    unfold fillFront
    rw [noFill]
  rw [syncFronts, filled, discardFronts, noDiscard]
  rfl

/-! ### Granules (R337) -/

/-- The bytes of one granule are unwritten together. -/
theorem unwritten_granule (s : Device) {x y : Nat} (granule : x / 256 = y / 256) : unwritten s x = unwritten s y := by
  unfold unwritten
  rw [regionOf_page s (x := x) (y := y) (by omega), granule]

/-- Whether a byte is unwritten depends on the registers and the valid bit of its granule. -/
theorem unwritten_congr {s t : Device} {x : Nat} (regs : t.regs = s.regs)
    (valid : t.mem.valid.getD false (x / 256) = s.mem.valid.getD false (x / 256)) : unwritten t x = unwritten s x := by
  unfold unwritten
  rw [regionOf_regs regs, valid]
  simp only [regionTracked, Device.rb, Device.rn, Device.reg, regs]

theorem unwritten_of_valid {s : Device} {x : Nat} (valid : s.mem.valid.getD false (x / 256) = true) : unwritten s x = false := by
  unfold unwritten
  rw [valid]
  split <;> simp

theorem heldByte_congr {s t : Device} {x : Nat} (known : t.mem.isKnown x = s.mem.isKnown x)
    (cell : t.mem.cells.getD 0 x = s.mem.cells.getD 0 x) (free : t.free = s.free) : heldByte t x = heldByte s x := by
  rw [heldByte, heldByte, known, cell, free]

/-- What every byte reads as depends on the registers, the cells with their valid and known bits, and the free values. -/
theorem readByte_congr {s t : Device} (regs : t.regs = s.regs) (valid : t.mem.valid = s.mem.valid) (known : t.mem.known = s.mem.known)
    (filled : t.mem.filled = s.mem.filled) (cells : t.mem.cells = s.mem.cells) (free : t.free = s.free) (x : Nat) :
    readByte t x = readByte s x := by
  unfold readByte
  rw [unwritten_congr regs (by rw [valid]),
    heldByte_congr (s := s) (t := t) (by unfold MemState.isKnown; rw [known, filled]) (by rw [cells]) free]

/-! ### The memory's tables after a change (R337, R338) -/

theorem find_known (lo n j : Nat) :
    Table.find ((upto n).map (fun i => (lo + i, true))) j = if lo ≤ j ∧ j < lo + n then some true else none := by
  unfold upto
  induction n with
  | zero => simp
  | succ n ih =>
    rw [List.range_succ, List.map_append, Table.find_append, ih, List.map_singleton, Table.find_cons, Table.find_nil]
    split_ifs <;> first | rfl | omega

/-- The words noted as written are known, the others as before. -/
theorem MemState.isKnown_note (m : MemState) (lo hi x : Nat) :
    (m.note lo hi).isKnown x = (decide (lo ≤ x / 8 ∧ x / 8 < hi) || m.isKnown x) := by
  have words (j : Nat) : (m.note lo hi).known.getD false j = (decide (lo ≤ j ∧ j < hi) || m.known.getD false j) := by
    have found := Table.find_splice m.known ((upto (hi - lo)).map (fun i => (lo + i, true))) lo hi j
      (fun out => (find_known lo (hi - lo) j).trans (if_neg (by omega)))
    rw [find_known] at found
    simp only [Table.getD, MemState.note, found]
    split_ifs with inside range
    · simp [inside]
    · omega
    · simp [inside]
  simp only [MemState.isKnown, words, Bool.or_assoc]
  rfl

theorem find_storeCells (data : List Byte) (off j : Nat) :
    Table.find ((data.zipIdx off).filterMap (fun p => if p.1 = 0 then none else some (p.2, p.1))) j =
      if off ≤ j then data[j - off]?.filter (· ≠ 0) else none := by
  induction data generalizing off with
  | nil => simp
  | cons b l ih =>
    have rest := ih (off + 1)
    rcases Nat.lt_trichotomy j off with below | rfl | above
    · rw [if_neg (by omega)] at rest ⊢
      simp only [List.zipIdx_cons, List.filterMap_cons]
      split_ifs with zero
      · exact rest
      · rw [Table.find_cons, if_neg (by omega), rest]
    · rw [if_neg (by omega)] at rest
      rw [if_pos (le_refl j), Nat.sub_self, List.getElem?_cons_zero]
      simp only [List.zipIdx_cons, List.filterMap_cons]
      split_ifs with zero
      · rw [rest, zero]; rfl
      · rw [Table.find_cons, if_pos rfl, Option.filter_some_pos (by simpa using zero)]
    · obtain ⟨k, rfl⟩ : ∃ k, j = off + 1 + k := ⟨j - (off + 1), by omega⟩
      rw [if_pos (by omega), Nat.add_sub_cancel_left] at rest
      rw [if_pos (by omega), show off + 1 + k - off = k + 1 by omega, List.getElem?_cons_succ, ← rest]
      simp only [List.zipIdx_cons, List.filterMap_cons]
      split_ifs with zero
      · rfl
      · rw [Table.find_cons, if_neg (by omega)]

/-- The cells after a store: its bytes in its range, the others as before. -/
theorem MemState.cells_store (m : MemState) (off : Nat) (data : List Byte) (x : Nat) :
    (m.store off data).cells.getD 0 x = if h : off ≤ x ∧ x < off + data.length then data[x - off] else m.cells.getD 0 x := by
  have cells : (m.store off data).cells = m.cells.splice off (off + data.length)
      ((data.zipIdx off).filterMap (fun p => if p.1 = 0 then none else some (p.2, p.1))) := by
    unfold MemState.store
    dsimp only
    split <;> rfl
  have found := Table.find_splice m.cells ((data.zipIdx off).filterMap (fun p => if p.1 = 0 then none else some (p.2, p.1))) off
    (off + data.length) x (fun out => by
      rw [find_storeCells]
      split_ifs with h
      · rw [List.getElem?_eq_none (by omega)]; rfl
      · rfl)
  rw [Table.getD, cells, found, find_storeCells]
  split_ifs with inside h
  · rw [List.getElem?_eq_getElem (show x - off < data.length by omega)]
    by_cases zero : data[x - off] = 0
    · rw [zero]; rfl
    · rw [Option.filter_some_pos (by simpa using zero)]; rfl
  · exact absurd inside.1 h
  · rfl

/-- The words that a store of whole words meets are known after it, the others as before. -/
theorem MemState.isKnown_store (m : MemState) {off : Nat} {data : List Byte} (aligned : off % 8 = 0) (whole : data.length % 8 = 0) (x : Nat) :
    (m.store off data).isKnown x = (decide (off ≤ x ∧ x < off + data.length) || m.isKnown x) := by
  unfold MemState.store
  dsimp only
  split_ifs with empty
  · rw [List.isEmpty_iff.mp empty]
    simp [MemState.isKnown]
  · rw [show decide (off ≤ x ∧ x < off + data.length) = decide (off / 8 ≤ x / 8 ∧ x / 8 < (off + data.length + 7) / 8) from
      decide_eq_decide.mpr (by omega), ← MemState.isKnown_note]
    rfl

theorem MemState.cells_clear (m : MemState) (off n x : Nat) :
    (m.clear off n).cells.getD 0 x = if off ≤ x ∧ x < off + n then 0 else m.cells.getD 0 x := by
  have found := Table.find_filter_key m.cells (fun k => k < off || off + n ≤ k) x
  simp only [Table.getD, MemState.clear, found]
  by_cases inside : off ≤ x ∧ x < off + n
  · rw [if_pos inside, if_neg (by simp; omega)]; rfl
  · rw [if_neg inside, if_pos (by simp; omega)]

/-! ### Bytes after a change (R336, R337) -/

/-- Opening a granule changes what no byte reads as. -/
theorem readByte_openGranule (off : Nat) (s : Device) (x : Nat) : readByte (openGranule off s) x = readByte s x := by
  unfold openGranule
  split
  case isFalse => rfl
  case isTrue closed =>
    generalize opened : ({ s with mem := _ } : Device) = d
    have free : d.free = s.free := by rw [← opened]
    have regs : d.regs = s.regs := by rw [← opened]
    have valid (g : Nat) : d.mem.valid.getD false g = if g = off / 256 then true else s.mem.valid.getD false g := by
      rw [← opened]
      exact Table.getD_setD s.mem.valid false true (off / 256) g
    have known : d.mem.isKnown x = (decide (off / 256 * 32 ≤ x / 8 ∧ x / 8 < off / 256 * 32 + 32) || s.mem.isKnown x) := by
      rw [← opened]
      exact MemState.isKnown_note (s.mem.clear (off / 256 * 256) 256) _ _ x
    have cell : d.mem.cells.getD 0 x = if off / 256 * 256 ≤ x ∧ x < off / 256 * 256 + 256 then 0 else s.mem.cells.getD 0 x := by
      rw [← opened]
      exact MemState.cells_clear ..
    by_cases here : x / 256 = off / 256
    · rw [if_pos (by omega)] at cell
      rw [decide_eq_true (by omega), Bool.true_or] at known
      rw [readByte, readByte, unwritten_granule s here, closed, unwritten_of_valid (by rw [valid, if_pos here]), heldByte, known, cell]
      rfl
    · rw [if_neg (by omega)] at cell
      rw [decide_eq_false (by omega), Bool.false_or] at known
      rw [readByte, readByte, unwritten_congr regs (by rw [valid, if_neg here]), heldByte_congr known cell free]

theorem unwritten_openGranule (off : Nat) (s : Device) : unwritten (openGranule off s) off = false := by
  unfold openGranule
  split
  case isFalse written => simpa using written
  case isTrue => exact unwritten_of_valid ((Table.getD_setD s.mem.valid false true (off / 256) (off / 256)).trans (if_pos rfl))

/-- A store of whole words in one written granule is read in its range, and nowhere else. -/
theorem readByte_store {s : Device} {off : Nat} {data : List Byte} (written : unwritten s off = false) (aligned : off % 8 = 0)
    (whole : data.length % 8 = 0) (granule : off % 256 + data.length ≤ 256) (x : Nat) :
    readByte { s with mem := s.mem.store off data } x =
      if h : off ≤ x ∧ x < off + data.length then data[x - off] else readByte s x := by
  have valid : (s.mem.store off data).valid = s.mem.valid := by
    unfold MemState.store
    dsimp only
    split <;> rfl
  have kept : unwritten { s with mem := s.mem.store off data } x = unwritten s x := unwritten_congr rfl (by rw [valid])
  have known := MemState.isKnown_store s.mem aligned whole x
  have cell := MemState.cells_store s.mem off data x
  rw [readByte, kept]
  by_cases inside : off ≤ x ∧ x < off + data.length
  · rw [dif_pos inside] at cell ⊢
    rw [decide_eq_true inside, Bool.true_or] at known
    rw [unwritten_granule s (show x / 256 = off / 256 by omega), written, heldByte, known, cell]
    rfl
  · rw [dif_neg inside] at cell ⊢
    rw [decide_eq_false inside, Bool.false_or] at known
    rw [readByte, heldByte_congr (s := s) (t := { s with mem := s.mem.store off data }) known cell rfl]

end Sys2Proof.Machine
end

section
/-! PROOFS. Accesses to the memory (R116, R329, R334 to R337, R342, R346, R370): the refused ones, a read and a whole write of one codeword. -/

namespace Sys2Proof.Machine

/-! ### Accesses that are refused -/

theorem accessOutside_locked {off : Nat} (i : Nat) (k : Bool) (hidden : Config.safetyPrivate off = true) (s : Device) :
    accessOutside (.who (.core i k)) off s = s.answer .locked := if_pos (by simp [hidden])

theorem accessOutside_fault {a : MemAgent} {off : Nat} (bare : (∀ i k, a ≠ .who (.core i k)) ∨ Config.safetyPrivate off = false)
    (s : Device) : accessOutside a off s = (accessFault off s).answer .noSuch := by
  refine if_neg fun hidden => ?_
  simp only [Bool.and_eq_true] at hidden
  obtain ⟨core, hidden⟩ := hidden
  split at core
  · next i k => exact bare.elim (fun other => other i k rfl) (by simp [hidden])
  · exact absurd core (by decide)

/-- With the registers and the conditions of the codewords as before, no ageing accumulator is restored. -/
theorem recoverAges_same {s t : Device} (regs : t.regs = s.regs) (cond : t.mem.cond = s.mem.cond) : recoverAges s t = t := by
  have ages : poisonedAges t = poisonedAges s := by
    unfold poisonedAges Device.rf Device.rn
    simp only [cond, regionOf_regs regs, Device.reg_congr regs]
  refine if_neg ?_
  simp [ages]

/-- The commands that access a byte. -/
def accesses (a : MemAgent) (off : Nat) (data : List Byte) (u : Upset) : List Instr :=
  [.memReadAccess a off u, .memFullWrite a off data, .memPartialWrite a off data u]

section Runs

variable {s : State} {a : MemAgent} {off : Nat} {data : List Byte} {u : Upset} {t : Device} {P : Device → Prop}

theorem runs_memReadAccess (answer : readAccess a off u s.dev = t) (regs : t.regs = s.dev.regs) (cond : t.mem.cond = s.dev.mem.cond)
    (h : P t) : s.runs (.memReadAccess a off u) P :=
  State.runs_of (fun d => recoverAges d (readAccess a off u d)) rfl (by rwa [answer, recoverAges_same regs cond])

theorem runs_memWrites {c : Instr} (hc : c = .memFullWrite a off data ∨ c = .memPartialWrite a off data u)
    (answer : ∀ v, memWriteBy a off data v s.dev = t) (regs : t.regs = s.dev.regs) (cond : t.mem.cond = s.dev.mem.cond) (h : P t) :
    s.runs c P := by
  rcases hc with rfl | rfl
  · exact State.runs_of (memWriteBy a off data .none) rfl (by rwa [answer])
  · exact State.runs_of (fun d => recoverAges d (memWriteBy a off data u d)) rfl (by rwa [answer, recoverAges_same regs cond])

/-- An access outside every region runs as its answer says. -/
theorem runs_outside {c : Instr} (hc : c ∈ accesses a off data u) (outside : regionOf s.dev off = none)
    (answer : accessOutside a off s.dev = t) (regs : t.regs = s.dev.regs) (cond : t.mem.cond = s.dev.mem.cond) (h : P t) : s.runs c P := by
  rcases List.mem_cons.mp hc with rfl | hc
  · refine runs_memReadAccess ?_ regs cond h
    unfold readAccess
    rw [outside]
    exact answer
  · refine runs_memWrites (by simpa using hc) (fun v => ?_) regs cond h
    rw [memWriteBy, inOneRegion_none outside]
    exact answer

end Runs

theorem readAccess_lost {s : Device} {a : MemAgent} {off : Nat} (u : Upset) (inside : regionOf s off ≠ none) (lost : lineLost s a off = true) :
    readAccess a off u s = lineFault off s := by
  obtain ⟨r, region⟩ := Option.ne_none_iff_exists'.mp inside
  unfold readAccess
  rw [region]
  exact if_pos lost

section Inside

variable {s : Device} {a : MemAgent} {off : Nat} {data : List Byte} (inside : inOneRegion s off data.length = true)
include inside

theorem memWriteBy_lost (u : Upset) (lost : lineLost s a off = true) : memWriteBy a off data u s = lineFault off s := by
  rw [memWriteBy, inside, if_neg (by decide), if_pos lost]

theorem memWriteBy_locked (u : Upset) (kept : lineLost s a off = false) (refused : writeRefused s a off data.length = true) :
    memWriteBy a off data u s = s.answer .locked := by
  rw [memWriteBy, inside, if_neg (by decide), kept, if_neg (by decide), if_pos refused]

theorem memWriteBy_taken (u : Upset) (kept : lineLost s a off = false) (allowed : writeRefused s a off data.length = false) :
    memWriteBy a off data u s =
      (memWriteU a off data u s).1.answer (if (memWriteU a off data u s).2 then .check else .ok) := by
  rw [memWriteBy, inside, if_neg (by decide), kept, if_neg (by decide), allowed, if_neg (by decide)]

end Inside

/-! ### A read of a good codeword (R334, R337) -/

/-- The condition under which a codeword is read without an error. -/
def readsGood (s : Device) (r cw : Nat) (u : Upset) : Prop :=
  unwritten s cw = true ∨
    decodeCw (regionClass s r) (s.mem.cond.getD .good cw) (peek s cw (cwBytes (regionClass s r))) u = .good

theorem readCw_good {s : Device} {r cw : Nat} {u : Upset} (a : MemAgent) (good : readsGood s r cw u) :
    readCw a r cw u s = (s, { data := peek s cw (cwBytes (regionClass s r)) }) := by
  unfold readCw
  dsimp only
  split_ifs with closed
  · rfl
  · rw [good.resolve_left closed]

@[simp] theorem length_peek (s : Device) (off n : Nat) : (peek s off n).length = n := by
  unfold peek
  split_ifs <;> simp [upto]

/-- With no fill and no discard under way, a read of one good codeword answers its bytes and changes nothing. -/
theorem memReadU_good {s : Device} {r cw : Nat} {u : Upset} (a : MemAgent) (region : regionOf s cw = some r)
    (aligned : cw % cwBytes (regionClass s r) = 0) (noFill : s.mem.zeroFill = none) (noDiscard : s.mem.discards = [])
    (good : readsGood s r cw u) :
    memReadU a cw (cwBytes (regionClass s r)) u s = (s, { data := peek s cw (cwBytes (regionClass s r)) }) := by
  unfold memReadU
  dsimp only
  rw [syncFronts_idle noFill noDiscard, region]
  dsimp only
  rw [inOneRegion_codeword region aligned, cwsOf_one aligned, cwOf_aligned aligned, if_neg (by decide), List.foldl_cons, List.foldl_nil]
  simp only [readCw_good a good, Nat.sub_self, List.drop_zero, List.nil_append, Bool.false_or]
  rw [List.take_of_length_le (length_peek ..).le]

theorem readAccess_good {s : Device} {a : MemAgent} {off r : Nat} {u : Upset} (region : regionOf s off = some r)
    (kept : lineLost s a off = false) (noFill : s.mem.zeroFill = none) (noDiscard : s.mem.discards = [])
    (good : readsGood s r (cwOf s r off) u) : readAccess a off u s = s.answerD .ok ((upto (cwBytes (regionClass s r) / 4)).map fun i =>
      BitVec.ofNat 32 (leAt (peek s (cwOf s r off) (cwBytes (regionClass s r))) (4 * i) 4)) := by
  obtain ⟨aligned, page⟩ := cwOf_place s r off
  have read := memReadU_good a ((regionOf_page s page).trans region) aligned noFill noDiscard good
  unfold readAccess
  rw [region]
  dsimp only
  rw [kept, read, if_neg (by decide), length_peek]
  rfl

/-! ### A write of one whole codeword (R336, R337) -/

/-- Opening a granule keeps the registers and the free values. -/
theorem openGranule_fields (off : Nat) (s : Device) : (openGranule off s).regs = s.regs ∧ (openGranule off s).free = s.free := by
  unfold openGranule
  split <;> exact ⟨rfl, rfl⟩

/-- The device with a whole codeword stored, its granule open. -/
def stored (cw : Nat) (data : List Byte) (s : Device) : Device := { openGranule cw s with mem := (openGranule cw s).mem.store cw data }

/-- Whatever stood in it, a codeword that is written whole is stored and good; only the notified set may change beside it. -/
theorem writeWhole_fields (r cw : Nat) (data : List Byte) (s : Device) : ∃ notified,
    (writeWhole r cw data s).mem = { (setCond cw .good (stored cw data s)).mem with notified := notified } ∧
    (writeWhole r cw data s).regs = s.regs ∧ (writeWhole r cw data s).free = s.free := by
  obtain ⟨regs, free⟩ := openGranule_fields cw s
  have reported (t : Device) : (recovered r cw t).mem = t.mem ∧ (recovered r cw t).regs = t.regs ∧ (recovered r cw t).free = t.free := by
    unfold recovered
    dsimp only
    split <;> exact ⟨rfl, rfl, rfl⟩
  unfold writeWhole
  dsimp only
  split
  · rw [(reported _).1, (reported _).2.1, (reported _).2.2]
    exact ⟨_, rfl, regs, free⟩
  · exact ⟨_, rfl, regs, free⟩

/-- A whole codeword that is written is read as it was written, and every other byte as before. -/
theorem readByte_writeWhole {s : Device} {cw : Nat} {data : List Byte} (r : Nat) (aligned : cw % 8 = 0) (whole : data.length % 8 = 0)
    (granule : cw % 256 + data.length ≤ 256) (x : Nat) :
    readByte (writeWhole r cw data s) x = if h : cw ≤ x ∧ x < cw + data.length then data[x - cw] else readByte s x := by
  obtain ⟨notified, mem, regs, free⟩ := writeWhole_fields r cw data s
  obtain ⟨openRegs, openFree⟩ := openGranule_fields cw s
  have same : readByte (writeWhole r cw data s) x = readByte (stored cw data s) x :=
    readByte_congr (s := stored cw data s) (regs.trans openRegs.symm) (by rw [mem]; rfl) (by rw [mem]; rfl) (by rw [mem]; rfl) (by rw [mem]; rfl)
      (free.trans openFree.symm) x
  rw [same, stored, readByte_store (unwritten_openGranule cw s) aligned whole granule x]
  simp only [readByte_openGranule]

/-- Noting a write for the standby keeps the registers and the free values. -/
theorem mirrorNote_fields (r off : Nat) (data : List Byte) (s : Device) :
    (mirrorNote r off data s).regs = s.regs ∧ (mirrorNote r off data s).free = s.free := by
  unfold mirrorNote
  split_ifs <;> exact ⟨rfl, rfl⟩

/-- With no fill and no discard under way, a write of one whole codeword is that codeword's. -/
theorem memWriteU_whole {s : Device} {a : MemAgent} {off r : Nat} {data : List Byte} (u : Upset) (region : regionOf s off = some r)
    (aligned : off % cwBytes (regionClass s r) = 0) (whole : data.length = cwBytes (regionClass s r)) (noFill : s.mem.zeroFill = none)
    (noDiscard : s.mem.discards = []) : memWriteU a off data u s = (mirrorNote r off data (writeWhole r off data s), false) := by
  unfold memWriteU
  dsimp only
  rw [syncFronts_idle noFill noDiscard, region]
  dsimp only
  rw [whole, cwsOf_one aligned, List.foldl_cons, List.foldl_nil]
  simp only [max_self, min_self, Nat.add_sub_cancel_left, if_true, Nat.sub_self, List.drop_zero]
  rw [List.take_of_length_le whole.le]

/-- What a write of one whole codeword leaves (R336, R337). -/
theorem writeWhole_effect {s : Device} {off r : Nat} {data : List Byte} (aligned : off % cwBytes (regionClass s r) = 0)
    (whole : data.length = cwBytes (regionClass s r)) :
    let d := (mirrorNote r off data (writeWhole r off data s)).answer .ok
    (∀ i, (h : i < data.length) → readByte d (off + i) = data[i]) ∧
    (∀ x, x < off ∨ off + cwBytes (regionClass s r) ≤ x → readByte d x = readByte s x) ∧
    d.mem.cond.getD .good off = .good ∧ d.shw = s.shw ∧ d.kpr = s.kpr := by
  obtain ⟨regs, free⟩ := mirrorNote_fields r off data (writeWhole r off data s)
  have mem := mirrorNote_mem r off data (writeWhole r off data s)
  obtain ⟨frame, -⟩ := (writeWhole_frame r off data s).trans (mirrorNote_frame r off data _)
  generalize mirrorNote r off data (writeWhole r off data s) = t at regs free mem frame ⊢
  obtain ⟨words, length, granule⟩ : off % 8 = 0 ∧ data.length % 8 = 0 ∧ off % 256 + data.length ≤ 256 := by
    rcases cwBytes_cases (regionClass s r) with k | k <;> rw [k] at aligned whole <;> omega
  have bytes (x : Nat) : readByte (t.answer .ok) x = if h : off ≤ x ∧ x < off + data.length then data[x - off] else readByte s x := by
    rw [← readByte_writeWhole r words length granule x]
    exact readByte_congr regs (congrArg (·.valid) mem) (congrArg (·.known) mem) (congrArg (·.filled) mem) (congrArg (·.cells) mem) free x
  obtain ⟨notified, written, -, -⟩ := writeWhole_fields r off data s
  refine ⟨fun i h => ?_, fun x apart => ?_, ?_, ?_, ?_⟩
  · rw [bytes, dif_pos ⟨by omega, by omega⟩]
    simp only [Nat.add_sub_cancel_left]
  · rw [bytes, dif_neg (by omega)]
  · rw [Device.answer_mem, mem, written]
    exact (Table.getD_setD (stored off data s).mem.cond .good .good off off).trans (if_pos rfl)
  · rw [Device.answer_shw, frame]
  · rw [Device.answer_kpr, frame]

/-! ### The obligation -/

/-- Settles O44: the accesses that are refused, in the order of their checks; then the read and the whole write of one codeword. -/
theorem memoryAccessesAreChecked : Obligations.MemoryAccessesAreChecked := by
  intro s a off data u hoff
  refine ⟨fun outside c hc => ?_, fun c hc lost => ?_, fun inside kept refused c hc => ?_, fun r region kept noFill noDiscard =>
    ⟨fun good => ?_, fun aligned whole allowed => ?_⟩⟩
  · by_cases bare : (∀ i k, a ≠ .who (.core i k)) ∨ Config.safetyPrivate off = false
    · refine runs_outside hc outside (accessOutside_fault bare s.dev) rfl rfl ⟨fun _ => ⟨rfl, ?_, rfl⟩, fun i k core hidden => ?_⟩
      · have told := Device.newEvents_raise (Device.newEvents_none (s := s.dev) rfl) Ev.MEM_ACCESS_FAULT off
        rwa [Nat.mod_eq_of_lt hoff] at told
      · exact absurd bare (by simp [core, hidden])
    · obtain ⟨core, hidden⟩ := not_or.mp bare
      rw [Bool.not_eq_false] at hidden
      push Not at core
      obtain ⟨i, k, rfl⟩ := core
      exact runs_outside hc outside (accessOutside_locked i k hidden s.dev) rfl rfl ⟨fun open_ => absurd open_ bare, fun _ _ _ _ => rfl⟩
  · have fault : lineFault off s.dev = { s.dev with
        mem := { s.dev.mem with lostLines := s.dev.mem.lostLines.filter (fun l => l ≠ off / 64) }, resp := { code := .check } } := rfl
    rcases hc with ⟨rfl, inside⟩ | ⟨write, inside⟩
    · exact runs_memReadAccess (readAccess_lost u inside lost) rfl rfl fault
    · exact runs_memWrites write (fun v => memWriteBy_lost inside v lost) rfl rfl fault
  · exact runs_memWrites (by simpa using hc) (fun v => memWriteBy_locked inside v kept refused) rfl rfl rfl
  · exact runs_memReadAccess (readAccess_good region kept noFill noDiscard good) rfl rfl ⟨_, rfl, rfl⟩
  · refine State.runs_of (memWriteBy a off data .none) rfl ?_
    rw [memWriteBy_taken (whole ▸ inOneRegion_codeword region aligned) .none kept allowed,
      memWriteU_whole .none region aligned whole noFill noDiscard]
    exact ⟨rfl, writeWhole_effect aligned whole⟩

end Sys2Proof.Machine
end

section
/-! PROOFS. CMP_DONE and CMP_LATE (R145, R148, R395): what the reads, the rows, the caches and the check values leave, and what the end shows. -/

namespace Sys2Proof.Machine

/-! ### What the work of a composition leaves -/

/-- What nothing but the end of a composition changes: the front buffer, which frames wait, the timebase and the clock. -/
def untilShown (s : Device) : Nat × List Nat × ShowState × Nat := (s.cmp.front, s.pipe.map (·.content), s.shw, s.clock)

theorem MemFrame.untilShown {s t : Device} (h : MemFrame s t) : untilShown t = untilShown s := by
  obtain ⟨frame, -⟩ := h
  rw [frame]
  rfl

/-- What every step of a fold leaves unshown, the fold leaves so. -/
theorem each_untilShown {α : Type} (l : List α) {f : Device → α → Device} (h : ∀ t a, untilShown (f t a) = untilShown t) (s : Device) :
    untilShown (s.each l f) = untilShown s :=
  Device.each_keeps s untilShown l f fun t a _ => h t a

theorem raiseIf_untilShown (s : Device) (b : Bool) (ev p : Nat) : untilShown (s.raiseIf b ev p) = untilShown s := by cases b <;> rfl

theorem noteParityRow_untilShown (content flags row col : Nat) (bad : List Bool) (tag : Nat) (s : Device) :
    untilShown (noteParityRow content flags row col bad tag s) = untilShown s := by
  unfold noteParityRow
  refine each_untilShown _ (fun t p => ?_) s
  rfl

theorem readLayer_untilShown (c : FrameCtx) (n : Nat) (s : Device) : untilShown (readLayer c n s) = untilShown s := by
  unfold readLayer
  split
  · rfl
  · exact each_untilShown _ (fun t _ => (noteParityRow_untilShown ..).trans (memRead_frame _ _ _ t).untilShown) s

/-- A band that is spoiled stays with its frames: their validity changes, not which of them wait (R155). -/
theorem spoilBand_untilShown (k content : Nat) (s : Device) : untilShown (spoilBand k content s) = untilShown s := by
  have invalid : untilShown (invalidateBand k content s) = untilShown s := raiseIf_untilShown ..
  refine Eq.trans ?_ invalid
  unfold spoilBand
  dsimp only
  generalize invalidateBand k content s = t
  have waiting : (t.pipe.map (fun d => if d.composed || d.content = content then d else { d with valid := d.valid.setD false k false })).map
      (·.content) = t.pipe.map (·.content) := by
    rw [List.map_map]
    refine List.map_congr_left fun d _ => ?_
    dsimp only [Function.comp]
    split <;> rfl
  unfold untilShown
  rw [waiting]

theorem readCache_untilShown (c : FrameCtx) (k : Nat) (s : Device) : untilShown (readCache c k s) = untilShown s := by
  unfold readCache
  split
  · rfl
  · obtain ⟨a, b⟩ := bandRows c.rd k
    refine each_untilShown _ (fun t j => ?_) s
    have row (off n row : Nat) (bad : List Bool) :
        untilShown (noteParityRow c.content (2 ^ 30) row 0 bad k (memRead .cmp off n t).1) = untilShown t :=
      (noteParityRow_untilShown ..).trans (memRead_frame _ _ _ t).untilShown
    dsimp only
    split
    · exact (spoilBand_untilShown ..).trans (row ..)
    · exact row ..

theorem bandDone_untilShown (c : FrameCtx) (k : Nat) (s : Device) : untilShown (bandDone c k s) = untilShown s := by
  unfold bandDone
  split <;> rfl

theorem chkComplete_untilShown (c : FrameCtx) (u v : Nat) (s : Device) : untilShown (chkComplete c u v s) = untilShown s := by
  unfold chkComplete
  dsimp only
  split_ifs <;> simp [untilShown]

/-! ### The end of a composition -/

/-- The buffers exchange: the new front buffer holds a whole canvas of the frame's size (R145). -/
def exchanged (c : FrameCtx) (back : Nat) (s : Device) : Device :=
  { s with cmp := { s.cmp with front := back, frontW := (canvasSize c.rd).1, frontH := (canvasSize c.rd).2, lineBad := [] } }

/-- The registers that show a completed composition (R145). -/
def doneRegs (micros : Nat) (c : FrameCtx) (s : Device) : Device :=
  ((s.set64 R.CMP_DONE_FRAME_LO R.CMP_DONE_FRAME_HI c.content).setN R.CMP_ROW_DONE (canvasSize c.rd).2).setN R.CMP_LAST_TIME (micros % 2 ^ 20)

/-- A content frame once its canvas stands in a buffer (R145). -/
def FrameCtx.inBuffer (c : FrameCtx) (back digest : Nat) : FrameCtx := { c with composed := true, buf := back, canvas := digest }

/-- The end of a composition: the buffers exchange, and the frame's completion is shown and told (R145, R159). -/
def showComposed (micros : Nat) (c : FrameCtx) (back digest : Nat) (checked : Bool) (s : Device) : Device :=
  (((doneRegs micros c (exchanged c back s)).setCtx (c.inBuffer back digest)).raise Ev.CMP_DONE c.content).raiseIf checked Ev.CHK_DONE c.content

/-- CMP_DONE is the work of the composition, which shows nothing, and then its end. -/
theorem composeDone_eq (micros : Nat) (c : FrameCtx) (s : Device) : ∃ t digest checked, untilShown t = untilShown s ∧
    composeDone micros c s = showComposed micros c (1 - s.cmp.front) digest checked t := by
  unfold composeDone
  extract_lets sources cached rows back canvas caches bands taken units checked digest
  have read : untilShown cached = untilShown s :=
    (each_untilShown _ (fun t k => readCache_untilShown c k t) _).trans (each_untilShown _ (fun t n => readLayer_untilShown c n t) s)
  have written : untilShown canvas = untilShown cached := each_untilShown _ (fun t p => (memStore_frame _ _ _ t).untilShown) _
  have filled : untilShown caches = untilShown canvas := each_untilShown _ (fun t p => by
    dsimp only
    split
    · exact (memStore_frame ..).untilShown
    · rfl) _
  have built : untilShown bands = untilShown caches := each_untilShown _ (fun t k => bandDone_untilShown c k t) _
  have noted : untilShown taken = untilShown bands := each_untilShown _ (fun t n => by split <;> rfl) _
  have judged : untilShown checked = untilShown taken := each_untilShown _ (fun t u => chkComplete_untilShown c u _ t) _
  have front : back = 1 - s.cmp.front := congrArg (fun x => 1 - x.1) read
  refine ⟨checked, digest, !units.isEmpty, judged.trans (noted.trans (built.trans (filled.trans (written.trans read)))), ?_⟩
  rw [← front]
  rfl

/-! ### What the end shows -/

theorem modFirst_map {β : Type} {p : FrameCtx → Bool} {f : FrameCtx → FrameCtx} (g : FrameCtx → β)
    (same : ∀ c, p c = true → g (f c) = g c) (l : List FrameCtx) : (modFirst p f l).map g = l.map g := by
  induction l with
  | nil => rfl
  | cons c cs ih =>
    unfold modFirst
    split
    · next yes => rw [List.map_cons, List.map_cons, same c yes]
    · rw [List.map_cons, List.map_cons, ih]

/-- A frame that stands in the pipeline is replaced there by its later state. -/
theorem Device.mem_setCtx {s : Device} {c : FrameCtx} (stands : c.content ∈ s.pipe.map (·.content)) : c ∈ (s.setCtx c).pipe := by
  change c ∈ modFirst _ _ s.pipe
  generalize s.pipe = l at stands ⊢
  induction l with
  | nil => simp at stands
  | cons d ds ih =>
    unfold modFirst
    split
    · exact List.mem_cons_self
    · next no =>
      rcases List.mem_cons.mp stands with here | later
      · exact absurd (decide_eq_true here.symm) no
      · exact List.mem_cons_of_mem _ (ih later)

theorem Device.setCtx_contents (s : Device) (c : FrameCtx) : (s.setCtx c).pipe.map (·.content) = s.pipe.map (·.content) :=
  modFirst_map (·.content) (fun _ yes => (of_decide_eq_true yes).symm) s.pipe

theorem doneRegs_shows (micros : Nat) {c : FrameCtx} (small : c.content < 2 ^ 48) (s : Device) :
    (doneRegs micros c s).get64 R.CMP_DONE_FRAME_LO R.CMP_DONE_FRAME_HI = c.content ∧
    (doneRegs micros c s).rn R.CMP_LAST_TIME = micros % 2 ^ 20 := by
  have other {o : Nat} (row : o ≠ R.CMP_ROW_DONE) (time : o ≠ R.CMP_LAST_TIME) :
      (doneRegs micros c s).reg o = (s.set64 R.CMP_DONE_FRAME_LO R.CMP_DONE_FRAME_HI c.content).reg o := by
    rw [doneRegs, Device.reg_setN, if_neg time, Device.reg_setN, if_neg row]
  constructor
  · refine Eq.trans ?_ (get64_set64 s (show R.CMP_DONE_FRAME_LO ≠ R.CMP_DONE_FRAME_HI by decide) (small.trans (by decide)))
    unfold Device.get64 Device.rn
    rw [other (by decide) (by decide), other (by decide) (by decide)]
  · rw [doneRegs, Device.rn_setN, if_pos rfl]
    omega

/-- An event that has been raised stays raised. -/
theorem Device.raised_raiseIf {P : Raised → Prop} (s : Device) (b : Bool) {ev p : Nat} (told : ∃ e ∈ s.evt.raised, P e) :
    ∃ e ∈ (s.raiseIf b ev p).evt.raised, P e := by
  obtain ⟨e, he, h⟩ := told
  cases b
  · exact ⟨e, he, h⟩
  · exact ⟨e, List.mem_append_left _ he, h⟩

/-- What the end of a composition shows of a frame that waits (R145). -/
theorem showComposed_effect (micros : Nat) {c : FrameCtx} (back digest : Nat) (checked : Bool) {s : Device} (small : c.content < 2 ^ 48)
    (waits : c.content ∈ s.pipe.map (·.content)) :
    let d := showComposed micros c back digest checked s
    d.cmp.front = back ∧ (d.cmp.frontW, d.cmp.frontH) = canvasSize c.rd ∧ d.cmp.lineBad = [] ∧
    d.get64 R.CMP_DONE_FRAME_LO R.CMP_DONE_FRAME_HI = c.content ∧ d.rn R.CMP_LAST_TIME = micros % 2 ^ 20 ∧
    (∃ e ∈ d.pipe, e.content = c.content ∧ e.composed = true ∧ e.buf = back) ∧ d.pipe.map (·.content) = s.pipe.map (·.content) ∧
    (∃ e ∈ d.evt.raised, e.ev = Ev.CMP_DONE ∧ e.payload = c.content) ∧ d.shw = s.shw ∧ d.clock = s.clock := by
  intro d
  obtain ⟨frame, time⟩ := doneRegs_shows micros small (exchanged c back s)
  have cmp : d.cmp = (exchanged c back s).cmp := Device.raiseIf_cmp ..
  have pipe : d.pipe = (s.setCtx (c.inBuffer back digest)).pipe := Device.raiseIf_pipe ..
  have shown (o : Nat) : d.rn o = (doneRegs micros c (exchanged c back s)).rn o := congrArg BitVec.toNat (Device.reg_raiseIf ..)
  refine ⟨congrArg (·.front) cmp, ?_, congrArg (·.lineBad) cmp, ?_, (shown _).trans time,
    ⟨c.inBuffer back digest, pipe ▸ Device.mem_setCtx waits, rfl, rfl, rfl⟩, pipe ▸ Device.setCtx_contents .., ?_,
    Device.raiseIf_shw .., Device.raiseIf_clock ..⟩
  · rw [cmp]
    rfl
  · rw [Device.get64, shown, shown]
    exact frame
  · exact Device.raised_raiseIf _ checked
      ⟨_, List.mem_append_right _ (List.mem_singleton_self _), rfl, Nat.mod_eq_of_lt (small.trans (by decide))⟩

/-! ### The commands -/

section Runs

variable {s : State} {P : Device → Prop}

theorem runs_cmpDone {c : FrameCtx} (micros : Nat) (oldest : s.dev.pipe.find? (fun c => !c.composed) = some c)
    (recorded : s.dev.rdg.awaiting ≠ some c.content) (h : P (composeDone micros c s.dev)) : s.runs (.cmpDone micros) P := by
  refine ⟨_, ?_, h⟩
  change execCmpDone micros s = _
  simp [execCmpDone, State.onDevice, oldest, recorded]

theorem runs_cmpDone_awaiting {c : FrameCtx} (micros : Nat) (oldest : s.dev.pipe.find? (fun c => !c.composed) = some c)
    (awaiting : s.dev.rdg.awaiting = some c.content) (h : P s.dev) : s.runs (.cmpDone micros) P := by
  refine ⟨_, ?_, h⟩
  change execCmpDone micros s = _
  simp [execCmpDone, State.onDevice, oldest, awaiting]

theorem runs_cmpLate {c : FrameCtx} (oldest : s.dev.pipe.find? (fun c => !c.composed) = some c)
    (h : P ((s.dev.count R.CMP_LATE 1).raise Ev.CMP_LATE c.content)) : s.runs .cmpLate P := by
  refine ⟨_, ?_, h⟩
  change execCmpLate s = _
  simp [execCmpLate, State.onDevice, oldest]

theorem runs_withoutComposition {i : Instr} (hi : i = .cmpLate ∨ ∃ micros, i = .cmpDone micros)
    (idle : s.dev.pipe.find? (fun c => !c.composed) = none) (h : P s.dev) : s.runs i P := by
  refine ⟨_, ?_, h⟩
  rcases hi with rfl | ⟨micros, rfl⟩
  · change execCmpLate s = _
    simp [execCmpLate, State.onDevice, idle]
  · change execCmpDone micros s = _
    simp [execCmpDone, State.onDevice, idle]

end Runs

/-! ### The obligation -/

/-- Settles O33: the work of a composition shows nothing, so its end exchanges the buffers that stood before it. -/
theorem compositionCompletes : Obligations.CompositionCompletes := by
  intro s micros
  refine ⟨fun c oldest small => ⟨fun recorded => runs_cmpDone micros oldest recorded ?_,
    fun awaiting => runs_cmpDone_awaiting micros oldest awaiting rfl, runs_cmpLate oldest ⟨?_, ?_, ?_, rfl⟩⟩,
    fun idle => ⟨runs_withoutComposition (.inr ⟨micros, rfl⟩) idle rfl, runs_withoutComposition (.inl rfl) idle rfl⟩⟩
  · obtain ⟨t, digest, checked, unshown, done⟩ := composeDone_eq micros c s.dev
    simp only [untilShown, Prod.mk.injEq] at unshown
    obtain ⟨-, contents, sameShw, sameClock⟩ := unshown
    have waits : c.content ∈ t.pipe.map (·.content) := contents ▸ List.mem_map_of_mem (List.mem_of_find?_eq_some oldest)
    obtain ⟨front, size, lines, frame, time, stands, kept, told, shw, clock⟩ :=
      showComposed_effect micros (1 - s.dev.cmp.front) digest checked small waits
    rw [done]
    exact ⟨front, size, lines, frame, time, stands, kept.trans contents, told, shw.trans sameShw, clock.trans sameClock⟩
  · rw [Device.reg_raise, Device.reg_count, if_pos rfl]
  · exact Device.keepsRegs_setReg (Device.keepsRegs_refl _ rfl) _ _ (List.mem_singleton_self _)
  · have told := Device.newEvents_raise (Device.newEvents_none (s := s.dev) (t := s.dev.count R.CMP_LATE 1) rfl) Ev.CMP_LATE c.content
    rwa [Nat.mod_eq_of_lt (small.trans (by decide))] at told

end Sys2Proof.Machine
end

section
/-! PROOFS. The writes that composition takes outside commits (R136, R142, R161): an expected frame, the coefficient sets, the layer 15 commit. -/

namespace Sys2Proof.Machine

/-! ### CHK_EXPECT_FRAME (R161) -/

section ExpectFrame

variable {u off : Nat} (hu : u < 64) (hoff : off ∈ [R.CHK_EXPECT_FRAME_LO u, R.CHK_EXPECT_FRAME_HI u])
include hu hoff

/-- The two halves of an expected frame are registers that are not kept per reader. -/
theorem expectFrame_spec : (specAt off).map (·.banked) = some false := by
  have all : ∀ u < 64, ∀ off ∈ [R.CHK_EXPECT_FRAME_LO u, R.CHK_EXPECT_FRAME_HI u], (specAt off).map (·.banked) = some false := by decide
  exact all u hu off hoff

/-- Where the halves of an expected frame lie in the unit's block, and the unit's CHK_STATUS beside them. -/
theorem expectFrame_place : (0x120000 ≤ off && off < 0x121000 && (off % 0x40 = 0x24 || off % 0x40 = 0x28)) = true ∧
    off - off % 0x40 + 0x2C = R.CHK_STATUS u ∧ off ≠ R.CHK_STATUS u ∧ off ≠ R.CMP_COEF_CTRL := by
  simp only [R.CHK_EXPECT_FRAME_LO, R.CHK_EXPECT_FRAME_HI, R.CHK_STATUS, R.CMP_COEF_CTRL, List.mem_cons, List.not_mem_nil, or_false,
    Bool.and_eq_true, Bool.or_eq_true, decide_eq_true_eq] at hoff ⊢
  omega

theorem cmpHandler_expectFrame (w : Who) (v : Word) (s : Device) :
    (cmpHandler w off v).effect s = (storeWrite w off v s).setB (R.CHK_STATUS u) 1 false := by
  obtain ⟨inside, status, -, notCoef⟩ := expectFrame_place hu hoff
  unfold cmpHandler
  dsimp only
  rw [if_neg notCoef, if_pos inside, status]

theorem runs_chkExpectFrameWrite {s : State} {w : Who} {v : Word} {P : Device → Prop}
    (h : P (regWrite s.dev w off v (cmpHandler w off v))) : s.runs (.chkExpectFrameWrite w off v) P :=
  State.runs_unit (fun _ => 0x120000 ≤ off && off < 0x121000 && (off % 0x40 = 0x24 || off % 0x40 = 0x28))
    (fun d => regWrite d w off v (cmpHandler w off v)) rfl (expectFrame_place hu hoff).1 h

/-- An accepted write of an expected frame: its store and the unit's COMPARED (R161). -/
theorem expectFrame_written {s : Device} {w : Who} {v : Word} (ok : writeCode s w off v (cmpHandler w off v) = .ok) :
    let d := regWrite s w off v (cmpHandler w off v)
    s.tookWrite d off v ∧ d.rb (R.CHK_STATUS u) 1 = false ∧ s.keepsRegs d [off, R.CHK_STATUS u] ∧
      d = { s with regs := d.regs, resp := { code := .ok }, sent := d.sent } := by
  obtain ⟨-, -, apart, -⟩ := expectFrame_place hu hoff
  obtain ⟨⟨r, spec, took⟩, keeps, frame⟩ := storeWrite_took (w := w) (v := v) (s.answer .ok) (expectFrame_spec hu hoff)
  intro d
  have written : d = forwardWrite off v (nextPoint s) ((storeWrite w off v (s.answer .ok)).setB (R.CHK_STATUS u) 1 false) :=
    (regWrite_ok ok).trans (by rw [cmpHandler_expectFrame hu hoff])
  generalize storeWrite w off v (s.answer .ok) = stored at took keeps frame written
  have reg (o : Nat) : d.reg o = (stored.setB (R.CHK_STATUS u) 1 false).reg o :=
    Device.reg_congr ((congrArg Device.regs written).trans (forwardWrite_regs ..)) o
  refine ⟨⟨r, spec, ?_⟩, ?_, fun o other => ?_, ?_⟩
  · rw [reg, Device.reg_setB, if_neg apart, took]
    rfl
  · rw [Device.rb_of_reg (reg _), Device.rb_setB _ _ _ _ _ _ (by decide), if_pos ⟨rfl, rfl⟩]
  · obtain ⟨notOff, notStatus⟩ : o ≠ off ∧ o ≠ R.CHK_STATUS u := by simpa using other
    rw [reg, Device.reg_setB, if_neg notStatus, keeps o (by simpa using notOff)]
    rfl
  · rw [written, forwardWrite_eq, frame]
    rfl

end ExpectFrame

/-! ### CMP_COEF_CTRL (R136) -/

theorem cmpHandler_coefCtrl (w : Who) (v : Word) : cmpHandler w R.CMP_COEF_CTRL v = coefHandler w v := by
  unfold cmpHandler
  exact if_pos rfl

theorem firstCode_singleton (c : Code) : firstCode [c] = c := by
  by_cases ok : c = .ok
  · rw [ok]; rfl
  · exact firstCode_cons_of_ne ok []

/-- A LOAD that may be written is judged by the sets it would read (R136). -/
theorem writeCode_coefLoad {s : Device} {w : Who} {v : Word} (access : accessCode s w R.CMP_COEF_CTRL v = .ok)
    (value : offsetValueCode R.CMP_COEF_CTRL v = .ok) (load : wbit v 0 = true) :
    writeCode s w R.CMP_COEF_CTRL v (coefHandler w v) = coefCode s := by
  have state : (coefHandler w v).state s = .ok := rfl
  have check : (coefHandler w v).check s = coefCode s := if_pos load
  rw [writeCode, access, state, value, check, firstCode_ok_cons, firstCode_ok_cons, firstCode_ok_cons, firstCode_singleton]

/-- The device once the bytes of the coefficient sets have been read. -/
def coefBytesRead (s : Device) : Device := (memRead .cmp (coefBase s) 3072 s).1

theorem coefBytesRead_keeps (s : Device) :
    (coefBytesRead s).shw = s.shw ∧ (coefBytesRead s).pipe = s.pipe ∧ (coefBytesRead s).cmp = s.cmp := by
  obtain ⟨frame, -⟩ : MemFrame s (coefBytesRead s) := memRead_frame ..
  exact ⟨by rw [frame], by rw [frame], by rw [frame]⟩

/-- The sets that wait for the next commit point (R136). -/
def coefWaiting (l : List Int) (s : Device) : Device := { s with cmp := { s.cmp with coefNext := some l } }

theorem coefHandler_effect {v : Word} (w : Who) (load : wbit v 0 = true) (s : Device) : (coefHandler w v).effect s =
    (coefWaiting (coefRead s) (coefBytesRead s)).setN R.CMP_COEF_CTRL 1 := if_pos load

theorem coefHandler_reject {v : Word} (w : Who) (load : wbit v 0 = true) (c : Code) (s : Device) :
    (coefHandler w v).reject c s = (coefBytesRead s).setF R.CMP_COEF_CTRL 15 8 c.num := if_pos load

/-- A LOAD of good sets holds them for the next commit point (R136). -/
theorem coefLoad_accepted {s : Device} {w : Who} {v : Word} (load : wbit v 0 = true)
    (ok : writeCode s w R.CMP_COEF_CTRL v (coefHandler w v) = .ok) :
    let d := regWrite s w R.CMP_COEF_CTRL v (coefHandler w v)
    d.shw = s.shw ∧ d.pipe = s.pipe ∧ d.cmp = { s.cmp with coefNext := some (coefRead s) } ∧ d.reg R.CMP_COEF_CTRL = 1 := by
  obtain ⟨shw, pipe, cmp⟩ := coefBytesRead_keeps (s.answer .ok)
  have read : coefRead (s.answer .ok) = coefRead s := rfl
  dsimp only
  rw [regWrite_ok ok, coefHandler_effect w load, forwardWrite_eq, read]
  generalize coefRead s = l
  generalize coefBytesRead (s.answer .ok) = t at *
  refine ⟨shw, pipe, congrArg (fun m : CmpState => { m with coefNext := some l }) cmp, ?_⟩
  exact ((coefWaiting l t).reg_setN R.CMP_COEF_CTRL R.CMP_COEF_CTRL 1).trans (if_pos rfl)

theorem Code.num_lt (c : Code) : c.num < 256 := by cases c <;> decide

/-- A LOAD of bad sets shows its code and leaves the sets that are held (R136). -/
theorem coefLoad_rejected {s : Device} {w : Who} {v : Word} (load : wbit v 0 = true) {c : Code}
    (code : writeCode s w R.CMP_COEF_CTRL v (coefHandler w v) = c) (bad : c ≠ .ok) :
    let d := regWrite s w R.CMP_COEF_CTRL v (coefHandler w v)
    d.shw = s.shw ∧ d.pipe = s.pipe ∧ d.cmp = s.cmp ∧ d.resp.code = c ∧ d.rf R.CMP_COEF_CTRL 15 8 = c.num := by
  obtain ⟨shw, pipe, cmp⟩ := coefBytesRead_keeps s
  dsimp only
  rw [regWrite_rejected (code ▸ bad), code, coefHandler_reject w load]
  refine ⟨shw, pipe, cmp, rfl, ?_⟩
  rw [Device.rf_of_reg (Device.reg_answerAt ..), Device.rf_setF_same _ _ _ _ _ (by decide) (by decide)]
  exact Nat.mod_eq_of_lt c.num_lt

/-! ### SAFE_LAYER_COMMIT (R142) -/

theorem payF_lt (a f : Nat) : payF a f < 2 ^ 64 := by
  unfold payF
  omega

section SafeCommit

variable {s : Device} {es : List (Nat × Word)}

theorem safeSubmit_accepted (ok : safeCode s (s.cmp.safeStage ++ es) = .ok) : safeSubmit es s =
    { s with cmp := { s.cmp with safeStage := [], safePending := s.cmp.safePending ++ [s.cmp.safeStage ++ es] }, resp := { code := .ok } } :=
  if_pos ok

/-- The staged writes of the layer 15 commit are given up (R142). -/
def unstaged (s : Device) : Device := { s with cmp := { s.cmp with safeStage := [] } }

theorem safeSubmit_refused (no : safeCode s (s.cmp.safeStage ++ es) ≠ .ok) : let c := safeCode s (s.cmp.safeStage ++ es)
    safeSubmit es s =
      (((unstaged s).send .safety [15, c.num]).raise Ev.SAFE_LAYER_CHANGE (safePayload c (frameAdd (nextPoint s) 1))).answer c := if_neg no

end SafeCommit

/-! ### The obligation -/

/-- Settles O34: each command is its register's write or the pair's submission, judged by its own code. -/
theorem compositionWritesTakeEffect : Obligations.CompositionWritesTakeEffect := by
  intro s w v
  refine ⟨fun u hu off hoff ok => runs_chkExpectFrameWrite hu hoff (expectFrame_written hu hoff ok), fun access value load =>
    State.runs_of (fun d => regWrite d w R.CMP_COEF_CTRL v (cmpHandler w R.CMP_COEF_CTRL v)) rfl ?_,
    fun es => ⟨fun ok => State.runs_of (safeSubmit es) rfl (safeSubmit_accepted ok), fun no => State.runs_of (safeSubmit es) rfl ?_⟩⟩
  · have code := writeCode_coefLoad access value load
    rw [cmpHandler_coefCtrl]
    by_cases good : coefCode s.dev = .ok
    · obtain ⟨shw, pipe, cmp, ctrl⟩ := coefLoad_accepted load (code.trans good)
      exact ⟨shw, pipe, fun _ => ⟨cmp, ctrl⟩, fun bad => absurd good bad⟩
    · obtain ⟨shw, pipe, cmp, resp, shown⟩ := coefLoad_rejected load code good
      exact ⟨shw, pipe, fun ok => absurd ok good, fun _ => ⟨cmp, resp, shown⟩⟩
  · rw [safeSubmit_refused no]
    generalize safeCode s.dev (s.dev.cmp.safeStage ++ es) = c
    refine ⟨rfl, rfl, ?_, rfl⟩
    have told := Device.newEvents_raise (Device.newEvents_none (s := s.dev) (t := (unstaged s.dev).send .safety [15, c.num]) rfl)
      Ev.SAFE_LAYER_CHANGE (safePayload c (frameAdd (nextPoint s.dev) 1))
    rw [safePayload, Nat.mod_eq_of_lt (payF_lt ..)] at told
    exact told

end Sys2Proof.Machine
end

section
/-! PROOFS. What photometry's work touches: passes and plans leave the show, composition, the pipeline and the clock as they are. -/

namespace Sys2Proof.Machine

/-- `t` differs from `s` at most in what the memory's operations touch and in the states of photometry and headroom, and only adds to the events
raised. -/
def WorkFrame (s t : Device) : Prop :=
  t = { s with regs := t.regs, pho := t.pho, hdr := t.hdr, que := t.que, mem := t.mem, evt := t.evt,
               rdg := { s.rdg with dirty := t.rdg.dirty }, sent := t.sent } ∧ s.evt.raised <+: t.evt.raised

theorem MemFrame.work {s t : Device} (h : MemFrame s t) : WorkFrame s t := by
  obtain ⟨frame, raised⟩ := h
  exact ⟨by rw [frame], raised⟩

theorem WorkFrame.refl (s : Device) : WorkFrame s s := (MemFrame.refl s).work

section Chain

variable {s t u : Device}

theorem WorkFrame.trans (h : WorkFrame s t) (g : WorkFrame t u) : WorkFrame s u := by
  obtain ⟨first, told⟩ := h
  obtain ⟨later, toldLater⟩ := g
  exact ⟨by rw [later, first], told.trans toldLater⟩

/-- A step that stores registers or states of the two blocks and tells nothing stays in the frame. -/
theorem WorkFrame.stores (h : WorkFrame s t) (step : u = { t with regs := u.regs, pho := u.pho, hdr := u.hdr }) : WorkFrame s u :=
  h.trans (by rw [step]; exact ⟨rfl, [], List.append_nil _⟩)

theorem WorkFrame.pho (h : WorkFrame s t) (x : PhoState) : WorkFrame s { t with pho := x } := h.stores rfl
theorem WorkFrame.hdr (h : WorkFrame s t) (x : HdrState) : WorkFrame s { t with hdr := x } := h.stores rfl
theorem WorkFrame.setN (h : WorkFrame s t) (off v : Nat) : WorkFrame s (t.setN off v) := h.stores rfl
theorem WorkFrame.setB (h : WorkFrame s t) (off i : Nat) (b : Bool) : WorkFrame s (t.setB off i b) := h.stores rfl
theorem WorkFrame.set64 (h : WorkFrame s t) (lo hi v : Nat) : WorkFrame s (t.set64 lo hi v) := h.stores rfl
theorem WorkFrame.count (h : WorkFrame s t) (off n : Nat) : WorkFrame s (t.count off n) := h.stores rfl
theorem WorkFrame.raise (h : WorkFrame s t) (ev p : Nat) : WorkFrame s (t.raise ev p) := h.trans ((MemFrame.refl t).raise ev p).work

theorem WorkFrame.raiseIf (h : WorkFrame s t) (b : Bool) (ev p : Nat) : WorkFrame s (t.raiseIf b ev p) := by
  cases b
  · exact h
  · exact h.raise ev p

theorem WorkFrame.when (h : WorkFrame s t) (b : Bool) {f : Device → Device} (hf : ∀ x, WorkFrame x (f x)) : WorkFrame s (t.when b f) := by
  cases b
  · exact h
  · exact h.trans (hf t)

theorem WorkFrame.each {α : Type} (h : WorkFrame s t) (l : List α) {f : Device → α → Device} (hf : ∀ x a, WorkFrame x (f x a)) :
    WorkFrame s (t.each l f) := by
  induction l generalizing t with
  | nil => exact h
  | cons a l ih => exact ih (h.trans (hf t a))

/-- What every step of a fold over a device and something beside it frames, the fold frames. -/
theorem WorkFrame.foldl {α β : Type} (l : List α) {f : Device × β → α → Device × β} (hf : ∀ x a, WorkFrame x.1 (f x a).1) (x : Device × β) :
    WorkFrame x.1 (l.foldl f x).1 := by
  induction l generalizing x with
  | nil => exact .refl _
  | cons a l ih => exact (hf x a).trans (ih _)

/-- What a pattern takes apart is framed as the pair was. -/
theorem WorkFrame.ofPair {α : Type} {a : α} {x : Device × α} (h : WorkFrame s x.1) (e : x = (t, a)) : WorkFrame s t := by
  rwa [e] at h

end Chain

theorem memRead_work (a : MemAgent) (off n : Nat) (s : Device) : WorkFrame s (memRead a off n s).1 := (memRead_frame a off n s).work

theorem memStore_work (a : MemAgent) (off : Nat) (data : List Byte) (s : Device) : WorkFrame s (memStore a off data s) :=
  (memStore_frame a off data s).work

theorem buildSlot_work (p : Nat) (r : Profile) (t : Rat) (left : Nat → Rat) (s : Device) : WorkFrame s (buildSlot p r t left s) := by
  unfold buildSlot
  exact (memStore_work ..).pho _

theorem rebuildSlot_work (p : Nat) (r : Profile) (temp : Rat) (left : List Int) (s : Device) : WorkFrame s (rebuildSlot p r temp left s) :=
  ((WorkFrame.refl s).pho _).trans (buildSlot_work ..)

/-- The tables of a plan are written as memory is (R196, R267). -/
theorem writePlan_work (x : Plan) (s : Device) : WorkFrame s (writePlan x s) := by
  unfold writePlan
  exact (((((WorkFrame.refl s).each _ fun t b => memStore_work _ _ _ t).each _ fun t b => memStore_work _ _ _ t).each _
    fun t g => (memStore_work _ _ _ t).raiseIf _ _ _).each _ fun t b => memStore_work _ _ _ t).each _ fun t p => rebuildSlot_work _ _ _ _ t

end Sys2Proof.Machine
end

section
/-! PROOFS. PHO_DONE and PHO_LATE (R202, R204, R206): what the work of a pass leaves, and what its end shows. -/

namespace Sys2Proof.Machine

/-! ### The entries of the map (R169 to R193) -/

theorem noteParityRow_work (content flags row col : Nat) (bad : List Bool) (tag : Nat) (s : Device) :
    WorkFrame s (noteParityRow content flags row col bad tag s) := by
  unfold noteParityRow
  exact (WorkFrame.refl s).each _ fun t p => (((WorkFrame.refl t).count _ _).setN _ _).raise _ _

theorem mapPixel_work (c : FrameCtx) (x y : Nat) (s : Device) : WorkFrame s (mapPixel c x y s).1 := by
  unfold mapPixel
  dsimp only
  generalize hread : (memRead .pho (canvasAt c.rd c.buf x y) 8 s).1 = t
  have read : WorkFrame s t := hread ▸ memRead_work ..
  have noted : WorkFrame s (if badRange t (canvasAt c.rd c.buf x y) 8 then noteParityRow c.content 0 y x [true] 0 t else t) := by
    split
    · exact read.trans (noteParityRow_work ..)
    · exact read
  split <;> exact noted

theorem sampleStep_work (c : FrameCtx) (e : MapEntry) (s : Device) : WorkFrame s (sampleStep c e s).1 := by
  unfold sampleStep
  dsimp only
  refine WorkFrame.foldl _ (fun x p => ?_) (s, [0, 0, 0], false)
  exact mapPixel_work ..

theorem fixturePass_work (c : FrameCtx) (r : Profile) (f : Nat) (s : Device) : WorkFrame s (fixturePass c r f s).1 := by
  unfold fixturePass
  dsimp only
  exact (((WorkFrame.refl s).when _ fun t => (WorkFrame.refl t).count _ _).raiseIf _ _ _).pho _

theorem passFixtures_work (c : FrameCtx) (es : List MapEntry) (s : Device) : WorkFrame s (passFixtures c es s).1 := by
  unfold passFixtures
  refine WorkFrame.foldl _ (fun x p => ?_) (s, [])
  exact fixturePass_work ..

theorem passEntry_work (c : FrameCtx) (i : Nat) (t : Int) (dr : Nat) (s : Device) : WorkFrame s (passEntry c i t dr s).1 := by
  unfold passEntry
  extract_lets
  split
  next map _ ofMap =>
  extract_lets
  split
  next profile _ ofProfile =>
  extract_lets
  split
  next sampled _ _ ofSample =>
  extract_lets
  split
  next nodes _ _ ofNodes =>
  split
  next gains _ ofGains =>
  extract_lets
  split
  next trims _ ofTrims =>
  extract_lets error
  have lattice : WorkFrame sampled nodes := by
    refine WorkFrame.ofPair (WorkFrame.foldl _ (fun x p => ?_) _) ofNodes
    exact memRead_work ..
  have trim : WorkFrame gains trims := by
    refine WorkFrame.ofPair ?_ ofTrims
    split
    · exact memRead_work ..
    · exact .refl _
  have first : WorkFrame s sampled := (WorkFrame.ofPair (memRead_work ..) ofMap).trans
    ((WorkFrame.ofPair (memRead_work ..) ofProfile).trans (.ofPair (sampleStep_work ..) ofSample))
  have read : WorkFrame s trims := first.trans (lattice.trans ((WorkFrame.ofPair (memRead_work ..) ofGains).trans trim))
  clear_value error
  cases error with
  | some tb => exact ((read.count _ _).raise _ _).setN _ _
  | none => exact read

theorem passEntries_work (c : FrameCtx) (s : Device) : WorkFrame s (passEntries c s).1 := by
  unfold passEntries
  dsimp only
  refine (passFixtures_work c (mapEntries s c.rd (mapBank c.rd)) s).trans (WorkFrame.foldl _ (fun x p => ?_) (_, []))
  dsimp only
  exact passEntry_work ..

/-! ### Ageing, the counters and the temperatures (R185, R194, R202) -/

theorem foldAge_work (c : FrameCtx) (outs : List EntryOut) (s : Device) : WorkFrame s (foldAge c outs s) := by
  unfold foldAge
  split
  · exact .refl s
  · refine (WorkFrame.refl s).each _ fun t o => (WorkFrame.refl t).each _ fun u k => ?_
    dsimp only
    split
    · exact .refl u
    · split
      · exact ((memRead_work ..).trans (memStore_work ..)).pho _
      · exact (memRead_work ..).pho _

theorem publishPass_work (micros : Nat) (c : FrameCtx) (outs : List EntryOut) (temps : Table (Int × Nat)) (s : Device) :
    WorkFrame s (publishPass micros c outs temps s) := by
  unfold publishPass
  extract_lets clips counted clipped derated was told zones framed
  have counts : WorkFrame s clipped := ((WorkFrame.refl s).count _ _).when _ fun t => ((WorkFrame.refl t).count _ _).raiseIf _ _ _
  have powers : WorkFrame s zones := ((counts.setN _ _).raiseIf _ _ _).each _ fun t z => ((WorkFrame.refl t).setN _ _).setN _ _
  exact ((powers.set64 _ _ _).set64 _ _ _).setN _ _

theorem addWarmth_work (l : List (Nat × Int)) (s : Device) : WorkFrame s (addWarmth l s) := (WorkFrame.refl s).pho _

/-! ### Headroom and the zones (R260 to R276) -/

theorem groupPass_work (vf : Table Int) (x : Device × FrameCtx) (g : Nat) : WorkFrame x.1 (groupPass vf x g).1 := by
  unfold groupPass
  dsimp only
  split
  · exact .refl _
  · exact ((WorkFrame.refl _).when _ fun t => ((WorkFrame.refl t).count _ _).raise _ _).hdr _

theorem guardZone_work (c : FrameCtx) (z : Nat) (r : ZoneResult) (s : Device) : WorkFrame s (guardZone c z r s) := by
  unfold guardZone
  split
  · exact .refl s
  · exact ((((WorkFrame.refl s).hdr _).count _ _).setB _ _ _).raise _ _

theorem publishZones_work (c : FrameCtx) (rs : List (Nat × ZoneResult)) (s : Device) : WorkFrame s (publishZones c rs s) := by
  unfold publishZones
  exact ((WorkFrame.refl s).each _ fun t p => (((((WorkFrame.refl t).setN _ _).setN _ _).setN _ _).setN _ _).setB _ _ _).set64 _ _ _

theorem scaleZone_work (z content : Nat) (r : ZoneResult) (s : Device) : WorkFrame s (scaleZone z content r s) := by
  unfold scaleZone
  exact (((((WorkFrame.refl s).setN _ _).setB _ _ _).setB _ _ _).raiseIf _ _ _).raiseIf _ _ _

theorem hdrPass_work (c : FrameCtx) (outs : List EntryOut) (s : Device) : WorkFrame s (hdrPass c outs s).1 := by
  unfold hdrPass
  extract_lets vf
  split
  next grouped graded ofGroups =>
  extract_lets rs held guarded published scaled
  have groups : WorkFrame s grouped := .ofPair (WorkFrame.foldl _ (groupPass_work vf) _) ofGroups
  have guards : WorkFrame s guarded := groups.when _ fun t => (WorkFrame.refl t).each _ fun u p => guardZone_work _ _ _ u
  have results : WorkFrame s published := guards.trans (publishZones_work ..)
  have scales : WorkFrame s scaled := results.when _ fun t => (WorkFrame.refl t).each _ fun u p => scaleZone_work _ _ _ u
  exact scales

/-- Which frame it is and what its canvas holds. -/
def FrameCtx.identity (c : FrameCtx) : Nat × Nat := (c.content, c.canvas)

theorem groupPass_identity (vf : Table Int) (x : Device × FrameCtx) (g : Nat) : (groupPass vf x g).2.identity = x.2.identity := by
  unfold groupPass
  dsimp only
  split <;> rfl

/-- The results of headroom and of the zones are added to the frame; it stays the frame it was. -/
theorem hdrPass_identity (c : FrameCtx) (outs : List EntryOut) (s : Device) : (hdrPass c outs s).2.identity = c.identity := by
  have groups (l : List Nat) (vf : Table Int) (x : Device × FrameCtx) : (l.foldl (groupPass vf) x).2.identity = x.2.identity := by
    induction l generalizing x with
    | nil => rfl
    | cons g l ih => exact (ih _).trans (groupPass_identity vf x g)
  exact groups _ _ (s, { c with codes := [], rails := [], volts := [] })

/-! ### The lattices that a pass has rebuilt (R185) -/

/-- `t` differs from `s` at most in what work touches, in the commits pending and in the free values taken, and only adds to the events raised. -/
def SubmitFrame (s t : Device) : Prop :=
  t = { s with regs := t.regs, pho := t.pho, hdr := t.hdr, que := t.que, mem := t.mem, evt := t.evt, rdg := { s.rdg with dirty := t.rdg.dirty },
               sent := t.sent, free := t.free, shw := { s.shw with commits := t.shw.commits } } ∧ s.evt.raised <+: t.evt.raised

theorem SubmitFrame.trans {s t u : Device} (h : SubmitFrame s t) (g : SubmitFrame t u) : SubmitFrame s u := by
  obtain ⟨first, told⟩ := h
  obtain ⟨later, toldLater⟩ := g
  exact ⟨by rw [later, first], told.trans toldLater⟩

theorem WorkFrame.submit {s t : Device} (h : WorkFrame s t) : SubmitFrame s t := by
  obtain ⟨frame, told⟩ := h
  exact ⟨by rw [frame], told⟩

theorem SubmitFrame.refl (s : Device) : SubmitFrame s s := (WorkFrame.refl s).submit

theorem SubmitFrame.each {α : Type} (l : List α) {f : Device → α → Device} (hf : ∀ t a, SubmitFrame t (f t a)) (s : Device) :
    SubmitFrame s (s.each l f) := by
  induction l generalizing s with
  | nil => exact .refl s
  | cons a l ih => exact (hf s a).trans (ih _)

theorem stageCommit_submits (c : Commit) (point : Nat) (s : Device) : SubmitFrame s (stageCommit c point { s with free := s.free + 1 }) :=
  ⟨rfl, [], List.append_nil _⟩

theorem rebuildMoved_submits (ps : List Nat) (s : Device) : SubmitFrame s (rebuildMoved ps s) := by
  unfold rebuildMoved
  split
  · exact .refl s
  · refine SubmitFrame.each ps (fun t p => ?_) s
    dsimp only
    split
    · exact .refl t
    · exact (buildSlot_work ..).submit.trans (stageCommit_submits ..)

/-! ### The end of a pass -/

/-- PHO_DONE is the work of the pass, which leaves the pipeline, then the frame passed and told, then the lattices rebuilt. -/
theorem passDone_eq (micros : Nat) (c : FrameCtx) (s : Device) : ∃ t e ps, WorkFrame s t ∧ e.content = c.content ∧ e.passed = true ∧
    e.canvas = c.canvas ∧ passDone micros c s = rebuildMoved ps ((t.setCtx e).raise Ev.PHO_DONE e.content) := by
  unfold passDone
  split
  next read outs temps ofEntries =>
  extract_lets ageOn aged published
  split
  next zoned later ofZones =>
  extract_lets e warmed
  have entries : WorkFrame s read := .ofPair (passEntries_work ..) ofEntries
  have ageing : WorkFrame s aged := by
    refine entries.trans ?_
    change WorkFrame read (if ageOn then foldAge c outs (addAge (ageAdds outs) read) else read)
    split
    · exact ((WorkFrame.refl read).pho _).trans (foldAge_work ..)
    · exact .refl read
  have shown : WorkFrame s published := ageing.trans (publishPass_work ..)
  have zones : WorkFrame s zoned := shown.trans (.ofPair (hdrPass_work ..) ofZones)
  have same : later.identity = c.identity := by
    have kept := hdrPass_identity c outs published
    rwa [ofZones] at kept
  obtain ⟨content, canvas⟩ := Prod.ext_iff.mp same
  exact ⟨warmed, e, _, zones.trans (addWarmth_work ..), content, rfl, canvas, rfl⟩

/-- A frame of the pipeline other than the one that is replaced stays. -/
theorem Device.mem_setCtx_other {s : Device} {c e : FrameCtx} (stands : e ∈ s.pipe) (other : e.content ≠ c.content) : e ∈ (s.setCtx c).pipe := by
  change e ∈ modFirst _ _ s.pipe
  generalize s.pipe = l at stands
  induction l with
  | nil => exact stands
  | cons d ds ih =>
    unfold modFirst
    split
    · next yes =>
      rcases List.mem_cons.mp stands with rfl | later
      · exact absurd (of_decide_eq_true yes) other
      · exact List.mem_cons_of_mem _ later
    · rcases List.mem_cons.mp stands with rfl | later
      · exact List.mem_cons_self
      · exact List.mem_cons_of_mem _ (ih later)

/-! ### The commands -/

section Runs

variable {s : State} {P : Device → Prop}

theorem runs_phoDone {c : FrameCtx} (micros : Nat)
    (oldest : s.dev.pipe.find? (fun c => c.composed && !c.passed && wbit (c.rd R.PHO_CTRL) 0) = some c)
    (h : P (passDone micros c s.dev)) : s.runs (.phoDone micros) P := by
  refine ⟨_, ?_, h⟩
  change execPhoDone micros s = _
  rw [execPhoDone, State.onDevice_of_next, oldest]

theorem runs_phoDone_idle (micros : Nat)
    (idle : s.dev.pipe.find? (fun c => c.composed && !c.passed && wbit (c.rd R.PHO_CTRL) 0) = none) (h : P s.dev) :
    s.runs (.phoDone micros) P := by
  refine ⟨_, ?_, h⟩
  change execPhoDone micros s = _
  rw [execPhoDone, State.onDevice_of_next, idle]

theorem runs_phoLate {c : FrameCtx} (oldest : s.dev.pipe.find? (fun c => !c.passed && wbit (c.rd R.PHO_CTRL) 0) = some c)
    (h : P ((s.dev.count R.PHO_LATE 1).raise Ev.PHO_LATE c.content)) : s.runs .phoLate P := by
  refine ⟨_, ?_, h⟩
  change execPhoLate s = _
  rw [execPhoLate, State.onDevice_of_next, oldest]

theorem runs_phoLate_idle (idle : s.dev.pipe.find? (fun c => !c.passed && wbit (c.rd R.PHO_CTRL) 0) = none) (h : P s.dev) :
    s.runs .phoLate P := by
  refine ⟨_, ?_, h⟩
  change execPhoLate s = _
  rw [execPhoLate, State.onDevice_of_next, idle]

end Runs

/-! ### The obligation -/

/-- Settles O35: the work of a pass leaves the pipeline, so its end replaces the frame that stood in it and no other. -/
theorem passesComplete : Obligations.PassesComplete := by
  intro s micros
  refine ⟨fun c oldest small => runs_phoDone micros oldest ?_, fun idle => runs_phoDone_idle micros idle rfl,
    fun c oldest small => runs_phoLate oldest ⟨?_, ?_, ?_, rfl⟩, fun idle => runs_phoLate_idle idle rfl⟩
  · obtain ⟨t, e, ps, ⟨work, -⟩, content, passed, canvas, done⟩ := passDone_eq micros c s.dev
    obtain ⟨rebuilt, told⟩ := rebuildMoved_submits ps ((t.setCtx e).raise Ev.PHO_DONE e.content)
    rw [← done] at rebuilt told
    generalize passDone micros c s.dev = d at rebuilt told
    have pipe : d.pipe = (t.setCtx e).pipe := by rw [rebuilt]; rfl
    have before : t.pipe = s.dev.pipe := by rw [work]
    have waits : e.content ∈ t.pipe.map (·.content) := before ▸ content ▸ List.mem_map_of_mem (List.mem_of_find?_eq_some oldest)
    refine ⟨⟨e, pipe ▸ Device.mem_setCtx waits, content, passed, canvas⟩, ?_, fun other stands differs => ?_, ?_, ?_, ?_, ?_⟩
    · rw [pipe, Device.setCtx_contents, before]
    · exact pipe ▸ Device.mem_setCtx_other (before ▸ stands) (content ▸ differs)
    · exact ⟨_, told.subset (List.mem_append_right _ (List.mem_singleton_self _)), rfl,
        (Nat.mod_eq_of_lt (content ▸ small.trans (by decide))).trans content⟩
    · rw [rebuilt, Device.raise_cmp, Device.setCtx_cmp, work]
    · rw [rebuilt, Device.raise_clock, Device.setCtx_clock, work]
    · have shw : t.shw = s.dev.shw := by rw [work]
      rw [← shw]
      exact congrArg (·.shw) rebuilt
  · rw [Device.reg_raise, Device.reg_count, if_pos rfl]
  · exact Device.keepsRegs_setReg (Device.keepsRegs_refl _ rfl) _ _ (List.mem_singleton_self _)
  · have told := Device.newEvents_raise (Device.newEvents_none (s := s.dev) (t := s.dev.count R.PHO_LATE 1) rfl) Ev.PHO_LATE c.content
    rwa [Nat.mod_eq_of_lt (small.trans (by decide))] at told

end Sys2Proof.Machine
end

section
/-! PROOFS. The map swap and the re-plan (R171, R173, R196): SWAP and its validation, and what a re-plan submits. -/

namespace Sys2Proof.Machine

/-! ### PHO_MAP_CTRL.SWAP (R171) -/

theorem phoHandler_mapCtrl (w : Who) (v : Word) : phoHandler w R.PHO_MAP_CTRL v = mapHandler w v := by
  unfold phoHandler
  exact if_pos rfl

/-- The validation of the other bank begins: SWAP reads 1. -/
def swapBegun (s : Device) : Device :=
  ({ s with pho := { s.pho with mapSwap := .validating } }).setN R.PHO_MAP_CTRL (s.rn R.PHO_MAP_CTRL ||| 2)

theorem mapHandler_effect {v : Word} (w : Who) (swap : wbit v 1 = true) (s : Device) : (mapHandler w v).effect s = swapBegun s := if_pos swap

/-- SWAP is accepted only while no swap is under way. -/
theorem idle_of_mapSwap_ok {s : Device} {w : Who} {v : Word} (ok : writeCode s w R.PHO_MAP_CTRL v (mapHandler w v) = .ok)
    (swap : wbit v 1 = true) : s.pho.mapSwap = .idle := by
  obtain ⟨-, state, -, -⟩ := (writeCode_eq_ok ..).mp ok
  by_contra busy
  have answered : (mapHandler w v).state s = .busy := if_pos (by simp [swap, busy])
  rw [answered] at state
  cases state

theorem swapBegun_rn (s : Device) : (swapBegun s).rn R.PHO_MAP_CTRL = s.rn R.PHO_MAP_CTRL ||| 2 := by
  have small : s.rn R.PHO_MAP_CTRL ||| 2 < 2 ^ 32 := Nat.or_lt_two_pow (s.reg R.PHO_MAP_CTRL).isLt (by decide)
  rw [swapBegun, Device.rn_setN, if_pos rfl, Nat.mod_eq_of_lt small]

/-- SWAP reads 1 while the bank in effect stays (R171). -/
theorem swapBegun_shows (s : Device) : (swapBegun s).rb R.PHO_MAP_CTRL 1 = true ∧
    (swapBegun s).rf R.PHO_MAP_CTRL 4 4 = s.rf R.PHO_MAP_CTRL 4 4 := by
  constructor
  · rw [Device.rb, swapBegun_rn, Nat.testBit_or]
    exact Bool.or_true _
  · rw [Device.rf, Device.rf, swapBegun_rn, fld, fld, Nat.shiftRight_or_distrib, show 2 >>> 4 = 0 from rfl, Nat.or_zero]

/-- What an accepted SWAP leaves (R171). -/
theorem mapSwap_written {s : Device} {w : Who} {v : Word} (ok : writeCode s w R.PHO_MAP_CTRL v (mapHandler w v) = .ok)
    (swap : wbit v 1 = true) :
    let d := regWrite s w R.PHO_MAP_CTRL v (mapHandler w v)
    d.pho = { s.pho with mapSwap := .validating } ∧ d.rb R.PHO_MAP_CTRL 1 = true ∧
      d.rf R.PHO_MAP_CTRL 4 4 = s.rf R.PHO_MAP_CTRL 4 4 ∧ s.keepsRegs d [R.PHO_MAP_CTRL] := by
  intro d
  have written : d = forwardWrite R.PHO_MAP_CTRL v (nextPoint s) (swapBegun (s.answer .ok)) :=
    (regWrite_ok ok).trans (by rw [mapHandler_effect w swap])
  have regs : d.regs = (swapBegun (s.answer .ok)).regs := (congrArg Device.regs written).trans (forwardWrite_regs ..)
  obtain ⟨asked, bank⟩ := swapBegun_shows (s.answer .ok)
  refine ⟨by rw [written, forwardWrite_eq]; rfl, (Device.rb_of_reg (Device.reg_congr regs _) 1).trans asked,
    (Device.rf_of_reg (Device.reg_congr regs _) 4 4).trans bank, Device.keepsRegs_congr ?_ regs⟩
  exact Device.keepsRegs_setReg (Device.keepsRegs_refl _ rfl) _ _ (List.mem_singleton_self _)

/-! ### MAP_VALIDATION_DONE (R173, R230) -/

/-- The first failure of the bank that a swap would bring into effect, with its entry (R173, R230). -/
def mapCode (s : Device) : Option (Code × Nat) :=
  (mapBankCode s s.reg (1 - mapBank s.reg)).orElse fun _ => mapChainCode s (1 - mapBank s.reg)

/-- The device once the entries of the other bank have been read. -/
def mapRead (s : Device) : Device :=
  s.each (upto (mapCount s.reg (1 - mapBank s.reg))) fun t i => (memRead .pho (mapAt t.reg (1 - mapBank s.reg) i) 16 t).1

theorem mapRead_frame (s : Device) : MemFrame s (mapRead s) := MemFrame.each _ _ fun t _ _ => memRead_frame _ _ _ t

/-- The validation has ended: SWAP reads 0, and the swap is where it goes on from. -/
def swapJudged (p : SwapPhase) (s : Device) : Device := ({ s with pho := { s.pho with mapSwap := p } }).setF R.PHO_MAP_CTRL 1 1 0

theorem swapJudged_ended (p : SwapPhase) (s : Device) : (swapJudged p s).rb R.PHO_MAP_CTRL 1 = false := by
  rw [swapJudged, Device.rb_setF _ _ _ _ _ _ _ (by decide) (by decide), if_pos (by decide)]
  rfl

section Validated

variable {s : Device} (validating : s.pho.mapSwap = .validating)
include validating

theorem mapValidated_passed (passes : mapCode s = none) :
    mapValidated s = (swapJudged .pending (mapRead s)).setB R.PHO_MAP_CTRL 5 true := by
  unfold mapCode at passes
  unfold mapValidated
  dsimp only
  rw [if_neg (not_not.mpr validating), passes]
  rfl

theorem mapValidated_refused {c : Code} {i : Nat} (fails : mapCode s = some (c, i)) :
    mapValidated s = (swapJudged .idle (setTblStatus 0 i c (mapRead s))).raise Ev.MAP_REJECTED (payEntry i (contentNow (mapRead s))) := by
  unfold mapCode at fails
  unfold mapValidated
  dsimp only
  rw [if_neg (not_not.mpr validating), fails]
  rfl

end Validated

/-- The code of a failure is shown whole in PHO_TBL_STATUS. -/
theorem setTblStatus_code (i : Nat) (c : Code) (s : Device) : (setTblStatus 0 i c s).rf R.PHO_TBL_STATUS 31 26 = c.num := by
  have small : c.num < 64 := by cases c <;> decide
  rw [Device.rf, setTblStatus, Device.rn_setN, if_pos rfl, fld, Nat.shiftRight_eq_div_pow]
  omega

theorem payEntry_lt (i f : Nat) : payEntry i f < 2 ^ 64 := by
  unfold payEntry
  omega

/-! ### The re-plan (R196) -/

theorem inStandby_alone {s : Device} (alone : rdgState s = 0) : inStandby s = false := by simp [inStandby, alone]

/-- The commit of a re-plan. -/
def planCommit (es : Entries) : Commit := { origin := .runtime, target := none, entries := es }

/-- A re-plan that nothing holds up submits one commit behind those pending (R196). -/
theorem replan_submits {s : Device} (idle : s.pho.planning = false) (drives : inStandby s = false) :
    let d := replan s
    d.pho.planning = true ∧ d.pho.planFrom = s.clock ∧ d.free = s.free + 1 ∧ d.clock = s.clock ∧ s.evt.raised <+: d.evt.raised ∧
      ∃ es, d.shw = { s.shw with commits := s.shw.commits ++ [planCommit es] } := by
  have planned : replan s = submitPlan (makePlan s) (writePlan (makePlan s) s) := by
    unfold replan
    rw [if_neg (by simp [idle]), if_neg (by simp [drives])]
  rw [planned]
  generalize makePlan s = x
  obtain ⟨frame, told⟩ := writePlan_work x s
  generalize writePlan x s = t at frame told
  have clock : t.clock = s.clock := by rw [frame]
  have free : t.free = s.free := by rw [frame]
  have shw : t.shw = s.shw := by rw [frame]
  exact ⟨rfl, clock, congrArg (· + 1) free, clock, told, x.entries,
    congrArg (fun y : ShowState => { y with commits := y.commits ++ [planCommit x.entries] }) shw⟩

theorem replan_waits {s : Device} (planning : s.pho.planning = true) : replan s = { s with pho := { s.pho with planAgain := true } } :=
  if_pos planning

theorem replan_standby {s : Device} (idle : s.pho.planning = false) (standby : inStandby s = true) :
    replan s = s.setB R.PHO_REPLAN_CFG 24 false := by
  unfold replan
  rw [if_neg (by simp [idle]), if_pos standby]

/-- NOW is stored with the period and asks for a re-plan (R196). -/
theorem phoHandler_replanNow {v : Word} (w : Who) (now : wbit v 24 = true) (s : Device) :
    (phoHandler w R.PHO_REPLAN_CFG v).effect s = replan (storeWrite w R.PHO_REPLAN_CFG v s) := by
  unfold phoHandler
  dsimp only
  rw [if_neg (by decide), if_neg (by decide), if_pos rfl]
  exact if_pos now

/-- The device once a re-plan period has ended at an instant and is told (R196). -/
def planDue (t : Nat) (s : Device) : Device := (s.elapseTo t).raise Ev.REPLAN_DUE (contentNow (s.elapseTo t))

/-- The end of a period changes the time and what is told. -/
theorem planDue_fields (t : Nat) (s : Device) : (planDue t s).pho = s.pho ∧ (planDue t s).clock = max s.clock t ∧ (planDue t s).mem = s.mem ∧
    (planDue t s).shw.commits = s.shw.commits ∧ inStandby (planDue t s) = inStandby s ∧ ∃ e ∈ (planDue t s).evt.raised, e.ev = Ev.REPLAN_DUE := by
  have state : rdgState (planDue t s) = rdgState s := Device.rf_of_reg (s.reg_elapseTo t _) 3 0
  exact ⟨s.elapseTo_pho t, s.elapseTo_clock t, s.elapseTo_mem t, s.elapseTo_shw_commits t, by rw [inStandby, state]; rfl,
    _, List.mem_append_right _ (List.mem_singleton_self _), rfl⟩

theorem runs_replanDue {s : State} {P : Device → Prop}
    (h : ∀ t, t = s.dev.pho.planFrom + 60000000000 * s.dev.rf R.PHO_REPLAN_CFG 10 0 → P (replan (planDue t s.dev))) : s.runs .replanDue P :=
  State.runs_of (fun d => replan (planDue (d.pho.planFrom + 60000000000 * d.rf R.PHO_REPLAN_CFG 10 0) d)) rfl (h _ rfl)

/-! ### The obligation -/

/-- Settles O36: a swap is judged by its bank's own code, and a re-plan's tables are memory, so its commit is all that the show sees of it. -/
theorem mapAndPlanChangesAreStaged : Obligations.MapAndPlanChangesAreStaged := by
  intro s w v
  refine ⟨fun ok swap => State.runs_of (fun d => regWrite d w R.PHO_MAP_CTRL v (phoHandler w R.PHO_MAP_CTRL v)) rfl ?_,
    fun validating => State.runs_of mapValidated rfl ?_, fun other => State.runs_of mapValidated rfl (if_pos other),
    fun ok now idle alone => State.runs_of (fun d => regWrite d w R.PHO_REPLAN_CFG v (phoHandler w R.PHO_REPLAN_CFG v)) rfl ?_,
    fun planning _ => runs_replanDue fun t _ => ?_, fun idle drives => runs_replanDue fun t instant => ?_,
    fun standby idle => runs_replanDue fun t _ => ?_⟩
  · rw [phoHandler_mapCtrl] at ok ⊢
    exact ⟨idle_of_mapSwap_ok ok swap, mapSwap_written ok swap⟩
  · obtain ⟨read, -⟩ := mapRead_frame s.dev
    have pho : (mapRead s.dev).pho = s.dev.pho := by rw [read]
    have shw : (mapRead s.dev).shw = s.dev.shw := by rw [read]
    dsimp only
    split
    · next passes =>
      rw [mapValidated_passed validating passes]
      refine ⟨congrArg (fun x : PhoState => { x with mapSwap := .pending }) pho, ?_, ?_⟩
      · rw [Device.rb_setB _ _ _ _ _ _ (by decide), if_neg (by decide), swapJudged_ended]
      · rw [Device.rb_setB _ _ _ _ _ _ (by decide), if_pos ⟨rfl, rfl⟩]
    · next c i fails =>
      have now : contentNow (mapRead s.dev) = contentNow s.dev := congrArg (fun x : ShowState => frameAdd x.frame (-1)) shw
      rw [mapValidated_refused validating fails, now]
      refine ⟨congrArg (fun x : PhoState => { x with mapSwap := .idle }) pho, swapJudged_ended .., ?_,
        _, List.mem_append_right _ (List.mem_singleton_self _), rfl, Nat.mod_eq_of_lt (payEntry_lt ..)⟩
      refine Eq.trans (Device.rf_of_reg ?_ 31 26) (setTblStatus_code i c (mapRead s.dev))
      exact Device.reg_setReg_other _ _ (by decide)
  · obtain ⟨-, keeps, frame⟩ := storeWrite_took (w := w) (v := v) (s.dev.answer .ok) (off := R.PHO_REPLAN_CFG) (by decide)
    rw [regWrite_ok ok, phoHandler_replanNow w now, forwardWrite_eq]
    have still : rdgState (storeWrite w R.PHO_REPLAN_CFG v (s.dev.answer .ok)) = 0 :=
      (Device.rf_of_reg (keeps R.RDG_STATUS (by decide)) 3 0).trans alone
    generalize storeWrite w R.PHO_REPLAN_CFG v (s.dev.answer .ok) = t at frame still
    have pho : t.pho = s.dev.pho := congrArg (·.pho) frame
    have clock : t.clock = s.dev.clock := congrArg (·.clock) frame
    have free : t.free = s.dev.free := congrArg (·.free) frame
    have shw : t.shw = s.dev.shw := congrArg (·.shw) frame
    obtain ⟨begun, since, used, -, -, es, submitted⟩ := replan_submits (s := t) (by rw [pho, idle]) (inStandby_alone still)
    exact ⟨begun, since.trans clock, used.trans (by rw [free]), es, submitted.trans (by rw [shw]; rfl)⟩
  · obtain ⟨pho, -⟩ := planDue_fields t s.dev
    rw [replan_waits (by rw [pho, planning])]
    exact congrArg (fun x : PhoState => { x with planAgain := true }) pho
  · obtain ⟨pho, clock, -, commits, role, e, he, ev⟩ := planDue_fields t s.dev
    obtain ⟨begun, since, -, same, told, es, submitted⟩ := replan_submits (s := planDue t s.dev) (by rw [pho, idle]) (role.trans drives)
    rw [← instant]
    exact ⟨begun, same.trans clock, since.trans same.symm, ⟨e, told.subset he, ev⟩, es,
      (congrArg (·.commits) submitted).trans (congrArg (· ++ [planCommit es]) commits)⟩
  · obtain ⟨pho, -, mem, commits, role, -⟩ := planDue_fields t s.dev
    rw [replan_standby (by rw [pho, idle]) (role.trans standby)]
    exact ⟨commits, mem⟩

end Sys2Proof.Machine
end

section
/-! PROOFS. Sensor readings and the ageing saves (R199, R200, R446): what a reading leaves, when SENSOR_FAULT is told, and how a save starts and ends. -/

namespace Sys2Proof.Machine

/-! ### Readings of a sensor point (R199, R200) -/

/-- New trims are stored and their commit is submitted: photometry's own state and the clock stay (R200). -/
theorem trimPoint_keeps (p : Nat) (s : Device) : (trimPoint p s).pho = s.pho ∧ (trimPoint p s).clock = s.clock := by
  unfold trimPoint
  dsimp only
  split
  · exact ⟨rfl, rfl⟩
  · obtain ⟨stored, -⟩ := memStore_frame .pho (trimAt s.reg (1 - trimBank s.reg) 0)
      (putBytes (peek s (trimAt s.reg (trimBank s.reg) 0) 16384) (16 * p)
        ((upto 6).flatMap (fun k => leBytes 2 (Config.trim s.free p k).toNat))) s
    exact ⟨congrArg (·.pho) stored, congrArg (·.clock) stored⟩

/-- With PHO_CTRL.TRIM_EN = 0 the runtime makes no trims (R200). -/
theorem trimPoint_off {s : Device} (off : s.rb R.PHO_CTRL 3 = false) (p : Nat) : trimPoint p s = s := by
  unfold trimPoint
  exact if_pos (by simp [off])

/-- The poll of a sensor point on its I2C bus (R199). -/
def polled (p : Nat) (s : Device) : Device :=
  s.send (.i2c (leAt (sensorEntry s p) 1 1 % 4)) [leAt (sensorEntry s p) 2 1 % 128, leAt (sensorEntry s p) 3 1, 6]

section Runs

variable {s : State} {p : Nat} {P : Device → Prop} (hp : p < 1024)
include hp

theorem runs_sensorPoll_i2c (r : Option (List Byte)) (i2c : leAt (sensorEntry s.dev p) 0 1 = 2)
    (h : P (sensorReading p r (polled p s.dev))) : s.runs (.sensorPoll p r) P :=
  State.runs_unit (fun _ => p < 1024)
    (fun d => if leAt (sensorEntry d p) 0 1 ≠ 2 then d else sensorReading p r (polled p d)) rfl (decide_eq_true hp)
    (by rwa [if_neg (not_not.mpr i2c)])

theorem runs_sensorPoll_other (r : Option (List Byte)) (other : leAt (sensorEntry s.dev p) 0 1 ≠ 2) (h : P s.dev) :
    s.runs (.sensorPoll p r) P :=
  State.runs_unit (fun _ => p < 1024)
    (fun d => if leAt (sensorEntry d p) 0 1 ≠ 2 then d else sensorReading p r (polled p d)) rfl (decide_eq_true hp)
    (by rwa [if_pos other])

end Runs

/-- A reading is kept and ends the point's run of failures (R199). -/
def heard (p : Nat) (r : List Byte) (s : Device) : Device :=
  { s with pho := { s.pho with readings := s.pho.readings.put p r, fails := s.pho.fails.del p } }

/-- A failure goes on with the point's run of failures (R199). -/
def missed (p : Nat) (s : Device) : Device :=
  { s with pho := { s.pho with fails := s.pho.fails.put p (s.pho.fails.getD 0 p + 1) } }

/-- The eighth failure in a row, the one after seven, is told; nothing else is (R199). -/
theorem sensorFailure (p : Nat) (s : Device) : ∃ evt, sensorReading p none s = { missed p s with evt := evt } ∧
    s.newEvents { missed p s with evt := evt } (if s.pho.fails.getD 0 p = 7 then [(Ev.SENSOR_FAULT, payF p (contentNow s))] else []) := by
  have judged : sensorReading p none s =
      (missed p s).raiseIf (decide (s.pho.fails.getD 0 p + 1 = 8)) Ev.SENSOR_FAULT (payF p (contentNow s)) := rfl
  rw [judged]
  by_cases eighth : s.pho.fails.getD 0 p = 7
  · have told := Device.newEvents_raise (Device.newEvents_none (s := s) (t := missed p s) rfl) Ev.SENSOR_FAULT (payF p (contentNow s))
    rw [Nat.mod_eq_of_lt (payF_lt ..)] at told
    rw [if_pos eighth, eighth]
    exact ⟨_, rfl, told⟩
  · rw [if_neg eighth, decide_eq_false (by omega)]
    exact ⟨s.evt, rfl, Device.newEvents_none rfl⟩

/-! ### Ageing saves (R446) -/

/-- A save that starts while none runs copies the accumulators to flash. -/
theorem ageSaveStart_idle {s : Device} (idle : s.pho.ageSaving = none) :
    ageSaveStart s = ({ s with pho := { s.pho with ageSaving := some (ageTable s) } }).send .flash [6] := by
  unfold ageSaveStart
  rw [idle]
  exact if_neg Bool.false_ne_true

/-- The save that is due at an instant takes the accumulators as they then are. -/
theorem ageSaveStart_elapsed {s : Device} (idle : s.pho.ageSaving = none) (t : Nat) :
    let d := ageSaveStart (s.elapseTo t)
    d.pho = { s.pho with ageSaving := some (ageTable (s.elapseTo t)) } ∧ d.clock = max s.clock t ∧ d.sent = s.sent ++ [⟨.flash, [6]⟩] := by
  dsimp only
  rw [ageSaveStart_idle (by rw [Device.elapseTo_pho, idle])]
  generalize ageTable (s.elapseTo t) = copy
  exact ⟨congrArg (fun x : PhoState => { x with ageSaving := some copy }) (s.elapseTo_pho t), s.elapseTo_clock t,
    congrArg (· ++ [(⟨.flash, [6]⟩ : Sent)]) (s.elapseTo_sent t)⟩

theorem runs_ageSaveTimer {s : State} {P : Device → Prop}
    (h : ∀ t, t = s.dev.pho.ageFrom + 3600000000000 → P (ageSaveStart (s.dev.elapseTo t))) : s.runs .ageSaveTimer P :=
  State.runs_of (fun d => ageSaveStart (d.elapseTo (d.pho.ageFrom + 3600000000000))) rfl (h _ rfl)

section SaveEnd

variable {s : Device} {t : Table Nat} (saving : s.pho.ageSaving = some t)
include saving

theorem ageSaveEnd_done : ageSaveEnd true s =
    ({ s.setF R.SYS_CMD 3 3 0 with
       pho := { s.pho with ageSaving := none, ageOlder := s.pho.ageNewest, ageNewest := some t, ageFrom := s.clock } }).raise
      Ev.AGE_SAVE_DONE 0 := by
  unfold ageSaveEnd
  rw [saving]
  rfl

theorem ageSaveEnd_failed : ageSaveEnd false s =
    ({ s.setF R.SYS_CMD 3 3 0 with pho := { s.pho with ageSaving := none, ageOlder := none } }).raise Ev.AGE_SAVE_FAIL 0 := by
  unfold ageSaveEnd
  rw [saving]
  rfl

end SaveEnd

/-! ### The obligation -/

/-- Settles O37: a poll is a reading or a failure of its point, and a save's start and end are its stores and what they tell. -/
theorem sensorsAndAgeingAreKept : Obligations.SensorsAndAgeingAreKept := by
  intro s
  refine ⟨fun p r hp i2c => runs_sensorPoll_i2c hp (some r) i2c ?_, fun p hp i2c => runs_sensorPoll_i2c hp none i2c ?_,
    fun p r hp other => runs_sensorPoll_other hp r other rfl,
    fun idle => runs_ageSaveTimer fun t hour => hour ▸ ageSaveStart_elapsed idle t,
    fun t saving => ⟨State.runs_of (ageSaveEnd true) rfl ?_, State.runs_of (ageSaveEnd false) rfl ?_⟩⟩
  · obtain ⟨pho, clock⟩ := trimPoint_keeps p (heard p r (polled p s.dev))
    refine ⟨pho, clock, fun off => ?_⟩
    have kept : sensorReading p (some r) (polled p s.dev) = heard p r (polled p s.dev) :=
      trimPoint_off (s := heard p r (polled p s.dev)) off p
    rw [kept]
    rfl
  · obtain ⟨evt, failed, told⟩ := sensorFailure p (polled p s.dev)
    rw [failed]
    exact ⟨rfl, told, rfl⟩
  · rw [ageSaveEnd_done saving]
    exact ⟨rfl, Device.newEvents_raise (Device.newEvents_none rfl) Ev.AGE_SAVE_DONE 0, rfl⟩
  · rw [ageSaveEnd_failed saving]
    exact ⟨rfl, Device.newEvents_raise (Device.newEvents_none rfl) Ev.AGE_SAVE_FAIL 0, rfl⟩

end Sys2Proof.Machine
end

section
/-! PROOFS. The chains' jobs (R211 to R247): what a chain that may not send leaves, the end of a motion, bank levels, ENUM, and RDM requests. -/

namespace Sys2Proof.Machine

/-- A command of a chain that exists is its effect on the device. -/
theorem runs_onChain {s : State} {c : Nat} (hc : c < 512) {i : Instr} {P : Device → Prop} (f : Device → Device)
    (h : exec i s = s.onDevice fun d => onUnit (c < 512) (f d)) (p : P (f s.dev)) : s.runs i P :=
  State.runs_unit (fun _ => c < 512) f h (decide_eq_true hc) p

/-! ### A chain that may not send (R213) -/

section Muted

variable {s : Device} {c : Nat} (mute : sends s = false ∨ chainLive s c = false)
include mute

theorem muted_eq_true : (!sends s || !chainLive s c) = true := by
  rcases mute with h | h <;> simp [h]

theorem bringupCycle_muted (records : List (List Byte)) : bringupCycle c records s = s := if_pos (muted_eq_true mute)

theorem rangeDone_muted (rt0 rtN : List Nat) (records : List (List Byte)) : rangeDone c rt0 rtN records s = s := if_pos (muted_eq_true mute)

theorem eyeCalDone_muted (clean : List Bool) (ok : Bool) : eyeCalDone c clean ok s = s := if_pos (muted_eq_true mute)

theorem driftRanging_muted (rt0 rtN : Nat) : driftRanging c rt0 rtN s = s := by
  refine if_pos ?_
  rcases mute with h | h <;> simp [h]

theorem identityCheck_muted (records : List (List Byte)) : identityCheck c records s = s := by
  refine if_pos ?_
  rcases mute with h | h <;> simp [h]

theorem rdmWindow_muted (found : List (Nat × Nat)) (refused : List Nat) : rdmWindow c found refused s = s := by
  refine if_pos ?_
  rw [muted_eq_true mute]
  rfl

theorem readbackTurn_muted (ack : Bool) (unturned : (s.chain c).turned = none) : readbackTurn c ack s = s := by
  unfold readbackTurn
  simp only [unturned]
  refine if_pos ?_
  rw [muted_eq_true mute]
  rfl

end Muted

theorem readbackStream_unturned {s : Device} {c : Nat} (unturned : (s.chain c).turned = none) (records : List (List Byte)) :
    readbackStream c records s = s := by
  unfold readbackStream
  simp only [unturned]

/-! ### While nothing latches (R445) -/

section Unlatched

variable {s : Device} (unlatched : noLatches s = true) (c : Nat)
include unlatched

theorem railStrobe_unlatched : railStrobe c s = s := by
  unfold railStrobe
  split
  · exact if_pos (by simp [unlatched])
  · rfl

theorem dmxFrameStart_unlatched : dmxFrameStart c s = s := by
  unfold dmxFrameStart
  dsimp only
  split
  · rfl
  · exact if_pos (by simp [unlatched])

end Unlatched

/-- The output record is sent beside the chains: it changes which frame is recorded and what is sent (R393). -/
theorem sendOutput_eq (d : FrameCtx) (s : Device) :
    sendOutput d s = { s with pipe := (sendOutput d s).pipe, sent := (sendOutput d s).sent } := by
  unfold sendOutput
  split
  · rfl
  · rw [ridgeSend_eq]
    rfl

theorem afterBuild_eq (c : Nat) (s : Device) : afterBuild c s = { s with pipe := (afterBuild c s).pipe, sent := (afterBuild c s).sent } := by
  unfold afterBuild
  split
  · rfl
  · split
    · split
      · exact sendOutput_eq ..
      · rfl
    · rfl

theorem afterBuild_alone {s : Device} (alone : pairActive s = false) (c : Nat) : afterBuild c s = s := if_pos (by simp [alone])

/-! ### The end of a motion (R247) -/

/-- A motion that ends is told, and one that has ended already is not. -/
theorem setMotion_off (c : Nat) (s : Device) : let d := setMotion c false s
    d.rb (R.BAT_CHn_STATUS c) 5 = false ∧ s.keepsRegs d [R.BAT_CHn_STATUS c] ∧
    s.newEvents d (if s.rb (R.BAT_CHn_STATUS c) 5 then [(Ev.MOTION_CHANGE, pay2 c 0)] else []) ∧
    d = { s with regs := d.regs, evt := d.evt } := by
  unfold setMotion
  dsimp only
  cases moving : s.rb (R.BAT_CHn_STATUS c) 5 with
  | false => exact ⟨moving, Device.keepsRegs_refl _ rfl, Device.newEvents_none rfl, rfl⟩
  | true =>
    have told := Device.newEvents_raise (Device.newEvents_none (s := s) (t := s.setB (R.BAT_CHn_STATUS c) 5 false) rfl)
      Ev.MOTION_CHANGE (pay2 c (b2n false))
    rw [Nat.mod_eq_of_lt (pay2_lt ..)] at told
    refine ⟨?_, Device.keepsRegs_setReg (Device.keepsRegs_refl _ rfl) _ _ (List.mem_singleton_self _), told, rfl⟩
    exact (Device.rb_setB s _ 5 _ 5 false (by decide)).trans (if_pos ⟨rfl, rfl⟩)

@[simp] theorem Device.chain_setChain_same (s : Device) (c : Nat) (x : ChainState) : (s.setChain c x).chain c = x := by
  simp [Device.chain, Device.setChain, Table.getD_setD]

/-- The device at the instant a chain's hold ends, with the hold taken off. -/
def holdOver (c t : Nat) (s : Device) : Device := (s.elapseTo t).setChain c { (s.elapseTo t).chain c with motionEnd := none }

theorem motionExpiry_held {s : Device} {c t : Nat} (held : (s.chain c).motionEnd = some t) :
    motionExpiry c s = setMotion c false (holdOver c t s) := by
  unfold motionExpiry
  simp only [held]
  rfl

theorem motionExpiry_still {s : Device} {c : Nat} (still : (s.chain c).motionEnd = none) : motionExpiry c s = s := by
  unfold motionExpiry
  simp only [still]

theorem motionExpiry_effect {s : Device} {c t : Nat} (held : (s.chain c).motionEnd = some t) : let d := motionExpiry c s
    d.clock = max s.clock t ∧ (d.chain c).motionEnd = none ∧ d.rb (R.BAT_CHn_STATUS c) 5 = false ∧ s.keepsRegs d [R.BAT_CHn_STATUS c] ∧
    s.newEvents d (if s.rb (R.BAT_CHn_STATUS c) 5 then [(Ev.MOTION_CHANGE, pay2 c 0)] else []) := by
  have regs : (holdOver c t s).regs = s.regs := s.elapseTo_regs t
  have evt : (holdOver c t s).evt = s.evt := s.elapseTo_evt t
  have chain : ((holdOver c t s).chain c).motionEnd = none := by rw [holdOver, Device.chain_setChain_same]
  have clock : (holdOver c t s).clock = max s.clock t := s.elapseTo_clock t
  obtain ⟨ended, keeps, told, frame⟩ := setMotion_off c (holdOver c t s)
  rw [motionExpiry_held held]
  dsimp only at *
  generalize setMotion c false (holdOver c t s) = d at *
  rw [Device.rb_of_reg (Device.reg_congr regs _)] at told
  refine ⟨?_, ?_, ended, Device.keepsRegs_trans (Device.keepsRegs_refl _ regs) keeps, Device.newEvents_append (Device.newEvents_none evt) told⟩
  · rw [frame]
    exact clock
  · rw [frame]
    exact chain

/-! ### Bank supplies (R242) -/

/-- A bank supply that stays as it was. -/
theorem bankSupply_same {s : Device} {b mv : Nat} (same : s.rb (R.BAT_BANKb_STATUS b) 0 = supplyOk mv) :
    bankSupply b mv s = (s.setB (R.BAT_BANKb_STATUS b) 0 (supplyOk mv)).setB (R.BAT_BANKb_STATUS b) 1 (3135 ≤ mv) := if_pos same

/-- The level of a bank supply is shown, and nothing else changes. -/
theorem setBankLevel_effect (b : Nat) (ok full : Bool) (s : Device) :
    let d := (s.setB (R.BAT_BANKb_STATUS b) 0 ok).setB (R.BAT_BANKb_STATUS b) 1 full
    d.rb (R.BAT_BANKb_STATUS b) 0 = ok ∧ d.rb (R.BAT_BANKb_STATUS b) 1 = full ∧ d.bat = s.bat ∧ s.keepsRegs d [R.BAT_BANKb_STATUS b] ∧
      s.newEvents d [] := by
  refine ⟨?_, ?_, rfl, ?_, Device.newEvents_none rfl⟩
  · rw [Device.rb_setB _ _ _ _ _ _ (by decide), if_neg (by simp), Device.rb_setB _ _ _ _ _ _ (by decide), if_pos ⟨rfl, rfl⟩]
  · rw [Device.rb_setB _ _ _ _ _ _ (by decide), if_pos ⟨rfl, rfl⟩]
  · exact Device.keepsRegs_setReg (Device.keepsRegs_setReg (Device.keepsRegs_refl _ rfl) _ _ (List.mem_singleton_self _)) _ _
      (List.mem_singleton_self _)

/-! ### ENUM (R239, R240) -/

theorem sends_of_reg {s t : Device} (same : t.reg R.RDG_STATUS = s.reg R.RDG_STATUS) : sends t = sends s := by
  have state : rdgState t = rdgState s := Device.rf_of_reg same 3 0
  unfold sends inStandby
  rw [state]

section ChainCmd

variable {c : Nat} (hc : c < 512)
include hc

/-- Of the rows that list a register of every chain, the one of BAT_CHn_CMD covers it (R251). -/
theorem chainRow_covers {r : RegSpec} (row : r.s1 = 0x80 ∧ r.n1 = 512 ∧ r.s2 = 0 ∧ r.n2 = 1) (place : 0x180000 ≤ r.off ∧ r.off < 0x180080) :
    r.covers (R.BAT_CHn_CMD c) = true ↔ r.off = R.BAT_CHn_CMD 0 := by
  obtain ⟨s1, n1, s2, n2⟩ := row
  simp only [RegSpec.covers, s1, n1, s2, n2, Bool.and_eq_true, decide_eq_true_eq]
  simp only [if_true, if_neg (show ¬ 0x80 = 0 by decide)]
  unfold R.BAT_CHn_CMD
  omega

/-- The row of BAT_CHn_CMD: bits that are set by writing 1, not kept per reader (R251). -/
theorem chainCmd_spec : ∃ r, specAt (R.BAT_CHn_CMD c) = some r ∧ r.banked = false ∧ r.w1s = 7 := by
  have block : blockSpecs (R.BAT_CHn_CMD c) = specsBAT := by
    unfold blockSpecs R.BAT_CHn_CMD
    repeat rw [if_neg (by omega)]
    exact if_pos (by omega)
  unfold specAt
  rw [block]
  unfold specsBAT
  rw [List.cons_append]
  -- seven registers of a chain lie before its CMD
  iterate 7 rw [List.find?_cons_of_neg (by rw [chainRow_covers hc (by decide) (by decide)]; decide), List.cons_append]
  rw [List.find?_cons_of_pos (by rw [chainRow_covers hc (by decide) (by decide)]; rfl)]
  exact ⟨_, rfl, rfl, rfl⟩

/-- What decides whether a chain may send, and how, stands beside its BAT_CHn_CMD. -/
theorem chainCmd_apart : R.RDG_STATUS ≠ R.BAT_CHn_CMD c ∧ R.BAT_CTRL ≠ R.BAT_CHn_CMD c ∧ R.BAT_CHn_CFG c ≠ R.BAT_CHn_CMD c ∧
    R.BAT_BANKb_STATUS (c / 32) ≠ R.BAT_CHn_CMD c := by
  simp only [R.RDG_STATUS, R.BAT_CTRL, R.BAT_CHn_CFG, R.BAT_BANKb_STATUS, R.BAT_CHn_CMD]
  omega

/-- A write to BAT_CHn_CMD leaves whether its chain may send, and how. -/
theorem chainCmd_beside {s t : Device} (keeps : s.keepsRegs t [R.BAT_CHn_CMD c]) :
    sends t = sends s ∧ chainLive t c = chainLive s c ∧ chainMode t.reg c = chainMode s.reg c := by
  obtain ⟨role, ctrl, cfg, bank⟩ := chainCmd_apart hc
  have same {o : Nat} (other : o ≠ R.BAT_CHn_CMD c) : t.reg o = s.reg o := keeps o (by simpa using other)
  refine ⟨sends_of_reg (same role), ?_, ?_⟩
  · unfold chainLive chainOn bankOk
    rw [Device.rb_of_reg (same ctrl), same cfg, Device.rb_of_reg (same bank)]
  · unfold chainMode
    rw [same cfg]

theorem batHandler_chainCmd (w : Who) (v : Word) : batHandler w (R.BAT_CHn_CMD c) v = chainCmdHandler c w v := by
  have inside : (R.BAT_CHn_CFG 0 ≤ R.BAT_CHn_CMD c && R.BAT_CHn_CMD c < R.BAT_CHn_CFG 512 && R.BAT_CHn_CMD c % 0x80 = 0x1C) = true := by
    simp only [Bool.and_eq_true, decide_eq_true_eq]
    simp only [R.BAT_CHn_CFG, R.BAT_CHn_CMD]
    omega
  have index : (R.BAT_CHn_CMD c - R.BAT_CHn_CFG 0) / 0x80 = c := by
    simp only [R.BAT_CHn_CFG, R.BAT_CHn_CMD]
    omega
  unfold batHandler
  dsimp only
  rw [if_pos inside, index]

end ChainCmd

/-- The chain in the first cycle of its bring-up (R240). -/
def ChainState.enumerated (x : ChainState) : ChainState := { x with job := some (.bringup 1 0), stage := none, misses := [], turned := none }

theorem startBringup_hlk {s : Device} {c : Nat} (role : sends s = true) (live : chainLive s c = true) (hlk : chainMode s.reg c = 0) :
    startBringup c s = s.setChain c (s.chain c).enumerated := by
  unfold startBringup
  dsimp only
  rw [if_neg (by simp [role, live]), hlk]
  rfl

/-- Commands of a chain wait while it is in a job (R251). -/
theorem nextCmd_busy {s : Device} {c : Nat} (busy : (s.chain c).job.isSome = true) : nextCmd c s = s := by
  have idle : (s.chain c).job.isNone = false := by rw [← Option.not_isSome, busy]; rfl
  simp [nextCmd, idle]

/-- ENUM is stored, and begins the first cycle of the chain's bring-up. -/
theorem chainEnum_effect {s : Device} {c : Nat} (hc : c < 512) {w : Who} {v : Word}
    (ok : writeCode s w (R.BAT_CHn_CMD c) v (batHandler w (R.BAT_CHn_CMD c) v) = .ok) (enum : wbit v 0 = true) (role : sends s = true)
    (live : chainLive s c = true) (hlk : chainMode s.reg c = 0) : let d := regWrite s w (R.BAT_CHn_CMD c) v (batHandler w (R.BAT_CHn_CMD c) v)
    d.chain c = (s.chain c).enumerated ∧ d.rb (R.BAT_CHn_CMD c) 0 = true ∧ s.keepsRegs d [R.BAT_CHn_CMD c] := by
  obtain ⟨r, spec, banked, w1s⟩ := chainCmd_spec hc
  obtain ⟨took, keeps, frame⟩ := storeWrite_took (w := w) (v := v) (s.answer .ok) (off := R.BAT_CHn_CMD c) (by simp [spec, banked])
  have effect : (chainCmdHandler c w v).effect (s.answer .ok) = nextCmd c (startBringup c (storeWrite w (R.BAT_CHn_CMD c) v (s.answer .ok))) := by
    unfold chainCmdHandler
    dsimp only
    rw [if_pos enum]
  rw [regWrite_ok ok, batHandler_chainCmd hc, effect, forwardWrite_eq]
  generalize storeWrite w (R.BAT_CHn_CMD c) v (s.answer .ok) = t at took keeps frame
  have bat : t.bat = s.bat := by rw [frame]; rfl
  replace keeps : s.keepsRegs t [R.BAT_CHn_CMD c] := keeps
  obtain ⟨sending, supplied, mode⟩ := chainCmd_beside hc keeps
  rw [startBringup_hlk (sending.trans role) (supplied.trans live) (mode.trans hlk), nextCmd_busy (by simp [ChainState.enumerated])]
  refine ⟨?_, ?_, keeps⟩
  · refine (Device.chain_setChain_same t c _).trans ?_
    unfold Device.chain
    rw [bat]
  · exact tookWrite_w1s took 0 (by decide) (by rw [spec]; simp [w1s]) enum

/-! ### RDM requests (R246) -/

theorem batHandler_rdmCtrl (w : Who) (v : Word) : batHandler w R.BAT_RDM_CTRL v = rdmHandler w v := by
  unfold batHandler
  dsimp only
  rw [if_neg (by decide), if_pos rfl]

/-- Replaces the pass-through request that waits for its chain. -/
def Device.setRdm (s : Device) (x : Option (Nat × List Byte)) : Device := { s with bat := { s.bat with rdm := x } }

/-- The request that waits is replaced, and BUSY and RESULT are shown. -/
def rdmState (busy : Bool) (result : Nat) (x : Option (Nat × List Byte)) (s : Device) : Device :=
  ((s.setB R.BAT_RDM_CTRL 17 busy).setF R.BAT_RDM_CTRL 21 20 result).setRdm x

theorem Device.setRdm_regs (s : Device) (x : Option (Nat × List Byte)) : (s.setRdm x).regs = s.regs := rfl
theorem Device.setRdm_mem (s : Device) (x : Option (Nat × List Byte)) : (s.setRdm x).mem = s.mem := rfl
theorem Device.setRdm_bat (s : Device) (x : Option (Nat × List Byte)) : (s.setRdm x).bat = { s.bat with rdm := x } := rfl

theorem rdmState_effect (busy : Bool) (result : Nat) (x : Option (Nat × List Byte)) (s : Device) : let d := rdmState busy result x s
    d.rb R.BAT_RDM_CTRL 17 = busy ∧ d.rf R.BAT_RDM_CTRL 21 20 = result % 4 ∧ d.bat = { s.bat with rdm := x } ∧ d.mem = s.mem ∧
      s.keepsRegs d [R.BAT_RDM_CTRL] := by
  dsimp only
  unfold rdmState
  have regs := Device.setRdm_regs ((s.setB R.BAT_RDM_CTRL 17 busy).setF R.BAT_RDM_CTRL 21 20 result) x
  refine ⟨?_, ?_, ?_, ?_, Device.keepsRegs_congr ?_ regs⟩
  · rw [Device.rb_of_reg (Device.reg_congr regs _), Device.rb_setF _ _ _ _ _ _ _ (by decide) (by decide), if_neg (by decide),
      Device.rb_setB _ _ _ _ _ _ (by decide), if_pos ⟨rfl, rfl⟩]
  · exact (Device.rf_of_reg (Device.reg_congr regs _) 21 20).trans (Device.rf_setF_same _ _ 21 20 _ (by decide) (by decide))
  · rw [Device.setRdm_bat, Device.setF_bat, Device.setB_bat]
  · rw [Device.setRdm_mem, Device.setF_mem, Device.setB_mem]
  · exact Device.keepsRegs_setReg (Device.keepsRegs_setReg (Device.keepsRegs_refl _ rfl) _ _ (List.mem_singleton_self _)) _ _
      (List.mem_singleton_self _)

/-- GO reads the request from the mailbox, and it waits. -/
theorem rdmHandler_go {v : Word} (w : Who) (go : wbit v 16 = true) (s : Device) :
    ∃ t req, t.bat = s.bat ∧ (rdmHandler w v).effect s = rdmState true 0 (some (wfld v 8 0, req)) t := by
  have stored : ((storeWrite w R.BAT_RDM_CTRL v s).setB R.BAT_RDM_CTRL 16 false).bat = s.bat := by
    rw [Device.setB_bat, storeWrite_eq]
  unfold rdmHandler
  dsimp only
  rw [if_pos go]
  generalize (storeWrite w R.BAT_RDM_CTRL v s).setB R.BAT_RDM_CTRL 16 false = u at stored
  obtain ⟨frame, -⟩ := memRead_frame .bat (rdmBox u) 256 u
  have read : (memRead .bat (rdmBox u) 256 u).1.bat = u.bat := by rw [frame]
  generalize memRead .bat (rdmBox u) 256 u = answer at read
  obtain ⟨t, r⟩ := answer
  exact ⟨t, _, read.trans stored, rfl⟩

theorem forwardWrite_bat (off : Nat) (v : Word) (p : Nat) (s : Device) : (forwardWrite off v p s).bat = s.bat := by
  rw [forwardWrite_eq]

theorem rdmGo_effect {s : Device} {w : Who} {v : Word} (ok : writeCode s w R.BAT_RDM_CTRL v (batHandler w R.BAT_RDM_CTRL v) = .ok)
    (go : wbit v 16 = true) : let d := regWrite s w R.BAT_RDM_CTRL v (batHandler w R.BAT_RDM_CTRL v)
    d.rb R.BAT_RDM_CTRL 17 = true ∧ d.rf R.BAT_RDM_CTRL 21 20 = 0 ∧ ∃ req, d.bat = { s.bat with rdm := some (wfld v 8 0, req) } := by
  obtain ⟨t, req, bat, effect⟩ := rdmHandler_go w go (s.answer .ok)
  obtain ⟨busy, result, waits, -⟩ := rdmState_effect true 0 (some (wfld v 8 0, req)) t
  rw [regWrite_ok ok, batHandler_rdmCtrl, effect]
  have same := Device.reg_congr (forwardWrite_regs R.BAT_RDM_CTRL v (nextPoint s) (rdmState true 0 (some (wfld v 8 0, req)) t)) R.BAT_RDM_CTRL
  refine ⟨(Device.rb_of_reg same 17).trans busy, (Device.rf_of_reg same 21 20).trans result, req, ?_⟩
  rw [forwardWrite_bat, waits, bat]
  rfl

theorem rdmDone_idle {s : Device} (idle : s.bat.rdm = none) (result : Nat) (resp : List Byte) : rdmDone result resp s = s := by
  unfold rdmDone
  simp only [idle]

/-- A response is stored in the mailbox only where the result is 0. -/
def rdmStored (result : Nat) (resp : List Byte) (s : Device) : Device :=
  if result % 4 = 0 then memStore .bat (rdmBox s + 256) (resp.take 256) s else s

theorem rdmStored_bat (result : Nat) (resp : List Byte) (s : Device) : (rdmStored result resp s).bat = s.bat := by
  unfold rdmStored
  split
  · obtain ⟨stored, -⟩ := memStore_frame .bat (rdmBox s + 256) (resp.take 256) s
    rw [stored]
  · rfl

theorem rdmDone_waiting {s : Device} {chain : Nat} {req : List Byte} (waits : s.bat.rdm = some (chain, req)) (result : Nat) (resp : List Byte) :
    rdmDone result resp s = (rdmState false result none (rdmStored result resp s)).raise Ev.RDM_DONE (pay2 chain (result % 4)) := by
  unfold rdmDone
  simp only [waits]
  rfl

theorem rdmDone_effect {s : Device} {chain : Nat} {req : List Byte} (waits : s.bat.rdm = some (chain, req)) (result : Nat) (resp : List Byte) :
    let d := rdmDone result resp s
    d.bat = { s.bat with rdm := none } ∧ d.rb R.BAT_RDM_CTRL 17 = false ∧ d.rf R.BAT_RDM_CTRL 21 20 = result % 4 ∧
      (∃ e ∈ d.evt.raised, e.ev = Ev.RDM_DONE ∧ e.payload = pay2 chain (result % 4)) ∧
      (result % 4 ≠ 0 → d.mem = s.mem ∧ s.keepsRegs d [R.BAT_RDM_CTRL]) := by
  have unstored (failed : result % 4 ≠ 0) : rdmStored result resp s = s := if_neg failed
  obtain ⟨ended, shown, bat, mem, keeps⟩ := rdmState_effect false result none (rdmStored result resp s)
  rw [rdmStored_bat] at bat
  rw [rdmDone_waiting waits]
  have same := Device.reg_raise (rdmState false result none (rdmStored result resp s)) Ev.RDM_DONE (pay2 chain (result % 4)) R.BAT_RDM_CTRL
  refine ⟨(Device.raise_bat ..).trans bat, (Device.rb_of_reg same 17).trans ended, (Device.rf_of_reg same 21 20).trans shown,
    ⟨_, List.mem_append_right _ (List.mem_singleton_self _), rfl, Nat.mod_eq_of_lt (pay2_lt ..)⟩, fun failed => ?_⟩
  rw [unstored failed] at mem keeps ⊢
  exact ⟨(Device.raise_mem ..).trans mem, Device.keepsRegs_congr keeps (Device.raise_regs ..)⟩

/-! ### The obligation -/

/-- Settles O51: each job's guard holds back a chain that may not send; motion, bank levels, ENUM and RDM are their stores and what they tell. -/
theorem chainsServeWhileTheyMaySend : Obligations.ChainsServeWhileTheyMaySend := by
  intro s c hc
  refine ⟨fun mute => ⟨fun recs => runs_onChain hc (bringupCycle c recs) rfl (bringupCycle_muted mute recs),
      fun r0 rn recs => runs_onChain hc (rangeDone c r0 rn recs) rfl (rangeDone_muted mute r0 rn recs),
      fun clean ok => runs_onChain hc (eyeCalDone c clean ok) rfl (eyeCalDone_muted mute clean ok),
      fun r0 rn => runs_onChain hc (driftRanging c r0 rn) rfl (driftRanging_muted mute r0 rn),
      fun recs => runs_onChain hc (identityCheck c recs) rfl (identityCheck_muted mute recs),
      fun found refused => runs_onChain hc (rdmWindow c found refused) rfl (rdmWindow_muted mute found refused),
      fun ack unturned => runs_onChain hc (readbackTurn c ack) rfl (readbackTurn_muted mute ack unturned)⟩,
    fun unlatched => ⟨runs_onChain hc (railStrobe c) rfl (railStrobe_unlatched unlatched c),
      runs_onChain hc (fun d => afterBuild c (dmxFrameStart c d)) rfl ?_⟩,
    fun unturned recs => runs_onChain hc (readbackStream c recs) rfl (readbackStream_unturned unturned recs),
    fun still => runs_onChain hc (motionExpiry c) rfl (motionExpiry_still still),
    fun t held => runs_onChain hc (motionExpiry c) rfl (motionExpiry_effect held),
    fun b mv hb same => State.runs_unit (fun _ => b < 16) (bankSupply b mv) rfl (decide_eq_true hb) ?_,
    fun w v ok enum role live hlk => runs_onChain hc (fun d => regWrite d w (R.BAT_CHn_CMD c) v (batHandler w (R.BAT_CHn_CMD c) v)) rfl
      (chainEnum_effect hc ok enum role live hlk),
    fun w v ok go => State.runs_of (fun d => regWrite d w R.BAT_RDM_CTRL v (batHandler w R.BAT_RDM_CTRL v)) rfl (rdmGo_effect ok go),
    fun result resp => ⟨fun idle => State.runs_of (rdmDone result resp) rfl (rdmDone_idle idle result resp),
      fun ch req waits => State.runs_of (rdmDone result resp) rfl (rdmDone_effect waits result resp)⟩⟩
  · rw [dmxFrameStart_unlatched unlatched]
    refine ⟨?_, Device.keepsRegs_refl _ ?_, fun alone => afterBuild_alone alone c⟩
    · rw [afterBuild_eq]
    · rw [afterBuild_eq]
  · rw [bankSupply_same same]
    exact setBankLevel_effect b (supplyOk mv) (3135 ≤ mv) s.dev

end Sys2Proof.Machine
end

section
/-! PROOFS. Bucks and stale headroom (R263, R265, R268 to R270): what a switching period shows, when it ends a run, how a channel is turned off and
started, and the correction of a group without usable records. -/

namespace Sys2Proof.Machine

/-- A command of a buck channel that exists is its effect on the device. -/
theorem runs_onBuck {s : State} {c : Nat} (hc : c < 16) {i : Instr} {P : Device → Prop} (f : Device → Device)
    (h : exec i s = s.onDevice fun d => onUnit (c < 16) (f d)) (p : P (f s.dev)) : s.runs i P :=
  State.runs_unit (fun _ => c < 16) f h (decide_eq_true hc) p

theorem runs_buckEnable {s : State} {c : Nat} (hc : c < 16) {w : Who} {v : Word} {P : Device → Prop}
    (p : P (regWrite s.dev w (R.HDR_Bc_CTRL c) v (hdrHandler w (R.HDR_Bc_CTRL c) v))) : s.runs (.buckEnable w c v) P :=
  runs_onBuck hc (fun d => regWrite d w (R.HDR_Bc_CTRL c) v (hdrHandler w (R.HDR_Bc_CTRL c) v)) rfl p

/-! ### Channels and groups beside their registers -/

@[simp] theorem Device.buck_setBuck_same (s : Device) (c : Nat) (x : BuckState) : (s.setBuck c x).buck c = x := by
  simp [Device.buck, Device.setBuck, Table.getD_setD]

@[simp] theorem Device.group_setGroup_same (s : Device) (g : Nat) (x : GroupState) : (s.setGroup g x).group g = x := by
  simp [Device.group, Device.setGroup, Table.getD_setD]

theorem Device.buck_congr {s t : Device} (h : t.hdr = s.hdr) (c : Nat) : t.buck c = s.buck c := by
  unfold Device.buck
  rw [h]

/-- A bit that was stored is read. -/
theorem Device.rb_setB_same (s : Device) (off : Nat) {i : Nat} (b : Bool) (h : i < 32) : (s.setB off i b).rb off i = b := by
  rw [Device.rb_setB _ _ _ _ _ _ h, if_pos ⟨rfl, rfl⟩]

/-- The other bits, of this register and of every other, are as they were. -/
theorem Device.rb_setB_otherBit (s : Device) (off o : Nat) {i j : Nat} (b : Bool) (h : i < 32) (other : j ≠ i) :
    (s.setB off i b).rb o j = s.rb o j := by
  rw [Device.rb_setB _ _ _ _ _ _ h, if_neg fun same => other same.2]

/-- The registers of a channel lie apart from one another and from the one that shows the role. -/
theorem buckRegs_apart (c : Nat) : R.HDR_Bc_IOUT c ≠ R.HDR_Bc_REF c ∧ R.HDR_Bc_IOUT c ≠ R.HDR_Bc_STATUS c ∧ R.HDR_Bc_REF c ≠ R.HDR_Bc_STATUS c ∧
    R.HDR_Bc_CTRL c ≠ R.HDR_Bc_STATUS c ∧ R.RDG_STATUS ≠ R.HDR_Bc_CTRL c ∧ R.RDG_STATUS ≠ R.HDR_Bc_STATUS c := by
  simp only [R.HDR_Bc_IOUT, R.HDR_Bc_REF, R.HDR_Bc_STATUS, R.HDR_Bc_CTRL, R.RDG_STATUS]
  omega

theorem inStandby_of_reg {s t : Device} (same : t.reg R.RDG_STATUS = s.reg R.RDG_STATUS) : inStandby t = inStandby s := by
  have state : rdgState t = rdgState s := Device.rf_of_reg same 3 0
  unfold inStandby
  rw [state]

/-! ### The reference (R263, R269) -/

/-- Without a group no reference moves, and in brace state or a restart every one is held. -/
theorem buckReference_held {s : Device} {c : Nat} (held : s.rb R.SYS_STATUS 2 = true ∨ s.shw.restarting ≠ none ∨ buckGroup s c = none) :
    buckReference c s = s := by
  unfold buckReference
  split
  · rfl
  · next g serves =>
    refine if_pos ?_
    rcases held with braced | restarts | unserved
    · rw [braced, Bool.true_or]
    · rw [Option.isSome_iff_ne_none.mpr restarts, Bool.or_true]
    · rw [unserved] at serves
      cases serves

/-! ### A switching period (R268 to R270) -/

/-- What the registers of a channel show of a period, beside those of before it: V_out, I_out, the reference after its ramp, over current, over voltage
and whether the reference still ramps. -/
def BuckShows (s : Device) (c : Nat) (p : BuckStep) (d : Device) : Prop :=
  d.rn (R.HDR_Bc_REF c) = p.next.ref / 1000 % 65536 ∧ d.rn (R.HDR_Bc_IOUT c) = p.iout % 65536 ∧
    d.rf (R.HDR_Bc_STATUS c) 31 16 = p.vout % 65536 ∧ d.rb (R.HDR_Bc_STATUS c) 2 = p.oc ∧ d.rb (R.HDR_Bc_STATUS c) 3 = p.ov ∧
    d.rb (R.HDR_Bc_STATUS c) 4 = decide (p.next.ref ≠ 1000 * p.next.target) ∧ s.keepsRegs d [R.HDR_Bc_IOUT c, R.HDR_Bc_REF c, R.HDR_Bc_STATUS c]

section Shows

variable {s t u : Device} {c : Nat} {p : BuckStep}

/-- What is shown depends on the registers alone. -/
theorem BuckShows.congr (h : BuckShows s c p t) (same : u.regs = t.regs) : BuckShows s c p u := by
  have reg : u.reg = t.reg := funext (Device.reg_congr same)
  simpa only [BuckShows, Device.keepsRegs, Device.rn, Device.rf, Device.rb, reg] using h

/-- RUN and FAULT lie below the bits that show a period. -/
theorem BuckShows.setB (h : BuckShows s c p t) {i : Nat} (low : i < 2) (b : Bool) : BuckShows s c p (t.setB (R.HDR_Bc_STATUS c) i b) := by
  obtain ⟨ref, iout, vout, oc, ov, ramps, keeps⟩ := h
  obtain ⟨-, ioutApart, refApart, -⟩ := buckRegs_apart c
  have bit {j : Nat} (above : 2 ≤ j) : (t.setB (R.HDR_Bc_STATUS c) i b).rb (R.HDR_Bc_STATUS c) j = t.rb (R.HDR_Bc_STATUS c) j :=
    t.rb_setB_otherBit _ _ b (by omega) (by omega)
  have word {o : Nat} (other : o ≠ R.HDR_Bc_STATUS c) : (t.setB (R.HDR_Bc_STATUS c) i b).rn o = t.rn o :=
    congrArg BitVec.toNat ((Device.reg_setB ..).trans (if_neg other))
  exact ⟨(word refApart).trans ref, (word ioutApart).trans iout,
    (Device.rf_setB_other _ _ _ _ _ _ _ (by omega) (by decide) (by omega)).trans vout, (bit (by decide)).trans oc, (bit (by decide)).trans ov,
    (bit (by decide)).trans ramps, Device.keepsRegs_setReg keeps _ _ (by simp)⟩

end Shows

/-- I_out, the reference, V_out and the conditions of a period are stored. -/
def storePeriod (c : Nat) (p : BuckStep) (s : Device) : Device :=
  (((((s.setN (R.HDR_Bc_IOUT c) (p.iout % 65536)).setN (R.HDR_Bc_REF c) (p.next.ref / 1000 % 65536)).setF (R.HDR_Bc_STATUS c) 31 16 p.vout).setB
    (R.HDR_Bc_STATUS c) 2 p.oc).setB (R.HDR_Bc_STATUS c) 3 p.ov).setB (R.HDR_Bc_STATUS c) 4 (p.next.ref ≠ 1000 * p.next.target)

theorem storePeriod_evt (c : Nat) (p : BuckStep) (s : Device) : (storePeriod c p s).evt = s.evt := by
  rw [storePeriod, Device.setB_evt, Device.setB_evt, Device.setB_evt, Device.setF_evt, Device.setN_evt, Device.setN_evt]

theorem storePeriod_shw (c : Nat) (p : BuckStep) (s : Device) : (storePeriod c p s).shw = s.shw := by
  rw [storePeriod, Device.setB_shw, Device.setB_shw, Device.setB_shw, Device.setF_shw, Device.setN_shw, Device.setN_shw]

theorem showBuck_eq (c : Nat) (p : BuckStep) (s : Device) :
    showBuck c p s = ((storePeriod c p s).setB (R.HDR_Bc_STATUS c) 0 true).setBuck c p.next := rfl

theorem storePeriod_shows {s t : Device} (same : t.regs = s.regs) (c : Nat) (p : BuckStep) : BuckShows s c p (storePeriod c p t) := by
  obtain ⟨apart, ioutApart, refApart, -⟩ := buckRegs_apart c
  unfold storePeriod
  refine ⟨?_, ?_, ?_, ?_, ?_, ?_, fun o other => ?_⟩
  · simp only [Device.rn, Device.reg_setB, Device.reg_setF, Device.reg_setN, if_neg refApart, if_true, BitVec.toNat_ofNat]
    omega
  · simp only [Device.rn, Device.reg_setB, Device.reg_setF, Device.reg_setN, if_neg ioutApart, if_neg apart, if_true, BitVec.toNat_ofNat]
    omega
  · have low {x : Device} {i : Nat} (b : Bool) (h : i < 16) :
        (x.setB (R.HDR_Bc_STATUS c) i b).rf (R.HDR_Bc_STATUS c) 31 16 = x.rf (R.HDR_Bc_STATUS c) 31 16 :=
      x.rf_setB_other _ _ _ _ _ b (by omega) (by decide) (.inr (.inr h))
    rw [low _ (by decide), low _ (by decide), low _ (by decide), Device.rf_setF_same _ _ _ _ _ (by decide) (by decide)]
    rfl
  · simp [Device.rb_setB]
  · simp [Device.rb_setB]
  · simp [Device.rb_setB]
  · obtain ⟨notIout, notRef, notStatus⟩ : o ≠ R.HDR_Bc_IOUT c ∧ o ≠ R.HDR_Bc_REF c ∧ o ≠ R.HDR_Bc_STATUS c := by simpa using other
    simp only [Device.reg_setB, Device.reg_setF, Device.reg_setN, if_neg notIout, if_neg notRef, if_neg notStatus]
    exact Device.reg_congr same o

/-- The gates are driven through a period; over current ends the on-time at the sample. -/
def gatesDriven (c : Nat) (p : BuckStep) (s : Device) : Device :=
  s.send (.buck c) (gatePeriod s c (if p.oc || p.trips then (s.buck c).onTime / 2 else (s.buck c).onTime))

/-- The channel's registers show the period of its gates. -/
def periodShown (c vsns isns : Nat) (s : Device) : Device :=
  showBuck c (buckStep s c vsns isns) (gatesDriven c (buckStep s c vsns isns) s)

theorem periodShown_effect (c vsns isns : Nat) (s : Device) : let d := periodShown c vsns isns s
    BuckShows s c (buckStep s c vsns isns) d ∧ d.rb (R.HDR_Bc_STATUS c) 0 = true ∧ d.buck c = (buckStep s c vsns isns).next ∧ d.evt = s.evt ∧
      d.shw = s.shw := by
  unfold periodShown
  generalize buckStep s c vsns isns = p
  have same : (gatesDriven c p s).regs = s.regs := rfl
  have shows := (storePeriod_shows same c p).setB (show 0 < 2 by decide) true
  have run := Device.rb_setB_same (storePeriod c p (gatesDriven c p s)) (R.HDR_Bc_STATUS c) true (show 0 < 32 by decide)
  rw [showBuck_eq]
  refine ⟨shows.congr (Device.setBuck_regs ..), (Device.rb_of_reg (Device.reg_congr (Device.setBuck_regs ..) _) 0).trans run,
    Device.buck_setBuck_same .., ?_, ?_⟩
  · rw [Device.setBuck_evt, Device.setB_evt, storePeriod_evt]
    rfl
  · rw [Device.setBuck_shw, Device.setB_shw, storePeriod_shw]
    rfl

theorem buckPeriod_stopped {s : Device} {c : Nat} (stopped : buckRuns s c = false) (vsns isns : Nat) : buckPeriod c vsns isns s = s :=
  if_pos (by rw [stopped]; rfl)

/-- A fault shows RUN cleared and FAULT set, lets go of the gates, and is told. -/
theorem buckFault_effect (c : Nat) (s : Device) : let d := buckFault c s
    d.regs = ((s.setB (R.HDR_Bc_STATUS c) 0 false).setB (R.HDR_Bc_STATUS c) 1 true).regs ∧ d.rb (R.HDR_Bc_STATUS c) 0 = false ∧
      d.rb (R.HDR_Bc_STATUS c) 1 = true ∧ d.buck c = { s.buck c with onTime := 0, ocRun := 0 } ∧
      s.newEvents d [(Ev.BUCK_FAULT, payF c (contentNow s))] := by
  have stopped : ((s.setB (R.HDR_Bc_STATUS c) 0 false).setB (R.HDR_Bc_STATUS c) 1 true).rb (R.HDR_Bc_STATUS c) 0 = false := by
    rw [Device.rb_setB_otherBit _ _ _ true (by decide) (by decide), Device.rb_setB_same _ _ false (by decide)]
  have fault := Device.rb_setB_same (s.setB (R.HDR_Bc_STATUS c) 0 false) (R.HDR_Bc_STATUS c) true (show 1 < 32 by decide)
  have evt : ((s.setB (R.HDR_Bc_STATUS c) 0 false).setB (R.HDR_Bc_STATUS c) 1 true).evt = s.evt := by rw [Device.setB_evt, Device.setB_evt]
  unfold buckFault
  generalize (s.setB (R.HDR_Bc_STATUS c) 0 false).setB (R.HDR_Bc_STATUS c) 1 true = t at stopped fault evt
  have told := Device.newEvents_raise (Device.newEvents_none ((t.setBuck_evt c { s.buck c with onTime := 0, ocRun := 0 }).trans evt)) Ev.BUCK_FAULT
    (payF c (contentNow s))
  rw [Nat.mod_eq_of_lt (payF_lt ..)] at told
  exact ⟨rfl, stopped, fault, t.buck_setBuck_same c _, told⟩

section Running

variable {s : Device} {c vsns isns : Nat} (runs : buckRuns s c = true)
include runs

theorem buckPeriod_running : buckPeriod c vsns isns s =
    if (buckStep s c vsns isns).trips then buckFault c (periodShown c vsns isns s) else periodShown c vsns isns s :=
  if_neg (by rw [runs]; decide)

/-- A period below eight of over current, without over voltage, leaves the channel running. -/
theorem buckPeriod_goesOn (few : (buckStep s c vsns isns).next.ocRun < 8) (under : (buckStep s c vsns isns).ov = false) :
    let d := buckPeriod c vsns isns s
    BuckShows s c (buckStep s c vsns isns) d ∧ d.rb (R.HDR_Bc_STATUS c) 0 = true ∧ d.buck c = (buckStep s c vsns isns).next ∧ s.newEvents d [] := by
  obtain ⟨shows, run, next, evt, -⟩ := periodShown_effect c vsns isns s
  rw [buckPeriod_running runs, if_neg (by simp [BuckStep.trips, few, under])]
  exact ⟨shows, run, next, Device.newEvents_none evt⟩

/-- The eighth period of over current, or one of over voltage, ends the run and is told. -/
theorem buckPeriod_trips (trips : 8 ≤ (buckStep s c vsns isns).next.ocRun ∨ (buckStep s c vsns isns).ov = true) :
    let d := buckPeriod c vsns isns s
    BuckShows s c (buckStep s c vsns isns) d ∧ d.rb (R.HDR_Bc_STATUS c) 0 = false ∧ d.rb (R.HDR_Bc_STATUS c) 1 = true ∧
      d.buck c = { (buckStep s c vsns isns).next with onTime := 0, ocRun := 0 } ∧ s.newEvents d [(Ev.BUCK_FAULT, payF c (contentNow s))] := by
  obtain ⟨shows, -, next, evt, shw⟩ := periodShown_effect c vsns isns s
  have now : contentNow (periodShown c vsns isns s) = contentNow s := congrArg (fun x : ShowState => frameAdd x.frame (-1)) shw
  rw [buckPeriod_running runs, if_pos (by simpa [BuckStep.trips] using trips)]
  generalize periodShown c vsns isns s = t at shows next evt now
  obtain ⟨regs, stopped, fault, buck, told⟩ := buckFault_effect c t
  rw [next] at buck
  rw [now] at told
  exact ⟨((shows.setB (by decide) false).setB (by decide) true).congr regs, stopped, fault, buck,
    Device.newEvents_append (Device.newEvents_none evt) told⟩

end Running

/-! ### Off and soft start (R270) -/

theorem buckOff_effect (c : Nat) (s : Device) : let d := buckOff c s
    d.rb (R.HDR_Bc_STATUS c) 0 = false ∧ d.buck c = { s.buck c with onTime := 0, ocRun := 0 } ∧ s.keepsRegs d [R.HDR_Bc_STATUS c] :=
  ⟨s.rb_setB_same _ false (by decide), Device.buck_setBuck_same ..,
    Device.keepsRegs_setReg (Device.keepsRegs_refl _ rfl) _ _ (List.mem_singleton_self _)⟩

/-- In the standby role, or with a fault, a channel does not start. -/
theorem softStart_refused {s : Device} {c : Nat} (refused : inStandby s = true ∨ s.rb (R.HDR_Bc_STATUS c) 1 = true) : softStart c s = s :=
  if_pos ((Bool.or_eq_true ..).mpr refused)

/-- A channel that starts runs from a reference of 0. -/
theorem softStart_starts {s : Device} {c : Nat} (drives : inStandby s = false) (clear : s.rb (R.HDR_Bc_STATUS c) 1 = false) : let d := softStart c s
    d.rb (R.HDR_Bc_STATUS c) 0 = true ∧ d.rb (R.HDR_Bc_STATUS c) 1 = false ∧
      d.buck c = { s.buck c with ref := 0, target := startTarget s c, accI := 0, onTime := 0, ocRun := 0 } ∧ s.keepsRegs d [R.HDR_Bc_STATUS c] := by
  have started : softStart c s =
      (s.setBuck c { s.buck c with ref := 0, target := startTarget s c, accI := 0, onTime := 0, ocRun := 0 }).setB (R.HDR_Bc_STATUS c) 0 true :=
    if_neg (by rw [drives, clear]; decide)
  rw [started]
  exact ⟨Device.rb_setB_same _ _ true (by decide), (Device.rb_setB_otherBit _ _ _ true (by decide) (by decide)).trans clear,
    Device.buck_setBuck_same s c _, Device.keepsRegs_setReg (Device.keepsRegs_refl _ rfl) _ _ (List.mem_singleton_self _)⟩

/-! ### Writes of HDR_Bc_CTRL and HDR_Bc_STATUS -/

/-- A W1C bit that was written 1 is cleared. -/
theorem tookWrite_w1c {s t : Device} {off : Nat} {v : Word} (h : s.tookWrite t off v) (i : Nat) (hi : i < 32)
    (b : (specAt off).any (fun r => r.w1c.testBit i && !r.rw.testBit i && !r.w1s.testBit i) = true) (hv : wbit v i = true) : t.rb off i = false := by
  obtain ⟨r, hr, h⟩ := h
  rw [hr] at b
  simp only [Option.any_some, Bool.and_eq_true, Bool.not_eq_true'] at b
  unfold Device.rb Device.rn
  obtain ⟨⟨w1c, rw⟩, w1s⟩ := b
  rw [h, mergeWrite_bit _ _ _ _ hi, w1c, rw, w1s, hv]
  simp

/-- A bit that no write changes holds what it held. -/
theorem tookWrite_shown {s t : Device} {off : Nat} {v : Word} (h : s.tookWrite t off v) (i : Nat) (hi : i < 32)
    (b : (specAt off).any (fun r => !r.w1c.testBit i && !r.rw.testBit i && !r.w1s.testBit i) = true) : t.rb off i = s.rb off i := by
  obtain ⟨r, hr, h⟩ := h
  rw [hr] at b
  simp only [Option.any_some, Bool.and_eq_true, Bool.not_eq_true'] at b
  unfold Device.rb Device.rn
  obtain ⟨⟨w1c, rw⟩, w1s⟩ := b
  rw [h, mergeWrite_bit _ _ _ _ hi, w1c, rw, w1s]
  simp

/-- An accepted write whose effect is the plain store with a change after it: the change of the device that has taken the write, and what is sent. -/
theorem regWrite_afterStore {s : Device} {w : Who} {off : Nat} {v : Word} {h : Handler} {f : Device → Device} (ok : writeCode s w off v h = .ok)
    (plain : (specAt off).map (·.banked) = some false) (effect : h.effect (s.answer .ok) = f (storeWrite w off v (s.answer .ok))) :
    ∃ t sent, s.tookWrite t off v ∧ s.keepsRegs t [off] ∧ t.hdr = s.hdr ∧ regWrite s w off v h = { f t with sent := sent } := by
  obtain ⟨took, keeps, frame⟩ := storeWrite_took (w := w) (v := v) (s.answer .ok) plain
  refine ⟨_, _, took, keeps, ?_, by rw [regWrite_ok ok, effect, forwardWrite_eq]⟩
  rw [frame]
  rfl

/-- A write that was taken stands beside a later change of another register. -/
theorem tookWrite_beside {s t u : Device} {off o : Nat} {v : Word} (took : s.tookWrite t off v) (keeps : s.keepsRegs t [off])
    (beside : t.keepsRegs u [o]) (apart : off ≠ o) : s.tookWrite u off v ∧ s.keepsRegs u [off, o] := by
  obtain ⟨r, spec, stored⟩ := took
  refine ⟨⟨r, spec, (beside off (by simpa using apart)).trans stored⟩, fun a other => ?_⟩
  obtain ⟨notOff, notO⟩ : a ≠ off ∧ a ≠ o := by simpa using other
  exact (beside a (by simpa using notO)).trans (keeps a (by simpa using notOff))

/-- What a write of CTRL does after its store, by EN before and after. -/
def buckSwitched (c : Nat) (was en : Bool) (s : Device) : Device :=
  if en && !was then softStart c s else if en then s else buckOff c s

section BuckWrites

variable {s : Device} {c : Nat} (hc : c < 16) {w : Who} {v : Word}
include hc

/-- A channel's CTRL and STATUS are not kept per reader. -/
theorem buckRegs_plain : (specAt (R.HDR_Bc_CTRL c)).map (·.banked) = some false ∧ (specAt (R.HDR_Bc_STATUS c)).map (·.banked) = some false := by
  have all : ∀ c < 16, (specAt (R.HDR_Bc_CTRL c)).map (·.banked) = some false ∧ (specAt (R.HDR_Bc_STATUS c)).map (·.banked) = some false := by decide
  exact all c hc

/-- FAULT is cleared by writing 1, and no write changes RUN (R280). -/
theorem buckStatus_bits : (specAt (R.HDR_Bc_STATUS c)).any (fun r => r.w1c.testBit 1 && !r.rw.testBit 1 && !r.w1s.testBit 1) = true ∧
    (specAt (R.HDR_Bc_STATUS c)).any (fun r => !r.w1c.testBit 0 && !r.rw.testBit 0 && !r.w1s.testBit 0) = true := by
  have all : ∀ c < 16, (specAt (R.HDR_Bc_STATUS c)).any (fun r => r.w1c.testBit 1 && !r.rw.testBit 1 && !r.w1s.testBit 1) = true ∧
      (specAt (R.HDR_Bc_STATUS c)).any (fun r => !r.w1c.testBit 0 && !r.rw.testBit 0 && !r.w1s.testBit 0) = true := by decide
  exact all c hc

theorem hdrHandler_buckCtrl (t : Device) : (hdrHandler w (R.HDR_Bc_CTRL c) v).effect t =
    buckSwitched c (t.rb (R.HDR_Bc_CTRL c) 0) (wbit v 0) (storeWrite w (R.HDR_Bc_CTRL c) v t) := by
  obtain ⟨inside, index, place⟩ : (0x1D2000 ≤ R.HDR_Bc_CTRL c ∧ R.HDR_Bc_CTRL c < 0x1D2400) ∧ (R.HDR_Bc_CTRL c - 0x1D2000) / 0x40 = c ∧
      R.HDR_Bc_CTRL c % 0x40 = 0x00 := by
    unfold R.HDR_Bc_CTRL
    omega
  simp only [hdrHandler, inside, index, place, decide_true, Bool.and_self, if_true]
  rfl

theorem hdrHandler_buckStatus (t : Device) : (hdrHandler w (R.HDR_Bc_STATUS c) v).effect t =
    (storeWrite w (R.HDR_Bc_STATUS c) v t).when
      (wbit v 1 && t.rb (R.HDR_Bc_STATUS c) 1 && (storeWrite w (R.HDR_Bc_STATUS c) v t).rb (R.HDR_Bc_CTRL c) 0) (softStart c) := by
  obtain ⟨inside, index, place⟩ : (0x1D2000 ≤ R.HDR_Bc_STATUS c ∧ R.HDR_Bc_STATUS c < 0x1D2400) ∧ (R.HDR_Bc_STATUS c - 0x1D2000) / 0x40 = c ∧
      R.HDR_Bc_STATUS c % 0x40 = 0x18 := by
    unfold R.HDR_Bc_STATUS
    omega
  simp only [hdrHandler, inside, index, place, decide_true, Bool.and_self, if_true]
  rfl

/-- An accepted write of CTRL: its store, then the switch by EN. -/
theorem buckCtrl_written (ok : writeCode s w (R.HDR_Bc_CTRL c) v (hdrHandler w (R.HDR_Bc_CTRL c) v) = .ok) :
    ∃ t sent, s.tookWrite t (R.HDR_Bc_CTRL c) v ∧ s.keepsRegs t [R.HDR_Bc_CTRL c] ∧ t.hdr = s.hdr ∧
      regWrite s w (R.HDR_Bc_CTRL c) v (hdrHandler w (R.HDR_Bc_CTRL c) v) =
        { buckSwitched c (s.rb (R.HDR_Bc_CTRL c) 0) (wbit v 0) t with sent := sent } :=
  regWrite_afterStore ok (buckRegs_plain hc).1 (hdrHandler_buckCtrl hc _)

/-- EN written 0 turns the channel off. -/
theorem buckCtrl_disabled (ok : writeCode s w (R.HDR_Bc_CTRL c) v (hdrHandler w (R.HDR_Bc_CTRL c) v) = .ok) (off : wbit v 0 = false) :
    let d := regWrite s w (R.HDR_Bc_CTRL c) v (hdrHandler w (R.HDR_Bc_CTRL c) v)
    s.tookWrite d (R.HDR_Bc_CTRL c) v ∧ d.rb (R.HDR_Bc_STATUS c) 0 = false ∧ d.buck c = { s.buck c with onTime := 0, ocRun := 0 } ∧
      s.keepsRegs d [R.HDR_Bc_CTRL c, R.HDR_Bc_STATUS c] := by
  obtain ⟨-, -, -, apart, -⟩ := buckRegs_apart c
  obtain ⟨t, sent, took, keeps, hdr, written⟩ := buckCtrl_written hc ok
  have switched : buckSwitched c (s.rb (R.HDR_Bc_CTRL c) 0) (wbit v 0) t = buckOff c t := by
    rw [off]
    rfl
  obtain ⟨stopped, buck, beside⟩ := buckOff_effect c t
  obtain ⟨stored, kept⟩ := tookWrite_beside took keeps beside apart
  rw [Device.buck_congr hdr] at buck
  rw [written, switched]
  exact ⟨stored, stopped, buck, kept⟩

/-- EN set starts a channel that may run from a reference of 0. -/
theorem buckCtrl_enabled (ok : writeCode s w (R.HDR_Bc_CTRL c) v (hdrHandler w (R.HDR_Bc_CTRL c) v) = .ok) (on : wbit v 0 = true)
    (was : s.rb (R.HDR_Bc_CTRL c) 0 = false) (drives : inStandby s = false) (clear : s.rb (R.HDR_Bc_STATUS c) 1 = false) :
    let d := regWrite s w (R.HDR_Bc_CTRL c) v (hdrHandler w (R.HDR_Bc_CTRL c) v)
    s.tookWrite d (R.HDR_Bc_CTRL c) v ∧ d.rb (R.HDR_Bc_STATUS c) 0 = true ∧ (d.buck c).ref = 0 ∧ (d.buck c).accI = 0 ∧ (d.buck c).onTime = 0 ∧
      (d.buck c).ocRun = 0 ∧ s.keepsRegs d [R.HDR_Bc_CTRL c, R.HDR_Bc_STATUS c] := by
  obtain ⟨-, -, -, apart, role, -⟩ := buckRegs_apart c
  obtain ⟨t, sent, took, keeps, -, written⟩ := buckCtrl_written hc ok
  have switched : buckSwitched c (s.rb (R.HDR_Bc_CTRL c) 0) (wbit v 0) t = softStart c t := by
    rw [on, was]
    rfl
  obtain ⟨started, -, buck, beside⟩ := softStart_starts (c := c) ((inStandby_of_reg (keeps _ (by simpa using role))).trans drives)
    ((Device.rb_of_reg (keeps _ (by simpa using apart.symm)) 1).trans clear)
  obtain ⟨stored, kept⟩ := tookWrite_beside took keeps beside apart
  rw [written, switched]
  exact ⟨stored, started, congrArg BuckState.ref buck, congrArg BuckState.accI buck, congrArg BuckState.onTime buck, congrArg BuckState.ocRun buck, kept⟩

/-- EN set again, in the standby role or beside a fault, is a plain store. -/
theorem buckCtrl_refused (ok : writeCode s w (R.HDR_Bc_CTRL c) v (hdrHandler w (R.HDR_Bc_CTRL c) v) = .ok) (on : wbit v 0 = true)
    (refused : s.rb (R.HDR_Bc_CTRL c) 0 = true ∨ inStandby s = true ∨ s.rb (R.HDR_Bc_STATUS c) 1 = true) :
    let d := regWrite s w (R.HDR_Bc_CTRL c) v (hdrHandler w (R.HDR_Bc_CTRL c) v)
    s.tookWrite d (R.HDR_Bc_CTRL c) v ∧ d.hdr = s.hdr ∧ s.keepsRegs d [R.HDR_Bc_CTRL c] := by
  obtain ⟨-, -, -, apart, role, -⟩ := buckRegs_apart c
  obtain ⟨t, sent, took, keeps, hdr, written⟩ := buckCtrl_written hc ok
  have standby : inStandby t = inStandby s := inStandby_of_reg (keeps _ (by simpa using role))
  have fault : t.rb (R.HDR_Bc_STATUS c) 1 = s.rb (R.HDR_Bc_STATUS c) 1 := Device.rb_of_reg (keeps _ (by simpa using apart.symm)) 1
  have switched : buckSwitched c (s.rb (R.HDR_Bc_CTRL c) 0) (wbit v 0) t = t := by
    rw [on]
    cases was : s.rb (R.HDR_Bc_CTRL c) 0 with
    | true => rfl
    | false => exact softStart_refused (by rw [standby, fault]; simpa [was] using refused)
  rw [written, switched]
  exact ⟨took, hdr, keeps⟩

/-- An accepted write of FAULT clears it; an enabled channel that had it starts, but not in the standby role. -/
theorem buckStatus_cleared (ok : writeCode s w (R.HDR_Bc_STATUS c) v (hdrHandler w (R.HDR_Bc_STATUS c) v) = .ok) (clear : wbit v 1 = true) :
    let d := regWrite s w (R.HDR_Bc_STATUS c) v (hdrHandler w (R.HDR_Bc_STATUS c) v)
    d.rb (R.HDR_Bc_STATUS c) 1 = false ∧ s.keepsRegs d [R.HDR_Bc_STATUS c] ∧
      (s.rb (R.HDR_Bc_STATUS c) 1 = true → s.rb (R.HDR_Bc_CTRL c) 0 = true → inStandby s = false →
        d.rb (R.HDR_Bc_STATUS c) 0 = true ∧ (d.buck c).ref = 0 ∧ (d.buck c).onTime = 0) ∧
      (s.rb (R.HDR_Bc_STATUS c) 1 = false ∨ s.rb (R.HDR_Bc_CTRL c) 0 = false ∨ inStandby s = true →
        d.rb (R.HDR_Bc_STATUS c) 0 = s.rb (R.HDR_Bc_STATUS c) 0 ∧ d.hdr = s.hdr) := by
  obtain ⟨-, -, -, apart, -, role⟩ := buckRegs_apart c
  obtain ⟨t, sent, took, keeps, hdr, written⟩ := regWrite_afterStore (f := fun t =>
    t.when (wbit v 1 && s.rb (R.HDR_Bc_STATUS c) 1 && t.rb (R.HDR_Bc_CTRL c) 0) (softStart c)) ok (buckRegs_plain hc).2 (hdrHandler_buckStatus hc _)
  have cleared : t.rb (R.HDR_Bc_STATUS c) 1 = false := tookWrite_w1c took 1 (by decide) (buckStatus_bits hc).1 clear
  have run : t.rb (R.HDR_Bc_STATUS c) 0 = s.rb (R.HDR_Bc_STATUS c) 0 := tookWrite_shown took 0 (by decide) (buckStatus_bits hc).2
  have standby : inStandby t = inStandby s := inStandby_of_reg (keeps _ (by simpa using role))
  rw [clear, Device.rb_of_reg (keeps (R.HDR_Bc_CTRL c) (by simpa using apart)) 0, Bool.true_and] at written
  rw [written]
  by_cases starts : s.rb (R.HDR_Bc_STATUS c) 1 = true ∧ s.rb (R.HDR_Bc_CTRL c) 0 = true ∧ inStandby s = false
  · obtain ⟨fault, en, drives⟩ := starts
    have restarts : (s.rb (R.HDR_Bc_STATUS c) 1 && s.rb (R.HDR_Bc_CTRL c) 0) = true := (Bool.and_eq_true ..).mpr ⟨fault, en⟩
    obtain ⟨started, still, buck, beside⟩ := softStart_starts (c := c) (standby.trans drives) cleared
    rw [restarts]
    exact ⟨still, Device.keepsRegs_trans keeps beside, fun _ _ _ => ⟨started, congrArg BuckState.ref buck, congrArg BuckState.onTime buck⟩,
      fun other => absurd other (by simp [fault, en, drives])⟩
  · have unchanged : t.when (s.rb (R.HDR_Bc_STATUS c) 1 && s.rb (R.HDR_Bc_CTRL c) 0) (softStart c) = t := by
      unfold Device.when
      split
      · next restarts =>
        obtain ⟨fault, en⟩ := (Bool.and_eq_true ..).mp restarts
        exact softStart_refused (.inl (standby.trans (by simpa [fault, en] using starts)))
      · rfl
    rw [unchanged]
    exact ⟨cleared, keeps, fun fault en drives => absurd ⟨fault, en, drives⟩ starts, fun _ => ⟨run, hdr⟩⟩

end BuckWrites

/-! ### Stale headroom (R265) -/

/-- A group is due for the stale correction: it has not taken it, feedback is on, the unit drives, the group is a rail, and its records are too old. -/
def staleWaits (s : Device) (g : Nat) : Bool :=
  !(s.group g).stale && s.rb R.HDR_CTRL 1 && !inStandby s && (groupOf s s.reg (groupBank s.reg) g).rail && staleDue s g

theorem staleWaits_not (s : Device) (g : Nat) :
    ((s.group g).stale || !s.rb R.HDR_CTRL 1 || inStandby s || !(groupOf s s.reg (groupBank s.reg) g).rail || !staleDue s g) = !staleWaits s g := by
  simp only [staleWaits, Bool.not_and, Bool.not_not]

theorem headroomStale_idle {s : Device} {g : Nat} (idle : staleWaits s g = false) : headroomStale g s = s :=
  if_pos (by rw [staleWaits_not, idle]; rfl)

/-- The record in the correction table is written beside the groups. -/
theorem writeCorr_hdr (g : Nat) (s : Device) : (writeCorr g s).hdr = s.hdr := by
  unfold writeCorr
  dsimp only
  rw [(memStore_frame ..).1]

theorem headroomStale_due {s : Device} {g : Nat} (due : staleWaits s g = true) : let d := headroomStale g s
    d.group g = { s.group g with corr := max (s.group g).corr (s.rf R.HDR_FB_CFG 27 16), stale := true } ∧
      ∃ e ∈ d.evt.raised, e.ev = Ev.HEADROOM_STALE ∧ e.payload = payF g (contentNow s) := by
  have corrected : headroomStale g s = (writeCorr g (s.setGroup g
      { s.group g with corr := max (s.group g).corr (s.rf R.HDR_FB_CFG 27 16), stale := true })).raise Ev.HEADROOM_STALE (payF g (contentNow s)) :=
    if_neg (by rw [staleWaits_not, due]; decide)
  rw [corrected]
  refine ⟨?_, _, List.mem_append_right _ (List.mem_singleton_self _), rfl, Nat.mod_eq_of_lt (payF_lt ..)⟩
  unfold Device.group
  rw [Device.raise_hdr, writeCorr_hdr]
  exact Device.group_setGroup_same ..

/-! ### The obligation -/

/-- Settles O52: a period is its shown registers and, where it trips, the end of the run; a write is its store and the switch after it. -/
theorem bucksRunAndFault : Obligations.BucksRunAndFault := by
  intro s c hc
  refine ⟨fun stopped v i => runs_onBuck hc (buckPeriod c v i) rfl (buckPeriod_stopped stopped v i),
    fun held => runs_onBuck hc (buckReference c) rfl (buckReference_held held),
    fun runs vsns isns => ⟨⟨rfl, rfl, rfl, rfl, rfl⟩, fun trips => runs_onBuck hc (buckPeriod c vsns isns) rfl (buckPeriod_trips runs trips),
      fun few under => runs_onBuck hc (buckPeriod c vsns isns) rfl (buckPeriod_goesOn runs few under)⟩,
    fun w v ok => ⟨fun off => runs_buckEnable hc (buckCtrl_disabled hc ok off),
      fun on was drives clear => runs_buckEnable hc (buckCtrl_enabled hc ok on was drives clear),
      fun on refused => runs_buckEnable hc (buckCtrl_refused hc ok on refused)⟩,
    fun w v ok clear => runs_onBuck hc (fun d => regWrite d w (R.HDR_Bc_STATUS c) v (hdrHandler w (R.HDR_Bc_STATUS c) v)) rfl
      (buckStatus_cleared hc ok clear),
    fun g hg => ⟨fun idle => State.runs_unit (fun _ => g < 4095) (headroomStale g) rfl (decide_eq_true hg) (headroomStale_idle idle),
      fun due => State.runs_unit (fun _ => g < 4095) (headroomStale g) rfl (decide_eq_true hg) (headroomStale_due due)⟩⟩

end Sys2Proof.Machine
end

section
/-! PROOFS. Pulse outputs, saves and the energy gap (R302 to R304, R306, R308, R309): when a pulse leaves, what the start and the end of a save store, and
what completes the gap. -/

namespace Sys2Proof.Machine

/-! ### Pulse outputs (R302, R303, R309) -/

/-- A command of a pulse output that exists is its effect on the device. -/
theorem runs_onPulse {s : State} {p : Nat} (hp : p < 8) {i : Instr} {P : Device → Prop} (f : Device → Device)
    (h : exec i s = s.onDevice fun d => onUnit (p < 8) (f d)) (q : P (f s.dev)) : s.runs i P :=
  State.runs_unit (fun _ => p < 8) f h (decide_eq_true hp) q

@[simp] theorem Device.pulse_setPulse_same (s : Device) (p : Nat) (x : PulseState) : (s.setPulse p x).pulse p = x := by
  simp [Device.pulse, Device.setPulse, Table.getD_setD]

/-- A number taken from a register and lessened is stored whole. -/
theorem Device.rn_setN_less (s : Device) (off n : Nat) : (s.setN off (s.rn off - n)).rn off = s.rn off - n := by
  have fits : s.rn off < 2 ^ 32 := (s.reg off).isLt
  rw [Device.rn_setN, if_pos rfl, Nat.mod_eq_of_lt (by omega)]

theorem pulseGated_of_regs {s t : Device} (same : t.regs = s.regs) (p : Nat) : pulseGated t p = pulseGated s p := by
  unfold pulseGated
  rw [Device.rb_of_reg (Device.reg_congr same _), inStandby_of_reg (Device.reg_congr same _)]

/-- An output that is disabled or gated, or that owes no pulse, emits none. -/
theorem pulseEmit_idle {s : Device} {p : Nat} (idle : s.rb (R.MTR_Pp_CFG p) 0 = false ∨ pulseGated s p = true ∨
    (s.pulse p).due = false ∧ s.rn (R.MTR_Pp_BACKLOG p) = 0) : pulseEmit p s = s := by
  refine if_pos ?_
  rcases idle with off | gated | ⟨due, empty⟩
  · simp [off]
  · simp [gated]
  · simp [due, empty]

/-- A pulse that was not due is one of the backlog (R303). -/
def backlogTaken (p : Nat) (due : Bool) (s : Device) : Device :=
  if due then s else s.setN (R.MTR_Pp_BACKLOG p) (s.rn (R.MTR_Pp_BACKLOG p) - 1)

theorem backlogTaken_effect (p : Nat) (due : Bool) (s : Device) : let d := backlogTaken p due s
    d.clock = s.clock ∧ d.sent = s.sent ∧ d.rn (R.MTR_Pp_BACKLOG p) = s.rn (R.MTR_Pp_BACKLOG p) - (if due then 0 else 1) ∧
      s.keepsRegs d [R.MTR_Pp_BACKLOG p] := by
  cases due with
  | true => exact ⟨rfl, rfl, rfl, Device.keepsRegs_refl _ rfl⟩
  | false => exact ⟨rfl, rfl, s.rn_setN_less _ 1, Device.keepsRegs_setReg (Device.keepsRegs_refl _ rfl) _ _ (List.mem_singleton_self _)⟩

/-- A pulse of a width leaves now: it is counted, and its output is free again after a pause of the same width (R302). -/
def pulseLeaves (p width : Nat) (s : Device) : Device :=
  ((s.setPulse p { due := false, ends := s.clock + width, free := s.clock + 2 * width, active := true }).setN (R.MTR_Pp_COUNT p)
    (s.rn (R.MTR_Pp_COUNT p) + 1)).send (.pin (100 + p)) [0]

theorem pulseLeaves_effect (p width : Nat) (s : Device) : let d := pulseLeaves p width s
    d.clock = s.clock ∧ d.pulse p = { due := false, ends := s.clock + width, free := s.clock + 2 * width, active := true } ∧
      d.rn (R.MTR_Pp_COUNT p) = (s.rn (R.MTR_Pp_COUNT p) + 1) % 2 ^ 32 ∧ s.keepsRegs d [R.MTR_Pp_COUNT p] ∧
      d.sent = s.sent ++ [⟨.pin (100 + p), [0]⟩] := by
  have stored (o : Nat) : (pulseLeaves p width s).reg o =
      if o = R.MTR_Pp_COUNT p then BitVec.ofNat 32 (s.rn (R.MTR_Pp_COUNT p) + 1) else s.reg o := Device.reg_setN ..
  refine ⟨rfl, Device.pulse_setPulse_same s p _, ?_, fun o other => ?_, rfl⟩
  · unfold Device.rn
    rw [stored, if_pos rfl]
    exact BitVec.toNat_ofNat ..
  · exact (stored o).trans (if_neg (by simpa using other))

/-- A pulse that is due, or one of the backlog, leaves once its output is free. -/
theorem pulseEmit_owed {s : Device} {p : Nat} (en : s.rb (R.MTR_Pp_CFG p) 0 = true) (drives : pulseGated s p = false)
    (owed : (s.pulse p).due = true ∨ s.rn (R.MTR_Pp_BACKLOG p) ≠ 0) : pulseEmit p s =
      pulseLeaves p (1000000 * s.rf (R.MTR_Pp_WIDTH p) 7 0) (backlogTaken p (s.pulse p).due (s.elapseTo (s.pulse p).free)) := by
  have goes : ¬ (!s.rb (R.MTR_Pp_CFG p) 0 || pulseGated s p || (!(s.pulse p).due && decide (s.rn (R.MTR_Pp_BACKLOG p) = 0))) = true := by
    rcases owed with due | backlog
    · simp [en, drives, due]
    · simp [en, drives, backlog]
  have later (o : Nat) : (s.elapseTo (s.pulse p).free).rn o = s.rn o := congrArg BitVec.toNat (Device.reg_elapseTo ..)
  refine (if_neg goes).trans ?_
  unfold backlogTaken Device.rf
  rw [later, later]
  rfl

theorem pulseEmit_emits {s : Device} {p : Nat} (en : s.rb (R.MTR_Pp_CFG p) 0 = true) (drives : pulseGated s p = false)
    (owed : (s.pulse p).due = true ∨ s.rn (R.MTR_Pp_BACKLOG p) ≠ 0) : let d := pulseEmit p s
    let len := 1000000 * s.rf (R.MTR_Pp_WIDTH p) 7 0
    d.clock = max s.clock (s.pulse p).free ∧ d.pulse p = { due := false, ends := d.clock + len, free := d.clock + 2 * len, active := true } ∧
      d.rn (R.MTR_Pp_COUNT p) = (s.rn (R.MTR_Pp_COUNT p) + 1) % 2 ^ 32 ∧
      d.rn (R.MTR_Pp_BACKLOG p) = s.rn (R.MTR_Pp_BACKLOG p) - (if (s.pulse p).due then 0 else 1) ∧
      s.keepsRegs d [R.MTR_Pp_COUNT p, R.MTR_Pp_BACKLOG p] ∧ d.sent = s.sent ++ [⟨.pin (100 + p), [0]⟩] := by
  have apart : R.MTR_Pp_COUNT p ≠ R.MTR_Pp_BACKLOG p := by
    simp only [R.MTR_Pp_COUNT, R.MTR_Pp_BACKLOG]
    omega
  rw [pulseEmit_owed en drives owed]
  generalize 1000000 * s.rf (R.MTR_Pp_WIDTH p) 7 0 = len
  obtain ⟨clock, sent, backlog, keeps⟩ := backlogTaken_effect p (s.pulse p).due (s.elapseTo (s.pulse p).free)
  generalize backlogTaken p (s.pulse p).due (s.elapseTo (s.pulse p).free) = t at clock sent backlog keeps
  obtain ⟨left, pulse, count, beside, pin⟩ := pulseLeaves_effect p len t
  generalize pulseLeaves p len t = d at left pulse count beside pin
  have later (o : Nat) : (s.elapseTo (s.pulse p).free).reg o = s.reg o := Device.reg_elapseTo ..
  have same {o : Nat} (other : o ≠ R.MTR_Pp_BACKLOG p) : t.reg o = s.reg o := (keeps o (by simpa using other)).trans (later o)
  have owes : d.reg (R.MTR_Pp_BACKLOG p) = t.reg (R.MTR_Pp_BACKLOG p) := beside _ (by simpa using apart.symm)
  refine ⟨left.trans (clock.trans (s.elapseTo_clock _)), by rw [pulse, left], ?_, ?_, fun o other => ?_, ?_⟩
  · rw [count, Device.rn, same apart]
    rfl
  · rw [Device.rn, owes]
    refine backlog.trans ?_
    rw [Device.rn, later]
    rfl
  · obtain ⟨notCount, notBacklog⟩ : o ≠ R.MTR_Pp_COUNT p ∧ o ≠ R.MTR_Pp_BACKLOG p := by simpa using other
    exact (beside o (by simpa using notCount)).trans (same notBacklog)
  · rw [pin, sent, s.elapseTo_sent]

theorem pulseEnd_inactive {s : Device} {p : Nat} (inactive : (s.pulse p).active = false) : pulseEnd p s = s := if_pos (by rw [inactive]; rfl)

/-- The width of a pulse is over. -/
def pulseOver (p : Nat) (s : Device) : Device := (s.elapseTo (s.pulse p).ends).setPulse p { s.pulse p with active := false }

theorem pulseOver_effect (p : Nat) (s : Device) : let d := pulseOver p s
    d.clock = max s.clock (s.pulse p).ends ∧ d.pulse p = { s.pulse p with active := false } ∧ d.regs = s.regs ∧ d.sent = s.sent :=
  ⟨s.elapseTo_clock _, Device.pulse_setPulse_same .., s.elapseTo_regs _, s.elapseTo_sent _⟩

/-- At the end of a pulse the pin is released, but for a gated one, which is in high impedance. -/
theorem pulseEnd_active {s : Device} {p : Nat} (active : (s.pulse p).active = true) : let d := pulseEnd p s
    d.clock = max s.clock (s.pulse p).ends ∧ d.pulse p = { s.pulse p with active := false } ∧ s.keepsRegs d [] ∧
      d.sent = s.sent ++ (if pulseGated s p then [] else [⟨.pin (100 + p), [1]⟩]) := by
  have ends : pulseEnd p s = if pulseGated (pulseOver p s) p then pulseOver p s else (pulseOver p s).send (.pin (100 + p)) [1] :=
    if_neg (by rw [active]; decide)
  obtain ⟨clock, pulse, regs, sent⟩ := pulseOver_effect p s
  rw [ends, pulseGated_of_regs regs]
  generalize pulseOver p s = t at clock pulse regs sent
  cases pulseGated s p with
  | true => exact ⟨clock, pulse, Device.keepsRegs_refl _ regs, sent.trans (List.append_nil _).symm⟩
  | false => exact ⟨clock, pulse, Device.keepsRegs_refl _ regs, congrArg (· ++ [(⟨.pin (100 + p), [1]⟩ : Sent)]) sent⟩

/-! ### Periodic saves (R304) -/

/-- A save that starts while none runs takes the record of the present moment and writes it. -/
theorem saveStart_idle {s : Device} (idle : s.mtr.saving = none) : saveStart s =
    ((({ s with mtr := { s.mtr with saving := some (periodicRecord s) } }).setB R.MTR_SAVE_STATUS 2 true).send .flash [7]).sendBytes .flash
      (periodicRecord s) :=
  if_neg (by rw [idle]; decide)

theorem saveStart_running {s : Device} (runs : s.mtr.saving ≠ none) : saveStart s = s := if_pos (Option.isSome_iff_ne_none.mpr runs)

theorem saveStart_effect {s : Device} (idle : s.mtr.saving = none) : let d := saveStart s
    ∃ r, d.mtr = { s.mtr with saving := some r } ∧ d.sent = s.sent ++ [⟨.flash, [7]⟩, ⟨.flash, r.map (·.toNat)⟩] ∧ d.clock = s.clock ∧
      d.rb R.MTR_SAVE_STATUS 2 = true ∧ s.keepsRegs d [R.MTR_SAVE_STATUS] := by
  rw [saveStart_idle idle]
  generalize periodicRecord s = r
  exact ⟨r, rfl, List.append_assoc .., rfl, Device.rb_setB_same _ _ true (by decide),
    Device.keepsRegs_setReg (Device.keepsRegs_refl _ rfl) _ _ (List.mem_singleton_self _)⟩

/-- A save that is due starts at its instant, unless one runs. -/
theorem saveStart_due {s : Device} (idle : s.mtr.saving = none) (t : Nat) : let d := saveStart (s.elapseTo t)
    d.mtr = { s.mtr with saving := d.mtr.saving } ∧
      (∃ r, d.mtr.saving = some r ∧ d.sent = s.sent ++ [⟨.flash, [7]⟩, ⟨.flash, r.map (·.toNat)⟩]) ∧
      d.clock = max s.clock t ∧ d.rb R.MTR_SAVE_STATUS 2 = true ∧ s.keepsRegs d [R.MTR_SAVE_STATUS] := by
  obtain ⟨r, mtr, sent, clock, busy, keeps⟩ := saveStart_effect ((congrArg MtrState.saving (s.elapseTo_mtr t)).trans idle)
  rw [s.elapseTo_mtr] at mtr
  rw [s.elapseTo_sent] at sent
  refine ⟨?_, ⟨r, congrArg MtrState.saving mtr, sent⟩, clock.trans (s.elapseTo_clock t), busy,
    Device.keepsRegs_trans (Device.keepsRegs_refl _ (s.elapseTo_regs t)) keeps⟩
  rw [mtr]

theorem saveStart_dueRunning {s : Device} (runs : s.mtr.saving ≠ none) (t : Nat) : let d := saveStart (s.elapseTo t)
    d.mtr = s.mtr ∧ d.sent = s.sent ∧ s.keepsRegs d [] := by
  rw [saveStart_running (by rwa [s.elapseTo_mtr])]
  exact ⟨s.elapseTo_mtr t, s.elapseTo_sent t, Device.keepsRegs_refl _ (s.elapseTo_regs t)⟩

theorem runs_periodicSave {s : State} {P : Device → Prop}
    (h : P (saveStart (s.dev.elapseTo (s.dev.mtr.savedAt + 1000000000 * s.dev.rf R.MTR_SAVE_PERIOD 11 0)))) : s.runs .periodicSave P :=
  State.runs_of (fun d => saveStart (d.elapseTo (d.mtr.savedAt + 1000000000 * d.rf R.MTR_SAVE_PERIOD 11 0))) rfl h

theorem mtrHandler_saveNow {v : Word} (w : Who) (now : wbit v 0 = true) (s : Device) :
    (mtrHandler w R.MTR_CMD v).effect s = saveStart (s.setB R.MTR_CMD 0 true) := by
  unfold mtrHandler
  dsimp only
  rw [if_neg (by decide), if_pos rfl]
  exact if_pos now

/-- SAVE_NOW shows until the save that it starts has ended. -/
theorem saveNow_effect {s : Device} {w : Who} {v : Word} (ok : writeCode s w R.MTR_CMD v (mtrHandler w R.MTR_CMD v) = .ok) (now : wbit v 0 = true)
    (idle : s.mtr.saving = none) : let d := regWrite s w R.MTR_CMD v (mtrHandler w R.MTR_CMD v)
    d.mtr.saving ≠ none ∧ d.rb R.MTR_CMD 0 = true ∧ d.rb R.MTR_SAVE_STATUS 2 = true ∧ s.keepsRegs d [R.MTR_CMD, R.MTR_SAVE_STATUS] := by
  obtain ⟨r, mtr, -, -, busy, keeps⟩ := saveStart_effect (s := (s.answer .ok).setB R.MTR_CMD 0 true) idle
  have asked : ((s.answer .ok).setB R.MTR_CMD 0 true).rb R.MTR_CMD 0 = true := Device.rb_setB_same _ _ true (by decide)
  rw [regWrite_ok ok, mtrHandler_saveNow w now, forwardWrite_eq]
  generalize saveStart ((s.answer .ok).setB R.MTR_CMD 0 true) = t at mtr busy keeps
  refine ⟨?_, (Device.rb_of_reg (keeps R.MTR_CMD (by decide)) 0).trans asked, busy, fun o other => ?_⟩
  · dsimp only
    rw [mtr]
    exact Option.some_ne_none r
  · obtain ⟨notCmd, notStatus⟩ : o ≠ R.MTR_CMD ∧ o ≠ R.MTR_SAVE_STATUS := by simpa using other
    exact (keeps o (by simpa using notStatus)).trans (s.reg_setReg_other _ notCmd)

theorem saveEnd_idle {s : Device} (idle : s.mtr.saving = none) (ok : Bool) : saveEnd ok s = s := by
  unfold saveEnd
  rw [idle]

/-- No register shows a save any more. -/
def saveUnshown (s : Device) : Device := (s.setB R.MTR_SAVE_STATUS 2 false).setB R.MTR_CMD 0 false

theorem saveUnshown_effect (s : Device) : let d := saveUnshown s
    d.rb R.MTR_SAVE_STATUS 2 = false ∧ d.rb R.MTR_CMD 0 = false ∧ s.keepsRegs d [R.MTR_SAVE_STATUS, R.MTR_CMD] ∧ d.evt = s.evt := by
  have cleared : (s.setB R.MTR_SAVE_STATUS 2 false).rb R.MTR_SAVE_STATUS 2 = false := Device.rb_setB_same _ _ false (by decide)
  refine ⟨(Device.rb_setB_otherBit _ _ _ false (by decide) (by decide)).trans cleared, Device.rb_setB_same _ _ false (by decide), ?_, ?_⟩
  · exact Device.keepsRegs_setReg (Device.keepsRegs_setReg (Device.keepsRegs_refl _ rfl) _ _ (by simp)) _ _ (by simp)
  · rw [saveUnshown, Device.setB_evt, Device.setB_evt]

section SaveEnd

variable {s : Device} {r : List Byte} (saving : s.mtr.saving = some r)
include saving

/-- A record that is written takes its place among the last ones, and its accumulators are those saved last. -/
theorem saveEnd_written : ∃ imp exp, saveEnd true s =
    ({ saveUnshown s with
       mtr := { s.mtr with saving := none, records := (s.mtr.records ++ [r]).drop (s.mtr.records.length - 1), savedImp := imp, savedExp := exp,
                           savedAt := s.clock } }).setN R.MTR_SAVE_SEQ (leAt r 4 4) := by
  unfold saveEnd
  rw [saving]
  exact ⟨_, _, rfl⟩

theorem saveEnd_failed : saveEnd false s =
    (({ saveUnshown s with mtr := { s.mtr with saving := none } }).count R.MTR_SAVE_FAIL 1).raise Ev.SAVE_FAIL 0 := by
  unfold saveEnd
  rw [saving]
  rfl

theorem saveEnd_kept : let d := saveEnd true s
    d.mtr.saving = none ∧ d.mtr.records = (s.mtr.records ++ [r]).drop (s.mtr.records.length - 1) ∧ d.mtr.savedAt = s.clock ∧
      d.rn R.MTR_SAVE_SEQ = leAt r 4 4 % 2 ^ 32 ∧ d.rb R.MTR_SAVE_STATUS 2 = false ∧ d.rb R.MTR_CMD 0 = false ∧
      s.keepsRegs d [R.MTR_SAVE_STATUS, R.MTR_CMD, R.MTR_SAVE_SEQ] ∧ s.newEvents d [] := by
  obtain ⟨imp, exp, written⟩ := saveEnd_written saving
  obtain ⟨status, cmd, keeps, evt⟩ := saveUnshown_effect s
  rw [written]
  generalize saveUnshown s = t at status cmd keeps evt
  generalize leAt r 4 4 = seq
  refine ⟨rfl, rfl, rfl, ?_, ?_, ?_, fun o other => ?_, Device.newEvents_none evt⟩
  · exact (Device.rn_setN ..).trans (if_pos rfl)
  · exact (Device.rb_of_reg (Device.reg_setReg_other _ _ (by decide)) 2).trans status
  · exact (Device.rb_of_reg (Device.reg_setReg_other _ _ (by decide)) 0).trans cmd
  · obtain ⟨notStatus, notCmd, notSeq⟩ : o ≠ R.MTR_SAVE_STATUS ∧ o ≠ R.MTR_CMD ∧ o ≠ R.MTR_SAVE_SEQ := by simpa using other
    exact (Device.reg_setReg_other _ _ notSeq).trans (keeps o (by simp [notStatus, notCmd]))

theorem saveEnd_lost : let d := saveEnd false s
    d.mtr = { s.mtr with saving := none } ∧ d.rb R.MTR_SAVE_STATUS 2 = false ∧ d.rb R.MTR_CMD 0 = false ∧
      d.reg R.MTR_SAVE_FAIL = satInc (s.reg R.MTR_SAVE_FAIL) 1 ∧ s.keepsRegs d [R.MTR_SAVE_STATUS, R.MTR_CMD, R.MTR_SAVE_FAIL] ∧
      s.newEvents d [(Ev.SAVE_FAIL, 0)] := by
  obtain ⟨status, cmd, keeps, evt⟩ := saveUnshown_effect s
  rw [saveEnd_failed saving]
  generalize saveUnshown s = t at status cmd keeps evt
  refine ⟨rfl, ?_, ?_, ?_, fun o other => ?_, Device.newEvents_raise (Device.newEvents_none evt) Ev.SAVE_FAIL 0⟩
  · exact (Device.rb_of_reg (Device.reg_setReg_other _ _ (by decide)) 2).trans status
  · exact (Device.rb_of_reg (Device.reg_setReg_other _ _ (by decide)) 0).trans cmd
  · exact (Device.reg_setReg_same ..).trans (congrArg (satInc · 1) (keeps R.MTR_SAVE_FAIL (by decide)))
  · obtain ⟨notStatus, notCmd, notFail⟩ : o ≠ R.MTR_SAVE_STATUS ∧ o ≠ R.MTR_CMD ∧ o ≠ R.MTR_SAVE_FAIL := by simpa using other
    exact (Device.reg_setReg_other _ _ notFail).trans (keeps o (by simp [notStatus, notCmd]))

end SaveEnd

/-! ### Erased warning slots (R306) -/

theorem warnErased_effect (s : Device) : let d := warnErased s
    d.mtr = { s.mtr with erased := min 2 (s.mtr.erased + 1) } ∧ d.rb R.MTR_SAVE_STATUS 0 = true ∧ s.keepsRegs d [R.MTR_SAVE_STATUS] :=
  ⟨rfl, Device.rb_setB_same _ _ true (by decide), Device.keepsRegs_setReg (Device.keepsRegs_refl _ rfl) _ _ (List.mem_singleton_self _)⟩

/-! ### The energy gap (R308) -/

/-- MTR_GAP_STATUS shows a completed record, whether its estimates hold, and one gap more. -/
def gapShown (estimated : Bool) (s : Device) : Device :=
  (((s.setB R.MTR_GAP_STATUS 0 true).setB R.MTR_GAP_STATUS 1 false).setB R.MTR_GAP_STATUS 2 estimated).setF R.MTR_GAP_STATUS 31 16
    (min 65535 (s.rf R.MTR_GAP_STATUS 31 16 + 1))

theorem gapShown_effect (estimated : Bool) (s : Device) : let d := gapShown estimated s
    d.rb R.MTR_GAP_STATUS 0 = true ∧ d.rb R.MTR_GAP_STATUS 1 = false ∧ d.rb R.MTR_GAP_STATUS 2 = estimated ∧
      d.rf R.MTR_GAP_STATUS 31 16 = min 65535 (s.rf R.MTR_GAP_STATUS 31 16 + 1) ∧ s.keepsRegs d [R.MTR_GAP_STATUS] ∧ d.evt = s.evt := by
  have low {x : Device} {j : Nat} (h : j < 16) (n : Nat) : (x.setF R.MTR_GAP_STATUS 31 16 n).rb R.MTR_GAP_STATUS j = x.rb R.MTR_GAP_STATUS j := by
    rw [Device.rb_setF _ _ _ _ _ _ _ (by decide) (by decide), if_neg (by omega)]
  have bit {x : Device} {i j : Nat} (b : Bool) (h : i < 32) : (x.setB R.MTR_GAP_STATUS i b).rb R.MTR_GAP_STATUS j =
      if j = i then b else x.rb R.MTR_GAP_STATUS j := by
    rw [Device.rb_setB _ _ _ _ _ _ h]
    simp
  unfold gapShown
  refine ⟨?_, ?_, ?_, ?_, ?_, ?_⟩
  · simp [low, bit]
  · simp [low, bit]
  · simp [low, bit]
  · rw [Device.rf_setF_same _ _ _ _ _ (by decide) (by decide)]
    exact Nat.mod_eq_of_lt (by omega)
  · iterate 4 refine Device.keepsRegs_setReg ?_ _ _ (List.mem_singleton_self _)
    exact Device.keepsRegs_refl _ rfl
  · rw [Device.setF_evt, Device.setB_evt, Device.setB_evt, Device.setB_evt]

/-- A gap whose record is open is completed by an end that is valid, with its estimates where the start is valid. -/
theorem gapComplete_waiting {s : Device} (waits : s.rb R.MTR_GAP_STATUS 1 = true) (ending : Nat) : ∃ est, gapComplete ending true s =
    (gapShown s.mtr.gapLocked (({ s with mtr := { s.mtr with gapEst := est } }).set64 R.MTR_GAP_END_LO R.MTR_GAP_END_HI ending)).raise
      Ev.ENERGY_GAP 0 := by
  unfold gapComplete
  dsimp only
  rw [waits]
  exact ⟨_, rfl⟩

/-- The completed gap is shown, and told. -/
theorem gapComplete_open {s : Device} (waits : s.rb R.MTR_GAP_STATUS 1 = true) (ending : Nat) : let d := gapComplete ending true s
    d.rb R.MTR_GAP_STATUS 0 = true ∧ d.rb R.MTR_GAP_STATUS 1 = false ∧ d.rb R.MTR_GAP_STATUS 2 = s.mtr.gapLocked ∧
      d.rf R.MTR_GAP_STATUS 31 16 = min 65535 (s.rf R.MTR_GAP_STATUS 31 16 + 1) ∧ s.newEvents d [(Ev.ENERGY_GAP, 0)] ∧
      s.keepsRegs d [R.MTR_GAP_STATUS, R.MTR_GAP_END_LO, R.MTR_GAP_END_HI] := by
  obtain ⟨est, completed⟩ := gapComplete_waiting waits ending
  rw [completed]
  have ended (o : Nat) (notLo : o ≠ R.MTR_GAP_END_LO) (notHi : o ≠ R.MTR_GAP_END_HI) :
      (({ s with mtr := { s.mtr with gapEst := est } }).set64 R.MTR_GAP_END_LO R.MTR_GAP_END_HI ending).reg o = s.reg o := by
    rw [Device.reg_set64, if_neg notHi, if_neg notLo]
    rfl
  have untold : (({ s with mtr := { s.mtr with gapEst := est } }).set64 R.MTR_GAP_END_LO R.MTR_GAP_END_HI ending).evt = s.evt :=
    Device.set64_evt ..
  generalize ({ s with mtr := { s.mtr with gapEst := est } }).set64 R.MTR_GAP_END_LO R.MTR_GAP_END_HI ending = t at ended untold
  obtain ⟨valid, closed, estimated, gaps, keeps, evt⟩ := gapShown_effect s.mtr.gapLocked t
  rw [Device.rf_of_reg (ended R.MTR_GAP_STATUS (by decide) (by decide))] at gaps
  have status := Device.reg_raise (gapShown s.mtr.gapLocked t) Ev.ENERGY_GAP 0 R.MTR_GAP_STATUS
  refine ⟨(Device.rb_of_reg status 0).trans valid, (Device.rb_of_reg status 1).trans closed, (Device.rb_of_reg status 2).trans estimated,
    (Device.rf_of_reg status 31 16).trans gaps, Device.newEvents_raise (Device.newEvents_none (evt.trans untold)) Ev.ENERGY_GAP 0,
    fun o other => ?_⟩
  obtain ⟨notStatus, notLo, notHi⟩ : o ≠ R.MTR_GAP_STATUS ∧ o ≠ R.MTR_GAP_END_LO ∧ o ≠ R.MTR_GAP_END_HI := by simpa using other
  exact (Device.reg_raise ..).trans ((keeps o (by simpa using notStatus)).trans (ended o notLo notHi))

/-- The end's high word may be written while a record is open, and completes it. -/
theorem mtrHandler_gapEnd (w : Who) (v : Word) (s : Device) :
    (mtrHandler w R.MTR_GAP_END_HI v).state s = (if s.rb R.MTR_GAP_STATUS 1 then .ok else .state) ∧
    (mtrHandler w R.MTR_GAP_END_HI v).effect s =
      let t := storeWrite w R.MTR_GAP_END_HI v s
      gapComplete (t.get64 R.MTR_GAP_END_LO R.MTR_GAP_END_HI) true t := by
  have own : mtrHandler w R.MTR_GAP_END_HI v = gapEndHandler w R.MTR_GAP_END_HI v := by
    unfold mtrHandler
    dsimp only
    rw [if_neg (by decide), if_neg (by decide), if_pos (by decide)]
  rw [own]
  unfold gapEndHandler
  dsimp only
  exact ⟨rfl, if_pos rfl⟩

theorem gapEnd_effect {s : Device} {w : Who} {v : Word} (ok : writeCode s w R.MTR_GAP_END_HI v (mtrHandler w R.MTR_GAP_END_HI v) = .ok) :
    let d := regWrite s w R.MTR_GAP_END_HI v (mtrHandler w R.MTR_GAP_END_HI v)
    d.rb R.MTR_GAP_STATUS 0 = true ∧ d.rb R.MTR_GAP_STATUS 1 = false ∧ d.rb R.MTR_GAP_STATUS 2 = s.mtr.gapLocked ∧
      d.rf R.MTR_GAP_STATUS 31 16 = min 65535 (s.rf R.MTR_GAP_STATUS 31 16 + 1) ∧ s.newEvents d [(Ev.ENERGY_GAP, 0)] ∧
      s.keepsRegs d [R.MTR_GAP_STATUS, R.MTR_GAP_END_LO, R.MTR_GAP_END_HI] := by
  have waits : s.rb R.MTR_GAP_STATUS 1 = true := by
    obtain ⟨-, state, -⟩ := (writeCode_eq_ok ..).mp ok
    by_contra closed
    rw [(mtrHandler_gapEnd w v s).1, if_neg closed] at state
    cases state
  obtain ⟨-, stored, frame⟩ := storeWrite_took (w := w) (off := R.MTR_GAP_END_HI) (v := v) (s.answer .ok) (by decide)
  have mtr : (storeWrite w R.MTR_GAP_END_HI v (s.answer .ok)).mtr = s.mtr := by rw [frame]; rfl
  have evt : (storeWrite w R.MTR_GAP_END_HI v (s.answer .ok)).evt = s.evt := by rw [frame]; rfl
  rw [regWrite_ok ok, (mtrHandler_gapEnd w v _).2, forwardWrite_eq]
  generalize storeWrite w R.MTR_GAP_END_HI v (s.answer .ok) = t at stored mtr evt
  have status : t.reg R.MTR_GAP_STATUS = s.reg R.MTR_GAP_STATUS := stored _ (by decide)
  obtain ⟨valid, closed, estimated, gaps, told, keeps⟩ := gapComplete_open ((Device.rb_of_reg status 1).trans waits)
    (t.get64 R.MTR_GAP_END_LO R.MTR_GAP_END_HI)
  rw [mtr] at estimated
  rw [Device.rf_of_reg status] at gaps
  refine ⟨valid, closed, estimated, gaps, Device.newEvents_append (Device.newEvents_none evt) told, fun o other => ?_⟩
  have notHi : o ∉ [R.MTR_GAP_END_HI] := by
    intro hi
    exact other (by simp [List.mem_singleton.mp hi])
  exact (keeps o other).trans (stored o notHi)

/-! ### The obligation -/

/-- Settles O50: a pulse leaves where one is owed and its output may drive; saves, slots and the gap are their stores and what they tell. -/
theorem pulsesAndSavesAreKept : Obligations.PulsesAndSavesAreKept := by
  intro s w v
  refine ⟨fun p hp => ⟨fun idle => runs_onPulse hp (pulseEmit p) rfl (pulseEmit_idle idle),
      fun en drives owed => runs_onPulse hp (pulseEmit p) rfl (pulseEmit_emits en drives owed),
      fun inactive => runs_onPulse hp (pulseEnd p) rfl (pulseEnd_inactive inactive),
      fun active => runs_onPulse hp (pulseEnd p) rfl (pulseEnd_active active)⟩,
    fun idle => runs_periodicSave (saveStart_due idle _),
    fun runs => runs_periodicSave (saveStart_dueRunning runs _),
    fun ok now idle => State.runs_of (fun d => regWrite d w R.MTR_CMD v (mtrHandler w R.MTR_CMD v)) rfl (saveNow_effect ok now idle),
    fun idle ok => State.runs_of (saveEnd ok) rfl (saveEnd_idle idle ok),
    fun r saving => ⟨State.runs_of (saveEnd true) rfl (saveEnd_kept saving), State.runs_of (saveEnd false) rfl (saveEnd_lost saving)⟩,
    State.runs_of warnErased rfl (warnErased_effect s.dev),
    fun ok => State.runs_of (fun d => regWrite d w R.MTR_GAP_END_HI v (mtrHandler w R.MTR_GAP_END_HI v)) rfl (gapEnd_effect ok)⟩

end Sys2Proof.Machine
end

section
/-! PROOFS. Supply warnings, the saves that they start and the recovery (R305, R306, R441 to R445, R464): what a warning ends and shows, how its records
are kept, and how brace state begins and ends. -/

namespace Sys2Proof.Machine

/-! ### Stores of registers -/

/-- `t` differs from `s` in its registers alone. -/
def RegsOnly (s t : Device) : Prop := t = { s with regs := t.regs }

theorem RegsOnly.refl (s : Device) : RegsOnly s s := rfl

theorem RegsOnly.setReg {s t : Device} (h : RegsOnly s t) (off : Nat) (v : Word) : RegsOnly s (t.setReg off v) := by
  unfold RegsOnly
  rw [h]
  rfl

theorem RegsOnly.same {s t : Device} (h : RegsOnly s t) : t.sys = s.sys ∧ t.upd = s.upd ∧ t.mtr = s.mtr ∧ t.pho = s.pho ∧ t.shw = s.shw ∧
    t.pipe = s.pipe ∧ t.evt = s.evt ∧ t.clock = s.clock :=
  ⟨by rw [h], by rw [h], by rw [h], by rw [h], by rw [h], by rw [h], by rw [h], by rw [h]⟩

/-! ### What brace state touches beside the save -/

/-- `t` differs from `s` at most in headroom's state, the flash, the handover of an update, what was sent, and the registers that show the update and the
unit's role. -/
def BraceFrame (s t : Device) : Prop :=
  t = { s with regs := t.regs, hdr := t.hdr, sys := { s.sys with flash := t.sys.flash }, upd := { s.upd with handover := t.upd.handover },
               sent := t.sent } ∧ s.keepsRegs t [R.UPD_STATE, R.RDG_STATUS]

theorem BraceFrame.refl (s : Device) : BraceFrame s s := ⟨rfl, Device.keepsRegs_refl _ rfl⟩

section Chain

variable {s t : Device}

theorem BraceFrame.trans {u : Device} (h : BraceFrame s t) (g : BraceFrame t u) : BraceFrame s u := by
  obtain ⟨first, kept⟩ := h
  obtain ⟨later, keptLater⟩ := g
  exact ⟨by rw [later, first], Device.keepsRegs_trans kept keptLater⟩

theorem BraceFrame.setReg (h : BraceFrame s t) (off : Nat) (v : Word) (shown : off ∈ [R.UPD_STATE, R.RDG_STATUS]) : BraceFrame s (t.setReg off v) :=
  h.trans ⟨rfl, Device.keepsRegs_setReg (Device.keepsRegs_refl _ rfl) off v shown⟩

theorem BraceFrame.send (h : BraceFrame s t) (o : Out) (d : List Nat) : BraceFrame s (t.send o d) := h.trans ⟨rfl, Device.keepsRegs_refl _ rfl⟩

theorem BraceFrame.each {α : Type} (h : BraceFrame s t) (l : List α) {f : Device → α → Device} (step : ∀ x a, BraceFrame x (f x a)) :
    BraceFrame s (t.each l f) := by
  induction l generalizing t with
  | nil => exact h
  | cons a l ih => exact ih (h.trans (step t a))

end Chain

/-- What the frame leaves as it is. -/
theorem BraceFrame.keeps {s t : Device} (h : BraceFrame s t) : t.mtr = s.mtr ∧ t.sys = { s.sys with flash := t.sys.flash } ∧
    t.upd.writing = s.upd.writing ∧ t.pho = s.pho ∧ t.pipe = s.pipe ∧ t.evt = s.evt := by
  obtain ⟨frame, -⟩ := h
  exact ⟨by rw [frame], by rw [frame], by rw [frame], by rw [frame], by rw [frame], by rw [frame]⟩

theorem BraceFrame.reg {s t : Device} (h : BraceFrame s t) {o : Nat} (other : o ∉ [R.UPD_STATE, R.RDG_STATUS]) : t.reg o = s.reg o := h.2 o other

theorem spoilAll_frame (s : Device) : BraceFrame s (spoilAll s) := (BraceFrame.refl s).each _ fun _ _ => ⟨rfl, Device.keepsRegs_refl _ rfl⟩

theorem flashWrite_frame (a : Nat) (data : List Byte) (s : Device) : BraceFrame s (flashWrite a data s) := ⟨rfl, Device.keepsRegs_refl _ rfl⟩

theorem setUpd_frame (state part : Nat) (s : Device) : BraceFrame s (setUpd state .ok part s) := by
  have shown := ((BraceFrame.refl s).setReg R.UPD_STATE (setFld (s.reg R.UPD_STATE) 3 0 state) (by simp)).setReg R.UPD_STATE
    (setFld ((s.setF R.UPD_STATE 3 0 state).reg R.UPD_STATE) 18 16 part) (by simp)
  unfold setUpd
  dsimp only
  rw [if_pos rfl]
  split
  · exact shown
  · exact shown.trans (flashWrite_frame ..)

/-- HOLDING is shown and sent, and nothing else changes (R411). -/
theorem setHolding_frame (b : Bool) (s : Device) : BraceFrame s (setHolding b s) := by
  have ridge (t : Device) : BraceFrame t (sendRidgeHeartbeat t) := (BraceFrame.refl t).each _ fun x _ => (BraceFrame.refl x).send _ _
  have net (t : Device) : BraceFrame t (sendNetHeartbeat t) := by
    unfold sendNetHeartbeat
    split
    · exact .refl t
    · exact (BraceFrame.refl t).each _ fun x _ => (BraceFrame.refl x).send _ _
  have shown := (BraceFrame.refl s).setReg R.RDG_STATUS (setBit (s.reg R.RDG_STATUS) 9 (b && pairActive s)) (by simp)
  unfold setHolding
  dsimp only
  split
  · exact (shown.trans (ridge _)).trans (net _)
  · exact shown

theorem refreshHolding_frame (s : Device) : BraceFrame s (refreshHolding s) := by
  unfold refreshHolding
  split
  · exact setHolding_frame ..
  · exact setHolding_frame ..

/-! ### A supply warning (R441, R442) -/

/-- What a warning that is served leaves: the tally and the save run, the accumulators are captured, what was being written and a holdup test have ended. -/
def WarningServed (s t : Device) : Prop :=
  t.mtr.tally = true ∧ t.mtr.capture ≠ none ∧ t.mtr.saving = none ∧ t.sys.saving = true ∧ t.sys.saveOk = true ∧ t.sys.warned = s.clock ∧
    t.sys.holdup = false ∧ t.upd.writing = none ∧ t.pho.ageSaving = none ∧ t.rb R.SYS_VMON 16 = true ∧ t.rn R.SYS_PWR_SAVE_STATUS = 0

/-- It stands beside changes of the flash and of other registers. -/
theorem WarningServed.beside {s t u : Device} (h : WarningServed s t) (mtr : u.mtr = t.mtr) (sys : u.sys = { t.sys with flash := u.sys.flash })
    (writing : u.upd.writing = t.upd.writing) (pho : u.pho = t.pho) (vmon : u.reg R.SYS_VMON = t.reg R.SYS_VMON)
    (status : u.reg R.SYS_PWR_SAVE_STATUS = t.reg R.SYS_PWR_SAVE_STATUS) : WarningServed s u := by
  unfold WarningServed
  rw [mtr, sys, writing, pho, Device.rb_of_reg vmon, Device.rn, status]
  exact h

/-- What is being written of ageing and of an update ends, and the save begins (R442). -/
def saveBegins (s : Device) : Device :=
  let s := { s with pho := { s.pho with ageSaving := none, ageOlder := if s.pho.ageSaving.isSome then none else s.pho.ageOlder } }
  let s := (s.setF R.SYS_CMD 3 3 0).setF R.UPD_CMD 1 1 (if s.upd.writing.isSome then 0 else s.rf R.UPD_CMD 1 1)
  { s with upd := { s.upd with writing := none }, sys := { s.sys with warned := s.clock, saving := true, saveOk := true } }

/-- The captures of a warning (R305, R441), and the begin of its save. -/
def warningCaught (s : Device) : Device := saveBegins ((meterCapture s).set64 R.SYS_LAST_BRACE_LO R.SYS_LAST_BRACE_HI s.shw.time)

/-- The registers show a warning whose save begins. -/
def warningShown (s : Device) : Device :=
  ((s.setB R.SYS_VMON 16 true).setN R.SYS_PWR_SAVE_STATUS 0).setN R.SYS_FLASH_STATUS (4 + 2 * b2n s.sys.pwrErase + 1)

/-- A holdup test that runs ends (R444). -/
def holdupAbandoned (s : Device) : Device :=
  if s.sys.holdup then { holdupRelease s with upd := { s.upd with checking := false } } else s

/-- Brace state is shown and told (R441). -/
def braceShown (s : Device) : Device :=
  ((s.setB R.SYS_STATUS 2 true).setB R.PVW_STATUS 3 (s.rb R.PVW_STATUS 0)).raise Ev.SUPPLY_WARN 0

/-- The device enters brace state: the content frames in progress are discarded (R441). -/
def braceEntered (s : Device) : Device :=
  let s := spoilAll (braceShown s)
  { s with pipe := [], cmp := { s.cmp with lineBad := [] } }

/-- A handover that is waited for is paused (R464). -/
def handoverPaused (s : Device) : Device :=
  if s.upd.handover.isSome then setUpd 6 .ok (s.rf R.UPD_STATE 18 16) { s with upd := { s.upd with handover := none } } else s

/-- While a warning is being served another changes nothing. -/
theorem supplyWarning_again {s : Device} (serves : s.mtr.tally = true) : supplyWarning s = s := if_pos serves

theorem supplyWarning_first {s : Device} (first : s.mtr.tally = false) : supplyWarning s =
    let t := holdupAbandoned (warningShown (warningCaught s))
    if !t.shw.running then t else refreshHolding (handoverPaused (braceEntered t)) :=
  if_neg (by rw [first]; decide)

theorem warningShown_effect (s : Device) : let d := warningShown s
    d.rb R.SYS_VMON 16 = true ∧ d.rn R.SYS_PWR_SAVE_STATUS = 0 ∧ d.reg R.SYS_STATUS = s.reg R.SYS_STATUS ∧ RegsOnly s d := by
  refine ⟨?_, ?_, ?_, (((RegsOnly.refl s).setReg _ _).setReg _ _).setReg _ _⟩
  · refine (Device.rb_of_reg ?_ 16).trans (Device.rb_setB_same s R.SYS_VMON true (by decide))
    rw [warningShown, Device.reg_setN, if_neg (by decide), Device.reg_setN, if_neg (by decide)]
  · rw [warningShown, Device.rn_setN, if_neg (by decide), Device.rn_setN, if_pos rfl]
    rfl
  · rw [warningShown, Device.reg_setN, if_neg (by decide), Device.reg_setN, if_neg (by decide), Device.reg_setB, if_neg (by decide)]

theorem saveBegins_effect (s : Device) : let d := saveBegins s
    d.mtr = s.mtr ∧ d.sys = { s.sys with warned := s.clock, saving := true, saveOk := true } ∧ d.upd.writing = none ∧ d.pho.ageSaving = none ∧
      d.shw = s.shw ∧ d.pipe = s.pipe ∧ d.evt = s.evt ∧ d.reg R.SYS_STATUS = s.reg R.SYS_STATUS := by
  have stored : ∃ v w, (saveBegins s).regs = ((s.setReg R.SYS_CMD v).setReg R.UPD_CMD w).regs := ⟨_, _, rfl⟩
  obtain ⟨v, w, stored⟩ := stored
  refine ⟨rfl, rfl, rfl, rfl, rfl, rfl, rfl, ?_⟩
  rw [Device.reg_congr stored, Device.reg_setReg_other _ _ (by decide), Device.reg_setReg_other _ _ (by decide)]

/-- The accumulators are captured and the tally runs; a periodic save is given up (R305). -/
theorem meterCapture_effect (s : Device) : let d := meterCapture s
    (∃ r, d.mtr = { s.mtr with saving := none, capture := some r, tally := true }) ∧ d.sys = s.sys ∧ d.clock = s.clock ∧ d.shw = s.shw ∧
      d.pipe = s.pipe ∧ d.evt = s.evt ∧ s.keepsRegs d [R.MTR_SAVE_STATUS, R.MTR_CMD] := by
  have captured : ∃ r, meterCapture s = saveUnshown { s with mtr := { s.mtr with saving := none, capture := some r, tally := true } } := ⟨_, rfl⟩
  obtain ⟨r, captured⟩ := captured
  obtain ⟨-, -, keeps, -⟩ := saveUnshown_effect { s with mtr := { s.mtr with saving := none, capture := some r, tally := true } }
  have stores : RegsOnly { s with mtr := { s.mtr with saving := none, capture := some r, tally := true } }
      (saveUnshown { s with mtr := { s.mtr with saving := none, capture := some r, tally := true } }) :=
    ((RegsOnly.refl _).setReg _ _).setReg _ _
  obtain ⟨sys, -, mtr, -, shw, pipe, evt, clock⟩ := stores.same
  rw [captured]
  exact ⟨⟨r, mtr⟩, sys, clock, shw, pipe, evt, keeps⟩

theorem warningCaught_effect (s : Device) : let d := warningCaught s
    (∃ r, d.mtr = { s.mtr with saving := none, capture := some r, tally := true }) ∧
      d.sys = { s.sys with warned := s.clock, saving := true, saveOk := true } ∧ d.upd.writing = none ∧ d.pho.ageSaving = none ∧
      d.shw = s.shw ∧ d.pipe = s.pipe ∧ d.evt = s.evt ∧ d.reg R.SYS_STATUS = s.reg R.SYS_STATUS := by
  obtain ⟨⟨r, captured⟩, sys, clock, shw, pipe, evt, keeps⟩ := meterCapture_effect s
  unfold warningCaught
  generalize meterCapture s = t at captured sys clock shw pipe evt keeps
  obtain ⟨mtr, begun, writing, ageing, shw', pipe', evt', status⟩ := saveBegins_effect (t.set64 R.SYS_LAST_BRACE_LO R.SYS_LAST_BRACE_HI s.shw.time)
  refine ⟨⟨r, mtr.trans captured⟩, ?_, writing, ageing, shw'.trans shw, pipe'.trans pipe, evt'.trans evt, ?_⟩
  · rw [begun, Device.set64_sys, Device.set64_clock, sys, clock]
  · rw [status, Device.reg_set64, if_neg (by decide), if_neg (by decide), keeps _ (by decide)]

theorem holdupAbandoned_effect (s : Device) : let d := holdupAbandoned s
    d.sys = { s.sys with holdup := false } ∧ d.upd.writing = s.upd.writing ∧ d.mtr = s.mtr ∧ d.pho = s.pho ∧ d.regs = s.regs ∧ d.shw = s.shw ∧
      d.pipe = s.pipe ∧ d.evt = s.evt := by
  unfold holdupAbandoned
  split
  · exact ⟨rfl, rfl, rfl, rfl, rfl, rfl, rfl, rfl⟩
  · next idle =>
    have ended : s.sys.holdup = false := Bool.eq_false_of_not_eq_true idle
    exact ⟨by rw [← ended], rfl, rfl, rfl, rfl, rfl, rfl, rfl⟩

/-- What a warning ends and shows leaves the show, the pipeline, the events and SYS_STATUS as they are. -/
theorem warning_served (s : Device) : let t := holdupAbandoned (warningShown (warningCaught s))
    WarningServed s t ∧ t.shw = s.shw ∧ t.pipe = s.pipe ∧ t.reg R.SYS_STATUS = s.reg R.SYS_STATUS ∧ t.evt = s.evt := by
  obtain ⟨⟨r, captured⟩, begun, writing, ageing, shw, pipe, evt, status⟩ := warningCaught_effect s
  generalize warningCaught s = caught at captured begun writing ageing shw pipe evt status
  obtain ⟨vmon, result, status', stores⟩ := warningShown_effect caught
  obtain ⟨sys', upd', mtr', pho', shw', pipe', evt', -⟩ := stores.same
  generalize warningShown caught = shown at vmon result status' sys' upd' mtr' pho' shw' pipe' evt'
  obtain ⟨sys, write, mtr, pho, regs, showed, piped, told⟩ := holdupAbandoned_effect shown
  generalize holdupAbandoned shown = t at sys write mtr pho regs showed piped told
  have reg := Device.reg_congr regs
  refine ⟨?_, (showed.trans shw').trans shw, (piped.trans pipe').trans pipe, (reg _).trans (status'.trans status), (told.trans evt').trans evt⟩
  unfold WarningServed
  rw [sys, sys', begun, mtr, mtr', captured, write, upd', pho, pho', Device.rb_of_reg (reg _), Device.rn, reg]
  exact ⟨rfl, Option.some_ne_none r, rfl, rfl, rfl, rfl, rfl, writing, ageing, vmon, result⟩

theorem handoverPaused_frame (s : Device) : BraceFrame s (handoverPaused s) := by
  unfold handoverPaused
  split
  · exact BraceFrame.trans (t := { s with upd := { s.upd with handover := none } }) ⟨rfl, Device.keepsRegs_refl _ rfl⟩ (setUpd_frame ..)
  · exact .refl s

theorem braceShown_effect (s : Device) : let d := braceShown s
    d.mtr = s.mtr ∧ d.sys = s.sys ∧ d.upd = s.upd ∧ d.pho = s.pho ∧ d.rb R.SYS_STATUS 2 = true ∧ s.keepsRegs d [R.SYS_STATUS, R.PVW_STATUS] ∧
      ∃ e ∈ d.evt.raised, e.ev = Ev.SUPPLY_WARN := by
  refine ⟨rfl, rfl, rfl, rfl, ?_, ?_, _, List.mem_append_right _ (List.mem_singleton_self _), rfl⟩
  · refine (Device.rb_of_reg ?_ 2).trans (Device.rb_setB_same s R.SYS_STATUS true (by decide))
    rw [braceShown, Device.reg_raise, Device.reg_setB, if_neg (by decide)]
  · refine Device.keepsRegs_congr ?_ (Device.raise_regs ..)
    exact Device.keepsRegs_setReg (Device.keepsRegs_setReg (Device.keepsRegs_refl _ rfl) _ _ (by simp)) _ _ (by simp)

theorem braceEntered_effect (s : Device) : let d := braceEntered s
    d.mtr = s.mtr ∧ d.sys = { s.sys with flash := d.sys.flash } ∧ d.upd.writing = s.upd.writing ∧ d.pho = s.pho ∧ d.pipe = [] ∧
      d.rb R.SYS_STATUS 2 = true ∧ s.keepsRegs d [R.SYS_STATUS, R.PVW_STATUS, R.UPD_STATE, R.RDG_STATUS] ∧
      ∃ e ∈ d.evt.raised, e.ev = Ev.SUPPLY_WARN := by
  obtain ⟨mtr, sys, upd, pho, braces, beside, told⟩ := braceShown_effect s
  obtain ⟨t, spoilt, entered⟩ : ∃ t, BraceFrame (braceShown s) t ∧ braceEntered s = { t with pipe := [], cmp := { t.cmp with lineBad := [] } } :=
    ⟨_, spoilAll_frame _, rfl⟩
  obtain ⟨mtr', sys', writing, pho', -, evt⟩ := spoilt.keeps
  rw [entered]
  refine ⟨mtr'.trans mtr, ?_, writing.trans (by rw [upd]), pho'.trans pho, rfl, (Device.rb_of_reg (spoilt.reg (by decide)) 2).trans braces,
    fun o other => ?_, ?_⟩
  · rw [← sys]
    exact sys'
  · obtain ⟨notStatus, notPreview, notUpdate, notRole⟩ : o ≠ R.SYS_STATUS ∧ o ≠ R.PVW_STATUS ∧ o ≠ R.UPD_STATE ∧ o ≠ R.RDG_STATUS := by
      simpa using other
    exact (spoilt.reg (by simp [notUpdate, notRole])).trans (beside o (by simp [notStatus, notPreview]))
  · dsimp only
    rwa [evt]

/-- Brace state is entered beside a warning that is served, and a handover and HOLDING follow it. -/
theorem brace_served {s t : Device} (served : WarningServed s t) : let d := refreshHolding (handoverPaused (braceEntered t))
    WarningServed s d ∧ d.rb R.SYS_STATUS 2 = true ∧ d.pipe = [] ∧ ∃ e ∈ d.evt.raised, e.ev = Ev.SUPPLY_WARN := by
  obtain ⟨mtr, sys, writing, pho, pipe, braces, keeps, warns⟩ := braceEntered_effect t
  have follows := (handoverPaused_frame (braceEntered t)).trans (refreshHolding_frame _)
  obtain ⟨mtr', sys', writing', pho', pipe', evt'⟩ := follows.keeps
  refine ⟨served.beside (mtr'.trans mtr) ?_ (writing'.trans writing) (pho'.trans pho) ((follows.reg (by decide)).trans (keeps _ (by decide)))
    ((follows.reg (by decide)).trans (keeps _ (by decide))), (Device.rb_of_reg (follows.reg (by decide)) 2).trans braces, pipe'.trans pipe, ?_⟩
  · rw [sys', sys]
  · rwa [evt']

/-- The first warning is served; on a raster that runs it is told, and brace state begins (R441). -/
theorem supplyWarning_serves {s : Device} (first : s.mtr.tally = false) : let d := supplyWarning s
    WarningServed s d ∧
      (s.shw.running = false → d.shw = s.shw ∧ d.pipe = s.pipe ∧ d.rb R.SYS_STATUS 2 = s.rb R.SYS_STATUS 2 ∧ d.evt = s.evt) ∧
      (s.shw.running = true → d.rb R.SYS_STATUS 2 = true ∧ d.pipe = [] ∧ ∃ e ∈ d.evt.raised, e.ev = Ev.SUPPLY_WARN) := by
  obtain ⟨served, shw, pipe, status, evt⟩ := warning_served s
  rw [supplyWarning_first first]
  generalize holdupAbandoned (warningShown (warningCaught s)) = t at served shw pipe status evt
  dsimp only
  rw [shw]
  cases running : s.shw.running with
  | false =>
    rw [if_pos (show (!false) = true from rfl)]
    exact ⟨served, fun _ => ⟨shw, pipe, Device.rb_of_reg status 2, evt⟩, fun runs => by cases runs⟩
  | true =>
    rw [if_neg (by decide)]
    obtain ⟨serves, braces, empty, warns⟩ := brace_served served
    exact ⟨serves, fun stopped => (by cases stopped), fun _ => ⟨braces, empty, warns⟩⟩

/-! ### The warning record (R305, R442) -/

theorem warnWrite_uncaptured {s : Device} (captured : s.mtr.capture = none) (ok : Bool) : warnWrite ok s = (s, false) := by
  unfold warnWrite
  rw [captured]

/-- An erased slot is used up by the write of a record, whether it succeeds or not (R306). -/
def slotWritten (ok : Bool) (r : List Byte) (s : Device) : Device :=
  let e := s.mtr.erased - 1
  let warns := if ok then (s.mtr.warns ++ [r]).drop (s.mtr.warns.length - 1) else s.mtr.warns
  let s := { s with mtr := { s.mtr with erased := e, warns := warns } }
  (s.setB R.MTR_SAVE_STATUS 0 (0 < e)).sendBytes .flash r

theorem slotWritten_keeps (ok : Bool) (r : List Byte) (s : Device) : (slotWritten ok r s).sys = s.sys ∧ (slotWritten ok r s).evt = s.evt :=
  ⟨(Device.sendBytes_sys ..).trans (Device.setB_sys ..), (Device.sendBytes_evt ..).trans (Device.setB_evt ..)⟩

/-- A write that fails is counted and told (R304). -/
def saveFailed (s : Device) : Device := (s.count R.MTR_SAVE_FAIL 1).raise Ev.SAVE_FAIL 0

theorem saveFailed_effect (s : Device) : (saveFailed s).sys = s.sys ∧ s.newEvents (saveFailed s) [(Ev.SAVE_FAIL, 0)] :=
  ⟨(Device.raise_sys ..).trans (Device.count_sys ..), Device.newEvents_raise (Device.newEvents_none (Device.count_evt ..)) Ev.SAVE_FAIL 0⟩

section Captured

variable {s : Device} {r : List Byte} (captured : s.mtr.capture = some r)
include captured

theorem warnWrite_noSlot (full : s.mtr.erased = 0) (ok : Bool) : warnWrite ok s = (saveFailed s, false) := by
  unfold warnWrite
  rw [captured]
  exact if_pos full

theorem warnWrite_slot (room : s.mtr.erased ≠ 0) (ok : Bool) : warnWrite ok s =
    if ok then ((slotWritten ok r s).raise Ev.WARN_SAVE_DONE 0, true) else (saveFailed (slotWritten ok r s), false) := by
  unfold warnWrite
  rw [captured]
  exact if_neg room

end Captured

/-- The record of a warning is written where one was captured and a slot is erased; where it is lost, that is told. -/
theorem warnWrite_effect (ok : Bool) (s : Device) : let good := ok && s.mtr.capture.isSome && decide (s.mtr.erased ≠ 0)
    (warnWrite ok s).2 = good ∧ (warnWrite ok s).1.sys = s.sys ∧ s.newEvents (warnWrite ok s).1
      (if good then [(Ev.WARN_SAVE_DONE, 0)] else if s.mtr.capture.isSome then [(Ev.SAVE_FAIL, 0)] else []) := by
  dsimp only
  cases captured : s.mtr.capture with
  | none =>
    rw [warnWrite_uncaptured captured, Option.isSome_none, Bool.and_false, Bool.false_and]
    exact ⟨rfl, rfl, Device.newEvents_none rfl⟩
  | some r =>
    rw [Option.isSome_some, Bool.and_true]
    by_cases full : s.mtr.erased = 0
    · obtain ⟨sys, told⟩ := saveFailed_effect s
      rw [decide_eq_false (not_not.mpr full), Bool.and_false, warnWrite_noSlot captured full]
      exact ⟨rfl, sys, told⟩
    · obtain ⟨sys, evt⟩ := slotWritten_keeps ok r s
      rw [decide_eq_true full, Bool.and_true, warnWrite_slot captured full]
      cases ok with
      | false =>
        obtain ⟨sys', told⟩ := saveFailed_effect (slotWritten false r s)
        exact ⟨rfl, sys'.trans sys, Device.newEvents_append (Device.newEvents_none evt) told⟩
      | true => exact ⟨rfl, (Device.raise_sys ..).trans sys, Device.newEvents_raise (Device.newEvents_none evt) Ev.WARN_SAVE_DONE 0⟩

theorem warnRecordDone_idle {s : Device} (idle : s.sys.saving = false) (ok : Bool) : warnRecordDone ok s = s := if_pos (by rw [idle]; rfl)

/-- The captured record has had its write, and the save is whole only if that succeeded. -/
theorem warnRecordDone_saving {s : Device} (saving : s.sys.saving = true) (ok : Bool) :
    let good := ok && s.mtr.capture.isSome && decide (s.mtr.erased ≠ 0)
    let d := warnRecordDone ok s
    d.mtr.capture = none ∧ d.sys = { s.sys with saveOk := s.sys.saveOk && good } ∧ d.rb R.SYS_PWR_SAVE_STATUS 0 = good ∧
      s.newEvents d (if good then [(Ev.WARN_SAVE_DONE, 0)] else if s.mtr.capture.isSome then [(Ev.SAVE_FAIL, 0)] else []) := by
  obtain ⟨good, sys, told⟩ := warnWrite_effect ok s
  have ended : warnRecordDone ok s =
      let t := (warnWrite ok s).1
      ({ t with mtr := { t.mtr with capture := none }, sys := { t.sys with saveOk := t.sys.saveOk && (warnWrite ok s).2 } }).setB
        R.SYS_PWR_SAVE_STATUS 0 (warnWrite ok s).2 := if_neg (by rw [saving]; decide)
  rw [ended, good]
  generalize (warnWrite ok s).1 = t at sys told
  refine ⟨rfl, ?_, Device.rb_setB_same _ _ _ (by decide), Device.newEvents_congr told rfl⟩
  rw [Device.setB_sys, sys]

/-! ### The power-event record and the end of the save (R442, R443) -/

theorem powerSaveDone_idle {s : Device} (idle : s.sys.saving = false) (ok : Bool) (micros : Nat) : powerSaveDone ok micros s = s :=
  if_pos (by rw [idle]; rfl)

/-- The slots are those of the flash, so that the next one is the same at every instant. -/
theorem pwrNext_of_sys {s t : Device} (same : t.sys = s.sys) : pwrNext t = pwrNext s := by
  unfold pwrNext pwrNewest pwrRecords
  rw [same]

/-- The registers show the end of a save: whether the power-event record is written, how long the save took, and the flash. -/
def saveShown (good : Bool) (micros flash : Nat) (s : Device) : Device :=
  ((s.setB R.SYS_PWR_SAVE_STATUS 1 good).setF R.SYS_PWR_SAVE_STATUS 31 16 (min 65535 micros)).setN R.SYS_FLASH_STATUS flash

theorem saveShown_effect (good : Bool) (micros flash : Nat) (s : Device) : let d := saveShown good micros flash s
    d.rb R.SYS_PWR_SAVE_STATUS 1 = good ∧ d.rf R.SYS_PWR_SAVE_STATUS 31 16 = min 65535 micros ∧
      s.keepsRegs d [R.SYS_PWR_SAVE_STATUS, R.SYS_FLASH_STATUS] ∧ RegsOnly s d := by
  have status : (saveShown good micros flash s).reg R.SYS_PWR_SAVE_STATUS =
      ((s.setB R.SYS_PWR_SAVE_STATUS 1 good).setF R.SYS_PWR_SAVE_STATUS 31 16 (min 65535 micros)).reg R.SYS_PWR_SAVE_STATUS :=
    Device.reg_setReg_other _ _ (by decide)
  refine ⟨?_, ?_, ?_, (((RegsOnly.refl s).setReg _ _).setReg _ _).setReg _ _⟩
  · rw [Device.rb_of_reg status, Device.rb_setF _ _ _ _ _ _ _ (by decide) (by decide), if_neg (by decide), Device.rb_setB_same _ _ _ (by decide)]
  · rw [Device.rf_of_reg status, Device.rf_setF_same _ _ _ _ _ (by decide) (by decide)]
    exact Nat.mod_eq_of_lt (by omega)
  · unfold saveShown
    iterate 3 refine Device.keepsRegs_setReg ?_ _ _ (by simp)
    exact Device.keepsRegs_refl _ rfl

/-- The end of a save is told, and its failure beside it. -/
def saveTold (all : Bool) (s : Device) : Device :=
  (s.raise Ev.POWER_SAVE_DONE (s.rn R.SYS_PWR_SAVE_STATUS)).raiseIf (!all) Ev.POWER_SAVE_FAIL (s.rn R.SYS_PWR_SAVE_STATUS)

theorem saveTold_effect (all : Bool) (s : Device) : let d := saveTold all s
    d.regs = s.regs ∧ d.sys = s.sys ∧ d.clock = s.clock ∧
      ∃ p, s.newEvents d ((Ev.POWER_SAVE_DONE, p) :: if all then [] else [(Ev.POWER_SAVE_FAIL, p)]) := by
  have told := Device.newEvents_raise (Device.newEvents_none (s := s) (t := s) rfl) Ev.POWER_SAVE_DONE (s.rn R.SYS_PWR_SAVE_STATUS)
  cases all with
  | true => exact ⟨rfl, rfl, rfl, _, told⟩
  | false => exact ⟨rfl, rfl, rfl, _, Device.newEvents_raise told Ev.POWER_SAVE_FAIL (s.rn R.SYS_PWR_SAVE_STATUS)⟩

/-- The outcome of a save is stored once its last write is over, and is shown and told. -/
theorem powerSaveDone_ends {s : Device} (saving : s.sys.saving = true) (ok : Bool) (micros : Nat) : let good := ok && (pwrNext s).isSome
    let all := s.sys.saveOk && good && s.mtr.capture.isNone
    ∃ t flash, powerSaveDone ok micros s = saveTold all (saveShown good micros flash t) ∧ t.sys.saving = false ∧ t.sys.saveOk = all ∧
      t.clock = max s.clock (s.sys.warned + 1000 * micros) ∧ t.regs = s.regs ∧ t.evt = s.evt := by
  have ends : let t := s.elapseTo (s.sys.warned + 1000 * micros)
      let good := ok && (pwrNext t).isSome
      let all := t.sys.saveOk && good && t.mtr.capture.isNone
      ∃ pwr erase flash, powerSaveDone ok micros s = saveTold all (saveShown good micros flash
        { t with sys := { t.sys with saving := false, saveOk := all, pwr := pwr, pwrErase := erase } }) := by
    unfold powerSaveDone
    rw [saving]
    exact ⟨_, _, _, rfl⟩
  obtain ⟨pwr, erase, flash, ends⟩ := ends
  rw [pwrNext_of_sys (s.elapseTo_sys _), s.elapseTo_sys, s.elapseTo_mtr] at ends
  exact ⟨_, flash, ends, rfl, rfl, s.elapseTo_clock _, s.elapseTo_regs _, s.elapseTo_evt _⟩

theorem powerSaveDone_effect {s : Device} (saving : s.sys.saving = true) (ok : Bool) (micros : Nat) : let good := ok && (pwrNext s).isSome
    let all := s.sys.saveOk && good && s.mtr.capture.isNone
    let d := powerSaveDone ok micros s
    d.clock = max s.clock (s.sys.warned + 1000 * micros) ∧ d.sys.saving = false ∧ d.sys.saveOk = all ∧
      d.rb R.SYS_PWR_SAVE_STATUS 1 = good ∧ d.rf R.SYS_PWR_SAVE_STATUS 31 16 = min 65535 micros ∧
      s.keepsRegs d [R.SYS_PWR_SAVE_STATUS, R.SYS_FLASH_STATUS] ∧
      ∃ p, s.newEvents d ((Ev.POWER_SAVE_DONE, p) :: if all then [] else [(Ev.POWER_SAVE_FAIL, p)]) := by
  obtain ⟨t, flash, ends, ended, whole, elapsed, same, quiet⟩ := powerSaveDone_ends saving ok micros
  dsimp only
  rw [ends]
  generalize (s.sys.saveOk && (ok && (pwrNext s).isSome) && s.mtr.capture.isNone) = all at whole
  obtain ⟨shown, took, keeps, stores⟩ := saveShown_effect (ok && (pwrNext s).isSome) micros flash t
  obtain ⟨sys, -, -, -, -, -, evt, clock⟩ := stores.same
  obtain ⟨regs, sys', clock', p, told⟩ := saveTold_effect all (saveShown (ok && (pwrNext s).isSome) micros flash t)
  have status := Device.reg_congr regs R.SYS_PWR_SAVE_STATUS
  refine ⟨clock'.trans (clock.trans elapsed), by rw [sys', sys, ended], by rw [sys', sys, whole], (Device.rb_of_reg status 1).trans shown,
    (Device.rf_of_reg status 31 16).trans took, Device.keepsRegs_congr (Device.keepsRegs_trans (Device.keepsRegs_refl _ same) keeps) regs, p, ?_⟩
  exact Device.newEvents_append (Device.newEvents_none (evt.trans quiet)) told

/-! ### Recovery (R305, R443, R445) -/

/-- No slot is erased that is not due, or before recovery. -/
theorem pwrEraseDone_waits {s : Device} (waits : s.sys.pwrErase = false ∨ s.mtr.tally = true) : pwrEraseDone s = s := by
  refine if_pos ?_
  rcases waits with notDue | tally
  · simp [notDue]
  · simp [tally]

theorem brownout_waits {s : Device} (waits : s.sys.saving = true ∨ s.mtr.tally = false) : brownout s = s := by
  refine if_pos ?_
  rcases waits with saving | noTally
  · simp [saving]
  · simp [noTally]

/-- Steps that change metering's state alone, one after another, change it alone. -/
theorem Device.each_onlyMtr {α : Type} (l : List α) {f : Device → α → Device} (step : ∀ t a, ∃ mtr, f t a = { t with mtr := mtr }) (s : Device) :
    ∃ mtr, s.each l f = { s with mtr := mtr } := by
  induction l generalizing s with
  | nil => exact ⟨s.mtr, rfl⟩
  | cons a l ih =>
    obtain ⟨first, stepped⟩ := step s a
    obtain ⟨mtr, later⟩ := ih (f s a)
    exact ⟨mtr, by rw [Device.each_cons, later, stepped]⟩

/-- The tally is added to the accumulators, and ends with the capture. -/
theorem tallyAdd_eq (s : Device) : ∃ mtr : MtrState, tallyAdd s = { s with mtr := { mtr with tally := false, capture := none } } := by
  unfold tallyAdd
  dsimp only
  obtain ⟨mtr, added⟩ := Device.each_onlyMtr s.mtr.chans (f := fun s p => s.setMeter p.1
    { s.meter p.1 with imp := ((s.meter p.1).imp + (s.meter p.1).tallyImp) % 2 ^ 64, exp := ((s.meter p.1).exp + (s.meter p.1).tallyExp) % 2 ^ 64,
                       tallyImp := 0, tallyExp := 0 }) (fun _ _ => ⟨_, rfl⟩) s
  exact ⟨mtr, by rw [added]⟩

/-- The supply has recovered: the tally is added, and no register shows the warning. -/
def supplyRecovered (s : Device) : Device := ((tallyAdd s).setB R.SYS_VMON 16 false).setB R.SYS_FLASH_STATUS 1 false

/-- Brace state ends, counted and told. -/
def braceLeft (s : Device) : Device :=
  (((s.setB R.SYS_STATUS 2 false).setN R.SYS_BRACE_TIME (min 0xFFFFFFFF ((s.clock - s.sys.warned) / 1000000))).count R.SYS_BROWNOUTS 1).raise
    Ev.BROWNOUT 0

theorem brownout_recovers {s : Device} (saved : s.sys.saving = false) (tally : s.mtr.tally = true) : brownout s =
    if !braced (supplyRecovered s) then supplyRecovered s else refreshHolding (braceLeft (supplyRecovered s)) :=
  if_neg (by rw [saved, tally]; decide)

theorem supplyRecovered_effect (s : Device) : let d := supplyRecovered s
    d.mtr.tally = false ∧ d.mtr.capture = none ∧ d.rb R.SYS_VMON 16 = false ∧ d.clock = s.clock ∧ d.sys = s.sys ∧ d.shw = s.shw ∧ d.evt = s.evt ∧
      s.keepsRegs d [R.SYS_VMON, R.SYS_FLASH_STATUS] := by
  obtain ⟨t, added, tally, capture, clock, sys, shw, evt, regs⟩ : ∃ t, tallyAdd s = t ∧ t.mtr.tally = false ∧ t.mtr.capture = none ∧
      t.clock = s.clock ∧ t.sys = s.sys ∧ t.shw = s.shw ∧ t.evt = s.evt ∧ t.regs = s.regs := by
    obtain ⟨mtr, added⟩ := tallyAdd_eq s
    exact ⟨_, added, rfl, rfl, rfl, rfl, rfl, rfl, rfl⟩
  have stores : RegsOnly t ((t.setB R.SYS_VMON 16 false).setB R.SYS_FLASH_STATUS 1 false) := ((RegsOnly.refl t).setReg _ _).setReg _ _
  obtain ⟨sys', -, mtr', -, shw', -, evt', clock'⟩ := stores.same
  unfold supplyRecovered
  rw [added]
  refine ⟨by rw [mtr', tally], by rw [mtr', capture], ?_, clock'.trans clock, sys'.trans sys, shw'.trans shw, evt'.trans evt, ?_⟩
  · exact (Device.rb_of_reg (Device.reg_setReg_other _ _ (by decide)) 16).trans (Device.rb_setB_same _ _ false (by decide))
  · exact Device.keepsRegs_setReg (Device.keepsRegs_setReg (Device.keepsRegs_refl _ regs) _ _ (by simp)) _ _ (by simp)

theorem braceLeft_effect (s : Device) : let d := braceLeft s
    d.mtr = s.mtr ∧ d.rb R.SYS_STATUS 2 = false ∧ d.reg R.SYS_BROWNOUTS = satInc (s.reg R.SYS_BROWNOUTS) 1 ∧
      d.rn R.SYS_BRACE_TIME = min 0xFFFFFFFF ((s.clock - s.sys.warned) / 1000000) ∧ d.reg R.SYS_VMON = s.reg R.SYS_VMON ∧
      ∃ e ∈ d.evt.raised, e.ev = Ev.BROWNOUT := by
  refine ⟨rfl, ?_, ?_, ?_, ?_, _, List.mem_append_right _ (List.mem_singleton_self _), rfl⟩
  · refine (Device.rb_of_reg ?_ 2).trans (Device.rb_setB_same s R.SYS_STATUS false (by decide))
    rw [braceLeft, Device.reg_raise, Device.reg_count, if_neg (by decide), Device.reg_setN, if_neg (by decide)]
  · rw [braceLeft, Device.reg_raise, Device.reg_count, if_pos rfl, Device.reg_setN, if_neg (by decide), Device.reg_setB, if_neg (by decide)]
  · rw [braceLeft, Device.rn, Device.reg_raise, Device.reg_count, if_neg (by decide), Device.reg_setN, if_pos rfl, BitVec.toNat_ofNat]
    exact Nat.mod_eq_of_lt (by omega)
  · rw [braceLeft, Device.reg_raise, Device.reg_count, if_neg (by decide), Device.reg_setN, if_neg (by decide), Device.reg_setB, if_neg (by decide)]

theorem brownout_effect {s : Device} (saved : s.sys.saving = false) (tally : s.mtr.tally = true) : let d := brownout s
    d.mtr.tally = false ∧ d.mtr.capture = none ∧ d.rb R.SYS_VMON 16 = false ∧ (braced s = false → d.evt = s.evt ∧ d.shw = s.shw) ∧
      (braced s = true → d.rb R.SYS_STATUS 2 = false ∧ d.reg R.SYS_BROWNOUTS = satInc (s.reg R.SYS_BROWNOUTS) 1 ∧
        d.rn R.SYS_BRACE_TIME = min 0xFFFFFFFF ((s.clock - s.sys.warned) / 1000000) ∧ ∃ e ∈ d.evt.raised, e.ev = Ev.BROWNOUT) := by
  obtain ⟨ended, dropped, vmon, clock, sys, shw, evt, keeps⟩ := supplyRecovered_effect s
  have same : braced (supplyRecovered s) = braced s := Device.rb_of_reg (keeps _ (by decide)) 2
  rw [brownout_recovers saved tally, same]
  generalize supplyRecovered s = t at ended dropped vmon clock sys shw evt keeps
  cases braced s with
  | false =>
    rw [if_pos (show (!false) = true from rfl)]
    exact ⟨ended, dropped, vmon, fun _ => ⟨evt, shw⟩, fun braces => by cases braces⟩
  | true =>
    rw [if_neg (by decide)]
    obtain ⟨mtr, left, counted, time, vmon', told⟩ := braceLeft_effect t
    have frame := refreshHolding_frame (braceLeft t)
    obtain ⟨mtr', -, -, -, -, evt'⟩ := frame.keeps
    rw [clock, sys] at time
    refine ⟨by rw [mtr', mtr, ended], by rw [mtr', mtr, dropped], (Device.rb_of_reg ((frame.reg (by decide)).trans vmon') 16).trans vmon,
      fun out => (by cases out), fun _ => ⟨?_, ?_, ?_, by rwa [evt']⟩⟩
    · exact (Device.rb_of_reg (frame.reg (by decide)) 2).trans left
    · rw [frame.reg (by decide), counted, keeps _ (by decide)]
    · rw [Device.rn, frame.reg (by decide)]
      exact time

/-! ### The obligation -/

/-- Settles O55: a warning is served once, each record's write ends as it did, and the recovery ends what the warning began. -/
theorem supplySavesComplete : Obligations.SupplySavesComplete := by
  intro s
  refine ⟨fun serves => State.runs_of supplyWarning rfl (supplyWarning_again serves), fun first => State.runs_of supplyWarning rfl ?_,
    fun idle => ⟨fun ok => State.runs_of (warnRecordDone ok) rfl (warnRecordDone_idle idle ok),
      fun ok micros => State.runs_of (powerSaveDone ok micros) rfl (powerSaveDone_idle idle ok micros)⟩,
    fun saving ok => State.runs_of (warnRecordDone ok) rfl (warnRecordDone_saving saving ok),
    fun saving ok micros => State.runs_of (powerSaveDone ok micros) rfl (powerSaveDone_effect saving ok micros),
    fun waits => State.runs_of pwrEraseDone rfl (pwrEraseDone_waits waits),
    fun waits => State.runs_of brownout rfl (brownout_waits waits),
    fun saved tally => State.runs_of brownout rfl (brownout_effect saved tally)⟩
  obtain ⟨⟨tally, capture, save, saving, whole, warned, holdup, writing, ageing, vmon, status⟩, stopped, runs⟩ := supplyWarning_serves first
  exact ⟨tally, capture, save, saving, whole, warned, holdup, writing, ageing, vmon, status, stopped, runs⟩

end Sys2Proof.Machine
end

section
/-! PROOFS. The preview port's registers (R321, R323, R324): what EN starts and ends, when the staged registers are used, what an underrun tells, and a
mailbox packet from GO to its end. -/

namespace Sys2Proof.Machine

/-! ### The port's state beside its registers -/

/-- Replaces the state of the preview port. -/
def Device.setPvw (s : Device) (x : PvwState) : Device := { s with pvw := x }

@[simp] theorem Device.setPvw_pvw (s : Device) (x : PvwState) : (s.setPvw x).pvw = x := rfl
@[simp] theorem Device.setPvw_regs (s : Device) (x : PvwState) : (s.setPvw x).regs = s.regs := rfl
@[simp] theorem Device.setPvw_evt (s : Device) (x : PvwState) : (s.setPvw x).evt = s.evt := rfl

theorem pvwRuns_of_regs {s t : Device} (same : t.regs = s.regs) : pvwRuns t = pvwRuns s := Device.rb_of_reg (Device.reg_congr same _) 0

/-- The snapshot is that of the staged registers alone. -/
theorem pvwSnapshot_congr {s t : Device} (same : ∀ o ∈ pvwStaged, t.reg o = s.reg o) : pvwSnapshot t = pvwSnapshot s :=
  List.foldl_ext _ _ _ fun table o staged => congrArg (table.put o) (same o staged)

/-- A packet that waits leaves the port's state and is sent: nothing else changes. -/
theorem pvwSendPacket_eq (s : Device) :
    pvwSendPacket s = { s with pvw := { s.pvw with packet := none }, sent := (pvwSendPacket s).sent } := by
  unfold pvwSendPacket
  split
  · rfl
  · next empty => rw [← empty]

@[simp] theorem pvwSendPacket_pvw (s : Device) : (pvwSendPacket s).pvw = { s.pvw with packet := none } := by rw [pvwSendPacket_eq]
@[simp] theorem pvwSendPacket_regs (s : Device) : (pvwSendPacket s).regs = s.regs := by rw [pvwSendPacket_eq]
@[simp] theorem pvwSendPacket_mem (s : Device) : (pvwSendPacket s).mem = s.mem := by rw [pvwSendPacket_eq]

theorem MemFrame.pvw {s t : Device} (h : MemFrame s t) : t.pvw = s.pvw := by rw [h.1]

/-! ### Accepted writes -/

/-- A plain store of a register that is not kept per reader leaves the port's state, the events and the clock. -/
theorem storeWrite_beside {w : Who} {off : Nat} {v : Word} (s : Device) (plain : (specAt off).map (·.banked) = some false) :
    let t := storeWrite w off v s
    s.tookWrite t off v ∧ s.keepsRegs t [off] ∧ t.pvw = s.pvw ∧ t.evt = s.evt ∧ t.clock = s.clock := by
  obtain ⟨took, keeps, frame⟩ := storeWrite_took (w := w) (v := v) s plain
  dsimp only
  refine ⟨took, keeps, ?_, ?_, ?_⟩ <;> rw [frame]

/-- A write that was taken stands beside later changes of other registers. -/
theorem tookWrite_besideAll {s t u : Device} {off : Nat} {v : Word} {l : List Nat} (took : s.tookWrite t off v) (keeps : s.keepsRegs t [off])
    (beside : t.keepsRegs u l) (apart : off ∉ l) : s.tookWrite u off v ∧ s.keepsRegs u (off :: l) := by
  obtain ⟨r, spec, stored⟩ := took
  refine ⟨⟨r, spec, (beside off apart).trans stored⟩, fun o other => ?_⟩
  obtain ⟨notOff, notIn⟩ : o ≠ off ∧ o ∉ l := by simpa using other
  exact (beside o notIn).trans (keeps o (by simpa using notOff))

/-- An accepted write leaves what its register's effect leaves, but for what is sent of it (R398). -/
theorem regWrite_effect {s : Device} {w : Who} {off : Nat} {v : Word} {h : Handler} (ok : writeCode s w off v h = .ok) :
    ∃ d sent, h.effect (s.answer .ok) = d ∧ regWrite s w off v h = { d with sent := sent } :=
  ⟨_, _, rfl, (regWrite_ok ok).trans (forwardWrite_eq ..)⟩

/-- A command that writes one of the port's registers is that write. -/
theorem runs_pvwWrite {s : State} {w : Who} {off : Nat} {v : Word} {c : Instr} {P : Device → Prop}
    (h : exec c s = s.onDevice fun d => .next (regWrite d w off v (pvwHandler w off v))) (p : P (regWrite s.dev w off v (pvwHandler w off v))) :
    s.runs c P :=
  State.runs_of (fun d => regWrite d w off v (pvwHandler w off v)) h p

/-! ### PVW_CTRL: the port starts and stops (R321, R324) -/

/-- The port runs with the staged registers as they stand, sending no frame and missing no TE. -/
def portStarted (s : Device) : Device :=
  (((s.setPvw { s.pvw with used := pvwSnapshot s, pending := none, frameEnd := s.clock, teLast := s.clock }).setB R.PVW_STATUS 0 true).setB
    R.PVW_STATUS 1 false).setN R.PVW_LINE_NS (pvwLineNs s.reg)

theorem pvwHandler_enables {v : Word} (w : Who) (en : wbit v 0 = true) (s : Device) :
    (pvwHandler w R.PVW_CTRL v).effect s = portStarted (storeWrite w R.PVW_CTRL v s) :=
  if_pos en

theorem portStarted_effect (s : Device) : let d := portStarted s
    d.rb R.PVW_STATUS 0 = true ∧ d.rb R.PVW_STATUS 1 = false ∧
      d.pvw = { s.pvw with used := pvwSnapshot s, pending := none, frameEnd := s.clock, teLast := s.clock } ∧
      s.keepsRegs d [R.PVW_STATUS, R.PVW_LINE_NS] ∧ d.evt = s.evt := by
  have status : (portStarted s).reg R.PVW_STATUS = ((s.setB R.PVW_STATUS 0 true).setB R.PVW_STATUS 1 false).reg R.PVW_STATUS :=
    Device.reg_setReg_other _ _ (by decide)
  refine ⟨?_, ?_, by rw [portStarted, Device.setN_pvw, Device.setB_pvw, Device.setB_pvw, Device.setPvw_pvw], ?_,
    by rw [portStarted, Device.setN_evt, Device.setB_evt, Device.setB_evt, Device.setPvw_evt]⟩
  · rw [Device.rb_of_reg status, Device.rb_setB_otherBit _ _ _ false (by decide) (by decide), Device.rb_setB_same _ _ true (by decide)]
  · rw [Device.rb_of_reg status, Device.rb_setB_same _ _ false (by decide)]
  · unfold portStarted
    iterate 3 refine Device.keepsRegs_setReg ?_ _ _ (by simp)
    exact Device.keepsRegs_refl _ rfl

/-- EN set with a good configuration: the write is stored, and the port starts. -/
theorem pvwEnable_effect {s : Device} {w : Who} {v : Word} (ok : writeCode s w R.PVW_CTRL v (pvwHandler w R.PVW_CTRL v) = .ok)
    (en : wbit v 0 = true) : let d := regWrite s w R.PVW_CTRL v (pvwHandler w R.PVW_CTRL v)
    s.tookWrite d R.PVW_CTRL v ∧ d.rb R.PVW_STATUS 0 = true ∧ d.rb R.PVW_STATUS 1 = false ∧
      d.pvw = { s.pvw with used := pvwSnapshot s, pending := none, frameEnd := s.clock, teLast := s.clock } ∧
      s.keepsRegs d [R.PVW_CTRL, R.PVW_STATUS, R.PVW_LINE_NS] ∧ s.newEvents d [] := by
  obtain ⟨d, sent, effect, written⟩ := regWrite_effect ok
  obtain ⟨took, keeps, pvw, evt, clock⟩ := storeWrite_beside (w := w) (off := R.PVW_CTRL) (v := v) (s.answer .ok) (by decide)
  have started := portStarted_effect (storeWrite w R.PVW_CTRL v (s.answer .ok))
  rw [← pvwHandler_enables w en, effect] at started
  rw [written]
  generalize storeWrite w R.PVW_CTRL v (s.answer .ok) = t at took keeps pvw evt clock started
  obtain ⟨runs, teSeen, state, beside, quiet⟩ := started
  obtain ⟨stored, kept⟩ := tookWrite_besideAll took keeps beside (by decide)
  have apart : ∀ o ∈ pvwStaged, o ∉ [R.PVW_CTRL] := by decide
  have staged : pvwSnapshot t = pvwSnapshot s := pvwSnapshot_congr fun o ho => keeps o (apart o ho)
  rw [pvw, clock, staged] at state
  exact ⟨stored, runs, teSeen, state, kept, Device.newEvents_none (quiet.trans evt)⟩

/-- No register shows the preview, a black frame or staged registers that wait. -/
def portUnshown (s : Device) : Device :=
  (((s.setB R.PVW_STATUS 0 false).setB R.PVW_STATUS 3 false).setB R.PVW_STATUS 4 false).setB R.PVW_APPLY 0 false

theorem portUnshown_effect (s : Device) : let d := portUnshown s
    d.rb R.PVW_STATUS 0 = false ∧ d.rb R.PVW_STATUS 3 = false ∧ d.rb R.PVW_STATUS 4 = false ∧ d.rb R.PVW_APPLY 0 = false ∧
      s.keepsRegs d [R.PVW_STATUS, R.PVW_APPLY] := by
  have status : (portUnshown s).reg R.PVW_STATUS =
      (((s.setB R.PVW_STATUS 0 false).setB R.PVW_STATUS 3 false).setB R.PVW_STATUS 4 false).reg R.PVW_STATUS :=
    Device.reg_setReg_other _ _ (by decide)
  refine ⟨?_, ?_, ?_, Device.rb_setB_same _ _ false (by decide), ?_⟩
  · simp [Device.rb_of_reg status, Device.rb_setB]
  · simp [Device.rb_of_reg status, Device.rb_setB]
  · simp [Device.rb_of_reg status, Device.rb_setB]
  · unfold portUnshown
    iterate 4 refine Device.keepsRegs_setReg ?_ _ _ (by simp)
    exact Device.keepsRegs_refl _ rfl

/-- The preview has ended: the staged registers that wait are given up, the lanes rest, and a packet that waits leaves. -/
def portStopped (s : Device) : Device :=
  pvwSendPacket (pvwLanesIdle (portUnshown (s.setPvw { s.pvw with pending := none, frameEnd := s.clock })))

theorem pvwHandler_disables {v : Word} {s : Device} (w : Who) (off : wbit v 0 = false) (was : s.rb R.PVW_CTRL 0 = true) :
    (pvwHandler w R.PVW_CTRL v).effect s = portStopped (storeWrite w R.PVW_CTRL v s) :=
  (if_neg (by rw [off]; decide)).trans (if_pos was)

theorem portStopped_effect (s : Device) : let d := portStopped s
    d.rb R.PVW_STATUS 0 = false ∧ d.rb R.PVW_STATUS 3 = false ∧ d.rb R.PVW_STATUS 4 = false ∧ d.rb R.PVW_APPLY 0 = false ∧
      d.pvw = { s.pvw with pending := none, frameEnd := s.clock, packet := none } ∧ s.keepsRegs d [R.PVW_STATUS, R.PVW_APPLY] := by
  obtain ⟨runs, black, waits, apply, keeps⟩ := portUnshown_effect (s.setPvw { s.pvw with pending := none, frameEnd := s.clock })
  have regs : (portStopped s).regs = (portUnshown (s.setPvw { s.pvw with pending := none, frameEnd := s.clock })).regs := pvwSendPacket_regs _
  have bit (o i : Nat) := Device.rb_of_reg (Device.reg_congr regs o) i
  exact ⟨(bit _ _).trans runs, (bit _ _).trans black, (bit _ _).trans waits, (bit _ _).trans apply, pvwSendPacket_pvw _,
    Device.keepsRegs_congr keeps regs⟩

/-- EN cleared while it was set: the write is stored, and the preview ends. -/
theorem pvwDisable_effect {s : Device} {w : Who} {v : Word} (ok : writeCode s w R.PVW_CTRL v (pvwHandler w R.PVW_CTRL v) = .ok)
    (off : wbit v 0 = false) (was : s.rb R.PVW_CTRL 0 = true) : let d := regWrite s w R.PVW_CTRL v (pvwHandler w R.PVW_CTRL v)
    s.tookWrite d R.PVW_CTRL v ∧ d.rb R.PVW_STATUS 0 = false ∧ d.rb R.PVW_STATUS 3 = false ∧ d.rb R.PVW_STATUS 4 = false ∧
      d.rb R.PVW_APPLY 0 = false ∧ d.pvw = { s.pvw with pending := none, frameEnd := s.clock, packet := none } ∧
      s.keepsRegs d [R.PVW_CTRL, R.PVW_STATUS, R.PVW_APPLY] := by
  obtain ⟨d, sent, effect, written⟩ := regWrite_effect ok
  obtain ⟨took, keeps, pvw, -, clock⟩ := storeWrite_beside (w := w) (off := R.PVW_CTRL) (v := v) (s.answer .ok) (by decide)
  have stopped := portStopped_effect (storeWrite w R.PVW_CTRL v (s.answer .ok))
  rw [← pvwHandler_disables (s := s.answer .ok) w off was, effect] at stopped
  rw [written]
  generalize storeWrite w R.PVW_CTRL v (s.answer .ok) = t at took keeps pvw clock stopped
  obtain ⟨runs, black, waits, apply, state, beside⟩ := stopped
  obtain ⟨stored, kept⟩ := tookWrite_besideAll took keeps beside (by decide)
  rw [pvw, clock] at state
  exact ⟨stored, runs, black, waits, apply, state, kept⟩

/-! ### PVW_APPLY (R321) -/

/-- The staged registers wait, which PVW_APPLY and PVW_STATUS show. -/
def stagedWait (s : Device) : Device :=
  ((s.setPvw { s.pvw with pending := some (pvwSnapshot s) }).setB R.PVW_APPLY 0 true).setB R.PVW_STATUS 4 true

theorem stagedWait_effect (s : Device) : let d := stagedWait s
    d.pvw = { s.pvw with pending := some (pvwSnapshot s) } ∧ d.rb R.PVW_APPLY 0 = true ∧ d.rb R.PVW_STATUS 4 = true ∧
      s.keepsRegs d [R.PVW_APPLY, R.PVW_STATUS] := by
  unfold stagedWait
  refine ⟨by rw [Device.setB_pvw, Device.setB_pvw, Device.setPvw_pvw], ?_, Device.rb_setB_same _ _ true (by decide), ?_⟩
  · exact (Device.rb_setB_otherBit _ _ _ true (by decide) (by decide)).trans (Device.rb_setB_same _ _ true (by decide))
  · exact Device.keepsRegs_setReg (Device.keepsRegs_setReg (Device.keepsRegs_refl _ rfl) _ _ (by simp)) _ _ (by simp)

section Apply

variable {s : Device} {w : Who} {v : Word} (ok : writeCode s w R.PVW_APPLY v (pvwHandler w R.PVW_APPLY v) = .ok) (apply : wbit v 0 = true)
include ok apply

/-- While the port is off the staged registers are used at once. -/
theorem pvwApply_off (stopped : pvwRuns s = false) : let d := regWrite s w R.PVW_APPLY v (pvwHandler w R.PVW_APPLY v)
    d.pvw = { s.pvw with used := pvwSnapshot s } ∧ s.keepsRegs d [] := by
  have uses : (pvwHandler w R.PVW_APPLY v).effect (s.answer .ok) = (s.answer .ok).setPvw { s.pvw with used := pvwSnapshot s } :=
    (if_neg (by rw [apply]; decide)).trans (if_pos (by rw [pvwRuns_of_regs (Device.answer_regs ..), stopped]; rfl))
  obtain ⟨d, sent, effect, written⟩ := regWrite_effect ok
  rw [written, ← effect, uses]
  exact ⟨rfl, Device.keepsRegs_refl _ rfl⟩

/-- While the port runs they wait for its next frame. -/
theorem pvwApply_runs (runs : pvwRuns s = true) : let d := regWrite s w R.PVW_APPLY v (pvwHandler w R.PVW_APPLY v)
    d.pvw = { s.pvw with pending := some (pvwSnapshot s) } ∧ d.rb R.PVW_APPLY 0 = true ∧ d.rb R.PVW_STATUS 4 = true ∧
      s.keepsRegs d [R.PVW_APPLY, R.PVW_STATUS] := by
  have waits : (pvwHandler w R.PVW_APPLY v).effect (s.answer .ok) = stagedWait (s.answer .ok) :=
    (if_neg (by rw [apply]; decide)).trans (if_neg (by rw [pvwRuns_of_regs (Device.answer_regs ..), runs]; decide))
  obtain ⟨d, sent, effect, written⟩ := regWrite_effect ok
  have staged := stagedWait_effect (s.answer .ok)
  rw [← waits, effect] at staged
  rw [written]
  exact staged

end Apply

/-! ### Underruns (R324) -/

theorem pvwUnderrun_runs {s : Device} (runs : pvwRuns s = true) : let d := pvwUnderrun s
    d.reg R.PVW_UNDERRUN = satInc (s.reg R.PVW_UNDERRUN) 1 ∧ s.keepsRegs d [R.PVW_UNDERRUN] ∧ s.newEvents d [(Ev.PVW_UNDERRUN, 0)] := by
  have counts : pvwUnderrun s = (s.count R.PVW_UNDERRUN 1).raise Ev.PVW_UNDERRUN 0 := if_pos runs
  rw [counts]
  exact ⟨Device.reg_setReg_same .., Device.keepsRegs_setReg (Device.keepsRegs_refl _ rfl) _ _ (List.mem_singleton_self _),
    Device.newEvents_raise (Device.newEvents_none (Device.count_evt ..)) Ev.PVW_UNDERRUN 0⟩

theorem pvwUnderrun_off {s : Device} (stopped : pvwRuns s = false) : pvwUnderrun s = s := if_neg (by rw [stopped]; decide)

/-! ### Mailbox packets (R323) -/

/-- BUSY shows a packet, which waits. -/
def packetWaits (p : List Nat) (s : Device) : Device :=
  (s.setB R.PVW_CMD_CTRL 17 true).setPvw { (s.setB R.PVW_CMD_CTRL 17 true).pvw with packet := some p }

theorem packetWaits_effect (p : List Nat) (s : Device) : let d := packetWaits p s
    d.rb R.PVW_CMD_CTRL 17 = true ∧ d.pvw = { s.pvw with packet := some p } := by
  unfold packetWaits
  refine ⟨?_, by rw [Device.setPvw_pvw, Device.setB_pvw]⟩
  exact (Device.rb_of_reg (Device.reg_congr (Device.setPvw_regs ..) _) 17).trans (s.rb_setB_same _ true (by decide))

/-- While the port runs a packet waits for a frame's blanking; otherwise it leaves at once. -/
def packetQueued (p : List Nat) (s : Device) : Device :=
  if pvwRuns (packetWaits p s) then packetWaits p s else pvwSendPacket (packetWaits p s)

theorem packetQueued_effect (p : List Nat) (s : Device) : let d := packetQueued p s
    d.rb R.PVW_CMD_CTRL 17 = true ∧ d.pvw = { s.pvw with packet := d.pvw.packet } ∧ (pvwRuns d = true → d.pvw.packet = some p) ∧
      (pvwRuns d = false → d.pvw.packet = none) := by
  obtain ⟨busy, state⟩ := packetWaits_effect p s
  unfold packetQueued
  generalize packetWaits p s = t at busy state
  dsimp only
  split
  · next runs =>
    rw [state]
    exact ⟨busy, rfl, fun _ => rfl, fun stopped => absurd runs (by rw [stopped]; decide)⟩
  · next stopped =>
    have same := pvwSendPacket_regs t
    rw [pvwSendPacket_pvw, state]
    exact ⟨(Device.rb_of_reg (Device.reg_congr same _) 17).trans busy, rfl,
      fun runs => absurd ((pvwRuns_of_regs same).symm.trans runs) stopped, fun _ => rfl⟩

/-- GO reads the packet's bytes from the mailbox behind its type and direction. -/
theorem pvwHandler_go {v : Word} (w : Who) (go : wbit v 16 = true) (s : Device) : ∃ t bytes, t.pvw = s.pvw ∧
    (pvwHandler w R.PVW_CMD_CTRL v).effect s = packetQueued ([wfld v 5 0, b2n (wbit v 8)] ++ bytes) t := by
  have stored : ((storeWrite w R.PVW_CMD_CTRL v s).setB R.PVW_CMD_CTRL 16 false).pvw = s.pvw := by rw [Device.setB_pvw, storeWrite_eq]
  have handler : pvwHandler w R.PVW_CMD_CTRL v = pvwCmdHandler w v := rfl
  rw [handler]
  unfold pvwCmdHandler
  dsimp only
  rw [if_neg (by rw [go]; decide)]
  generalize (storeWrite w R.PVW_CMD_CTRL v s).setB R.PVW_CMD_CTRL 16 false = u at stored
  have read := (memRead_frame .pvw (pvwBox u) (u.rf R.PVW_CMD_LEN 10 0) u).pvw
  generalize memRead .pvw (pvwBox u) (u.rf R.PVW_CMD_LEN 10 0) u = answer at read
  obtain ⟨t, r⟩ := answer
  exact ⟨t, r.data.map (·.toNat), read.trans stored, rfl⟩

theorem pvwCmdGo_effect {s : Device} {w : Who} {v : Word} (ok : writeCode s w R.PVW_CMD_CTRL v (pvwHandler w R.PVW_CMD_CTRL v) = .ok)
    (go : wbit v 16 = true) : let d := regWrite s w R.PVW_CMD_CTRL v (pvwHandler w R.PVW_CMD_CTRL v)
    d.rb R.PVW_CMD_CTRL 17 = true ∧ d.pvw = { s.pvw with packet := d.pvw.packet } ∧
      (pvwRuns d = true → ∃ p, d.pvw.packet = some ([wfld v 5 0, b2n (wbit v 8)] ++ p)) ∧ (pvwRuns d = false → d.pvw.packet = none) := by
  obtain ⟨d, sent, effect, written⟩ := regWrite_effect ok
  obtain ⟨t, bytes, pvw, queues⟩ := pvwHandler_go w go (s.answer .ok)
  have queued := packetQueued_effect ([wfld v 5 0, b2n (wbit v 8)] ++ bytes) t
  rw [← queues, effect, pvw] at queued
  rw [written]
  obtain ⟨busy, state, waits, left⟩ := queued
  exact ⟨busy, state, fun runs => ⟨bytes, waits runs⟩, left⟩

/-! ### The end of a packet (R323) -/

theorem ofLe_lt (bs : List Byte) : ofLe bs < 256 ^ bs.length := by
  induction bs with
  | nil => exact Nat.one_pos
  | cons b bs ih =>
    have byte : b.toNat < 256 := b.isLt
    rw [ofLe, List.length_cons, Nat.pow_succ]
    omega

/-- A number of `n` bytes is below 256 to the power of `n`. -/
theorem leAt_lt (bs : List Byte) (i n : Nat) : leAt bs i n < 256 ^ n :=
  (ofLe_lt _).trans_le (Nat.pow_le_pow_right (by decide) (List.length_take_le ..))

theorem pvwCmdDone_idle {s : Device} (idle : s.rb R.PVW_CMD_CTRL 17 = false) (result : Byte) (response : List Byte) :
    pvwCmdDone result response s = s := if_pos (by rw [idle]; rfl)

/-- BUSY ends, and RESULT is shown. -/
def resultShown (result : Byte) (s : Device) : Device := (s.setB R.PVW_CMD_CTRL 17 false).setF R.PVW_CMD_CTRL 31 24 result.toNat

/-- A response is stored where the result is 0: a short one in PVW_CMD_RESP, a longer one in the mailbox. -/
def responseStored (result : Byte) (response : List Byte) (s : Device) : Device :=
  if result ≠ 0 || response.isEmpty then s
  else if response.length ≤ 4 then s.setN R.PVW_CMD_RESP (leAt response 0 4)
  else memStore .pvw (pvwBox s + 1024) response s

theorem pvwCmdDone_busy {s : Device} (busy : s.rb R.PVW_CMD_CTRL 17 = true) (result : Byte) (response : List Byte) :
    pvwCmdDone result response s =
      (responseStored result response (resultShown result (pvwSendPacket s))).raise Ev.PVW_CMD_DONE result.toNat :=
  if_neg (by rw [busy]; decide)

theorem resultShown_effect (result : Byte) (s : Device) : let d := resultShown result s
    d.rb R.PVW_CMD_CTRL 17 = false ∧ d.rf R.PVW_CMD_CTRL 31 24 = result.toNat := by
  refine ⟨?_, (Device.rf_setF_same _ _ _ _ _ (by decide) (by decide)).trans (Nat.mod_eq_of_lt result.isLt)⟩
  rw [resultShown, Device.rb_setF _ _ _ _ _ _ _ (by decide) (by decide), if_neg (by decide), Device.rb_setB_same _ _ false (by decide)]

/-- Storing a response is nothing, one register or a store of memory, none of which the port's state is part of. -/
theorem responseStored_pvw (result : Byte) (response : List Byte) (s : Device) : (responseStored result response s).pvw = s.pvw := by
  unfold responseStored
  split_ifs
  · rfl
  · rfl
  · exact (memStore_frame ..).pvw

/-- A response of at most four bytes, if it is stored at all, is in PVW_CMD_RESP alone. -/
theorem responseStored_short {result : Byte} {response : List Byte} (short : result ≠ 0 ∨ response.length ≤ 4) (s : Device) :
    let d := responseStored result response s
    d.mem = s.mem ∧ s.keepsRegs d [R.PVW_CMD_RESP] ∧ (result = 0 → response ≠ [] → d.rn R.PVW_CMD_RESP = leAt response 0 4) := by
  by_cases ignored : result ≠ 0 ∨ response = []
  · have unstored : responseStored result response s = s := if_pos (by simpa using ignored)
    rw [unstored]
    exact ⟨rfl, Device.keepsRegs_refl _ rfl, fun good given => absurd ignored (by simp [good, given])⟩
  · obtain ⟨good, -⟩ : result = 0 ∧ response ≠ [] := by simpa using ignored
    have stored : responseStored result response s = s.setN R.PVW_CMD_RESP (leAt response 0 4) :=
      (if_neg (by simpa using ignored)).trans (if_pos (short.resolve_left (not_not.mpr good)))
    rw [stored]
    refine ⟨rfl, Device.keepsRegs_setReg (Device.keepsRegs_refl _ rfl) _ _ (List.mem_singleton_self _), fun _ _ => ?_⟩
    rw [Device.rn_setN, if_pos rfl]
    exact Nat.mod_eq_of_lt (leAt_lt response 0 4)

theorem pvwCmdDone_effect {s : Device} (busy : s.rb R.PVW_CMD_CTRL 17 = true) (result : Byte) (response : List Byte) :
    let d := pvwCmdDone result response s
    d.pvw = { s.pvw with packet := none } ∧ (∃ e ∈ d.evt.raised, e.ev = Ev.PVW_CMD_DONE ∧ e.payload = result.toNat) ∧
      (result ≠ 0 ∨ response.length ≤ 4 → d.rb R.PVW_CMD_CTRL 17 = false ∧ d.rf R.PVW_CMD_CTRL 31 24 = result.toNat ∧ d.mem = s.mem ∧
        (result = 0 → response ≠ [] → d.rn R.PVW_CMD_RESP = leAt response 0 4)) := by
  obtain ⟨ended, shown⟩ := resultShown_effect result (pvwSendPacket s)
  have mem : (resultShown result (pvwSendPacket s)).mem = s.mem := by rw [resultShown, Device.setF_mem, Device.setB_mem, pvwSendPacket_mem]
  have pvw : (resultShown result (pvwSendPacket s)).pvw = { s.pvw with packet := none } := by
    rw [resultShown, Device.setF_pvw, Device.setB_pvw, pvwSendPacket_pvw]
  have whole : result.toNat < 2 ^ 64 := result.isLt.trans (by decide)
  rw [pvwCmdDone_busy busy]
  generalize resultShown result (pvwSendPacket s) = t at ended shown mem pvw
  have state := responseStored_pvw result response t
  have stored (short : result ≠ 0 ∨ response.length ≤ 4) := responseStored_short short t
  generalize responseStored result response t = d at state stored
  refine ⟨state.trans pvw, ⟨_, List.mem_append_right _ (List.mem_singleton_self _), rfl, Nat.mod_eq_of_lt whole⟩, fun short => ?_⟩
  obtain ⟨same, keeps, answered⟩ := stored short
  have ctrl := keeps R.PVW_CMD_CTRL (by decide)
  exact ⟨(Device.rb_of_reg ctrl 17).trans ended, (Device.rf_of_reg ctrl 31 24).trans shown, same.trans mem, answered⟩

/-! ### The obligation -/

/-- Settles O48: each write is its register's store and what the port does after it; an underrun, and a packet's end, are what they store and tell. -/
theorem thePreviewPortIsCommanded : Obligations.ThePreviewPortIsCommanded := by
  intro s w v
  refine ⟨fun ok => ⟨fun en => runs_pvwWrite rfl (pvwEnable_effect ok en), fun off was => runs_pvwWrite rfl (pvwDisable_effect ok off was)⟩,
    fun ok apply => ⟨fun stopped => runs_pvwWrite rfl (pvwApply_off ok apply stopped), fun runs => runs_pvwWrite rfl (pvwApply_runs ok apply runs)⟩,
    fun runs => State.runs_of pvwUnderrun rfl (pvwUnderrun_runs runs),
    fun stopped => State.runs_of pvwUnderrun rfl (pvwUnderrun_off stopped),
    fun ok go => runs_pvwWrite rfl (pvwCmdGo_effect ok go),
    fun result response => ⟨fun idle => State.runs_of (pvwCmdDone result response) rfl (pvwCmdDone_idle idle result response),
      fun busy => State.runs_of (pvwCmdDone result response) rfl (pvwCmdDone_effect busy result response)⟩⟩

end Sys2Proof.Machine
end

section
/-! PROOFS. The upkeep of the memory (R339 to R341, R345 to R347): zero-fill, discards, the test unit, shares, the scrubber and the on-chip SRAMs. -/

namespace Sys2Proof.Machine

theorem Device.keepsRegs_mono {s t : Device} {l m : List Nat} (keeps : s.keepsRegs t l) (sub : l ⊆ m) : s.keepsRegs t m :=
  fun o other => keeps o fun h => other (sub h)

/-- A command that writes one of the memory's registers, when it is accepted, is the register's effect, but for what is sent of it (R398). -/
theorem runs_memWrite {s : State} {w : Who} {off : Nat} {v : Word} {c : Instr} {t : Device} {P : Device → Prop}
    (h : exec c s = s.onDevice fun d => .next (regWrite d w off v (memHandler w off v)))
    (ok : writeCode s.dev w off v (memHandler w off v) = .ok) (effect : (memHandler w off v).effect (s.dev.answer .ok) = t)
    (p : ∀ sent, P { t with sent := sent }) : s.runs c P := by
  refine State.runs_of (fun d => regWrite d w off v (memHandler w off v)) h ?_
  rw [regWrite_ok ok, forwardWrite_eq, effect]
  exact p _

/-! ### Zero-fill (R339) -/

/-- A fill of the named range at its front, which the registers show. -/
def fillStarted (s : Device) : Device :=
  let t := ((s.setN R.MEM_ZF_CTRL 3).setN R.MEM_ZF_POS 0).setB R.MEM_STATUS 1 true
  { t with mem := { t.mem with zeroFill := some { base := (zfRange t).1, size := (zfRange t).2, front := 0, start := t.clock } } }

theorem memHandler_fills {v : Word} (w : Who) (go : wbit v 0 = true) (s : Device) : (memHandler w R.MEM_ZF_CTRL v).effect s = fillStarted s :=
  if_pos go

/-- The fill's registers: what is shown of it, and the busy bit. -/
theorem fillRegs_effect (s : Device) (ctrl pos : Nat) (b : Bool) :
    let d := ((s.setN R.MEM_ZF_CTRL ctrl).setN R.MEM_ZF_POS pos).setB R.MEM_STATUS 1 b
    d.rn R.MEM_ZF_CTRL = ctrl % 2 ^ 32 ∧ d.rb R.MEM_STATUS 1 = b ∧ s.keepsRegs d [R.MEM_ZF_CTRL, R.MEM_ZF_POS, R.MEM_STATUS] := by
  dsimp only
  refine ⟨?_, Device.rb_setB_same _ _ b (by decide), ?_⟩
  · unfold Device.rn Device.setB Device.setN
    rw [Device.reg_setReg_other _ _ (by decide), Device.reg_setReg_other _ _ (by decide), Device.reg_setReg_same, BitVec.toNat_ofNat]
  · iterate 3 refine Device.keepsRegs_setReg ?_ _ _ (by simp)
    exact Device.keepsRegs_refl _ rfl

theorem zfRange_congr {s t : Device} (base : t.reg R.MEM_ZF_BASE = s.reg R.MEM_ZF_BASE) (size : t.reg R.MEM_ZF_SIZE = s.reg R.MEM_ZF_SIZE) :
    zfRange t = zfRange s := by
  unfold zfRange Device.rn
  rw [base, size]

theorem fillStarted_effect (s : Device) : let d := fillStarted s
    d.mem = { s.mem with zeroFill := some { base := (zfRange s).1, size := (zfRange s).2, front := 0, start := s.clock } } ∧
      d.rn R.MEM_ZF_CTRL = 3 ∧ d.rb R.MEM_STATUS 1 = true ∧ s.keepsRegs d [R.MEM_ZF_CTRL, R.MEM_ZF_POS, R.MEM_STATUS] := by
  obtain ⟨ctrl, busy, keeps⟩ := fillRegs_effect s 3 0 true
  refine ⟨?_, ctrl, busy, keeps⟩
  rw [← zfRange_congr (keeps R.MEM_ZF_BASE (by decide)) (keeps R.MEM_ZF_SIZE (by decide))]
  rfl

theorem zfDone_idle {s : Device} (idle : s.mem.zeroFill = none) : zfDone s = s := by
  unfold zfDone
  rw [idle]

/-- At 40 bytes per nanosecond a fill of whole pages has passed its range by the time R339 gives it. -/
theorem fillReached_end {s : Device} {z : ZeroFill} (pages : z.size % 4096 = 0) (passed : z.start + cdiv z.size 40 ≤ s.clock) :
    z.size ≤ fillReached s z := by
  unfold fillReached
  unfold cdiv at passed
  rw [if_neg (by decide)] at passed
  omega

/-- A word that was written and holds zeros reads as zeros, whether its granule is valid or not. -/
theorem readByte_zero {s : Device} {x : Nat} (known : s.mem.isKnown x = true) (cell : s.mem.cells.getD 0 x = 0) : readByte s x = 0 := by
  unfold readByte heldByte
  rw [known, if_pos rfl, cell, ite_self]

/-- What the front of a fill passes holds zeros. -/
theorem fillFront_zeros {s : Device} {z : ZeroFill} {x : Nat} (fills : s.mem.zeroFill = some z) (ahead : z.base + z.front ≤ x)
    (passed : x < z.base + fillReached s z) : (fillFront s).mem.isKnown x = true ∧ (fillFront s).mem.cells.getD 0 x = 0 := by
  unfold fillFront
  rw [fills]
  dsimp only
  rw [if_neg (by omega)]
  constructor
  · unfold MemState.isKnown
    rw [List.any_cons, decide_eq_true ahead, decide_eq_true (by omega)]
    simp
  · exact (MemState.cells_clear ..).trans (if_pos ⟨ahead, by omega⟩)

theorem fillFront_regs (s : Device) : (fillFront s).regs = s.regs := by
  unfold fillFront
  split
  · rfl
  · dsimp only
    split_ifs <;> rfl

/-- The end of a fill: its front passes the rest of its range, no fill is under way, and that is told. -/
theorem zfDone_effect {s : Device} {z : ZeroFill} (fills : s.mem.zeroFill = some z) (pages : z.size % 4096 = 0) : let d := zfDone s
    d.mem.zeroFill = none ∧ (∀ i, z.front ≤ i → i < z.size → readByte d (z.base + i) = 0) ∧ d.rb R.MEM_STATUS 1 = false ∧
      d.rn R.MEM_ZF_CTRL = 0 ∧ s.keepsRegs d [R.MEM_ZF_CTRL, R.MEM_ZF_POS, R.MEM_STATUS] ∧ d.clock = max s.clock (z.start + cdiv z.size 40) ∧
      ∃ e ∈ d.evt.raised, e.ev = Ev.ZERO_FILL_DONE := by
  unfold zfDone
  rw [fills]
  dsimp only
  generalize late : s.elapseTo (z.start + cdiv z.size 40) = t
  have still : t.mem.zeroFill = some z := by rw [← late, Device.elapseTo_mem, fills]
  have clock : t.clock = max s.clock (z.start + cdiv z.size 40) := by rw [← late, Device.elapseTo_clock]
  have regs : (fillFront t).regs = s.regs := by rw [fillFront_regs, ← late, Device.elapseTo_regs]
  have time : (fillFront t).clock = t.clock := by rw [(fillFront_frame t).1]
  have whole : z.size ≤ fillReached t z := fillReached_end pages (by omega)
  have passes (x : Nat) := fillFront_zeros (x := x) still
  generalize fillFront t = u at regs passes time
  obtain ⟨ctrl, busy, keeps⟩ := fillRegs_effect { u with mem := { u.mem with zeroFill := none } } 0 (z.size / 4096) false
  refine ⟨rfl, fun i ahead inside => ?_, busy, ctrl, fun o other => (keeps o other).trans (Device.reg_congr regs o), time.trans clock,
    _, List.mem_append_right _ (List.mem_singleton_self _), rfl⟩
  obtain ⟨known, cell⟩ := passes (z.base + i) (by omega) (by omega)
  exact readByte_zero known cell

/-! ### Discards (R340) -/

theorem discardFronts_regs (s : Device) : (discardFronts s).regs = s.regs := by
  refine Device.each_keeps s (·.regs) _ _ fun t p _ => ?_
  dsimp only
  split_ifs <;> rfl

theorem syncFronts_regs (s : Device) : (syncFronts s).regs = s.regs := (discardFronts_regs _).trans (fillFront_regs s)

theorem discardEnd_idle {s : Device} {r : Nat} (idle : s.mem.discards.find r = none) : discardEnd r s = s := by
  unfold discardEnd
  rw [idle]

theorem discardEnd_effect (r : Nat) (s : Device) : let d := discardEnd r s
    d.mem.discards.find r = none ∧ s.keepsRegs d [R.MEM_Rr_CMD r] ∧ d.kpr = s.kpr := by
  cases runs : s.mem.discards.find r with
  | none =>
    rw [discardEnd_idle runs]
    exact ⟨runs, Device.keepsRegs_refl _ rfl, rfl⟩
  | some p =>
    unfold discardEnd
    rw [runs]
    dsimp only
    generalize hdue : s.elapseTo _ = t
    have regs : (syncFronts t).regs = s.regs := by rw [syncFronts_regs, ← hdue, Device.elapseTo_regs]
    have kpr : (syncFronts t).kpr = s.kpr := by rw [(syncFronts_frame t).1, ← hdue, Device.elapseTo_kpr]
    refine ⟨(Table.find_del ..).trans (if_pos rfl), ?_, kpr⟩
    exact Device.keepsRegs_setReg (Device.keepsRegs_refl _ regs) _ _ (List.mem_singleton_self _)

/-! ### The test unit (R347) -/

theorem memHandler_test (w : Who) (v : Word) {s : Device} (noFill : s.mem.zeroFill = none) (noDiscard : s.mem.discards = []) :
    (memHandler w R.MEM_TEST_CMD v).effect s =
      let t := if wbit v 0 then rawWrite s else s
      if wbit v 1 then rawRead t else t := by
  change (testHandler v).effect s = _
  simp only [testHandler, syncFronts_idle noFill noDiscard]

theorem memHandler_reads (w : Who) {v : Word} {s : Device} (noFill : s.mem.zeroFill = none) (noDiscard : s.mem.discards = [])
    (noWrite : wbit v 0 = false) (read : wbit v 1 = true) : (memHandler w R.MEM_TEST_CMD v).effect s = rawRead s := by
  rw [memHandler_test w v noFill noDiscard, noWrite, read]
  rfl

theorem memHandler_writes (w : Who) {v : Word} {s : Device} (noFill : s.mem.zeroFill = none) (noDiscard : s.mem.discards = [])
    (write : wbit v 0 = true) (noRead : wbit v 1 = false) : (memHandler w R.MEM_TEST_CMD v).effect s = rawWrite s := by
  rw [memHandler_test w v noFill noDiscard, write, noRead]
  rfl

/-- The test registers after their first `n` were stored. -/
theorem rn_storedTestData (s : Device) (g : Nat → Nat) {n j : Nat} (stored : j < n) :
    (s.each (upto n) fun t i => t.setN (R.MEM_TEST_DATAj i) (g i)).rn (R.MEM_TEST_DATAj j) = g j % 2 ^ 32 := by
  induction n with
  | zero => exact absurd stored (Nat.not_lt_zero j)
  | succ n ih =>
    unfold Device.each upto at *
    rw [List.range_succ, List.foldl_append, List.foldl_cons, List.foldl_nil, Device.rn_setN]
    by_cases last : j = n
    · rw [last, if_pos rfl]
    · rw [if_neg (by unfold R.MEM_TEST_DATAj; omega), ih (by omega)]

theorem rawRead_effect (s : Device) : let d := rawRead s
    d.mem = s.mem ∧ ∀ j, j < 8 → d.rn (R.MEM_TEST_DATAj j) = leAt (peek s (testUnit s) 32) (4 * j) 4 % 2 ^ 32 := by
  unfold rawRead
  dsimp only
  refine ⟨Device.each_keeps s (·.mem) _ _ fun _ _ _ => rfl, fun j inside => ?_⟩
  rw [Device.rn_setN, if_neg (by unfold R.MEM_TEST_DATAj R.MEM_TEST_CHECK; omega)]
  exact rn_storedTestData s (fun i => leAt (peek s (testUnit s) 32) (4 * i) 4) inside

/-- Check bits are conditions beside the bytes. -/
theorem setConds_beside (l : List Nat) (off : Nat → Nat) (c : Nat → CwState) (s : Device) :
    let d := s.each l fun t i => setCond (off i) (c i) t
    d.regs = s.regs ∧ d.mem.cells = s.mem.cells :=
  ⟨Device.each_keeps s (·.regs) _ _ fun _ _ _ => rfl, Device.each_keeps s (·.mem.cells) _ _ fun _ _ _ => rfl⟩

/-- WRITE_RAW stores the unit's bytes in its open granule. -/
theorem rawWrite_stores (s : Device) : (rawWrite s).regs = s.regs ∧
    (rawWrite s).mem.cells = ((openGranule (testUnit s) s).mem.store (testUnit s) (testData s)).cells := by
  have regs := (openGranule_fields (testUnit s) s).1
  unfold rawWrite
  dsimp only
  split
  · exact ⟨regs, rfl⟩
  · exact (setConds_beside _ _ _ _).imp (·.trans regs) id
  · exact (setConds_beside _ _ _ _).imp (·.trans regs) id

theorem length_testData (s : Device) : (testData s).length = 32 := by
  simp [testData, upto, List.range_succ, leBytes]

theorem rawWrite_effect (s : Device) : let d := rawWrite s
    s.keepsRegs d [] ∧ (∀ i, i < 32 → d.mem.cells.getD 0 (testUnit s + i) = (testData s).getD i 0) ∧
      (unwritten s (testUnit s) = false → ∀ x, x < testUnit s ∨ testUnit s + 32 ≤ x → d.mem.cells.getD 0 x = s.mem.cells.getD 0 x) := by
  obtain ⟨regs, cells⟩ := rawWrite_stores s
  have length := length_testData s
  have bytes := MemState.cells_store (openGranule (testUnit s) s).mem (testUnit s) (testData s)
  rw [← cells] at bytes
  refine ⟨Device.keepsRegs_refl _ regs, fun i inside => ?_, fun written x apart => ?_⟩
  · rw [bytes, dif_pos (by omega), List.getD_eq_getElem _ _ (by omega)]
    simp only [Nat.add_sub_cancel_left]
  · have opened : openGranule (testUnit s) s = s := if_neg (by rw [written]; decide)
    rw [bytes, dif_neg (by omega), opened]

/-! ### Shares (R345) -/

/-- Whether a share that falls short is told: a second has passed since the last that was. -/
def shortDue (s : Device) : Bool := s.mem.lastShort.all fun t => decide (t + 1000000000 ≤ s.clock)

/-- A share that falls short is counted, and told when that is due. -/
def shareShort (s : Device) : Device :=
  let t := s.count R.MEM_SHARE_SHORT_CNT 1
  if shortDue s then ({ t with mem := { t.mem with lastShort := some t.clock } }).raise Ev.MEM_SHARE_SHORT 0 else t

theorem exec_memShareShort (s : State) : exec .memShareShort s = s.onDevice fun d => .next (shareShort d) := by
  change execMemShareShort s = _
  refine congrArg s.onDevice (funext fun d => ?_)
  refine congrArg Host.Outcome.next (if_congr ?_ rfl rfl)
  rw [Device.count_mem, Device.count_clock, shortDue]
  cases d.mem.lastShort with
  | none => exact Iff.rfl
  | some t => rw [Option.all_some]

theorem shareShort_early {s : Device} (early : ∃ t, s.mem.lastShort = some t ∧ s.clock < t + 1000000000) :
    shareShort s = s.count R.MEM_SHARE_SHORT_CNT 1 := by
  obtain ⟨t, last, early⟩ := early
  have untold : shortDue s = false := by
    rw [shortDue, last, Option.all_some, decide_eq_false (not_le.mpr early)]
  exact if_neg (by rw [untold]; decide)

theorem shareShort_due {s : Device} (due : ∀ t, s.mem.lastShort = some t → t + 1000000000 ≤ s.clock) : shareShort s =
    ({ s.count R.MEM_SHARE_SHORT_CNT 1 with mem := { s.mem with lastShort := some s.clock } } : Device).raise Ev.MEM_SHARE_SHORT 0 := by
  have told : shortDue s = true := by
    unfold shortDue
    cases last : s.mem.lastShort with
    | none => rfl
    | some t => rw [Option.all_some, decide_eq_true (due t last)]
  exact if_pos told

theorem shareShort_regs (s : Device) : (shareShort s).regs = (s.count R.MEM_SHARE_SHORT_CNT 1).regs := by
  unfold shareShort
  dsimp only
  split <;> rfl

theorem shareShort_effect (s : Device) : let d := shareShort s
    d.reg R.MEM_SHARE_SHORT_CNT = satInc (s.reg R.MEM_SHARE_SHORT_CNT) 1 ∧ s.keepsRegs d [R.MEM_SHARE_SHORT_CNT] ∧
      ((∃ t, s.mem.lastShort = some t ∧ s.clock < t + 1000000000) → s.newEvents d [] ∧ d.mem = s.mem) ∧
      ((∀ t, s.mem.lastShort = some t → t + 1000000000 ≤ s.clock) →
        s.newEvents d [(Ev.MEM_SHARE_SHORT, 0)] ∧ d.mem = { s.mem with lastShort := some s.clock }) := by
  have counted := shareShort_regs s
  refine ⟨(Device.reg_congr counted _).trans (Device.reg_setReg_same ..), ?_, fun early => ?_, fun due => ?_⟩
  · exact Device.keepsRegs_congr (Device.keepsRegs_setReg (Device.keepsRegs_refl _ rfl) _ _ (List.mem_singleton_self _)) counted
  · rw [shareShort_early early]
    exact ⟨Device.newEvents_none rfl, rfl⟩
  · rw [shareShort_due due]
    exact ⟨Device.newEvents_raise (Device.newEvents_none rfl) Ev.MEM_SHARE_SHORT 0, rfl⟩

/-! ### The scrubber (R341) -/

/-- Where the regions lie depends on the region table's registers alone. -/
theorem regionOf_table {s t : Device} (carve : t.reg R.MEM_CARVE_BASE = s.reg R.MEM_CARVE_BASE)
    (base : ∀ r, t.reg (R.MEM_Rr_BASE r) = s.reg (R.MEM_Rr_BASE r)) (size : ∀ r, t.reg (R.MEM_Rr_SIZE r) = s.reg (R.MEM_Rr_SIZE r))
    (cfg : ∀ r, t.reg (R.MEM_Rr_CFG r) = s.reg (R.MEM_Rr_CFG r)) (x : Nat) : regionOf t x = regionOf s x := by
  unfold regionOf carveBase regionOn regionBase regionSize Device.rf Device.rb Device.rn
  simp only [carve, base, size, cfg]

/-- With the region table and the conditions of the codewords as before, no ageing accumulator is restored. -/
theorem recoverAges_scrubbed {s t : Device} (keeps : s.keepsRegs t [R.MEM_SCRUB_POS, R.MEM_SCRUB_PASSES]) (cond : t.mem.cond = s.mem.cond) :
    recoverAges s t = t := by
  have cfg (r : Nat) : t.reg (R.MEM_Rr_CFG r) = s.reg (R.MEM_Rr_CFG r) := keeps _ (by simp [R.MEM_Rr_CFG, R.MEM_SCRUB_POS, R.MEM_SCRUB_PASSES]; omega)
  have region := regionOf_table (s := s) (t := t) (keeps _ (by decide))
    (fun r => keeps _ (by simp [R.MEM_Rr_BASE, R.MEM_SCRUB_POS, R.MEM_SCRUB_PASSES]; omega))
    (fun r => keeps _ (by simp [R.MEM_Rr_SIZE, R.MEM_SCRUB_POS, R.MEM_SCRUB_PASSES]; omega)) cfg
  have ages : poisonedAges t = poisonedAges s := by
    unfold poisonedAges Device.rf Device.rn
    simp only [cond, region, cfg]
  refine if_neg ?_
  simp [ages]

theorem scrubStep_off {s : Device} (off : s.rb R.MEM_CTRL 0 = false) (u : Upset) (raced : Bool) : scrubStep u raced s = s :=
  if_pos (by rw [off]; rfl)

theorem scrubOne_good {s : Device} {r off : Nat} {u : Upset} (good : readsGood s r off u) (raced : Bool) : scrubOne r off u raced s = s := by
  unfold scrubOne
  dsimp only
  split
  case isTrue => rfl
  case isFalse closed => rw [good.resolve_left closed]

/-- How a codeword reads does not depend on the time. -/
theorem readsGood_elapseTo {s : Device} {r off : Nat} {u : Upset} (good : readsGood s r off u) (t : Nat) : readsGood (s.elapseTo t) r off u := by
  rw [elapseTo_eq]
  exact good

/-- A codeword that is handled at its due time is shown in MEM_SCRUB_POS. -/
def scrubShown (r off due : Nat) (s : Device) : Device := (s.elapseTo due).setN R.MEM_SCRUB_POS (off / 4096 + 2 ^ 24 * r)

theorem scrubShown_effect (r off due : Nat) (s : Device) : let d := scrubShown r off due s
    d.rn R.MEM_SCRUB_POS = (off / 4096 + 2 ^ 24 * r) % 2 ^ 32 ∧ s.keepsRegs d [R.MEM_SCRUB_POS] ∧ d.evt = s.evt ∧ d.mem = s.mem := by
  unfold scrubShown
  exact ⟨(Device.rn_setN ..).trans (if_pos rfl),
    Device.keepsRegs_setReg (Device.keepsRegs_refl _ (Device.elapseTo_regs ..)) _ _ (List.mem_singleton_self _),
    (Device.setN_evt ..).trans (Device.elapseTo_evt ..), (Device.setN_mem ..).trans (Device.elapseTo_mem ..)⟩

/-- The scrubber moves on to a position. -/
def scrubMoved (next : Nat) (s : Device) : Device := { s with mem := { s.mem with scrubPos := next } }

/-- The pass ends, and the next one begins now. -/
def scrubPassEnded (r off : Nat) (s : Device) : Device :=
  (({ s with mem := { s.mem with scrubPos := 0, scrubFrom := s.clock, scrubHours := s.rn R.MEM_SCRUB_PERIOD } } : Device).count
    R.MEM_SCRUB_PASSES 1).raise Ev.SCRUB_PASS_DONE (memPayload r off)

section Scrubs

variable {s : Device} {r off : Nat} {u : Upset} (on : s.rb R.MEM_CTRL 0 = true)
  (here : scrubAt s (scrubRegions s) s.mem.scrubPos = some (r, off)) (noFill : s.mem.zeroFill = none) (noDiscard : s.mem.discards = [])
  (good : readsGood s r off u)
include on here noFill noDiscard good

/-- A good codeword is passed over: the position moves on, or the pass ends. -/
theorem scrubStep_good (raced : Bool) : ∃ due, scrubStep u raced s =
    if s.mem.scrubPos + cwBytes (regionClass s r) < scrubTotal s then
      scrubMoved (s.mem.scrubPos + cwBytes (regionClass s r)) (scrubShown r off due s)
    else scrubPassEnded r off (scrubShown r off due s) := by
  refine ⟨s.mem.scrubFrom + s.mem.scrubHours * 3600000000000 * s.mem.scrubPos / max (scrubTotal s) 1, ?_⟩
  have cls (t : Nat) : regionClass (s.elapseTo t) r = regionClass s r := Device.rf_of_reg (Device.reg_elapseTo ..) 2 1
  unfold scrubStep
  rw [on, if_neg (by decide), here]
  dsimp only
  rw [syncFronts_idle (by rw [Device.elapseTo_mem, noFill]) (by rw [Device.elapseTo_mem, noDiscard]), scrubOne_good (readsGood_elapseTo good _), cls,
    Device.elapseTo_mem]
  rfl

theorem scrub_moves (raced : Bool) (more : s.mem.scrubPos + cwBytes (regionClass s r) < scrubTotal s) :
    let d := recoverAges s (scrubStep u raced s)
    d.mem = { s.mem with scrubPos := s.mem.scrubPos + cwBytes (regionClass s r) } ∧
      d.rn R.MEM_SCRUB_POS = (off / 4096 + 2 ^ 24 * r) % 2 ^ 32 ∧ s.keepsRegs d [R.MEM_SCRUB_POS] ∧ s.newEvents d [] := by
  obtain ⟨due, step⟩ := scrubStep_good on here noFill noDiscard good raced
  obtain ⟨shown, keeps, evt, mem⟩ := scrubShown_effect r off due s
  rw [if_pos more] at step
  generalize scrubShown r off due s = t at step shown keeps evt mem
  have kept : s.keepsRegs (scrubStep u raced s) [R.MEM_SCRUB_POS] := step ▸ keeps
  rw [recoverAges_scrubbed (Device.keepsRegs_mono kept (by simp)) (by rw [step]; exact congrArg (·.cond) mem), step, ← mem]
  exact ⟨rfl, shown, keeps, Device.newEvents_none evt⟩

theorem scrub_ends (raced : Bool) (last : scrubTotal s ≤ s.mem.scrubPos + cwBytes (regionClass s r)) :
    let d := recoverAges s (scrubStep u raced s)
    d.mem.scrubPos = 0 ∧ d.mem.scrubFrom = d.clock ∧ d.reg R.MEM_SCRUB_PASSES = satInc (s.reg R.MEM_SCRUB_PASSES) 1 ∧
      s.keepsRegs d [R.MEM_SCRUB_POS, R.MEM_SCRUB_PASSES] ∧ ∃ e ∈ d.evt.raised, e.ev = Ev.SCRUB_PASS_DONE := by
  obtain ⟨due, step⟩ := scrubStep_good on here noFill noDiscard good raced
  obtain ⟨-, keeps, -, mem⟩ := scrubShown_effect r off due s
  rw [if_neg (by omega)] at step
  generalize scrubShown r off due s = t at step keeps mem
  have kept : s.keepsRegs (scrubPassEnded r off t) [R.MEM_SCRUB_POS, R.MEM_SCRUB_PASSES] :=
    Device.keepsRegs_setReg (t := { t with mem := _ }) (Device.keepsRegs_mono keeps (by simp)) _ _ (by simp)
  rw [step, recoverAges_scrubbed kept (congrArg (·.cond) mem)]
  refine ⟨rfl, rfl, ?_, kept, _, List.mem_append_right _ (List.mem_singleton_self _), rfl⟩
  exact (Device.reg_setReg_same ..).trans (congrArg (satInc · 1) (keeps _ (by decide)))

end Scrubs

theorem runs_scrubCodeword {s : State} {u : Upset} {raced : Bool} {P : Device → Prop} (p : P (recoverAges s.dev (scrubStep u raced s.dev))) :
    s.runs (.scrubCodeword u raced) P :=
  State.runs_of (fun d => recoverAges d (scrubStep u raced d)) rfl p

/-! ### On-chip SRAMs (R346) -/

/-- The error is counted and told. -/
def sramTold (sram : Nat) (s : Device) : Device :=
  ((s.count R.MEM_SRAM_UNCORR 1).setN R.MEM_SRAM_LAST sram).raise Ev.SRAM_UNCORRECTABLE sram

theorem sramTold_effect {sram : Nat} (inside : sram < 8) (s : Device) : let d := sramTold sram s
    d.reg R.MEM_SRAM_UNCORR = satInc (s.reg R.MEM_SRAM_UNCORR) 1 ∧ d.rn R.MEM_SRAM_LAST = sram ∧
      s.keepsRegs d [R.MEM_SRAM_UNCORR, R.MEM_SRAM_LAST] ∧ ∃ e ∈ d.evt.raised, e.ev = Ev.SRAM_UNCORRECTABLE ∧ e.payload = sram := by
  refine ⟨(Device.reg_setReg_other _ _ (by decide)).trans (Device.reg_setReg_same ..), ?_, ?_,
    _, List.mem_append_right _ (List.mem_singleton_self _), rfl, Nat.mod_eq_of_lt (by omega)⟩
  · exact (Device.rn_setN ..).trans ((if_pos rfl).trans (Nat.mod_eq_of_lt (by omega)))
  · exact Device.keepsRegs_setReg (Device.keepsRegs_setReg (Device.keepsRegs_refl _ rfl) _ _ (by simp)) _ _ (by simp)

theorem fogRefresh_raised (s : Device) : s.evt.raised <+: (fogRefresh s).evt.raised := by
  unfold fogRefresh
  extract_lets src was stands low word t u
  have same : u.evt = t.evt := Device.when_keeps _ (·.evt) _ _ rfl
  split
  · exact List.prefix_rfl
  · rw [Device.raise_evt_raised, Device.send_evt, same]
    exact List.prefix_append _ _

/-- What a consumer does about the error takes back nothing that was told. -/
theorem sramError_raised (sram place : Nat) (s : Device) : (sramTold sram s).evt.raised <+: (sramError sram place s).evt.raised := by
  unfold sramError
  extract_lets t
  change t.evt.raised <+: _
  clear_value t
  split
  · split <;> exact List.prefix_rfl
  · exact ((updQueue_frame t _ _).trans (drainWaiting_frame _ _)).2
  · split <;> exact List.prefix_rfl
  · exact List.prefix_append _ _
  · exact List.prefix_rfl
  · exact List.prefix_rfl
  · exact fogRefresh_raised { t.send .safety [Ev.SRAM_UNCORRECTABLE, place] with hkp := { t.hkp with fogPair := true } }
  · exact (((QueFrame.refl t).count _ _).raiseIf _ _ _).2
  · exact List.prefix_rfl

/-- The L2's consumer is the next access to a dirty line that was lost. -/
theorem sramError_lines (place : Nat) (s : Device) : sramError 0 place s =
    if place % 2 = 1 then
      { sramTold 0 s with mem := { (sramTold 0 s).mem with lostLines := (sramTold 0 s).mem.lostLines ++ [place / 2] } }
    else sramTold 0 s := rfl

/-- The consumers of these SRAMs change no register. -/
theorem sramError_regs {sram : Nat} (silent : sram ∈ [0, 3, 4, 5]) (place : Nat) (s : Device) :
    (sramError sram place s).regs = (sramTold sram s).regs := by
  simp only [List.mem_cons, List.not_mem_nil, or_false] at silent
  rcases silent with rfl | rfl | rfl | rfl
  · rw [sramError_lines]
    split <;> rfl
  · rfl
  · rfl
  · rfl

theorem sramError_effect {sram : Nat} (inside : sram < 8) (place : Nat) (s : Device) : let d := sramError sram place s
    (∃ e ∈ d.evt.raised, e.ev = Ev.SRAM_UNCORRECTABLE ∧ e.payload = sram) ∧
      (sram ∈ [0, 3, 4, 5] → d.reg R.MEM_SRAM_UNCORR = satInc (s.reg R.MEM_SRAM_UNCORR) 1 ∧ d.rn R.MEM_SRAM_LAST = sram ∧
        s.keepsRegs d [R.MEM_SRAM_UNCORR, R.MEM_SRAM_LAST]) ∧
      (sram = 0 → place % 2 = 1 → d.mem.lostLines = s.mem.lostLines ++ [place / 2]) ∧
      (sram = 4 → d.cmp.lineBad = s.cmp.lineBad ++ [(place % 16, place / 16 % 16384, place / 262144)]) ∧
      (sram = 5 → d.pho.badNodes.getD false place = true) := by
  obtain ⟨counts, last, keeps, e, told, shows⟩ := sramTold_effect inside s
  refine ⟨⟨e, (sramError_raised sram place s).subset told, shows⟩, fun silent => ?_, ?_, ?_, ?_⟩
  · have same := sramError_regs silent place s
    exact ⟨(Device.reg_congr same _).trans counts, (congrArg BitVec.toNat (Device.reg_congr same _)).trans last, Device.keepsRegs_congr keeps same⟩
  · rintro rfl odd
    rw [sramError_lines, if_pos odd]
    rfl
  · rintro rfl
    rfl
  · rintro rfl
    exact (Table.getD_setD s.pho.badNodes false true place place).trans (if_pos rfl)

/-! ### The obligation -/

/-- Settles O45: each command is its effect on the device: a fill's front, a discard, the test unit, the scrub position, or an SRAM's consumer. -/
theorem memoryUpkeepRuns : Obligations.MemoryUpkeepRuns := by
  intro s w v
  refine ⟨fun ok go => runs_memWrite rfl ok (memHandler_fills w go _) fun _ => fillStarted_effect (s.dev.answer .ok),
    fun idle => State.runs_of zfDone rfl (zfDone_idle idle),
    fun z fills pages _ => State.runs_of zfDone rfl (zfDone_effect fills pages),
    fun r unit => State.runs_unit (fun _ => r < 32) (discardEnd r) rfl (decide_eq_true unit) (discardEnd_effect r s.dev),
    fun ok noFill noDiscard => ⟨fun noWrite read => ?_, fun write noRead => ?_⟩,
    State.runs_of shareShort (exec_memShareShort s) (shareShort_effect s.dev),
    fun u raced => ⟨fun off => ?_, fun r off on here noFill noDiscard good => ⟨fun more => ?_, fun last => ?_⟩⟩,
    fun sram place unit => State.runs_unit (fun _ => sram < 8) (sramError sram place) rfl (decide_eq_true unit) (sramError_effect unit place s.dev)⟩
  · exact runs_memWrite rfl ok (memHandler_reads w noFill noDiscard noWrite read) fun _ => rawRead_effect (s.dev.answer .ok)
  · exact runs_memWrite rfl ok (memHandler_writes w noFill noDiscard write noRead) fun _ => rawWrite_effect (s.dev.answer .ok)
  · exact runs_scrubCodeword (by rw [scrubStep_off off]; exact recoverAges_same rfl rfl)
  · exact runs_scrubCodeword (scrub_moves on here noFill noDiscard good raced more)
  · exact runs_scrubCodeword (scrub_ends on here noFill noDiscard good raced last)

end Sys2Proof.Machine
end

section
/-! SUPPORT. One event raised, and one register stored. -/

namespace Sys2Proof.Machine

theorem Device.newEvents_one {s t : Device} (same : t.evt = s.evt) (ev : Nat) {p : Nat} (fits : p < 2 ^ 64) : s.newEvents (t.raise ev p) [(ev, p)] := by
  have raised := Device.newEvents_raise (Device.newEvents_none same) ev p
  rwa [Nat.mod_eq_of_lt fits] at raised

theorem Device.raise_tells (s : Device) (ev p : Nat) : ∃ e ∈ (s.raise ev p).evt.raised, e.ev = ev ∧ e.payload = p % 2 ^ 64 :=
  ⟨_, List.mem_append_right _ (List.mem_singleton.mpr rfl), rfl, rfl⟩

/-- A store of one register leaves the others. -/
theorem Device.setReg_keeps (s : Device) (off : Nat) (v : Word) : s.keepsRegs (s.setReg off v) [off] :=
  Device.keepsRegs_setReg (Device.keepsRegs_refl _ rfl) off v (List.mem_singleton.mpr rfl)

end Sys2Proof.Machine
end

section
/-! PROOFS. The queue and the step: each command is one change of the device, under the condition that the unit it names exists. -/

namespace Sys2Proof.Machine

/-- Every command acts on the device alone, and answers a next state exactly when its unit exists: each arm is its own change. -/
theorem exec_onUnit (c : Instr) : ∃ f : Device → Device, ∀ s : State, exec c s = s.onDevice fun d => onUnit c.wellFormed (f d) := by
  cases c <;> simp only [exec] <;> exact ⟨_, fun _ => rfl⟩

theorem exec_completes {c : Instr} (unit : c.wellFormed = true) (s : State) : ∃ d, exec c s = .next { s with dev := d } := by
  obtain ⟨f, arm⟩ := exec_onUnit c
  exact ⟨f s.dev, by rw [arm, unit]; rfl⟩

theorem exec_noUnit {c : Instr} (none : c.wellFormed = false) (s : State) : exec c s = .fault .noSuchUnit := by
  obtain ⟨f, arm⟩ := exec_onUnit c
  rw [arm, none]; rfl

theorem step_cons {s : State} {c : Instr} {rest : List Instr} (waits : s.pending = c :: rest) : step s = exec c { s with pending := rest } := by
  unfold step; rw [waits]

theorem step_nil {s : State} (idle : s.pending = []) : step s = .next { s with dev := s.dev.elapse cycleNs } := by
  unfold step; rw [idle]

/-- A well-formed queue takes one step, which leaves its tail. -/
theorem step_takesFront {s : State} (wf : s.queueWf = true) : ∃ t, step s = .next t ∧ t.pending = s.pending.tail := by
  cases waits : s.pending with
  | nil => exact ⟨_, step_nil waits, waits⟩
  | cons c rest =>
    have unit : c.wellFormed = true := by
      unfold State.queueWf at wf
      rw [waits, List.all_cons, Bool.and_eq_true] at wf
      exact wf.1
    obtain ⟨d, runs⟩ := exec_completes unit { s with pending := rest }
    exact ⟨_, (step_cons waits).trans runs, rfl⟩

/-- Settles O1. -/
theorem stepRunsTheFrontCommand : Obligations.StepRunsTheFrontCommand := fun _ _ _ waits => step_cons waits

/-- Settles O3: nothing is listed at reset, in the memory's tables, in the register file or in the queue. -/
theorem resetIsSafe : Obligations.ResetIsSafe := ⟨rfl, rfl⟩

/-- Settles O4, by the one form that every arm of `exec` has. -/
theorem commandsCompleteExactlyOnExistingUnits : Obligations.CommandsCompleteExactlyOnExistingUnits :=
  fun _ s => ⟨fun unit => exec_completes unit s, fun none => exec_noUnit none s⟩

/-- Settles O5: the front command's unit exists, so it completes and leaves the rest, whose commands were all well-formed before. -/
theorem wellFormedQueueAlwaysAdvances : Obligations.WellFormedQueueAlwaysAdvances := by
  intro s wf
  obtain ⟨u, goes, rest⟩ := step_takesFront wf
  refine ⟨⟨u, goes⟩, fun t leads => ?_⟩
  obtain rfl : u = t := Host.Outcome.next.inj (goes.symm.trans leads)
  refine ⟨?_, rest⟩
  unfold State.queueWf at wf ⊢
  rw [rest, List.all_eq_true]
  exact fun c waits => List.all_eq_true.mp wf c (List.mem_of_mem_tail waits)

end Sys2Proof.Machine
end

section
/-! PROOFS. Latching reads (R369): the companions are latched for the reader that made the read, and for no other. -/

namespace Sys2Proof.Machine

/-- The registers whose latching reads have a statement here. -/
def latchingRegs : List Nat :=
  [R.CMP_DONE_FRAME_LO, R.PHO_DONE_FRAME_LO, R.PVW_CANVAS_FRAME_LO, R.RDG_DIVERGE_FRAME_LO, R.MEM_ERR_ADDR_LO, R.MTR_GAP_START_LO]

/-- No rule of a read comes before the companions' at these registers, whose companions lie in the map. -/
theorem latchingRegs_plain : ∀ off ∈ latchingRegs, addressCheck off = .ok ∧ agentsOnly off = false ∧ off ≠ R.SHOW_FRAME_LO ∧ off ≠ R.SHOW_TIME_LO ∧
    0x4C000 ≤ off ∧ oneRead off = false ∧ (companions off).isEmpty = false ∧ ∀ c ∈ companions off, c < 0x400000 := by
  decide

/-- Latches a value of each register of a list for one reader. -/
def Device.latchAll (s : Device) (w : Who) (l : List Nat) (value : Nat → Word) : Device := s.each l (fun t c => t.latch w c (value c))

theorem Device.latchAll_frame (s : Device) (w : Who) (l : List Nat) (value : Nat → Word) :
    s.latchAll w l value = { s with latches := (s.latchAll w l value).latches } := by
  induction l generalizing s with
  | nil => rfl
  | cons c l ih => exact ih (s.latch w c (value c))

/-- A key that none of the latched registers has keeps its value. -/
theorem Device.latchAll_other (s : Device) (w x : Who) (l : List Nat) (value : Nat → Word) (o : Nat)
    (apart : ∀ c ∈ l, bankKey (readerNo x) o ≠ bankKey (readerNo w) c) : (s.latchAll w l value).latched x o = s.latched x o := by
  refine s.each_keeps (·.latched x o) l _ fun t c latched => ?_
  rw [Device.latched_latch, if_neg (apart c latched)]

theorem Device.latchAll_mem (s : Device) (w : Who) (l : List Nat) (value : Nat → Word) {c : Nat} (hc : c ∈ l) :
    (s.latchAll w l value).latched w c = some (value c) := by
  induction l generalizing s with
  | nil => cases hc
  | cons a l ih =>
    by_cases later : c ∈ l
    · exact ih (s.latch w a (value a)) later
    · obtain rfl : c = a := (List.mem_cons.mp hc).resolve_right later
      refine ((s.latch w c (value c)).latchAll_other w w l value c fun b hb same => ?_).trans (s.latched_latch_same w c (value c))
      exact later ((bankKey_inj _ _ _).mp same ▸ hb)

/-- The keys of two readers lie apart. -/
theorem bankKey_readers {r q a b : Nat} (ha : a < 0x400000) (hb : b < 0x400000) (apart : r ≠ q) : bankKey r a ≠ bankKey q b := by
  unfold bankKey; omega

theorem readReg_latching {off : Nat} (s : Device) (w : Who) (latching : off ∈ latchingRegs) :
    readReg w off s = (s.latchAll w (companions off) (liveValue s w), .ok, liveValue s w off) := by
  obtain ⟨good, anyone, frame, time, pastNet, many, some, _⟩ := latchingRegs_plain off latching
  have noOctets : isOctetsLo off = false := by
    rw [Bool.eq_false_iff]
    intro octets
    obtain ⟨⟨_, below⟩, _⟩ := isOctetsLo_iff.mp octets
    omega
  have noTag : ¬ off < 0x4C000 := by omega
  unfold readReg
  cases w <;> simp [good, anyone, frame, time, noTag, noOctets, many, some, Device.latchAll]

/-- Settles O21: the command is the latching read, answered with the live value. -/
theorem latchingReadsKeepTheirCompanions : Obligations.LatchingReadsKeepTheirCompanions := by
  intro s w off latching
  obtain ⟨_, _, _, _, _, _, _, inMap⟩ := latchingRegs_plain off latching
  refine runs_readCommand (c := .latchingLoRead w off) (w := w) (off := off) (by simp [readCommands]) ?_
  rw [readReg_latching s.dev w latching]
  refine ⟨rfl, fun c hc => s.dev.latchAll_mem w _ _ hc, fun x o inside other => ?_, ?_⟩
  · exact s.dev.latchAll_other w x _ _ o fun c hc => bankKey_readers inside (inMap c hc) other
  · exact congrArg (Device.answerD · .ok [liveValue s.dev w off]) (s.dev.latchAll_frame w _ _)

end Sys2Proof.Machine
end

section
/-! PROOFS. Which messages a session's slot takes (R353 to R357, R360, R364): framing, tag and SEQ, and what an accepted message leaves. -/

namespace Sys2Proof.Machine

/-! ### The commands that carry a message of a session -/

/-- The messages of an open session, each with its type (R355). -/
def sessionCommands (m : Msg) : List (Instr × Nat) :=
  [(.closeSession m, 0x02), (.keepalive m, 0x03), (.msgRead m, 0x10), (.msgWrite m, 0x11), (.memRead m, 0x12), (.memWrite m, 0x13),
    (.keeperRequest m, 0x20), (.keeperWithdraw m, 0x21), (.keeperRelease m, 0x22), (.groupLoad m, 0x30), (.commitGroup m, 0x31), (.subscribe m, 0x40)]

/-- A request whose message the gate drops leaves what the gate leaves. -/
theorem request_dropped {type : Nat} {held : Bool} {m : Msg} {f : Nat → Device → Device × Code × List Byte} {s t : Device}
    (drops : gate type m s = (t, none)) : request type held m f s = t := by
  unfold request; rw [drops]

theorem closeMessage_dropped {m : Msg} {s t : Device} (drops : gate 2 m s = (t, none)) : closeMessage m s = t := by
  unfold closeMessage; rw [drops]

/-- A message command is its request, or its CLOSE. -/
theorem runs_dropped {s : State} {m : Msg} {p : Instr × Nat} (hp : p ∈ sessionCommands m) {t : Device} {P : Device → Prop}
    (drops : gate p.2 m s.dev = (t, none)) (h : P t) : s.runs p.1 P := by
  have asRequest {c : Instr} {type : Nat} {held : Bool} {f : Nat → Device → Device × Code × List Byte} (drops : gate type m s.dev = (t, none))
      (arm : exec c s = s.onDevice fun d => .next (request type held m f d)) : s.runs c P :=
    State.runs_of (request type held m f) arm (by rw [request_dropped drops]; exact h)
  simp only [sessionCommands, List.mem_cons, List.not_mem_nil, or_false] at hp
  rcases hp with rfl | rfl | rfl | rfl | rfl | rfl | rfl | rfl | rfl | rfl | rfl | rfl
  case inl => exact State.runs_of (closeMessage m) rfl (by rw [closeMessage_dropped drops]; exact h)
  all_goals exact asRequest drops rfl

/-! ### The gate (R356, R357) -/

theorem gate_noSession {m : Msg} {s : Device} (bad : shapely m = false ∨ s.kpr.sessions.find m.session.toNat = none) (type : Nat) :
    gate type m s = (s, none) := by
  unfold gate
  dsimp only
  rcases bad with shape | closed
  · rw [shape]; rfl
  · rw [closed]; exact ite_self _

theorem gate_wrongTag {type : Nat} {m : Msg} {s : Device} {e : Session} (shape : shapely m = true)
    (opened : s.kpr.sessions.find m.session.toNat = some e) (client : m.port = 4 ∨ m.port = 5) (notService : m.session.toNat ≠ 15)
    (tag : tagOk type m e.keyBytes = false) : gate type m s = (authFailed m.session.toNat (s.count R.KPR_AUTH_FAIL 1), none) := by
  unfold gate
  rcases client with port | port <;> simp [shape, opened, port, notService, tag]

theorem gate_staleSeq {type : Nat} {m : Msg} {s : Device} {e : Session} (shape : shapely m = true)
    (opened : s.kpr.sessions.find m.session.toNat = some e) (client : m.port = 4 ∨ m.port = 5) (notService : m.session.toNat ≠ 15)
    (tag : tagOk type m e.keyBytes = true) (stale : seqOk e m.seq.toNat = false) :
    gate type m s = (authFailed m.session.toNat (s.count R.KPR_REPLAY 1), none) := by
  unfold gate
  rcases client with port | port <;> simp [shape, opened, port, notService, tag, stale]

/-- The SEQ that is noted of a message: messages of the service port have none (R357). -/
def notedSeq (m : Msg) : Nat := if m.port = 7 then 0 else m.seq.toNat

/-- A message that passes belongs to the open slot it names, and is accepted there. -/
theorem gate_accepts {type : Nat} {m : Msg} {s t : Device} {slot : Nat} (passes : gate type m s = (t, some slot)) :
    slot = m.session.toNat ∧ ∃ e, s.kpr.sessions.find slot = some e ∧ t = acceptMessage slot (notedSeq m) e s := by
  unfold gate at passes
  dsimp only at passes
  split at passes
  · cases passes
  · split at passes
    · cases passes
    · next e opened =>
      unfold notedSeq
      split_ifs at passes with port service <;> cases passes
      · exact ⟨rfl, e, opened, by rw [if_pos port]⟩
      · exact ⟨rfl, e, opened, by rw [if_neg port]⟩

/-- The entry of a session once a message of it has been accepted. -/
def Session.heard (e : Session) (seq clock : Nat) : Session :=
  { e with highest := max e.highest seq, lastMsg := clock, window := (seq :: e.window).filter (fun n => max e.highest seq ≤ n + 64) }

/-- What an accepted message leaves: its session's entry, the Keeper's lease, and nothing else. -/
theorem acceptMessage_effect (slot seq : Nat) (e : Session) (s : Device) : let t := acceptMessage slot seq e s
    t = { s with kpr := t.kpr } ∧ t.kpr.sessions = s.kpr.sessions.put slot (e.heard seq s.clock) ∧ t.kpr.keeper = s.kpr.keeper ∧
      t.kpr.lease = if s.kpr.keeper = some slot then some (s.clock + leaseNs) else s.kpr.lease := by
  unfold acceptMessage
  dsimp only [setSession]
  split
  · exact ⟨rfl, rfl, rfl, rfl⟩
  · exact ⟨rfl, rfl, rfl, rfl⟩

/-! ### AUTH_FAIL (R356) -/

theorem authFailed_quiet {s : Device} {t : Nat} (told : s.kpr.authAt = some t) (recent : s.clock < t + 1000000000) (slot : Nat) :
    authFailed slot s = s := by
  unfold authFailed
  simp [told, recent]

theorem authFailed_tells {s : Device} (long : ∀ t, s.kpr.authAt = some t → t + 1000000000 ≤ s.clock) (slot : Nat) :
    authFailed slot s = ({ s with kpr := { s.kpr with authAt := some s.clock } }).raise Ev.AUTH_FAIL slot := by
  unfold authFailed
  cases told : s.kpr.authAt with
  | none => simp
  | some t => simp [long t told]

@[simp] theorem authFailed_regs (slot : Nat) (s : Device) : (authFailed slot s).regs = s.regs := by
  unfold authFailed
  dsimp only
  split <;> split <;> rfl

/-- A failed message counts in its register, and is told of when the last one is a second old. -/
theorem authFailed_effect {slot : Nat} (named : slot < 256) (reg : Nat) (s : Device) : let d := authFailed slot (s.count reg 1)
    d.reg reg = satInc (s.reg reg) 1 ∧ s.keepsRegs d [reg] ∧
      ((∃ t, s.kpr.authAt = some t ∧ s.clock < t + 1000000000) → d = { s with regs := d.regs }) ∧
      ((∀ t, s.kpr.authAt = some t → t + 1000000000 ≤ s.clock) → s.newEvents d [(Ev.AUTH_FAIL, slot)] ∧
        d = { s with regs := d.regs, evt := d.evt, kpr := { s.kpr with authAt := some s.clock } }) := by
  have regs : (authFailed slot (s.count reg 1)).regs = (s.count reg 1).regs := authFailed_regs _ _
  refine ⟨?_, ?_, ?_, fun long => ?_⟩
  · rw [Device.reg_congr regs, Device.reg_count, if_pos rfl]
  · exact Device.keepsRegs_congr (s.setReg_keeps reg _) regs
  · rintro ⟨t, told, recent⟩
    rw [authFailed_quiet (s := s.count reg 1) told recent]
    rfl
  · rw [authFailed_tells (s := s.count reg 1) long]
    exact ⟨Device.newEvents_one rfl _ (by omega), rfl⟩

/-- Settles O38: a dropped message leaves what the gate leaves, and a message that passes was accepted. -/
theorem messagesAreAuthenticated : Obligations.MessagesAreAuthenticated := by
  intro s m
  refine ⟨fun p hp => ⟨fun bad => runs_dropped hp (gate_noSession bad p.2) rfl, ?_⟩, ?_⟩
  · intro e shape opened client notService reg failed
    have counted := authFailed_effect m.session.isLt reg s.dev
    rcases failed with ⟨rfl, tag⟩ | ⟨rfl, tag, stale⟩
    · exact runs_dropped hp (gate_wrongTag shape opened client notService tag) counted
    · exact runs_dropped hp (gate_staleSeq shape opened client notService tag stale) counted
  · intro type t slot passes
    obtain ⟨rfl, e, opened, rfl⟩ := gate_accepts passes
    obtain ⟨frame, entries, keeper, lease⟩ := acceptMessage_effect m.session.toNat (notedSeq m) e s.dev
    refine ⟨rfl, e, notedSeq m, opened, rfl, frame, ?_, fun k other => ?_, keeper, lease⟩
    · rw [entries, Table.find_put, if_pos rfl]; rfl
    · rw [entries, Table.find_put, if_neg other]

end Sys2Proof.Machine
end

section
/-! PROOFS. Sessions open and end (R356, R357, R360, R363): OPEN, CLOSE, the idle time, and slot 15 with the USB interface. -/

namespace Sys2Proof.Machine

/-! ### The end of a session (R360, R363) -/

/-- A session's entry, selections and latched values are gone, and SESSION_CLOSE tells of it. -/
def sessionClosed (slot : Nat) (s : Device) : Device :=
  { s with kpr := { s.kpr with sessions := s.kpr.sessions.del slot }, banked := s.banked.filter (fun p => !decide (p.1 / 0x400000 = slot)),
           latches := s.latches.filter (fun p => !decide (p.1 / 0x400000 = slot)) }.raise Ev.SESSION_CLOSE slot

theorem endSession_open {slot : Nat} {s : Device} {e : Session} (opened : s.kpr.sessions.find slot = some e) :
    endSession slot s = if s.kpr.keeper = some slot then vacate (sessionClosed slot s) else sessionClosed slot s := by
  unfold endSession
  rw [opened]
  rfl

/-- What the end of an open session leaves: its entry is gone and told of, and the role is vacant when it was the Keeper's. -/
theorem endSession_effect {slot : Nat} {s : Device} {e : Session} (opened : s.kpr.sessions.find slot = some e) (small : slot < 2 ^ 64) :
    let t := endSession slot s
    t.kpr.sessions = s.kpr.sessions.del slot ∧ s.newEvents t [(Ev.SESSION_CLOSE, slot)] ∧
      t.kpr.keeper = (if s.kpr.keeper = some slot then none else s.kpr.keeper) ∧ t.regs = s.regs ∧ t.clock = s.clock ∧ t.resp = s.resp := by
  have told : s.newEvents (sessionClosed slot s) [(Ev.SESSION_CLOSE, slot)] := Device.newEvents_one rfl _ small
  dsimp only
  rw [endSession_open opened]
  split
  · exact ⟨rfl, Device.newEvents_congr told rfl, rfl, rfl, rfl, rfl⟩
  · exact ⟨rfl, told, rfl, rfl, rfl, rfl⟩

theorem sessionIdle_effect {slot : Nat} {s : Device} {e : Session} (client : slot < 15) (opened : s.kpr.sessions.find slot = some e) :
    let t := sessionIdle slot s
    t.kpr.sessions = s.kpr.sessions.del slot ∧ s.newEvents t [(Ev.SESSION_CLOSE, slot)] ∧
      t.clock = max s.clock (e.lastMsg + 1000000000 * s.rf R.KPR_CFG 23 16) ∧
      t.kpr.keeper = if s.kpr.keeper = some slot then none else s.kpr.keeper := by
  have waited : sessionIdle slot s = endSession slot (s.elapseTo (e.lastMsg + 1000000000 * s.rf R.KPR_CFG 23 16)) := by
    unfold sessionIdle
    rw [opened]
    exact if_neg (by omega)
  rw [waited]
  generalize ends : e.lastMsg + 1000000000 * s.rf R.KPR_CFG 23 16 = instant
  obtain ⟨sessions, told, keeper, _, clock, _⟩ :=
    endSession_effect (s := s.elapseTo instant) (by rw [Device.elapseTo_kpr]; exact opened) (by omega : slot < 2 ^ 64)
  rw [Device.elapseTo_kpr] at sessions keeper
  refine ⟨sessions, ?_, clock.trans (s.elapseTo_clock _), keeper⟩
  exact Device.newEvents_append (Device.newEvents_none (s.elapseTo_evt _)) told

theorem sessionIdle_service (s : Device) : sessionIdle 15 s = s := by
  unfold sessionIdle
  split
  · rfl
  · exact if_pos rfl

/-! ### Responses (R355) -/

/-- A response that is not held is the answer, and what is sent of it. -/
theorem respond_now (slot type : Nat) (m : Msg) (key : List Byte) (c : Code) (data : List Byte) (s : Device) :
    respond slot type m key false c data s = { s.answer c with sent := (respond slot type m key false c data s).sent } := by
  unfold respond
  rw [if_neg Bool.false_ne_true]
  split <;> rfl

/-! ### CLOSE (R360) -/

theorem closeMessage_effect {m : Msg} {s t : Device} {slot : Nat} (passes : gate 2 m s = (t, some slot)) (body : bodyCode m 0 = .ok)
    (client : slot ≠ 15) : let d := closeMessage m s
    d.kpr.sessions = t.kpr.sessions.del slot ∧ s.newEvents d [(Ev.SESSION_CLOSE, slot)] ∧ d.resp = { code := .ok } ∧
      d.kpr.keeper = (if s.kpr.keeper = some slot then none else s.kpr.keeper) ∧ d.regs = s.regs := by
  obtain ⟨named, e, _, accepted⟩ := gate_accepts passes
  obtain ⟨frame, entries, keeper, _⟩ := acceptMessage_effect slot (notedSeq m) e s
  rw [← accepted] at frame entries keeper
  have ends : closeMessage m s =
      endSession slot (respond slot 2 m (((t.kpr.sessions.find slot).map (fun e => e.keyBytes)).getD []) false .ok [] t) := by
    unfold closeMessage
    rw [passes]
    simp only [body, ne_eq, not_true_eq_false, if_false, client]
  rw [ends, respond_now]
  generalize (respond _ _ _ _ _ _ _ _).sent = sent
  obtain ⟨sessions, told, vacant, regs, _, resp⟩ := endSession_effect (slot := slot) (s := { t.answer .ok with sent := sent })
    (by change t.kpr.sessions.find slot = _; rw [entries, Table.find_put, if_pos rfl])
    (by rw [named]; exact m.session.isLt.trans (by decide))
  have evt : t.evt = s.evt := by rw [frame]
  have own : t.regs = s.regs := by rw [frame]
  refine ⟨sessions, ?_, resp, ?_, regs.trans own⟩
  · exact Device.newEvents_append (Device.newEvents_none (t := { t.answer .ok with sent := sent }) evt) told
  · rw [vacant]
    change (if t.kpr.keeper = some slot then none else t.kpr.keeper) = _
    rw [keeper]

/-! ### OPEN (R356, R360) -/

/-- An OPEN whose key is known and whose tag and body are good takes the lowest free slot, where no session of its source is open. -/
theorem openSlot_takes {m : Msg} {k : ClientKey} {s : Device} {j : Nat} (body : bodyCode m 16 = .ok)
    (new : ∀ p ∈ s.kpr.sessions, p.1 ≠ 15 → ¬(p.2.ip = m.ip ∧ p.2.udp = m.udp))
    (lowest : (upto 15).find? (fun j => (s.kpr.sessions.find j).isNone) = some j) :
    ∃ e n data, openSlot m k s = (((setSession j e { s with free := n }).raise Ev.SESSION_OPEN j).sendBytes (.session j) data).answer .ok ∧
      e.ip = m.ip ∧ e.udp = m.udp ∧ e.highest = m.seq.toNat ∧ e.request = none ∧ e.lastMsg = s.clock ∧ e.keeperRight = bit k.rights 0 ∧
      e.prioMin = k.prioMin := by
  have noneSame : s.kpr.sessions.filter (fun p => p.1 ≠ 15 && p.2.ip = m.ip && p.2.udp = m.udp) = [] := by
    refine List.filter_eq_nil_iff.mpr fun p open_ same => ?_
    simp only [Bool.and_eq_true, decide_eq_true_eq] at same
    obtain ⟨⟨client, ip⟩, udp⟩ := same
    exact new p open_ client ⟨ip, udp⟩
  unfold openSlot
  simp only [noneSame, List.map_nil, Device.each_nil, lowest, body, ne_eq, not_true_eq_false, if_false]
  exact ⟨_, _, _, rfl, rfl, rfl, rfl, rfl, rfl, rfl, rfl⟩

theorem openSlot_effect {m : Msg} {k : ClientKey} {s : Device} {j : Nat} (body : bodyCode m 16 = .ok)
    (new : ∀ p ∈ s.kpr.sessions, p.1 ≠ 15 → ¬(p.2.ip = m.ip ∧ p.2.udp = m.udp))
    (lowest : (upto 15).find? (fun j => (s.kpr.sessions.find j).isNone) = some j) : let d := openSlot m k s
    (∃ e, d.kpr.sessions.find j = some e ∧ e.ip = m.ip ∧ e.udp = m.udp ∧ e.highest = m.seq.toNat ∧ e.request = none ∧ e.lastMsg = s.clock ∧
        e.keeperRight = bit k.rights 0 ∧ e.prioMin = k.prioMin) ∧
      (∀ i, i ≠ j → d.kpr.sessions.find i = s.kpr.sessions.find i) ∧ s.newEvents d [(Ev.SESSION_OPEN, j)] ∧ d.resp = { code := .ok } ∧
      d.regs = s.regs ∧ d.kpr.keeper = s.kpr.keeper := by
  obtain ⟨e, n, data, takes, entry⟩ := openSlot_takes (k := k) body new lowest
  have small : j < 15 := by
    have inside := List.mem_of_find?_eq_some lowest
    simpa [upto] using inside
  dsimp only
  rw [takes]
  refine ⟨⟨e, (Table.find_put _ _ _ _).trans (if_pos rfl), entry⟩, fun i other => (Table.find_put _ _ _ _).trans (if_neg other), ?_, rfl, rfl, rfl⟩
  exact Device.newEvents_congr (Device.newEvents_one (t := setSession j e { s with free := n }) rfl _ (by omega)) rfl

theorem openMessage_opens {m : Msg} {s : Device} {k : ClientKey} (shape : shapely m = true) (opens : m.session = 0xFF)
    (client : m.port = 4 ∨ m.port = 5) (known : s.kpr.keys.find m.key.toNat = some k) (tag : tagOk 1 m k.key = true) :
    openMessage m s = openSlot m k s := by
  unfold openMessage
  rcases client with port | port <;> simp [shape, opens, port, known, tag]

theorem openMessage_fails {m : Msg} {s : Device} (shape : shapely m = true) (opens : m.session = 0xFF) (client : m.port = 4 ∨ m.port = 5)
    (wrong : ∀ k, s.kpr.keys.find m.key.toNat = some k → tagOk 1 m k.key = false) :
    openMessage m s = authFailed 0xFF (s.count R.KPR_AUTH_FAIL 1) := by
  unfold openMessage
  cases known : s.kpr.keys.find m.key.toNat with
  | none => rcases client with port | port <;> simp [shape, opens, port]
  | some k => rcases client with port | port <;> simp [shape, opens, port, wrong k known]

@[simp] theorem authFailed_sessions (slot : Nat) (s : Device) : (authFailed slot s).kpr.sessions = s.kpr.sessions := by
  unfold authFailed
  dsimp only
  split <;> split <;> rfl

/-! ### Slot 15 (R357) -/

theorem usbChange_opens {s : Device} (closed : s.kpr.sessions.find 15 = none) :
    usbChange true s = (setSession 15 (serviceSession s.clock) s).raise Ev.SESSION_OPEN 15 := by
  unfold usbChange
  simp [closed]

theorem usbChange_open {s : Device} {e : Session} (opened : s.kpr.sessions.find 15 = some e) : usbChange true s = s := by
  unfold usbChange
  simp [opened]

/-- Settles O39: each command is the opening or the end of its session. -/
theorem sessionsOpenAndClose : Obligations.SessionsOpenAndClose := by
  intro s m
  refine ⟨fun shape opens client => ⟨fun k j known tag body new lowest => ?_, fun wrong => ?_⟩, fun t slot passes body client => ?_,
    fun slot e client opened => ?_, ?_, fun closed => ?_, fun opened => ⟨?_, ?_⟩⟩
  · refine State.runs_of (openMessage m) rfl ?_
    rw [openMessage_opens shape opens client known tag]
    exact openSlot_effect body new lowest
  · refine State.runs_of (openMessage m) rfl ?_
    rw [openMessage_fails shape opens client wrong]
    obtain ⟨counts, keeps, _⟩ := authFailed_effect (slot := 0xFF) (by decide) R.KPR_AUTH_FAIL s.dev
    exact ⟨counts, keeps, authFailed_sessions _ _⟩
  · exact State.runs_of (closeMessage m) rfl (closeMessage_effect passes body client)
  · exact State.runs_unit (fun _ => slot < 16) (sessionIdle slot) rfl (decide_eq_true (by omega)) (sessionIdle_effect client opened)
  · exact State.runs_unit (fun _ => 15 < 16) (sessionIdle 15) rfl rfl (sessionIdle_service s.dev)
  · refine State.runs_of (usbChange true) rfl ?_
    rw [usbChange_opens closed]
    exact ⟨rfl, Device.newEvents_one rfl _ (by decide)⟩
  · obtain ⟨e, held⟩ := Option.ne_none_iff_exists'.mp opened
    exact State.runs_of (usbChange true) rfl (usbChange_open held)
  · obtain ⟨e, held⟩ := Option.ne_none_iff_exists'.mp opened
    obtain ⟨sessions, told, _⟩ := endSession_effect held (by decide : 15 < 2 ^ 64)
    exact State.runs_of (usbChange false) rfl ⟨sessions, told⟩

end Sys2Proof.Machine
end

section
/-! PROOFS. The requests of a session (R355, R361, R364, R368, R370, R378): each is its handler on what the gate leaves, and is answered. -/

namespace Sys2Proof.Machine

/-! ### A request and its response -/

/-- A response changes the answer, what is sent, and the responses held (R400). -/
theorem respond_eq (slot type : Nat) (m : Msg) (key : List Byte) (hold : Bool) (c : Code) (data : List Byte) (s : Device) :
    ∃ x sent, respond slot type m key hold c data s = { s with resp := { code := c }, rdg := x, sent := sent } := by
  unfold respond
  cases hold
  · rw [if_neg Bool.false_ne_true]
    split <;> exact ⟨_, _, rfl⟩
  · exact ⟨_, _, rfl⟩

/-- A request that the gate passes leaves what its handler leaves, with its answer. -/
theorem request_served {type : Nat} {held : Bool} {m : Msg} {f : Nat → Device → Device × Code × List Byte} {s t u : Device} {slot : Nat} {c : Code}
    {data : List Byte} (passes : gate type m s = (t, some slot)) (served : f slot t = (u, c, data)) :
    ∃ x sent, request type held m f s = { u with resp := { code := c }, rdg := x, sent := sent } ∧ (held = false → x = u.rdg) := by
  unfold request
  rw [passes]
  dsimp only
  rw [served]
  cases held
  · exact ⟨_, _, respond_now .., fun _ => rfl⟩
  · obtain ⟨x, sent, answered⟩ := respond_eq slot type m (((t.kpr.sessions.find slot).map (fun e => e.keyBytes)).getD [])
      (c = .ok && waitsForPeer t u) c data u
    exact ⟨x, sent, answered, Bool.noConfusion⟩

/-- A request that R400 does not concern, when the gate passes it. -/
theorem runs_request {s : State} {c : Instr} {type : Nat} {m : Msg} {f : Nat → Device → Device × Code × List Byte} {t u : Device} {slot : Nat}
    {code : Code} {data : List Byte} {P : Device → Prop} (arm : exec c s = s.onDevice fun d => .next (request type false m f d))
    (passes : gate type m s.dev = (t, some slot)) (served : f slot t = (u, code, data))
    (p : ∀ sent, P { u with resp := { code := code }, sent := sent }) : s.runs c P := by
  obtain ⟨x, sent, answered, notHeld⟩ := request_served (held := false) passes served
  refine State.runs_of (request type false m f) arm ?_
  rw [answered, notHeld rfl]
  exact p sent

/-- A request whose response may be held (R400), when the gate passes it. -/
theorem runs_heldRequest {s : State} {c : Instr} {type : Nat} {m : Msg} {f : Nat → Device → Device × Code × List Byte} {t u : Device} {slot : Nat}
    {code : Code} {data : List Byte} {P : Device → Prop} (arm : exec c s = s.onDevice fun d => .next (request type true m f d))
    (passes : gate type m s.dev = (t, some slot)) (served : f slot t = (u, code, data))
    (p : ∀ x sent, P { u with resp := { code := code }, rdg := x, sent := sent }) : s.runs c P := by
  obtain ⟨x, sent, answered, _⟩ := request_served (held := true) passes served
  refine State.runs_of (request type true m f) arm ?_
  rw [answered]
  exact p x sent

/-! ### KEEPALIVE, SUBSCRIBE and READ (R364, R368, R378) -/

theorem aliveRequest_ok {m : Msg} (body : bodyCode m 0 = .ok) (slot : Nat) (t : Device) : ∃ data, aliveRequest m slot t = (t, .ok, data) := by
  unfold aliveRequest
  exact ⟨_, if_neg fun bad => bad body⟩

theorem subscribeRequest_ok {m : Msg} (body : bodyCode m 32 = .ok) {slot : Nat} {t : Device} {e : Session} (opened : t.kpr.sessions.find slot = some e) :
    subscribeRequest m slot t = (setSession slot { e with mask := (upto 256).filter (fun i => bit (bodyNum m (i / 8) 1) (i % 8)) } t, .ok, []) := by
  unfold subscribeRequest
  rw [if_neg fun bad => bad body]
  dsimp only
  rw [opened]

theorem readRequest_ok {m : Msg} (body : bodyCode m 6 = .ok) (some_ : 1 ≤ bodyNum m 4 2) (most : bodyNum m 4 2 ≤ 256) (slot : Nat) (t : Device) :
    let r := readRun (.session slot) (bodyNum m 4 2) (bodyNum m 0 4) t
    ∃ data, readRequest m slot t = (r.1, r.2.1, data) := by
  have count : ¬ (bodyNum m 4 2 = 0 ∨ 256 < bodyNum m 4 2) := by omega
  unfold readRequest
  simp [body, count]

theorem readRequest_count {m : Msg} (body : bodyCode m 6 = .ok) (count : bodyNum m 4 2 = 0 ∨ 256 < bodyNum m 4 2) (slot : Nat) (t : Device) :
    readRequest m slot t = (t, .range, leBytes 2 0) := by
  unfold readRequest
  simp [body, count]

/-! ### WRITE of one value (R368) -/

theorem writeRun_one (m : Msg) (slot off : Nat) (v : Word) (t : Device) : writeRun m slot off [v] t =
    if valueCode m slot off v t = .ok then (writeReg (.session slot) off v t, [])
    else (t, [⟨if standbyCheck t (.session slot) off ≠ .ok && valueCode m slot off v t = .state then 3 else kindOrder (valueCode m slot off v t),
      valueCode m slot off v t, off⟩]) := rfl

theorem writeRequest_one {m : Msg} (one : m.body.length = 8) (slot : Nat) (t : Device) :
    let off := bodyNum m 0 4
    let v := BitVec.ofNat 32 (bodyNum m 4 4)
    ∃ u data, writeRequest m slot t = (u, valueCode m slot off v t, data) ∧
      (valueCode m slot off v t = .ok → u = writeReg (.session slot) off v t) := by
  unfold writeRequest
  rw [one]
  simp only [show (8 - 4) / 4 = 1 from rfl, show upto 1 = [0] from rfl, List.map_cons, List.map_nil, Nat.mul_zero, Nat.add_zero, writeRun_one]
  by_cases good : valueCode m slot (bodyNum m 0 4) (BitVec.ofNat 32 (bodyNum m 4 4)) t = .ok
  · rw [if_pos good]
    exact ⟨_, _, congrArg (fun c => (_, c, _)) good.symm, fun _ => rfl⟩
  · rw [if_neg good]
    exact ⟨_, _, rfl, fun ok => absurd ok good⟩

/-! ### MEM_READ and MEM_WRITE (R370) -/

/-- What a memory access by message is checked for, once its body is long enough. -/
def memReadCode (m : Msg) (t : Device) : Code :=
  firstCode [memPlaceCode t (bodyNum m 0 8) (bodyNum m 8 2), memRangeCode t (bodyNum m 0 8) (bodyNum m 8 2)]

theorem accessFault_when (b : Bool) (off : Nat) (t : Device) : let u := if b then accessFault off t else t
    u.mem = t.mem ∧ u.regs = t.regs := by
  cases b <;> exact ⟨rfl, rfl⟩

theorem memReadRequest_refused {m : Msg} (body : bodyCode m 10 = .ok) {slot : Nat} {t : Device} (bad : memReadCode m t ≠ .ok) :
    ∃ u, memReadRequest m slot t = (u, memReadCode m t, []) ∧ u.mem = t.mem ∧ u.regs = t.regs := by
  have code : firstCode [bodyCode m 10, memPlaceCode t (bodyNum m 0 8) (bodyNum m 8 2), memRangeCode t (bodyNum m 0 8) (bodyNum m 8 2)] =
      memReadCode m t := by
    rw [body]; rfl
  unfold memReadRequest
  dsimp only
  rw [code, if_pos bad]
  exact ⟨_, rfl, accessFault_when _ _ t⟩

theorem memReadRequest_reads {m : Msg} (body : bodyCode m 10 = .ok) {slot : Nat} {t : Device} (good : memReadCode m t = .ok) :
    let r := memRead (.who (.session slot)) (bodyNum m 0 8) (bodyNum m 8 2) t
    ∃ data, memReadRequest m slot t = (recoverAges t r.1, if r.2.poison then .check else .ok, data) := by
  have code : firstCode [bodyCode m 10, memPlaceCode t (bodyNum m 0 8) (bodyNum m 8 2), memRangeCode t (bodyNum m 0 8) (bodyNum m 8 2)] = .ok := by
    rw [body]; exact good
  unfold memReadRequest
  dsimp only
  rw [code, if_neg fun bad => bad rfl]
  cases (memRead (.who (.session slot)) (bodyNum m 0 8) (bodyNum m 8 2) t).2.poison <;> exact ⟨_, rfl⟩

def memWriteCode (m : Msg) (slot : Nat) (t : Device) : Code :=
  firstCode [memPlaceCode t (bodyNum m 0 8) (m.body.drop 8).length, standbyCode t slot, keeperCode t slot m,
    if writeRefused t (.who (.session slot)) (bodyNum m 0 8) (m.body.drop 8).length then .locked else .ok,
    memRangeCode t (bodyNum m 0 8) (m.body.drop 8).length]

theorem memWriteRequest_refused {m : Msg} (body : 8 ≤ m.body.length) {slot : Nat} {t : Device} (bad : memWriteCode m slot t ≠ .ok) :
    ∃ u, memWriteRequest m slot t = (u, memWriteCode m slot t, []) ∧ u.mem = t.mem ∧ u.regs = t.regs := by
  unfold memWriteCode at bad ⊢
  unfold memWriteRequest
  simp only [if_neg (show ¬ m.body.length < 8 by omega)]
  rw [if_pos bad]
  refine ⟨_, rfl, ?_⟩
  split <;> exact ⟨rfl, rfl⟩

theorem memWriteRequest_writes {m : Msg} (body : 8 ≤ m.body.length) {slot : Nat} {t : Device} (good : memWriteCode m slot t = .ok) :
    let w := memWriteU (.who (.session slot)) (bodyNum m 0 8) (m.body.drop 8) .none t
    memWriteRequest m slot t = (recoverAges t w.1, if w.2 then .check else .ok, []) := by
  unfold memWriteCode at good
  unfold memWriteRequest
  simp only [if_neg (show ¬ m.body.length < 8 by omega)]
  rw [if_neg fun bad => bad good]

/-- Settles O40: each command is its handler on what the gate leaves. -/
theorem requestsOfASessionAreServed : Obligations.RequestsOfASessionAreServed := by
  intro s m t slot
  refine ⟨fun passes body => ?_, fun passes body e opened => ?_, fun passes body => ⟨fun some_ most => ?_, fun count => ?_⟩,
    fun passes one => ?_, fun passes body => ⟨fun bad => ?_, fun good => ?_⟩, fun passes body => ⟨fun bad => ?_, fun good => ?_⟩⟩
  · obtain ⟨_, served⟩ := aliveRequest_ok body slot t
    exact runs_request rfl passes served fun _ => rfl
  · exact runs_request rfl passes (subscribeRequest_ok body opened) fun _ => ⟨rfl, rfl⟩
  · obtain ⟨_, served⟩ := readRequest_ok body some_ most slot t
    exact runs_request rfl passes served fun _ => rfl
  · exact runs_request rfl passes (readRequest_count body count slot t) fun _ => rfl
  · obtain ⟨u, _, served, stored⟩ := writeRequest_one one slot t
    refine ⟨fun good => ?_, fun _ => runs_heldRequest rfl passes served fun _ _ => rfl⟩
    have regs : u.regs = _ := congrArg Device.regs (stored good)
    have code := congrArg (fun c => ({ code := c } : Resp)) good
    exact runs_heldRequest rfl passes served fun _ _ => ⟨code, regs⟩
  · obtain ⟨u, served, mem, regs⟩ := memReadRequest_refused (slot := slot) body bad
    exact runs_request rfl passes served fun _ => ⟨rfl, mem, regs⟩
  · obtain ⟨_, served⟩ := memReadRequest_reads (slot := slot) body good
    exact runs_request rfl passes served fun _ => ⟨rfl, rfl⟩
  · obtain ⟨u, served, mem, regs⟩ := memWriteRequest_refused body bad
    exact runs_heldRequest rfl passes served fun _ _ => ⟨rfl, mem, regs⟩
  · exact runs_heldRequest rfl passes (memWriteRequest_writes body good) fun _ _ => ⟨rfl, rfl⟩

end Sys2Proof.Machine
end

section
/-! PROOFS. The Keeper (R362 to R366): requests, pre-emption, withdrawal, release, the lease and the election window. -/

namespace Sys2Proof.Machine

/-! ### Notices -/

/-- A notice changes its session's counter and what is sent, and nothing else. -/
theorem sendNotice_eq (slot type : Nat) (body : List Byte) (s : Device) : ∃ x sent,
    sendNotice slot type body s = { s with kpr := { s.kpr with sessions := x }, sent := sent } := by
  unfold sendNotice
  split
  · exact ⟨_, _, rfl⟩
  · exact ⟨_, _, rfl⟩

theorem sendNotices_eq (l : List Nat) (type : Nat) (body : List Byte) (s : Device) : ∃ x sent,
    s.each l (fun s k => sendNotice k type body s) = { s with kpr := { s.kpr with sessions := x }, sent := sent } := by
  induction l generalizing s with
  | nil => exact ⟨_, _, rfl⟩
  | cons k l ih =>
    obtain ⟨x, sent, one⟩ := sendNotice_eq k type body s
    obtain ⟨y, more, rest⟩ := ih { s with kpr := { s.kpr with sessions := x }, sent := sent }
    exact ⟨y, more, by rw [Device.each_cons, one, rest]⟩

/-! ### The grant (R363, R365, R366) -/

/-- The registers and the Keeper's part of the state as a grant sets them, before it is told. -/
def roleGiven (slot prio : Nat) (e : Session) (s : Device) : Device :=
  { s with kpr := { s.kpr with sessions := s.kpr.sessions.put slot { e with request := none }, keeper := some slot, prio := prio,
                               lease := some (s.clock + leaseNs), window := none } }.setN R.KPR_EPOCH (s.rn R.KPR_EPOCH + 1)

/-- A grant is told by KEEPER_CHANGE, and to every session. -/
theorem grantKeeper_eq {slot : Nat} {s : Device} {e : Session} (opened : s.kpr.sessions.find slot = some e) (prio : Nat) : ∃ p x sent,
    let t := (roleGiven slot prio e s).raise Ev.KEEPER_CHANGE p
    grantKeeper slot prio s = { t with kpr := { t.kpr with sessions := x }, sent := sent } := by
  unfold grantKeeper
  rw [opened]
  exact ⟨_, sendNotices_eq _ _ _ _⟩

/-- The role once it is granted: the Keeper, its priority and lease, the epoch, and KEEPER_CHANGE. -/
theorem grantKeeper_effect {slot : Nat} {s : Device} {e : Session} (opened : s.kpr.sessions.find slot = some e) (prio : Nat) :
    let d := grantKeeper slot prio s
    d.kpr.keeper = some slot ∧ d.kpr.prio = prio ∧ d.kpr.window = none ∧ d.clock = s.clock ∧ d.kpr.lease = some (s.clock + leaseNs) ∧
      d.reg R.KPR_EPOCH = BitVec.ofNat 32 (s.rn R.KPR_EPOCH + 1) ∧ s.keepsRegs d [R.KPR_EPOCH] ∧
      ∃ x ∈ d.evt.raised, x.ev = Ev.KEEPER_CHANGE := by
  obtain ⟨p, x, sent, granted⟩ := grantKeeper_eq opened prio
  obtain ⟨r, raised, ev, _⟩ := (roleGiven slot prio e s).raise_tells Ev.KEEPER_CHANGE p
  dsimp only
  rw [granted]
  exact ⟨rfl, rfl, rfl, rfl, rfl, s.reg_setReg_same _ _, s.setReg_keeps _ _, r, raised, ev⟩

/-! ### Requests (R362, R363, R366) -/

theorem keeperAsk_noRight {slot : Nat} {t : Device} {e : Session} (opened : t.kpr.sessions.find slot = some e) (none : e.keeperRight = false)
    (p : Nat) : keeperAsk slot p t = (t, .locked, false) := by
  unfold keeperAsk
  simp [opened, none]

theorem keeperAsk_lowRank {slot : Nat} {t : Device} {e : Session} (opened : t.kpr.sessions.find slot = some e) (right : e.keeperRight = true)
    {p : Nat} (low : p < e.prioMin) : keeperAsk slot p t = (t, .range, false) := by
  unfold keeperAsk
  simp [opened, right, low]

/-- A session's request stands from its receipt on. -/
def requestStands (slot p : Nat) (e : Session) (t : Device) : Device :=
  { t with kpr := { t.kpr with sessions := t.kpr.sessions.put slot { e with request := some (p, t.kpr.receipts) }, receipts := t.kpr.receipts + 1 } }

/-- The Keeper's priority changes. -/
def rankChanged (p : Nat) (t : Device) : Device := { t with kpr := { t.kpr with prio := p } }

theorem keeperAsk_own {slot : Nat} {t : Device} {e : Session} (opened : t.kpr.sessions.find slot = some e) (right : e.keeperRight = true) {p : Nat}
    (rank : e.prioMin ≤ p) (own : t.kpr.keeper = some slot) :
    ∃ won, keeperAsk slot p t = (preempt (rankChanged p t), .ok, won) := by
  unfold keeperAsk
  simp [opened, right, Nat.not_lt.mpr rank, own, rankChanged]

theorem keeperAsk_other {slot k : Nat} {t : Device} {e : Session} (opened : t.kpr.sessions.find slot = some e) (right : e.keeperRight = true)
    {p : Nat} (rank : e.prioMin ≤ p) (held : t.kpr.keeper = some k) (other : k ≠ slot) :
    ∃ won, keeperAsk slot p t = (preempt (requestStands slot p e t), .ok, won) := by
  unfold keeperAsk
  simp [opened, right, Nat.not_lt.mpr rank, held, other, requestStands, setSession]

/-- At a vacancy the election window opens, unless it is open. -/
theorem keeperAsk_vacant {slot : Nat} {t : Device} {e : Session} (opened : t.kpr.sessions.find slot = some e) (right : e.keeperRight = true)
    {p : Nat} (rank : e.prioMin ≤ p) (vacant : t.kpr.keeper = none) : ∃ won, keeperAsk slot p t = ({ t with kpr :=
      { (requestStands slot p e t).kpr with window := some (t.kpr.window.getD (t.clock + 10000000 * t.rf R.KPR_CFG 15 8)) } }, .ok, won) := by
  unfold keeperAsk
  cases w : t.kpr.window with
  | none => simp [opened, right, Nat.not_lt.mpr rank, vacant, w, requestStands, setSession, Device.rf, Device.rn, Device.reg]
  | some n => simp [opened, right, Nat.not_lt.mpr rank, vacant, w, requestStands, setSession]

/-! ### Pre-emption (R366) -/

theorem preempt_off {t : Device} (off : t.rb R.KPR_CFG 0 = false) : preempt t = t := by
  unfold preempt
  split
  · rw [off]; rfl
  · rfl

theorem ranksBefore_self (r : Nat × Nat) : ranksBefore r r = false := by
  simp [ranksBefore]

/-- A list of one request, however often it stands in it, has that request as its best. -/
theorem bestRequest_same {s : Device} {r : Nat × Nat × Nat} (some_ : r ∈ standing s) (same : ∀ q ∈ standing s, q = r) : bestRequest s = some r := by
  unfold bestRequest
  have keeps : ∀ l : List (Nat × Nat × Nat), (∀ q ∈ l, q = r) → l.foldl (fun (a : Option (Nat × Nat × Nat)) q => match a with
      | none => some q
      | some b => if ranksBefore q.2 b.2 then some q else some b) (some r) = some r := by
    intro l
    induction l with
    | nil => exact fun _ => rfl
    | cons q l ih =>
      intro all
      obtain rfl : q = r := all q List.mem_cons_self
      rw [List.foldl_cons]
      simp only [ranksBefore_self, Bool.false_eq_true, if_false]
      exact ih fun x hx => all x (List.mem_cons_of_mem _ hx)
  cases l : standing s with
  | nil => rw [l] at some_; cases some_
  | cons q rest =>
    rw [l] at same
    obtain rfl : q = r := same q List.mem_cons_self
    exact keeps rest fun x hx => same x (List.mem_cons_of_mem _ hx)

theorem Table.mem_of_find {α : Type} {m : Table α} {k : Nat} {v : α} (found : m.find k = some v) : (k, v) ∈ m := by
  induction m with
  | nil => cases found
  | cons p m ih =>
    obtain ⟨a, x⟩ := p
    rw [Table.find_cons] at found
    split at found
    · next same => cases found; rw [same]; exact List.mem_cons_self
    · exact List.mem_cons_of_mem _ (ih found)

/-- With no other request standing, the new one is the best. -/
theorem bestRequest_only {slot p : Nat} {e : Session} {t : Device} (none : ∀ q ∈ t.kpr.sessions, q.2.request = none) :
    bestRequest (requestStands slot p e t) = some (slot, p, t.kpr.receipts) := by
  refine bestRequest_same ?_ fun q stands => ?_
  · refine List.mem_filterMap.mpr ⟨(slot, { e with request := some (p, t.kpr.receipts) }), Table.mem_of_find ?_, rfl⟩
    exact (Table.find_put _ _ _ _).trans (if_pos rfl)
  · obtain ⟨x, entry, request⟩ := List.mem_filterMap.mp stands
    rcases Table.mem_put _ _ _ x entry with rfl | old
    · exact (Option.some.inj request).symm
    · rw [none x old] at request
      cases request

theorem preempt_takes {t : Device} {k slot prio n : Nat} (held : t.kpr.keeper = some k) (best : bestRequest t = some (slot, prio, n))
    (on : t.rb R.KPR_CFG 0 = true) (higher : prio < t.kpr.prio) : preempt t = grantKeeper slot prio t := by
  unfold preempt
  simp [held, best, on, higher]

/-! ### The handlers of the Keeper's messages -/

theorem keeperRequest_asks {m : Msg} {slot : Nat} {t u : Device} {c : Code} {won : Bool} (body : bodyCode m 1 = .ok)
    (standby : standbyCode t slot = .ok) (asked : keeperAsk slot (bodyNum m 0 1) t = (u, c, won)) :
    ∃ data, keeperRequest m slot t = (u, c, data) := by
  unfold keeperRequest
  rw [body, standby, asked]
  exact ⟨_, rfl⟩

theorem withdrawRequest_ok {m : Msg} {slot : Nat} {t : Device} {e : Session} (body : bodyCode m 0 = .ok)
    (opened : t.kpr.sessions.find slot = some e) : withdrawRequest m slot t = (setSession slot { e with request := none } t, .ok, []) := by
  unfold withdrawRequest keeperBack
  rw [if_neg fun bad => bad body, opened]

theorem releaseRequest_other {m : Msg} {slot : Nat} {t : Device} (body : bodyCode m 1 = .ok) (other : t.kpr.keeper ≠ some slot) :
    releaseRequest m slot t = (t, .notKeeper, []) := by
  unfold releaseRequest keeperLeave
  simp only [body, ne_eq, not_true_eq_false, if_false, if_pos other]

theorem releaseRequest_vacates {m : Msg} {slot : Nat} {t : Device} (body : bodyCode m 1 = .ok) (own : t.kpr.keeper = some slot)
    (nobody : bodyNum m 0 1 = 0xFF) : releaseRequest m slot t = (vacate t, .ok, []) := by
  unfold releaseRequest keeperLeave
  simp only [body, ne_eq, not_true_eq_false, if_false, own, nobody, if_true]

/-! ### The lease and the window (R363, R364) -/

theorem leaseEnd_runs {s : Device} {k u : Nat} (held : s.kpr.keeper = some k) (lease : s.kpr.lease = some u) :
    leaseEnd s = vacate ((s.elapseTo u).raise Ev.LEASE_EXPIRED k) := by
  unfold leaseEnd
  rw [held, lease]

theorem leaseEnd_vacant {s : Device} (vacant : s.kpr.keeper = none) : leaseEnd s = s := by
  unfold leaseEnd
  rw [vacant]

/-- The window is over at its instant. -/
def windowOver (u : Nat) (s : Device) : Device :=
  let t := s.elapseTo u
  { t with kpr := { t.kpr with window := none } }

/-- The requests that stand are those of the sessions. -/
theorem bestRequest_congr {s t : Device} (same : t.kpr.sessions = s.kpr.sessions) : bestRequest t = bestRequest s := by
  unfold bestRequest standing
  rw [same]

theorem windowClosed_eq {s : Device} {u : Nat} (open_ : s.kpr.window = some u) : windowClosed s = match bestRequest s with
    | none => windowOver u s
    | some (slot, prio, _) => grantKeeper slot prio (windowOver u s) := by
  have sessions : (s.elapseTo u).kpr.sessions = s.kpr.sessions := by rw [Device.elapseTo_kpr]
  rw [← bestRequest_congr (t := windowOver u s) sessions]
  unfold windowClosed
  rw [open_]
  rfl

/-- Settles O41: each clause is the change that its message, or the end of its time, makes. -/
theorem theKeeperIsElected : Obligations.TheKeeperIsElected := by
  intro s m t slot e
  refine ⟨fun passes body standby opened => ⟨fun noRight => ?_, fun right low => ?_, fun right rank => ⟨fun vacant => ?_, fun off own => ?_,
    fun k off held other => ?_, fun k on held other lower nobody => ?_⟩⟩, fun passes body opened => ?_,
    fun passes body => ⟨fun other => ?_, fun own nobody => ?_⟩, fun k u held lease => ?_, fun vacant => ?_,
    fun u k p n open_ best opened => ?_, fun u open_ best => ?_⟩
  · obtain ⟨_, served⟩ := keeperRequest_asks body standby (keeperAsk_noRight opened noRight _)
    exact runs_request rfl passes served fun _ => ⟨rfl, rfl⟩
  · obtain ⟨_, served⟩ := keeperRequest_asks body standby (keeperAsk_lowRank opened right low)
    exact runs_request rfl passes served fun _ => ⟨rfl, rfl⟩
  · obtain ⟨_, asked⟩ := keeperAsk_vacant opened right rank vacant
    obtain ⟨_, served⟩ := keeperRequest_asks body standby asked
    exact runs_request rfl passes served fun _ => ⟨rfl, rfl⟩
  · obtain ⟨_, asked⟩ := keeperAsk_own opened right rank own
    rw [preempt_off (t := rankChanged (bodyNum m 0 1) t) off] at asked
    obtain ⟨_, served⟩ := keeperRequest_asks body standby asked
    exact runs_request rfl passes served fun _ => ⟨rfl, rfl⟩
  · obtain ⟨_, asked⟩ := keeperAsk_other opened right rank held other
    rw [preempt_off (t := requestStands slot _ e t) off] at asked
    obtain ⟨_, served⟩ := keeperRequest_asks body standby asked
    exact runs_request rfl passes served fun _ => ⟨rfl, rfl⟩
  · obtain ⟨_, asked⟩ := keeperAsk_other opened right rank held other
    rw [preempt_takes (t := requestStands slot _ e t) held (bestRequest_only nobody) on lower] at asked
    obtain ⟨_, served⟩ := keeperRequest_asks body standby asked
    obtain ⟨keeper, prio, _, _, lease, epoch, keeps, told⟩ :=
      grantKeeper_effect (slot := slot) (s := requestStands slot (bodyNum m 0 1) e t) ((Table.find_put _ _ _ _).trans (if_pos rfl)) (bodyNum m 0 1)
    exact runs_request rfl passes served fun _ => ⟨rfl, keeper, prio, epoch, keeps, told, lease⟩
  · exact runs_request rfl passes (withdrawRequest_ok body opened) fun _ => ⟨rfl, rfl⟩
  · exact runs_request rfl passes (releaseRequest_other body other) fun _ => ⟨rfl, rfl⟩
  · exact runs_request rfl passes (releaseRequest_vacates body own nobody) fun _ => ⟨rfl, rfl⟩
  · refine State.runs_of leaseEnd rfl ?_
    rw [leaseEnd_runs held lease]
    have sessions : (s.dev.elapseTo u).kpr.sessions = s.dev.kpr.sessions := by rw [Device.elapseTo_kpr]
    exact ⟨rfl, rfl, rfl, sessions, s.dev.elapseTo_clock u, (s.dev.elapseTo u).raise_tells _ k⟩
  · exact State.runs_of leaseEnd rfl (leaseEnd_vacant vacant)
  · refine State.runs_of windowClosed rfl ?_
    rw [windowClosed_eq open_, best]
    have clock : (windowOver u s.dev).clock = max s.dev.clock u := s.dev.elapseTo_clock u
    have regs : (windowOver u s.dev).regs = s.dev.regs := s.dev.elapseTo_regs u
    obtain ⟨keeper, prio, window, same, lease, epoch, keeps, told⟩ := grantKeeper_effect (slot := k) (s := windowOver u s.dev) (e := e)
      ((congrArg (fun x : KprState => x.sessions.find k) (s.dev.elapseTo_kpr u)).trans opened) p
    refine ⟨keeper, prio, window, same.trans clock, ?_, ?_, ?_, told⟩
    · rw [lease]; exact congrArg (fun c => some (c + leaseNs)) same.symm
    · rw [epoch, Device.rn, Device.reg_congr regs]; rfl
    · exact Device.keepsRegs_trans (Device.keepsRegs_refl _ regs) keeps
  · refine State.runs_of windowClosed rfl ?_
    rw [windowClosed_eq open_, best]
    exact ⟨congrArg (fun x : KprState => { x with window := none }) (s.dev.elapseTo_kpr u), s.dev.elapseTo_clock u⟩

end Sys2Proof.Machine
end

section
/-! PROOFS. The event router (R375 to R378): the next raised event, where it is routed, and the notices that sessions have gathered. -/

namespace Sys2Proof.Machine

/-! ### Routes -/

/-- No bit of a field that is 0 is set. -/
theorem wbit_of_wfld_zero {v : Word} {hi i : Nat} (zero : wfld v hi 0 = 0) (inside : i ≤ hi) : wbit v i = false := by
  have bits := congrArg (Nat.testBit · i) zero
  simpa [wfld, testBit_fld, wbit, Nat.lt_succ_of_le inside] using bits

/-- With no core named, none is interrupted. -/
theorem noCores {route : Word} (none : wfld route 7 0 = 0) : (upto 8).filter (fun c => wbit route c) = [] := by
  refine List.filter_eq_nil_iff.mpr fun c inside => ?_
  have : c < 8 := by simpa [upto] using inside
  simp [wbit_of_wfld_zero none (show c ≤ 7 by omega)]

/-- The pending bit of an event is set, and the safety pair is told when it is routed there (R375). -/
def eventPending (r : Raised) (s : Device) : Device :=
  let t := s.setB (R.EVT_PENDj (r.ev / 32)) (r.ev % 32) true
  if wbit (s.reg (R.EVT_ROUTEe r.ev)) 8 then t.send .safety [r.ev, r.payload] else t

theorem eventPending_eq (r : Raised) (s : Device) : let d := eventPending r s
    d = { s with regs := d.regs, sent := d.sent } ∧ d.regs = (s.setB (R.EVT_PENDj (r.ev / 32)) (r.ev % 32) true).regs := by
  unfold eventPending
  dsimp only
  split <;> exact ⟨rfl, rfl⟩

/-- An event routed to no core, fog or session is pending, and is entered in the log when it is routed there. -/
theorem routeEvent_quiet {r : Raised} {s : Device} (fog : wbit (s.reg (R.EVT_ROUTEe r.ev)) 9 = false)
    (sessions : wbit (s.reg (R.EVT_ROUTEe r.ev)) 10 = false) (cores : wfld (s.reg (R.EVT_ROUTEe r.ev)) 7 0 = 0) :
    routeEvent r s = if wbit (s.reg (R.EVT_ROUTEe r.ev)) 11 then (logRecord r (eventPending r s)).1 else eventPending r s := by
  unfold routeEvent eventPending
  simp only [fog, sessions, cores, noCores cores, Device.each_nil, Bool.false_eq_true, if_false, decide_true, Bool.not_false, Bool.and_true,
    Bool.true_and, if_true]
  cases wbit (s.reg (R.EVT_ROUTEe r.ev)) 11 <;> rfl

theorem routeEvent_pends {r : Raised} {s : Device} (fog : wbit (s.reg (R.EVT_ROUTEe r.ev)) 9 = false)
    (sessions : wbit (s.reg (R.EVT_ROUTEe r.ev)) 10 = false) (cores : wfld (s.reg (R.EVT_ROUTEe r.ev)) 7 0 = 0)
    (noLog : wbit (s.reg (R.EVT_ROUTEe r.ev)) 11 = false) : routeEvent r s = eventPending r s := by
  rw [routeEvent_quiet fog sessions cores, if_neg (Bool.eq_false_iff.mp noLog)]

theorem routeEvent_logs {r : Raised} {s : Device} (fog : wbit (s.reg (R.EVT_ROUTEe r.ev)) 9 = false)
    (sessions : wbit (s.reg (R.EVT_ROUTEe r.ev)) 10 = false) (cores : wfld (s.reg (R.EVT_ROUTEe r.ev)) 7 0 = 0)
    (log : wbit (s.reg (R.EVT_ROUTEe r.ev)) 11 = true) : routeEvent r s = (logRecord r (eventPending r s)).1 := by
  rw [routeEvent_quiet fog sessions cores, if_pos log]

/-- The pending bits of an event, beside the other registers. -/
theorem eventPending_regs {r : Raised} (s : Device) : let d := eventPending r s
    d.rb (R.EVT_PENDj (r.ev / 32)) (r.ev % 32) = true ∧ s.keepsRegs d [R.EVT_PENDj (r.ev / 32)] := by
  obtain ⟨_, regs⟩ := eventPending_eq r s
  refine ⟨?_, Device.keepsRegs_congr (s.setReg_keeps _ _) regs⟩
  rw [Device.rb_of_reg (Device.reg_congr regs _), Device.rb_setB_same _ _ _ (Nat.mod_lt _ (by decide))]

/-- Without a log in memory (R377), an entry is its sequence number. -/
theorem logRecord_noLog {s : Device} (off : s.rf R.EVT_LOG_SIZE 16 0 = 0) (r : Raised) :
    (logRecord r s).1 = s.setN R.EVT_LOG_SEQ ((s.rn R.EVT_LOG_SEQ + 1) % 2 ^ 32) := by
  unfold logRecord
  exact if_pos off

/-- The event that the router receives leaves those raised. -/
def received (r : Raised) (s : Device) : Device := { s with evt := { raised := s.evt.raised.erase r, last := some (r.ev, r.clock) } }

theorem eventReceived_next {r : Raised} {s : Device} (next : nextEvent s = some r) : eventReceived s = routeEvent r (received r s) := by
  unfold eventReceived
  rw [next]
  rfl

theorem eventReceived_none {s : Device} (none : s.evt.raised = []) : eventReceived s = s := by
  unfold eventReceived nextEvent
  rw [none]

/-! ### Notices (R378) -/

/-- What a session has gathered goes out in one notice. -/
theorem sendRecords_effect {slot : Nat} {s : Device} {e : Session} (opened : s.kpr.sessions.find slot = some e) (some_ : e.gathered ≠ []) :
    let d := sendRecords slot s
    (∃ f, d.kpr.sessions.find slot = some f ∧ f.gathered = [] ∧ f.gatherFrom = none ∧ f.lost = 0 ∧ f.mask = e.mask) ∧ d.clock = s.clock ∧
      ∃ b, d.sent = s.sent ++ [⟨.session slot, b⟩] := by
  have notEmpty : e.gathered.isEmpty = false := by simpa using some_
  have entry (x : Session) : (s.kpr.sessions.put slot x).find slot = some x := (Table.find_put _ _ _ _).trans (if_pos rfl)
  unfold sendRecords sendNotice
  simp only [opened, notEmpty, Bool.false_eq_true, if_false, setSession, entry]
  exact ⟨⟨_, (Table.find_put _ _ _ _).trans (if_pos rfl), rfl, rfl, rfl, rfl⟩, rfl, _, rfl⟩

theorem noticeDue_effect {slot t : Nat} {s : Device} {e : Session} (opened : s.kpr.sessions.find slot = some e) (gathers : e.gatherFrom = some t)
    (some_ : e.gathered ≠ []) : let d := noticeDue slot s
    (∃ f, d.kpr.sessions.find slot = some f ∧ f.gathered = [] ∧ f.gatherFrom = none ∧ f.lost = 0 ∧ f.mask = e.mask) ∧
      d.clock = (if 32 ≤ e.gathered.length then s.clock else max s.clock (t + 10000000)) ∧ ∃ b, d.sent = s.sent ++ [⟨.session slot, b⟩] := by
  unfold noticeDue
  simp only [opened, gathers]
  split
  · exact sendRecords_effect opened some_
  · have waited : (s.elapseTo (t + 10000000)).kpr = s.kpr := s.elapseTo_kpr _
    obtain ⟨entry, clock, sent⟩ := sendRecords_effect (slot := slot) (s := s.elapseTo (t + 10000000)) (by rw [waited]; exact opened) some_
    rw [Device.elapseTo_sent] at sent
    exact ⟨entry, clock.trans (s.elapseTo_clock _), sent⟩

theorem noticeDue_noSession {slot : Nat} {s : Device} (closed : s.kpr.sessions.find slot = none) : noticeDue slot s = s := by
  unfold noticeDue
  rw [closed]

/-- Settles O43: the router's step is the event's pending bit, then its entry in the log. -/
theorem eventsAreRouted : Obligations.EventsAreRouted := by
  intro s
  refine ⟨fun none => State.runs_of eventReceived rfl (eventReceived_none none), fun r next inside fog sessions cores => ⟨fun noLog => ?_,
    fun log off => ?_⟩, fun slot e t unit opened gathers some_ => ?_, fun slot unit closed => ?_⟩
  · refine State.runs_of eventReceived rfl ?_
    rw [eventReceived_next next, routeEvent_pends (s := received r s.dev) fog sessions cores noLog]
    obtain ⟨frame, _⟩ := eventPending_eq r (received r s.dev)
    obtain ⟨pending, keeps⟩ := eventPending_regs (r := r) (received r s.dev)
    have evt : (eventPending r (received r s.dev)).evt = _ := congrArg Device.evt frame
    exact ⟨evt, pending, keeps, by rw [evt]; exact frame⟩
  · refine State.runs_of eventReceived rfl ?_
    rw [eventReceived_next next, routeEvent_logs (s := received r s.dev) fog sessions cores log]
    obtain ⟨frame, _⟩ := eventPending_eq r (received r s.dev)
    obtain ⟨pending, keeps⟩ := eventPending_regs (r := r) (received r s.dev)
    have apart (o : Nat) (other : o = R.EVT_LOG_SIZE ∨ o = R.EVT_LOG_SEQ) : o ∉ [R.EVT_PENDj (r.ev / 32)] := by
      unfold R.EVT_LOG_SIZE R.EVT_LOG_SEQ at other
      simp only [List.mem_singleton, R.EVT_PENDj]
      omega
    have size := keeps _ (apart _ (.inl rfl))
    have seq := keeps _ (apart _ (.inr rfl))
    rw [logRecord_noLog ((Device.rf_of_reg size 16 0).trans off)]
    refine ⟨congrArg Device.evt frame, ?_, ?_, ?_⟩
    · rw [Device.rb_setN_other _ fun same => apart _ (.inr rfl) (List.mem_singleton.mpr same.symm)]
      exact pending
    · rw [Device.rn_setN, if_pos rfl, Device.rn, seq, Nat.mod_mod]
      rfl
    · exact Device.keepsRegs_setReg (Device.keepsRegs_mono keeps (List.cons_subset_cons _ (List.nil_subset _))) _ _ (by simp)
  · exact State.runs_unit (fun _ => slot < 16) (noticeDue slot) rfl (decide_eq_true unit) (noticeDue_effect opened gathers some_)
  · exact State.runs_unit (fun _ => slot < 16) (noticeDue slot) rfl (decide_eq_true unit) (noticeDue_noSession closed)

end Sys2Proof.Machine
end

section
/-! PROOFS. FOG_N and the general-purpose pins (R488, R489, R492, R493). -/

namespace Sys2Proof.Machine

/-! ### FOG_N (R488, R489) -/

/-- Whether FOG_N is asserted: a request stands, or its shortest time is not over. -/
def fogLow (s : Device) : Bool := (fogSources s).any (fun b => b) || (s.rb R.HKP_FOG_STATUS 0 && decide (s.clock < fogMinEnd s))

/-- HKP_FOG_STATUS as it shows the output and its requests (R489). -/
def fogWord (s : Device) : Nat := b2n (fogLow s) + sumL ((fogSources s).zipIdx.map (fun p => b2n p.1 * 2 ^ (p.2 + 1))) + 64 * b2n (fogLow s)

theorem fogWord_output (s : Device) : (fogWord s).testBit 0 = fogLow s := by
  have even : sumL ((fogSources s).zipIdx.map (fun p => b2n p.1 * 2 ^ (p.2 + 1))) % 2 = 0 := by
    unfold fogSources sumL
    simp only [List.zipIdx_cons, List.zipIdx_nil, List.map_cons, List.map_nil, List.foldl_cons, List.foldl_nil, pow_succ]
    omega
  unfold fogWord
  generalize sumL _ = requests at even ⊢
  rw [Nat.testBit_zero]
  cases fogLow s
  · exact decide_eq_false (by unfold b2n; simp; omega)
  · exact decide_eq_true (by unfold b2n; simp; omega)

theorem fogRefresh_keeps {s : Device} (same : fogLow s = s.rb R.HKP_FOG_STATUS 0) : fogRefresh s = s.setN R.HKP_FOG_STATUS (fogWord s) :=
  if_pos same

theorem fogRefresh_changes {s : Device} (other : fogLow s ≠ s.rb R.HKP_FOG_STATUS 0) : fogRefresh s =
    (((s.setN R.HKP_FOG_STATUS (fogWord s)).when (fogLow s) fun s => ({ s with hkp := { s.hkp with fogSince := s.clock } }).count R.HKP_FOG_COUNT 1).send
      (.pin pinFog) [if fogLow s then 0 else 2]).raise Ev.FOG_CHANGE (fogWord s) :=
  if_neg other

theorem fogStatus_output (s : Device) : (s.setN R.HKP_FOG_STATUS (fogWord s)).rb R.HKP_FOG_STATUS 0 = fogLow s := by
  rw [Device.rb, Device.rn_setN, if_pos rfl, Nat.testBit_mod_two_pow, fogWord_output]
  rfl

/-- FOG_N as it comes to be asserted: counted, sent and told, from this instant on. -/
theorem fogRefresh_asserts {s : Device} (stands : (fogSources s).any (fun b => b) = true) (was : s.rb R.HKP_FOG_STATUS 0 = false) :
    let d := fogRefresh s
    d.rb R.HKP_FOG_STATUS 0 = true ∧ d.hkp = { s.hkp with fogSince := s.clock } ∧ d.reg R.HKP_FOG_COUNT = satInc (s.reg R.HKP_FOG_COUNT) 1 ∧
      d.sent = s.sent ++ [⟨.pin pinFog, [0]⟩] ∧ (∃ e ∈ d.evt.raised, e.ev = Ev.FOG_CHANGE) ∧ s.keepsRegs d [R.HKP_FOG_STATUS, R.HKP_FOG_COUNT] := by
  have low : fogLow s = true := by unfold fogLow; rw [stands]; rfl
  have status := (fogStatus_output s).trans low
  have apart : R.HKP_FOG_STATUS ≠ R.HKP_FOG_COUNT := by decide
  dsimp only
  rw [fogRefresh_changes (by rw [low, was]; decide), low]
  rw [Device.when_true]
  generalize fogged : s.setN R.HKP_FOG_STATUS (fogWord s) = t at status
  have count : t.reg R.HKP_FOG_COUNT = s.reg R.HKP_FOG_COUNT := by rw [← fogged, Device.reg_setN, if_neg apart.symm]
  have keeps : s.keepsRegs t [R.HKP_FOG_STATUS, R.HKP_FOG_COUNT] := by
    rw [← fogged]
    exact Device.keepsRegs_setReg (Device.keepsRegs_refl _ rfl) _ _ (by simp)
  have beside : t.hkp = s.hkp ∧ t.clock = s.clock ∧ t.sent = s.sent := by rw [← fogged]; exact ⟨rfl, rfl, rfl⟩
  obtain ⟨hkp, clock, sent⟩ := beside
  obtain ⟨e, raised, ev, _⟩ := Device.raise_tells
    ((({ t with hkp := { t.hkp with fogSince := t.clock } }).count R.HKP_FOG_COUNT 1).send (.pin pinFog) [0]) Ev.FOG_CHANGE (fogWord s)
  refine ⟨?_, ?_, ?_, ?_, ⟨e, raised, ev⟩, ?_⟩
  · exact (Device.rb_of_reg (t.reg_setReg_other _ apart) 0).trans status
  · rw [← hkp, ← clock]; rfl
  · exact (t.reg_setReg_same _ _).trans (congrArg (satInc · 1) count)
  · rw [← sent]; rfl
  · exact Device.keepsRegs_congr (Device.keepsRegs_setReg keeps R.HKP_FOG_COUNT (satInc (t.reg R.HKP_FOG_COUNT) 1) (by simp)) rfl

/-- FOG_N as it is released. -/
theorem fogRefresh_releases {s : Device} (none : (fogSources s).any (fun b => b) = false) (was : s.rb R.HKP_FOG_STATUS 0 = true)
    (past : fogMinEnd s ≤ s.clock) : let d := fogRefresh s
    d.rb R.HKP_FOG_STATUS 0 = false ∧ d.clock = s.clock ∧ d.sent = s.sent ++ [⟨.pin pinFog, [2]⟩] ∧
      (∃ e ∈ d.evt.raised, e.ev = Ev.FOG_CHANGE) ∧ s.keepsRegs d [R.HKP_FOG_STATUS] := by
  have low : fogLow s = false := by
    unfold fogLow
    rw [none, decide_eq_false (Nat.not_lt.mpr past), Bool.and_false]
    rfl
  have status := (fogStatus_output s).trans low
  dsimp only
  rw [fogRefresh_changes (by rw [low, was]; decide), low]
  refine ⟨status, rfl, rfl, ?_, s.setReg_keeps _ _⟩
  obtain ⟨e, raised, ev, _⟩ := Device.raise_tells _ Ev.FOG_CHANGE (fogWord s)
  exact ⟨e, raised, ev⟩

/-- FOG_N as it stays asserted for its shortest time. -/
theorem fogRefresh_waits {s : Device} (was : s.rb R.HKP_FOG_STATUS 0 = true) (early : s.clock < fogMinEnd s) :
    fogRefresh s = s.setN R.HKP_FOG_STATUS (fogWord s) ∧ (fogRefresh s).rb R.HKP_FOG_STATUS 0 = true := by
  have low : fogLow s = true := by
    unfold fogLow
    rw [was, decide_eq_true early]
    exact Bool.or_true _
  have stays := fogRefresh_keeps (low.trans was.symm)
  exact ⟨stays, by rw [stays, fogStatus_output, low]⟩

/-- The requests and the shortest time stand by the registers and the housekeeping state. -/
theorem fogSources_congr {s t : Device} (regs : t.regs = s.regs) (hkp : t.hkp = s.hkp) : fogSources t = fogSources s := by
  unfold fogSources fogRouted Device.rb Device.rn Device.reg
  rw [regs, hkp]

/-! ### Pins (R492, R493) -/

/-- A level is noted; an edge that is picked is kept and told too. -/
theorem gpioEdge_cases (p : Nat) (level : Bool) (time : Nat) (s : Device) :
    gpioEdge p level time s = ((s.setB R.HKP_GPIO_IN p level).setB R.HKP_GPIO_EDGE p true).raise Ev.GPIO_EDGE (p + 256 * time) ∨
      gpioEdge p level time s = s.setB R.HKP_GPIO_IN p level :=
  ite_eq_or_eq _ _ _

theorem gpioEdge_level (p : Nat) (inside : p < 32) (level : Bool) (time : Nat) (s : Device) : (gpioEdge p level time s).rb R.HKP_GPIO_IN p = level := by
  have stored := s.rb_setB_same R.HKP_GPIO_IN level inside
  rcases gpioEdge_cases p level time s with kept | noted
  · rw [kept]
    exact ((s.setB R.HKP_GPIO_IN p level).rb_setB R.HKP_GPIO_EDGE p R.HKP_GPIO_IN p true inside).trans
      ((if_neg fun same => absurd same.1 (by decide)).trans stored)
  · rw [noted]
    exact stored

theorem gpioEdge_picked {p : Nat} (inside : p < 32) {level : Bool} {time : Nat} {s : Device} (input : gpioFunc s p = 3)
    (edge : s.rb R.HKP_GPIO_IN p ≠ level)
    (picks : s.rf (R.HKP_GPIOp_CFG p) 5 4 = 2 ∨ s.rf (R.HKP_GPIOp_CFG p) 5 4 = (if level then 0 else 1)) : let d := gpioEdge p level time s
    d.rb R.HKP_GPIO_EDGE p = true ∧ s.newEvents d [(Ev.GPIO_EDGE, (p + 256 * time) % 2 ^ 64)] := by
  have run : gpioEdge p level time s = ((s.setB R.HKP_GPIO_IN p level).setB R.HKP_GPIO_EDGE p true).raise Ev.GPIO_EDGE (p + 256 * time) := by
    refine if_pos ?_
    rcases picks with both | one
    · simp [input, edge, both]
    · cases level <;> simp_all
  dsimp only
  rw [run]
  refine ⟨Device.rb_setB_same _ _ true inside, ?_⟩
  exact Device.newEvents_raise (Device.newEvents_none rfl) _ _

theorem gpioEdge_silent {p : Nat} {level : Bool} {s : Device} (not : gpioFunc s p ≠ 3 ∨ s.rb R.HKP_GPIO_IN p = level) (time : Nat) :
    gpioEdge p level time s = s.setB R.HKP_GPIO_IN p level := by
  refine if_neg ?_
  rcases not with other | same
  · simp [other]
  · simp [same]

/-- A driven pin has its level, beside the other pins; nothing but HKP_GPIO_OUT and what is sent changes. -/
theorem gpioDrive_effect {p : Nat} (inside : p < 32) (level : Bool) (s : Device) : let d := gpioDrive p level s
    s.keepsRegs d [R.HKP_GPIO_OUT] ∧ d.evt = s.evt ∧ ∀ j, d.rb R.HKP_GPIO_OUT j = if j = p then level else s.rb R.HKP_GPIO_OUT j := by
  unfold gpioDrive
  dsimp only
  split
  · next same =>
    refine ⟨Device.keepsRegs_refl _ rfl, rfl, fun j => ?_⟩
    split
    · next here => rw [here, same]
    · rfl
  · refine ⟨s.setReg_keeps _ _, rfl, fun j => ?_⟩
    refine (s.rb_setB R.HKP_GPIO_OUT p R.HKP_GPIO_OUT j level inside).trans (if_congr ?_ rfl rfl)
    simp

theorem gpioDrives_effect (l : List Nat) (inside : ∀ p ∈ l, p < 32) (on : Nat → Bool) (s : Device) :
    let d := s.each l (fun s p => gpioDrive p (on p) s)
    s.keepsRegs d [R.HKP_GPIO_OUT] ∧ d.evt = s.evt ∧ ∀ j, d.rb R.HKP_GPIO_OUT j = if j ∈ l then on j else s.rb R.HKP_GPIO_OUT j := by
  induction l generalizing s with
  | nil => exact ⟨Device.keepsRegs_refl _ rfl, rfl, fun _ => rfl⟩
  | cons p l ih =>
    obtain ⟨keeps, evt, level⟩ := gpioDrive_effect (inside p List.mem_cons_self) (on p) s
    obtain ⟨rest, same, levels⟩ := ih (fun q hq => inside q (List.mem_cons_of_mem _ hq)) (gpioDrive p (on p) s)
    refine ⟨Device.keepsRegs_trans keeps rest, same.trans evt, fun j => (levels j).trans ?_⟩
    by_cases later : j ∈ l
    · simp [later]
    · by_cases here : j = p <;> simp [later, here, level]

/-- A write under a mask drives the register outputs that the mask names. -/
theorem gpioWrite_effect (mask value : Nat) (s : Device) : let d := gpioWrite mask value s
    s.keepsRegs d [R.HKP_GPIO_OUT] ∧ d.evt = s.evt ∧
      ∀ j, j < 32 → d.rb R.HKP_GPIO_OUT j = if gpioFunc s j = 1 ∧ bit mask j = true then bit value j else s.rb R.HKP_GPIO_OUT j := by
  have named (j : Nat) : j ∈ (gpioPins s 1).filter (fun p => bit mask p) ↔ (j < 32 ∧ gpioFunc s j = 1) ∧ bit mask j = true := by
    simp only [gpioPins, upto, List.mem_filter, List.mem_range, decide_eq_true_eq]
  obtain ⟨keeps, evt, levels⟩ := gpioDrives_effect ((gpioPins s 1).filter (fun p => bit mask p)) (fun p hp => ((named p).mp hp).1.1) (bit value) s
  refine ⟨keeps, evt, fun j inside => (levels j).trans (if_congr ?_ rfl rfl)⟩
  rw [named]
  simp [inside]

/-- A register whose write drives the pins that the word names. -/
theorem runs_gpioWrite {s : State} {w : Who} {v : Word} {c : Instr} {off value : Nat} (on : Bool)
    (h : exec c s = s.onDevice fun d => .next (regWrite d w off v (hkpHandler w off v)))
    (ok : writeCode s.dev w off v (hkpHandler w off v) = .ok) (effect : (hkpHandler w off v).effect = gpioWrite v.toNat value)
    (levels : ∀ p, p < 32 → bit value p = on) : s.runs c fun d => s.dev.keepsRegs d [R.HKP_GPIO_OUT] ∧ s.dev.newEvents d [] ∧
      ∀ p, p < 32 → d.rb R.HKP_GPIO_OUT p = if gpioFunc s.dev p = 1 ∧ wbit v p = true then on else s.dev.rb R.HKP_GPIO_OUT p := by
  refine State.runs_of (fun d => regWrite d w off v (hkpHandler w off v)) h ?_
  rw [regWrite_ok ok, forwardWrite_eq, effect]
  obtain ⟨keeps, evt, driven⟩ := gpioWrite_effect v.toNat value (s.dev.answer .ok)
  refine ⟨keeps, Device.newEvents_none evt, fun p inside => (driven p inside).trans ?_⟩
  rw [levels p inside]
  rfl

/-- Settles O47: FOG_N is refreshed, and pins are driven, by what their commands change. -/
theorem fogAndPinsFollow : Obligations.FogAndPinsFollow := by
  intro s w v
  refine ⟨fun level => ⟨fun stands was => ?_, fun none was early => ?_⟩, fun none was => ?_, fun p level time inside => ?_, ?_⟩
  · exact State.runs_of (fun d => fogRefresh { d with hkp := { d.hkp with safeLow := !level } }) rfl
      (fogRefresh_asserts (s := { s.dev with hkp := { s.dev.hkp with safeLow := !level } }) stands was)
  · refine State.runs_of (fun d => fogRefresh { d with hkp := { d.hkp with safeLow := !level } }) rfl ?_
    obtain ⟨stays, output⟩ := fogRefresh_waits (s := { s.dev with hkp := { s.dev.hkp with safeLow := !level } }) was early
    refine ⟨output, ?_⟩
    rw [stays]
    exact ⟨rfl, rfl, Device.newEvents_none rfl, s.dev.setReg_keeps _ _⟩
  · refine State.runs_of (fun d => fogRefresh (d.elapseTo (fogMinEnd d))) rfl ?_
    have regs := s.dev.elapseTo_regs (fogMinEnd s.dev)
    have hkp := s.dev.elapseTo_hkp (fogMinEnd s.dev)
    have clock := s.dev.elapseTo_clock (fogMinEnd s.dev)
    have end_ : fogMinEnd (s.dev.elapseTo (fogMinEnd s.dev)) = fogMinEnd s.dev := by
      rw [fogMinEnd, hkp, Device.rf_of_reg (Device.reg_congr regs _)]
      rfl
    obtain ⟨output, same, sent, told, keeps⟩ := fogRefresh_releases (s := s.dev.elapseTo (fogMinEnd s.dev))
      (by rw [fogSources_congr regs hkp]; exact none) ((Device.rb_of_reg (Device.reg_congr regs _) 0).trans was) (by omega)
    refine ⟨output, same.trans clock, ?_, told, Device.keepsRegs_trans (Device.keepsRegs_refl _ regs) keeps⟩
    rw [sent, Device.elapseTo_sent]
  · refine State.runs_unit (fun _ => p < 32) (gpioEdge p level time) rfl (decide_eq_true inside) ⟨gpioEdge_level p inside level time _, ?_, ?_⟩
    · exact fun input edge picks => gpioEdge_picked inside input edge picks
    · intro not
      rw [gpioEdge_silent not]
      exact ⟨Device.newEvents_none rfl, s.dev.setReg_keeps _ _⟩
  · have all : ∀ p, p < 32 → bit 0xFFFFFFFF p = true := by decide
    rintro c off on (⟨rfl, rfl, rfl⟩ | ⟨rfl, rfl, rfl⟩) ok
    · exact runs_gpioWrite true rfl ok rfl all
    · exact runs_gpioWrite false rfl ok rfl fun p _ => Nat.zero_testBit p

end Sys2Proof.Machine
end

section
/-! PROOFS. The die's temperature and the core voltage (R478 to R487): what a sample, a read-back, a step and a re-plan leave. -/

namespace Sys2Proof.Machine

/-! ### Samples -/

/-- What a sample changes: registers of a range, events, and what is held of sensors and extremes. -/
def SampleFrame (lo hi : Nat) (s t : Device) : Prop :=
  t = { s with regs := t.regs, evt := t.evt,
               hkp := { s.hkp with seen := t.hkp.seen, outOfUse := t.hkp.outOfUse, differ := t.hkp.differ } } ∧
    ∀ o, o < lo ∨ hi ≤ o → t.reg o = s.reg o

section
variable {lo hi : Nat} {s t u : Device}

theorem SampleFrame.refl (lo hi : Nat) (s : Device) : SampleFrame lo hi s s := ⟨rfl, fun _ _ => rfl⟩

theorem SampleFrame.trans (h : SampleFrame lo hi s t) (g : SampleFrame lo hi t u) : SampleFrame lo hi s u := by
  obtain ⟨h, hr⟩ := h
  obtain ⟨g, gr⟩ := g
  refine ⟨?_, fun o out => (gr o out).trans (hr o out)⟩
  rw [h] at g
  exact g

theorem SampleFrame.reg (h : SampleFrame lo hi s t) {off : Nat} (v : Word) (inside : lo ≤ off ∧ off < hi) : SampleFrame lo hi s (t.setReg off v) :=
  h.trans ⟨rfl, fun o out => t.reg_setReg_other v (by omega)⟩

theorem SampleFrame.raise (h : SampleFrame lo hi s t) (ev p : Nat) : SampleFrame lo hi s (t.raise ev p) := h.trans ⟨rfl, fun _ _ => rfl⟩

/-- What is held of sensors and extremes may change. -/
theorem SampleFrame.held (h : SampleFrame lo hi s t) (seen out : Table Bool) (differ : Table Nat) :
    SampleFrame lo hi s { t with hkp := { t.hkp with seen := seen, outOfUse := out, differ := differ } } :=
  h.trans ⟨rfl, fun _ _ => rfl⟩

theorem SampleFrame.ite {c : Prop} {_ : Decidable c} (h : SampleFrame lo hi s t) (g : SampleFrame lo hi s u) : SampleFrame lo hi s (if c then t else u) := by
  split
  · exact h
  · exact g

theorem SampleFrame.each {α : Type} (l : List α) (f : Device → α → Device) (h : ∀ s, ∀ a ∈ l, SampleFrame lo hi s (f s a)) (s : Device) :
    SampleFrame lo hi s (s.each l f) := by
  induction l generalizing s with
  | nil => exact SampleFrame.refl lo hi s
  | cons a l ih => exact (h s a List.mem_cons_self).trans (ih (fun s b hb => h s b (List.mem_cons_of_mem _ hb)) (f s a))

theorem SampleFrame.shw (h : SampleFrame lo hi s t) : t.shw = s.shw := by rw [h.1]
theorem SampleFrame.sys (h : SampleFrame lo hi s t) : t.sys = s.sys := by rw [h.1]
theorem SampleFrame.sent (h : SampleFrame lo hi s t) : t.sent = s.sent := by rw [h.1]
theorem SampleFrame.shutRun (h : SampleFrame lo hi s t) : t.hkp.shutRun = s.hkp.shutRun := by rw [h.1]
theorem SampleFrame.lowSlack (h : SampleFrame lo hi s t) : t.hkp.lowSlack = s.hkp.lowSlack := by rw [h.1]

end

/-- An extreme is stored, or the sample changes nothing. -/
theorem takeExtreme_cases (high : Bool) (off : Nat) (v : Int) (s : Device) :
    takeExtreme high off v s = { s.setN off (trunc 16 v) with hkp := { s.hkp with seen := s.hkp.seen.put off true } } ∨ takeExtreme high off v s = s :=
  ite_eq_or_eq _ _ _

theorem takeExtreme_frame {lo hi off : Nat} (inside : lo ≤ off ∧ off < hi) (high : Bool) (v : Int) (s : Device) :
    SampleFrame lo hi s (takeExtreme high off v s) := by
  rcases takeExtreme_cases high off v s with eq | eq <;> rw [eq]
  · exact ((SampleFrame.refl lo hi s).reg _ inside).held (s.hkp.seen.put off true) s.hkp.outOfUse s.hkp.differ
  · exact SampleFrame.refl lo hi s

theorem takeExtreme_outOfUse (high : Bool) (off : Nat) (v : Int) (s : Device) : (takeExtreme high off v s).hkp.outOfUse = s.hkp.outOfUse := by
  rcases takeExtreme_cases high off v s with eq | eq <;> rw [eq]

/-- A fold whose steps each store a register, and leave those of the others, stores them all. -/
theorem Device.each_stores {l : List Nat} {f : Device → Nat → Device} {key : Nat → Nat} {value : Nat → Word} {holds : Device → Prop}
    (step : ∀ s, holds s → ∀ k ∈ l, holds (f s k) ∧ (f s k).reg (key k) = value k ∧ ∀ j ∈ l, j ≠ k → (f s k).reg (key j) = s.reg (key j))
    {s : Device} (h : holds s) : ∀ k ∈ l, (s.each l f).reg (key k) = value k := by
  have stays : ∀ m : List Nat, (∀ k ∈ m, k ∈ l) → ∀ s, holds s → ∀ j ∈ l, j ∈ m ∨ s.reg (key j) = value j → (s.each m f).reg (key j) = value j := by
    intro m
    induction m with
    | nil => exact fun _ s _ j _ stored => stored.resolve_left List.not_mem_nil
    | cons k m ih =>
      intro sub s hs j hj stored
      obtain ⟨next, stores, others⟩ := step s hs k (sub k List.mem_cons_self)
      refine ih (fun a ha => sub a (List.mem_cons_of_mem _ ha)) (f s k) next j hj ?_
      by_cases same : j = k
      · exact .inr (same ▸ stores)
      · rcases stored with due | stored
        · exact .inl ((List.mem_cons.mp due).resolve_left same)
        · exact .inr ((others j hj same).trans stored)
  exact fun k hk => stays l (fun _ h => h) s h k hk (.inl hk)

/-! ### Temperatures (R478 to R481) -/

/-- The reading of a sensor, trimmed (R478). -/
def trimmed (temps : List Int) (s : Device) (k : Nat) : Int := temps.getD k 0 + sext 8 (s.rf (R.HKP_Ts_CFG k) 7 0)

/-- A sample's readings touch the readings, peaks and lowest values alone. -/
theorem noteTemps_frame (temps : List Int) (s : Device) : SampleFrame 0x240040 0x240100 s (noteTemps temps s) := by
  refine SampleFrame.each _ _ (fun s k inside => ?_) s
  have k12 : k < 12 := List.mem_range.mp inside
  have reading : 0x240040 ≤ R.HKP_Ts k ∧ R.HKP_Ts k < 0x240100 := by unfold R.HKP_Ts; omega
  have peak : 0x240040 ≤ R.HKP_Ts_PEAK k ∧ R.HKP_Ts_PEAK k < 0x240100 := by unfold R.HKP_Ts_PEAK; omega
  have lowest : 0x240040 ≤ R.HKP_Ts_MIN k ∧ R.HKP_Ts_MIN k < 0x240100 := by unfold R.HKP_Ts_MIN; omega
  exact (((SampleFrame.refl _ _ s).reg _ reading).trans (takeExtreme_frame peak true _ _)).trans (takeExtreme_frame lowest false _ _)

/-- Each sensor's register holds its trimmed reading. -/
theorem noteTemps_reads (temps : List Int) (s : Device) {k : Nat} (inside : k < 12) :
    (noteTemps temps s).rn (R.HKP_Ts k) = trunc 16 (trimmed temps s k) % 2 ^ 32 := by
  have stores := Device.each_stores (l := upto 12) (key := R.HKP_Ts) (value := fun k => BitVec.ofNat 32 (trunc 16 (trimmed temps s k)))
    (holds := fun t => ∀ j, t.reg (R.HKP_Ts_CFG j) = s.reg (R.HKP_Ts_CFG j)) (s := s) (f := fun s k =>
      takeExtreme false (R.HKP_Ts_MIN k) (trimmed temps s k) (takeExtreme true (R.HKP_Ts_PEAK k) (trimmed temps s k)
        (s.setN (R.HKP_Ts k) (trunc 16 (trimmed temps s k))))) ?_ (fun _ => rfl) k (List.mem_range.mpr inside)
  · exact congrArg BitVec.toNat stores |>.trans (BitVec.toNat_ofNat ..)
  · intro t same k hk
    have k12 : k < 12 := List.mem_range.mp hk
    have extremes : SampleFrame 0x240080 0x240100 (t.setN (R.HKP_Ts k) (trunc 16 (trimmed temps t k))) _ :=
      (takeExtreme_frame (off := R.HKP_Ts_PEAK k) (by unfold R.HKP_Ts_PEAK; omega) true (trimmed temps t k) _).trans
        (takeExtreme_frame (off := R.HKP_Ts_MIN k) (by unfold R.HKP_Ts_MIN; omega) false (trimmed temps t k) _)
    obtain ⟨_, beside⟩ := extremes
    have trim : trimmed temps t k = trimmed temps s k := by unfold trimmed; rw [Device.rf_of_reg (same k)]
    refine ⟨fun j => ?_, ?_, fun j hj other => ?_⟩
    · rw [beside _ (.inr (by unfold R.HKP_Ts_CFG; omega)), Device.reg_setN, if_neg (by unfold R.HKP_Ts_CFG R.HKP_Ts; omega)]
      exact same j
    · rw [beside _ (.inl (by unfold R.HKP_Ts; omega)), Device.reg_setN, if_pos rfl, trim]
    · have j12 : j < 12 := List.mem_range.mp hj
      rw [beside _ (.inl (by unfold R.HKP_Ts; omega)), Device.reg_setN, if_neg (by unfold R.HKP_Ts; omega)]

theorem sensorOut_frame (k : Nat) (s : Device) : SampleFrame 0x240004 0x240040 s (sensorOut k s) :=
  (((SampleFrame.refl _ _ s).held s.hkp.seen (s.hkp.outOfUse.put k true) s.hkp.differ).reg _ (by decide)).raise _ _

theorem checkSensors_frame (s : Device) : SampleFrame 0x240004 0x240040 s (checkSensors s) := by
  unfold checkSensors
  dsimp only
  refine SampleFrame.trans (SampleFrame.each _ _ (fun s k _ => ?_) s) (SampleFrame.each _ _ (fun s k _ => ?_) _)
  · exact SampleFrame.ite (sensorOut_frame k s) (SampleFrame.refl _ _ s)
  · exact SampleFrame.ite (((SampleFrame.refl _ _ s).held s.hkp.seen s.hkp.outOfUse _).trans (sensorOut_frame k _))
      ((SampleFrame.refl _ _ s).held s.hkp.seen s.hkp.outOfUse _)

/-- The highest reading in use, with its sensor (R480). -/
def hottest (s : Device) : Option (Int × Nat) :=
  (sensorsInUse s).foldl (fun (a : Option (Int × Nat)) k => match a with
    | some b => if b.1 < reg16 s (R.HKP_Ts k) then some (reg16 s (R.HKP_Ts k), k) else a
    | none => some (reg16 s (R.HKP_Ts k), k)) none

/-- The sensors in use and the highest reading are shown. -/
def noteHottest (s : Device) : Device :=
  let t := s.setF R.HKP_THERM_STATUS 27 16 (sumL ((sensorsInUse s).map (fun k => 2 ^ k)))
  match hottest s with
  | some (v, k) => takeExtreme true R.HKP_TJ_PEAK v ((t.setN R.HKP_TJ_MAX (trunc 16 v)).setF R.HKP_THERM_STATUS 7 4 k)
  | none => t

/-- HOT is set and cleared on the reading that counts (R480). -/
def hotAlarm (hotAt high : Int) (k : Nat) (s : Device) : Device :=
  let hot := s.rb R.HKP_THERM_STATUS 0
  if !hot && hotAt ≤ high then
    let t := (s.setB R.HKP_THERM_STATUS 0 true).count R.HKP_HOT_COUNT 1
    (t.when (t.rb R.HKP_THERM_CFG 16) (fun s => s.setB R.HKP_THERM_STATUS 1 true)).raise Ev.THERM_HOT k
  else if hot && high < hotAt - 80 then (s.setF R.HKP_THERM_STATUS 1 0 0).raise Ev.THERM_NORMAL k
  else s

theorem noteHottest_frame (s : Device) : SampleFrame 0x240004 0x240040 s (noteHottest s) := by
  unfold noteHottest
  have used := (SampleFrame.refl 0x240004 0x240040 s).reg (off := R.HKP_THERM_STATUS)
    (setFld (s.reg R.HKP_THERM_STATUS) 27 16 (sumL ((sensorsInUse s).map (fun k => 2 ^ k)))) (by decide)
  cases hottest s with
  | none => exact used
  | some top =>
    have shown := used.reg (off := R.HKP_TJ_MAX) (BitVec.ofNat 32 (trunc 16 top.1)) (by decide)
    exact (shown.reg (off := R.HKP_THERM_STATUS) _ (by decide)).trans (takeExtreme_frame (by decide) true top.1 _)

theorem hotAlarm_frame (hotAt high : Int) (k : Nat) (s : Device) : SampleFrame 0x240004 0x240040 s (hotAlarm hotAt high k s) := by
  have set := (SampleFrame.refl 0x240004 0x240040 s).reg (off := R.HKP_THERM_STATUS) (setBit (s.reg R.HKP_THERM_STATUS) 0 true) (by decide)
  have counted := set.reg (off := R.HKP_HOT_COUNT) (satInc ((s.setB R.HKP_THERM_STATUS 0 true).reg R.HKP_HOT_COUNT) 1) (by decide)
  refine SampleFrame.ite (SampleFrame.raise (SampleFrame.ite ?_ ?_) _ _) (SampleFrame.ite ?_ (SampleFrame.refl _ _ s))
  · exact counted.reg _ (by decide)
  · exact counted
  · exact ((SampleFrame.refl _ _ s).reg _ (by decide)).raise _ _

/-- A sample, up to its count of samples at T_SHUT: the readings, then the sensors and the alarm of R479 and R480. -/
theorem thermSample_eq (temps : List Int) (s : Device) : ∃ t n, SampleFrame 0x240004 0x240040 (noteTemps temps s) t ∧ n ≤ t.hkp.shutRun + 1 ∧
    let u := { t with hkp := { t.hkp with shutRun := n } }
    thermSample temps s = if 2 ≤ n then coreReset 6 (u.count R.HKP_SHUT_COUNT 1) else u := by
  let t := checkSensors (noteTemps temps s)
  let hotAt : Int := 16 * (t.rf R.HKP_THERM_CFG 7 0 : Nat)
  let high : Int := if (sensorsInUse t).length < 6 then hotAt else ((hottest t).map (·.1)).getD hotAt
  let alarmed := hotAlarm hotAt high (((hottest t).map (·.2)).getD 0) (noteHottest t)
  refine ⟨alarmed, if (16 * (t.rf R.HKP_THERM_CFG 15 8 : Nat) : Int) ≤ high then alarmed.hkp.shutRun + 1 else 0, ?_, ?_, rfl⟩
  · exact ((checkSensors_frame _).trans (noteHottest_frame t)).trans (hotAlarm_frame _ _ _ _)
  · split
    · exact Nat.le_refl _
    · exact Nat.zero_le _

/-- With no run of samples at T_SHUT behind it, a sample shows its readings and resets nothing. -/
theorem thermSample_effect (temps : List Int) {s : Device} (first : s.hkp.shutRun = 0) : let d := thermSample temps s
    d.hkp.shutRun ≤ 1 ∧ d.shw = s.shw ∧ d.sys = s.sys ∧ ∀ k, k < 12 → d.rn (R.HKP_Ts k) = trunc 16 (trimmed temps s k) % 2 ^ 32 := by
  obtain ⟨t, n, judged, run, eq⟩ := thermSample_eq temps s
  have noted := noteTemps_frame temps s
  rw [judged.shutRun, noted.shutRun, first] at run
  dsimp only
  rw [eq, if_neg (by omega)]
  refine ⟨run, judged.shw.trans noted.shw, judged.sys.trans noted.sys, fun k inside => ?_⟩
  refine Eq.trans ?_ (noteTemps_reads temps s inside)
  exact congrArg BitVec.toNat (judged.2 _ (.inr (by unfold R.HKP_Ts; omega)))

/-- The reset after a thermal shutdown is let go when every sensor in use reads cool (R481). -/
def thermalRelease (temps : List Int) (s : Device) : Device :=
  let t := noteTemps temps s
  if (sensorsInUse t).all (fun k => reg16 t (R.HKP_Ts k) < 16 * (((t.rf R.HKP_THERM_CFG 15 8 : Nat) : Int) - 10)) then
    { t with sys := { t.sys with hot := false } }
  else t

/-- A sample of readings takes no sensor out of use. -/
theorem sensorsInUse_noteTemps (temps : List Int) (s : Device) : sensorsInUse (noteTemps temps s) = sensorsInUse s := by
  have noted := noteTemps_frame temps s
  have out : (noteTemps temps s).hkp.outOfUse = s.hkp.outOfUse := by
    unfold noteTemps
    refine s.each_keeps (fun d => d.hkp.outOfUse) (upto 12) _ fun t k _ => ?_
    dsimp only
    rw [takeExtreme_outOfUse, takeExtreme_outOfUse]
    rfl
  unfold sensorsInUse
  refine List.filter_congr fun k _ => ?_
  rw [out, Device.rb_of_reg (noted.2 (R.HKP_Ts_CFG k) (.inr (by unfold R.HKP_Ts_CFG; omega)))]

theorem thermalRelease_effect (temps : List Int) (s : Device) : let d := thermalRelease temps s
    (∀ k, k < 12 → d.rn (R.HKP_Ts k) = trunc 16 (trimmed temps s k) % 2 ^ 32) ∧
      ((∀ k ∈ sensorsInUse s, sext 16 (d.rn (R.HKP_Ts k)) < 16 * (((s.rf R.HKP_THERM_CFG 15 8 : Nat) : Int) - 10)) → d.sys = { s.sys with hot := false }) ∧
      ((∃ k ∈ sensorsInUse s, 16 * (((s.rf R.HKP_THERM_CFG 15 8 : Nat) : Int) - 10) ≤ sext 16 (d.rn (R.HKP_Ts k))) → d.sys = s.sys) := by
  have noted := noteTemps_frame temps s
  have shut : (noteTemps temps s).rf R.HKP_THERM_CFG 15 8 = s.rf R.HKP_THERM_CFG 15 8 := Device.rf_of_reg (noted.2 _ (.inl (by decide))) 15 8
  have regs : (thermalRelease temps s).regs = (noteTemps temps s).regs := by
    unfold thermalRelease
    generalize noteTemps temps s = t
    dsimp only
    split <;> rfl
  have reads (k : Nat) : (thermalRelease temps s).rn (R.HKP_Ts k) = (noteTemps temps s).rn (R.HKP_Ts k) :=
    congrArg BitVec.toNat (Device.reg_congr regs _)
  have cool : ((sensorsInUse (noteTemps temps s)).all fun k => reg16 (noteTemps temps s) (R.HKP_Ts k) <
      16 * ((((noteTemps temps s).rf R.HKP_THERM_CFG 15 8 : Nat) : Int) - 10)) = true ↔
      ∀ k ∈ sensorsInUse s, sext 16 ((thermalRelease temps s).rn (R.HKP_Ts k)) < 16 * (((s.rf R.HKP_THERM_CFG 15 8 : Nat) : Int) - 10) := by
    simp only [sensorsInUse_noteTemps, shut, List.all_eq_true, decide_eq_true_eq, reads, reg16]
  refine ⟨fun k inside => (reads k).trans (noteTemps_reads temps s inside), fun all => ?_, fun ⟨k, used, warm⟩ => ?_⟩
  · refine (congrArg Device.sys (if_pos (cool.mpr all))).trans ?_
    exact congrArg (fun x : SysState => { x with hot := false }) noted.sys
  · refine (congrArg Device.sys (if_neg fun all => ?_)).trans noted.sys
    exact absurd (cool.mp all k used) (Int.not_lt.mpr warm)

/-! ### Monitor samples (R482 to R485) -/

/-- What the voltage loop changes: registers below the monitors', events, what is sent, and what it holds. -/
def LoopFrame (s t : Device) : Prop :=
  t = { s with regs := t.regs, evt := t.evt, hkp := t.hkp, sent := t.sent } ∧ ∀ o, 0x240180 ≤ o → t.reg o = s.reg o

theorem LoopFrame.trans {s t u : Device} (h : LoopFrame s t) (g : LoopFrame t u) : LoopFrame s u := by
  obtain ⟨h, hr⟩ := h
  obtain ⟨g, gr⟩ := g
  refine ⟨?_, fun o above => (gr o above).trans (hr o above)⟩
  rw [h] at g
  exact g

theorem LoopFrame.refl (s : Device) : LoopFrame s s := ⟨rfl, fun _ _ => rfl⟩

theorem LoopFrame.reg {s t : Device} (h : LoopFrame s t) {off : Nat} (v : Word) (below : off < 0x240180) : LoopFrame s (t.setReg off v) :=
  h.trans ⟨rfl, fun _ above => t.reg_setReg_other v (by omega)⟩

theorem LoopFrame.hkp {s t : Device} (h : LoopFrame s t) (x : HkpState) : LoopFrame s { t with hkp := x } := h.trans ⟨rfl, fun _ _ => rfl⟩

theorem LoopFrame.send {s t : Device} (h : LoopFrame s t) (o : Out) (d : List Nat) : LoopFrame s (t.send o d) := h.trans ⟨rfl, fun _ _ => rfl⟩

theorem LoopFrame.raiseIf {s t : Device} (h : LoopFrame s t) (b : Bool) (ev p : Nat) : LoopFrame s (t.raiseIf b ev p) := by
  cases b
  · exact h
  · exact h.trans ⟨rfl, fun _ _ => rfl⟩

theorem LoopFrame.ite {s t u : Device} {c : Prop} [Decidable c] (h : LoopFrame s t) (g : LoopFrame s u) : LoopFrame s (if c then t else u) := by
  split
  · exact h
  · exact g

/-- The request of a voltage, within the limits (R483). -/
def limited (s : Device) (v : Nat) : Nat := max (s.rf R.HKP_AVS_LIMITS 9 0) (min (s.rf R.HKP_AVS_LIMITS 25 16) v)

/-- A new voltage goes out. -/
def sendVolt (v : Nat) (s : Device) : Device := (((s.setN R.HKP_VCORE_REQ v).count R.HKP_AVS_STEPS 1).setF R.HKP_AVS_STATUS 7 4 0).send .avs [0, v]

/-- A request that changes nothing, or lies behind a fault, is not sent; another is, and noted for its sensitivity. -/
theorem requestVolt_eq (v : Nat) (s : Device) : requestVolt v s =
    if limited s v = s.rn R.HKP_VCORE_REQ || s.rb R.HKP_AVS_STATUS 2 then s
    else
      let t := if limited s v < s.rf R.HKP_AVS_LIMITS 25 16 then (sendVolt (limited s v) s).setB R.HKP_AVS_STATUS 1 false else sendVolt (limited s v) s
      { t with hkp := { t.hkp with stepFrom := some (s.rn R.HKP_VCORE_REQ, worstSlack t), sentAt := t.clock, tries := 0 } } := rfl

theorem sendVolt_frame (v : Nat) (s : Device) : LoopFrame s (sendVolt v s) :=
  ((((LoopFrame.refl s).reg _ (by decide)).reg _ (by decide)).reg _ (by decide)).send _ _

theorem LoopFrame.shw {s t : Device} (h : LoopFrame s t) : t.shw = s.shw := by rw [h.1]

theorem requestVolt_frame (v : Nat) (s : Device) : LoopFrame s (requestVolt v s) := by
  rw [requestVolt_eq]
  exact LoopFrame.ite (LoopFrame.refl s) ((LoopFrame.ite ((sendVolt_frame _ s).reg _ (by decide)) (sendVolt_frame _ s)).hkp _)

theorem fastStep_frame (s : Device) : LoopFrame s (fastStep s) :=
  ((requestVolt_frame _ s).reg _ (by decide)).raiseIf _ _ _

/-- A sensitivity that is measured stores SENS_DV, and is held. -/
theorem noteSensitivity_frame (s : Device) : let t := noteSensitivity s
    t = { s with regs := t.regs, hkp := { s.hkp with stepFrom := t.hkp.stepFrom, sens := t.hkp.sens } } ∧ s.keepsRegs t [R.HKP_SENS_DV] := by
  unfold noteSensitivity
  split
  · exact ⟨rfl, Device.keepsRegs_refl _ rfl⟩
  · dsimp only
    split
    · exact ⟨rfl, Device.keepsRegs_refl _ rfl⟩
    · exact ⟨rfl, s.setReg_keeps _ _⟩

theorem noteSensitivity_loopFrame (s : Device) : LoopFrame s (noteSensitivity s) := by
  obtain ⟨eq, kept⟩ := noteSensitivity_frame s
  exact ⟨by rw [eq], fun o above => kept o (by simp only [List.mem_singleton]; rintro rfl; exact absurd above (by decide))⟩

/-- The slacks of a sample, into the registers (R482). -/
def noteSlacks (slacks : List Int) (s : Device) : Device :=
  s.each (upto 24) fun s m => takeExtreme false (R.HKP_PDMm_MIN m) (slacks.getD m 0) (s.setN (R.HKP_PDMm m) (trunc 16 (slacks.getD m 0)))

theorem noteSlacks_frame (slacks : List Int) (s : Device) : SampleFrame 0x240200 0x240300 s (noteSlacks slacks s) := by
  refine SampleFrame.each _ _ (fun s m inside => ?_) s
  have m24 : m < 24 := List.mem_range.mp inside
  exact ((SampleFrame.refl _ _ s).reg _ (by unfold R.HKP_PDMm; omega)).trans (takeExtreme_frame (by unfold R.HKP_PDMm_MIN; omega) false _ _)

/-- Each monitor's register holds its slack. -/
theorem noteSlacks_reads (slacks : List Int) (s : Device) {m : Nat} (inside : m < 24) :
    (noteSlacks slacks s).rn (R.HKP_PDMm m) = trunc 16 (slacks.getD m 0) % 2 ^ 32 := by
  have stores := Device.each_stores (l := upto 24) (key := R.HKP_PDMm) (value := fun m => BitVec.ofNat 32 (trunc 16 (slacks.getD m 0)))
    (holds := fun _ => True) (s := s) (f := fun s m =>
      takeExtreme false (R.HKP_PDMm_MIN m) (slacks.getD m 0) (s.setN (R.HKP_PDMm m) (trunc 16 (slacks.getD m 0)))) ?_ trivial m (List.mem_range.mpr inside)
  · exact congrArg BitVec.toNat stores |>.trans (BitVec.toNat_ofNat ..)
  · intro t _ m hm
    have m24 : m < 24 := List.mem_range.mp hm
    have beside := (takeExtreme_frame (lo := 0x240280) (hi := 0x240300) (off := R.HKP_PDMm_MIN m) (by unfold R.HKP_PDMm_MIN; omega) false
      (slacks.getD m 0) (t.setN (R.HKP_PDMm m) (trunc 16 (slacks.getD m 0)))).2
    refine ⟨trivial, ?_, fun j hj other => ?_⟩
    · rw [beside _ (.inl (by unfold R.HKP_PDMm; omega)), Device.reg_setN, if_pos rfl]
    · have j24 : j < 24 := List.mem_range.mp hj
      rw [beside _ (.inl (by unfold R.HKP_PDMm; omega)), Device.reg_setN, if_neg (by unfold R.HKP_PDMm; omega)]

/-- The worst slack follows the monitors' registers alone. -/
theorem worstSlack_congr {s t : Device} (h : ∀ m, t.reg (R.HKP_PDMm m) = s.reg (R.HKP_PDMm m)) : worstSlack t = worstSlack s := by
  have same (m : Nat) : reg16 t (R.HKP_PDMm m) = reg16 s (R.HKP_PDMm m) := by unfold reg16 Device.rn; rw [h]
  unfold worstSlack
  simp only [same]

theorem LoopFrame.worstSlack {s t : Device} (h : LoopFrame s t) : worstSlack t = worstSlack s :=
  worstSlack_congr fun m => h.2 _ (by unfold R.HKP_PDMm; omega)

/-- The lowest slack of a period takes a sample's (R484). -/
def lowest (held : Option Int) (w : Int) : Int :=
  match held with
  | some l => min l w
  | none => w

/-- What the loop holds after a sample: the lowest slack, the fast loop and the plan (R484, R485). -/
def keepSlack (w : Int) (s : Device) : Device :=
  let short := decide (w < (s.rf R.HKP_MARGIN_CFG 7 0 : Nat))
  let falling := match s.hkp.plan with
    | some v => decide (v < s.rn R.HKP_VCORE_REQ)
    | none => false
  let stop := falling && w < (s.rf R.HKP_MARGIN_CFG 15 8 : Nat)
  { s with hkp := { s.hkp with lowSlack := some (lowest s.hkp.lowSlack w), fast := short && avsRuns s, plan := if stop then none else s.hkp.plan } }

/-- The sensitivity and the worst slack of a sample are shown. -/
def noteWorst (s : Device) : Device := (noteSensitivity s).setF R.HKP_MARGIN 31 16 (trunc 16 (worstSlack s))

/-- What a sample does with the slacks that it has read. -/
def judgeSlacks (u : Device) : Device :=
  let t := keepSlack (worstSlack u) (noteWorst u)
  if decide (worstSlack u < (noteWorst u |>.rf R.HKP_MARGIN_CFG 7 0 : Nat)) && avsRuns t && !(noteWorst u).hkp.fast then fastStep t else t

theorem pdmSample_eq (slacks : List Int) (s : Device) : pdmSample slacks s = judgeSlacks (noteSlacks slacks s) := by
  unfold pdmSample
  extract_lets u
  change _ = judgeSlacks u
  clear_value u
  rfl

theorem noteWorst_frame (s : Device) : LoopFrame s (noteWorst s) := (noteSensitivity_loopFrame s).reg _ (by decide)

theorem pdmSample_loopFrame (slacks : List Int) (s : Device) : LoopFrame (noteSlacks slacks s) (pdmSample slacks s) := by
  have kept : LoopFrame (noteSlacks slacks s) (keepSlack (worstSlack (noteSlacks slacks s)) (noteWorst (noteSlacks slacks s))) := (noteWorst_frame _).hkp _
  rw [pdmSample_eq]
  unfold judgeSlacks
  exact LoopFrame.ite (kept.trans (fastStep_frame _)) kept

/-- With the loop off a sample only keeps its slacks. -/
theorem pdmSample_off (slacks : List Int) {s : Device} (off : avsRuns s = false) : let d := pdmSample slacks s
    d.reg R.HKP_VCORE_REQ = s.reg R.HKP_VCORE_REQ ∧ d.hkp.fast = false ∧ d.sent = s.sent ∧
      d.hkp.lowSlack = some (lowest s.hkp.lowSlack (worstSlack d)) := by
  have noted := noteSlacks_frame slacks s
  have worst := (pdmSample_loopFrame slacks s).worstSlack
  revert worst
  dsimp only
  rw [pdmSample_eq]
  unfold judgeSlacks
  generalize noteSlacks slacks s = u at noted
  obtain ⟨eq, kept⟩ := noteSensitivity_frame u
  have shown : (noteSensitivity u).keepsRegs (noteWorst u) [R.HKP_MARGIN] := (noteSensitivity u).setReg_keeps _ _
  have same (o : Nat) (below : o < 0x240180) (other : o ≠ R.HKP_MARGIN) (beside : o ≠ R.HKP_SENS_DV) : (noteWorst u).reg o = s.reg o :=
    (shown o (by simpa using other)).trans ((kept o (by simpa using beside)).trans (noted.2 o (.inl (by omega))))
  have still : avsRuns (noteWorst u) = false := by
    unfold avsRuns at off ⊢
    rwa [Device.rb_of_reg (same R.HKP_AVS_CFG (by decide) (by decide) (by decide)), Device.rb_of_reg (same R.HKP_AVS_STATUS (by decide) (by decide) (by decide))]
  have held : (noteWorst u).hkp.lowSlack = s.hkp.lowSlack := (congrArg (·.hkp.lowSlack) eq).trans noted.lowSlack
  have sent : (noteWorst u).sent = s.sent := (congrArg (·.sent) eq).trans noted.sent
  have idle : avsRuns (keepSlack (worstSlack u) (noteWorst u)) = false := still
  dsimp only
  rw [idle, Bool.and_false, Bool.false_and, if_neg Bool.false_ne_true]
  intro worst
  refine ⟨same _ (by decide) (by decide) (by decide), ?_, sent, ?_⟩
  · exact (congrArg (_ && ·) still).trans (Bool.and_false _)
  · rw [worst, ← held]
    rfl

/-! ### The regulator and its read-back (R483) -/

/-- The four readings of the regulator are stored. -/
def storePmbus (vout iout temp status : BitVec 16) (s : Device) : Device :=
  (((s.setN R.HKP_PMB_VOUT vout.toNat).setN R.HKP_PMB_IOUT iout.toNat).setN R.HKP_PMB_TEMP temp.toNat).setN R.HKP_PMB_STATUS status.toNat

theorem storePmbus_effect (vout iout temp status : BitVec 16) (s : Device) : let d := storePmbus vout iout temp status s
    d.rn R.HKP_PMB_VOUT = vout.toNat ∧ d.rn R.HKP_PMB_IOUT = iout.toNat ∧ d.rn R.HKP_PMB_TEMP = temp.toNat ∧ d.rn R.HKP_PMB_STATUS = status.toNat ∧
      s.keepsRegs d [R.HKP_PMB_VOUT, R.HKP_PMB_IOUT, R.HKP_PMB_TEMP, R.HKP_PMB_STATUS] ∧ d = { s with regs := d.regs } := by
  have word (x : BitVec 16) : x.toNat < 4294967296 := lt_trans x.isLt (by decide)
  refine ⟨?_, ?_, ?_, ?_, fun o beside => ?_, rfl⟩
  · simp [storePmbus, Device.rn_setN, R.HKP_PMB_VOUT, R.HKP_PMB_IOUT, R.HKP_PMB_TEMP, R.HKP_PMB_STATUS, word]
  · simp [storePmbus, Device.rn_setN, R.HKP_PMB_IOUT, R.HKP_PMB_TEMP, R.HKP_PMB_STATUS, word]
  · simp [storePmbus, Device.rn_setN, R.HKP_PMB_TEMP, R.HKP_PMB_STATUS, word]
  · simp [storePmbus, Device.rn_setN, word]
  · simp only [List.mem_cons, List.not_mem_nil, or_false, not_or] at beside
    simp [storePmbus, Device.reg_setN, beside]

/-- A read-back that is acknowledged is shown at its instant. -/
def noteVout (ack : Bool) (mv t : Nat) (s : Device) : Device := (s.elapseTo t).when ack (fun s => s.setN R.HKP_VCORE_READ (mv % 1024))

/-- A retry sends the request again. -/
def retryVolt (req : Nat) (s : Device) : Device :=
  let t := { s with hkp := { s.hkp with tries := s.hkp.tries + 1, sentAt := s.clock } }
  (t.setF R.HKP_AVS_STATUS 7 4 t.hkp.tries).send .avs [0, req]

/-- The fault after the last retry. -/
def avsFault (s : Device) : Device := ((s.setB R.HKP_AVS_STATUS 2 true).count R.HKP_AVS_ERR 1).raise Ev.AVS_FAULT 0

theorem noteVout_frame (ack : Bool) (mv t : Nat) (s : Device) : let u := noteVout ack mv t s
    u.clock = max s.clock t ∧ (ack = true → u.rn R.HKP_VCORE_READ = mv % 1024) ∧ s.keepsRegs u [R.HKP_VCORE_READ] ∧
      u.hkp = s.hkp ∧ u.evt = s.evt ∧ u.sent = s.sent := by
  have kept : s.keepsRegs (s.elapseTo t) [R.HKP_VCORE_READ] := Device.keepsRegs_refl _ (by simp)
  have fits : mv % 1024 < 2 ^ 32 := lt_trans (Nat.mod_lt _ (by decide)) (by decide)
  cases ack
  · exact ⟨Device.elapseTo_clock .., nofun, kept, Device.elapseTo_hkp .., Device.elapseTo_evt .., Device.elapseTo_sent ..⟩
  · refine ⟨Device.elapseTo_clock .., fun _ => ?_, Device.keepsRegs_setReg kept _ _ (List.mem_singleton.mpr rfl), Device.elapseTo_hkp ..,
      Device.elapseTo_evt .., Device.elapseTo_sent ..⟩
    simp only [noteVout, Device.when_true, Device.rn_setN, if_true, Nat.mod_eq_of_lt fits]

theorem noteVout_reg {o : Nat} (other : o ≠ R.HKP_VCORE_READ) (ack : Bool) (mv t : Nat) (s : Device) : (noteVout ack mv t s).reg o = s.reg o := by
  obtain ⟨_, _, kept, _⟩ := noteVout_frame ack mv t s
  exact kept o (by simpa using other)

theorem noteVout_runs (ack : Bool) (mv t : Nat) (s : Device) : avsRuns (noteVout ack mv t s) = avsRuns s := by
  unfold avsRuns
  rw [Device.rb_of_reg (noteVout_reg (o := R.HKP_AVS_CFG) (by decide) ack mv t s), Device.rb_of_reg (noteVout_reg (o := R.HKP_AVS_STATUS) (by decide) ack mv t s)]

/-- Whether a read-back asks for nothing more: the loop is off, or the voltage matches. -/
def voutGood (ack : Bool) (mv : Nat) (s : Device) : Prop :=
  avsRuns s = false ∨ ack = true ∧ s.rn R.HKP_VCORE_REQ ≤ mv + 5 ∧ mv ≤ s.rn R.HKP_VCORE_REQ + 5

/-- What the read-back does at its instant. -/
def judgeVout (ack : Bool) (mv t : Nat) (s : Device) : Device :=
  let req := (s.elapseTo t).rn R.HKP_VCORE_REQ
  let u := noteVout ack mv t s
  if !u.rb R.HKP_AVS_CFG 0 || u.rb R.HKP_AVS_STATUS 2 then u
  else if ack && req ≤ mv + 5 && mv ≤ req + 5 then u
  else if u.hkp.tries < 3 then retryVolt req u else avsFault u

theorem avsReadback_eq (ack : Bool) (mv : Nat) (s : Device) : avsReadback ack mv s = judgeVout ack mv (s.hkp.sentAt + 2000000) s := rfl

theorem judgeVout_good {ack : Bool} {mv : Nat} {s : Device} (good : voutGood ack mv s) (t : Nat) : judgeVout ack mv t s = noteVout ack mv t s := by
  have req : (s.elapseTo t).rn R.HKP_VCORE_REQ = s.rn R.HKP_VCORE_REQ := congrArg BitVec.toNat (Device.reg_elapseTo ..)
  have runs := noteVout_runs ack mv t s
  unfold judgeVout
  generalize noteVout ack mv t s = u at runs
  simp only [req]
  rcases good with off | ⟨rfl, low, high⟩
  · rw [← runs, avsRuns, Bool.and_eq_false_iff, Bool.not_eq_false'] at off
    rw [if_pos (by simpa using off)]
  · simp [low, high]

/-- A read-back that does not match is retried, and after three retries FAULT is set. -/
theorem judgeVout_bad {ack : Bool} {mv : Nat} {s : Device} (bad : ¬ voutGood ack mv s) (t : Nat) : judgeVout ack mv t s =
    if s.hkp.tries < 3 then retryVolt (s.rn R.HKP_VCORE_REQ) (noteVout ack mv t s) else avsFault (noteVout ack mv t s) := by
  obtain ⟨_, _, _, hkp, _, _⟩ := noteVout_frame ack mv t s
  have req : (s.elapseTo t).rn R.HKP_VCORE_REQ = s.rn R.HKP_VCORE_REQ := congrArg BitVec.toNat (Device.reg_elapseTo ..)
  have runs := noteVout_runs ack mv t s
  unfold judgeVout
  generalize noteVout ack mv t s = u at runs hkp
  obtain ⟨going, differs⟩ := not_or.mp bad
  rw [← runs, avsRuns] at going
  simp only [req, hkp]
  rw [if_neg (by simpa using going), if_neg (by simpa [and_assoc] using differs)]

theorem avsFault_reg {o : Nat} (status : o ≠ R.HKP_AVS_STATUS) (err : o ≠ R.HKP_AVS_ERR) (s : Device) : (avsFault s).reg o = s.reg o :=
  ((s.setB R.HKP_AVS_STATUS 2 true).reg_setReg_other _ err).trans (s.reg_setReg_other _ status)

theorem avsFault_effect (s : Device) : let d := avsFault s
    d.clock = s.clock ∧ d.rb R.HKP_AVS_STATUS 2 = true ∧ d.reg R.HKP_AVS_ERR = satInc (s.reg R.HKP_AVS_ERR) 1 ∧ s.newEvents d [(Ev.AVS_FAULT, 0)] := by
  have status : (avsFault s).reg R.HKP_AVS_STATUS = (s.setB R.HKP_AVS_STATUS 2 true).reg R.HKP_AVS_STATUS :=
    (s.setB R.HKP_AVS_STATUS 2 true).reg_setReg_other _ (by decide)
  have err : (s.setB R.HKP_AVS_STATUS 2 true).reg R.HKP_AVS_ERR = s.reg R.HKP_AVS_ERR := s.reg_setReg_other _ (by decide)
  refine ⟨rfl, (Device.rb_of_reg status 2).trans (s.rb_setB_same _ _ (by decide)), ?_, Device.newEvents_one rfl _ (by decide)⟩
  exact ((s.setB R.HKP_AVS_STATUS 2 true).reg_setReg_same _ _).trans (congrArg (satInc · 1) err)

theorem judgeVout_effect (ack : Bool) (mv t : Nat) (s : Device) : let d := judgeVout ack mv t s
    d.clock = max s.clock t ∧ (ack = true → d.rn R.HKP_VCORE_READ = mv % 1024) ∧
      (voutGood ack mv s → s.keepsRegs d [R.HKP_VCORE_READ] ∧ d.hkp = s.hkp ∧ s.newEvents d []) ∧
      (¬ voutGood ack mv s →
        (s.hkp.tries < 3 → d.hkp.tries = s.hkp.tries + 1 ∧ d.hkp.sentAt = d.clock ∧ d.sent = s.sent ++ [⟨.avs, [0, s.rn R.HKP_VCORE_REQ]⟩]) ∧
        (3 ≤ s.hkp.tries → d.rb R.HKP_AVS_STATUS 2 = true ∧ d.reg R.HKP_AVS_ERR = satInc (s.reg R.HKP_AVS_ERR) 1 ∧ s.newEvents d [(Ev.AVS_FAULT, 0)])) := by
  obtain ⟨clock, shown, kept, hkp, evt, sent⟩ := noteVout_frame ack mv t s
  have err : (noteVout ack mv t s).reg R.HKP_AVS_ERR = s.reg R.HKP_AVS_ERR := noteVout_reg (by decide) ack mv t s
  by_cases good : voutGood ack mv s
  · dsimp only
    rw [judgeVout_good good]
    exact ⟨clock, shown, fun _ => ⟨kept, hkp, Device.newEvents_none evt⟩, fun bad => absurd good bad⟩
  · dsimp only
    rw [judgeVout_bad good]
    generalize noteVout ack mv t s = u at clock shown hkp evt sent err
    split
    · next few =>
      refine ⟨clock, fun a => ?_, fun g => absurd g good, fun _ => ⟨fun _ => ⟨?_, rfl, ?_⟩, fun many => absurd few (by omega)⟩⟩
      · exact (congrArg BitVec.toNat (Device.reg_setReg_other _ _ (by decide))).trans (shown a)
      · exact congrArg (·.tries + 1) hkp
      · exact congrArg (· ++ _) sent
    · next many =>
      obtain ⟨same, fault, counted, told⟩ := avsFault_effect u
      refine ⟨same.trans clock, fun a => ?_, fun g => absurd g good, fun _ => ⟨fun few => absurd few many, fun _ => ⟨fault, ?_, ?_⟩⟩⟩
      · exact (congrArg BitVec.toNat (avsFault_reg (by decide) (by decide) u)).trans (shown a)
      · rw [counted, err]
      · unfold Device.newEvents at told ⊢
        rwa [evt] at told

/-! ### The step timer (R484, R485) -/

theorem vcoreStep_idle {s : Device} (idle : avsRuns s = false ∨ s.hkp.fast = false ∧ (s.hkp.plan = none ∨ s.hkp.plan = some (s.rn R.HKP_VCORE_REQ))) :
    vcoreStep s = s := by
  unfold vcoreStep
  rcases idle with off | ⟨slow, plan⟩
  · simp [off]
  · rw [slow]
    rcases plan with plan | plan <;> simp [plan]

theorem vcoreStep_fast {s : Device} (runs : avsRuns s = true) (fast : s.hkp.fast = true) : vcoreStep s = fastStep (s.elapseTo (s.hkp.sentAt + 1000000)) := by
  unfold vcoreStep
  simp [runs, fast]

/-- A voltage within the limits fits the request. -/
theorem limited_lt (s : Device) (v : Nat) : limited s v < 2 ^ 32 := by
  have low : s.rf R.HKP_AVS_LIMITS 9 0 < 2 ^ 10 := Nat.mod_lt _ (by decide)
  have high : s.rf R.HKP_AVS_LIMITS 25 16 < 2 ^ 10 := Nat.mod_lt _ (by decide)
  unfold limited
  omega

theorem sendVolt_shows (s : Device) {v : Nat} (fits : v < 2 ^ 32) : let d := sendVolt v s
    d.rn R.HKP_VCORE_REQ = v ∧ d.reg R.HKP_AVS_STEPS = satInc (s.reg R.HKP_AVS_STEPS) 1 := by
  refine ⟨Eq.trans ?_ (Nat.mod_eq_of_lt fits), ?_⟩
  · simp [sendVolt, Device.rn, Device.reg_setF, Device.reg_count, Device.reg_setN, R.HKP_VCORE_REQ, R.HKP_AVS_STEPS, R.HKP_AVS_STATUS]
  · simp [sendVolt, Device.reg_setF, Device.reg_count, Device.reg_setN, R.HKP_VCORE_REQ, R.HKP_AVS_STEPS, R.HKP_AVS_STATUS]

/-- A request without a fault ends at its voltage, and a new one is counted and sent. -/
theorem requestVolt_effect {s : Device} (sound : s.rb R.HKP_AVS_STATUS 2 = false) (v : Nat) : let d := requestVolt v s
    d.rn R.HKP_VCORE_REQ = limited s v ∧ d.clock = s.clock ∧
      (limited s v ≠ s.rn R.HKP_VCORE_REQ → d.reg R.HKP_AVS_STEPS = satInc (s.reg R.HKP_AVS_STEPS) 1 ∧ d.hkp.tries = 0 ∧
        d.sent = s.sent ++ [⟨.avs, [0, limited s v]⟩]) := by
  obtain ⟨req, steps⟩ := sendVolt_shows s (limited_lt s v)
  have clock : (sendVolt (limited s v) s).clock = s.clock := rfl
  have sent : (sendVolt (limited s v) s).sent = s.sent ++ [⟨.avs, [0, limited s v]⟩] := rfl
  dsimp only
  rw [requestVolt_eq]
  generalize sendVolt (limited s v) s = u at req steps clock sent
  by_cases same : limited s v = s.rn R.HKP_VCORE_REQ
  · rw [if_pos (by simp [same])]
    exact ⟨same.symm, rfl, fun other => absurd same other⟩
  · rw [if_neg (by simp [same, sound])]
    by_cases room : limited s v < s.rf R.HKP_AVS_LIMITS 25 16
    · rw [if_pos room]
      have kept (o : Nat) (other : o ≠ R.HKP_AVS_STATUS) : (u.setB R.HKP_AVS_STATUS 1 false).reg o = u.reg o := u.reg_setReg_other _ other
      exact ⟨(congrArg BitVec.toNat (kept _ (by decide))).trans req, clock, fun _ => ⟨(kept _ (by decide)).trans steps, rfl, sent⟩⟩
    · rw [if_neg room]
      exact ⟨req, clock, fun _ => ⟨steps, rfl, sent⟩⟩

/-- The fast loop requests a step more (R484). -/
theorem fastStep_effect {s : Device} (sound : s.rb R.HKP_AVS_STATUS 2 = false) : let v := limited s (s.rn R.HKP_VCORE_REQ + voltStep s)
    let d := fastStep s
    d.rn R.HKP_VCORE_REQ = v ∧ d.clock = s.clock ∧
      (v ≠ s.rn R.HKP_VCORE_REQ → d.reg R.HKP_AVS_STEPS = satInc (s.reg R.HKP_AVS_STEPS) 1 ∧ d.hkp.tries = 0 ∧ d.sent = s.sent ++ [⟨.avs, [0, v]⟩]) := by
  obtain ⟨req, clock, new⟩ := requestVolt_effect sound (s.rn R.HKP_VCORE_REQ + voltStep s)
  unfold fastStep
  generalize requestVolt (s.rn R.HKP_VCORE_REQ + voltStep s) s = u at req clock new
  have kept (o : Nat) (other : o ≠ R.HKP_AVS_STATUS) (b : Bool) : (u.setB R.HKP_AVS_STATUS 1 b).reg o = u.reg o := u.reg_setReg_other _ other
  simp only [Device.rn, Device.reg_raiseIf, kept R.HKP_VCORE_REQ (by decide), kept R.HKP_AVS_STEPS (by decide), Device.raiseIf_clock, Device.raiseIf_hkp,
    Device.raiseIf_sent]
  exact ⟨req, clock, new⟩

/-- The step timer in the fast loop. -/
theorem vcoreStep_effect {s : Device} (runs : avsRuns s = true) (fast : s.hkp.fast = true) : let v := limited s (s.rn R.HKP_VCORE_REQ + voltStep s)
    let d := vcoreStep s
    d.rn R.HKP_VCORE_REQ = v ∧ d.clock = max s.clock (s.hkp.sentAt + 1000000) ∧
      (v ≠ s.rn R.HKP_VCORE_REQ → d.reg R.HKP_AVS_STEPS = satInc (s.reg R.HKP_AVS_STEPS) 1 ∧ d.hkp.tries = 0 ∧ d.sent = s.sent ++ [⟨.avs, [0, v]⟩]) := by
  rw [vcoreStep_fast runs fast]
  generalize s.hkp.sentAt + 1000000 = t
  have regs (o : Nat) : (s.elapseTo t).reg o = s.reg o := Device.reg_elapseTo ..
  have sound : (s.elapseTo t).rb R.HKP_AVS_STATUS 2 = false := by
    rw [Device.rb_of_reg (regs _)]
    simpa using (Bool.and_eq_true_iff.mp runs).2
  have effect := fastStep_effect sound
  have within (v : Nat) : limited (s.elapseTo t) v = limited s v := by unfold limited; rw [Device.rf_of_reg (regs _), Device.rf_of_reg (regs _)]
  have step : voltStep (s.elapseTo t) = voltStep s := Device.rf_of_reg (regs _) 23 16
  have req : (s.elapseTo t).rn R.HKP_VCORE_REQ = s.rn R.HKP_VCORE_REQ := congrArg BitVec.toNat (regs _)
  simpa only [within, step, req, regs, Device.elapseTo_clock, Device.elapseTo_sent] using effect

/-! ### A margin re-plan (R485 to R487) -/

/-- What a re-plan leaves after it has begun: time, what is held besides the plan, the request, and the events told. -/
def ReplanFrame (s t : Device) : Prop :=
  t.clock = s.clock ∧ t.hkp = { s.hkp with plan := t.hkp.plan } ∧ t.reg R.HKP_VCORE_REQ = s.reg R.HKP_VCORE_REQ ∧
    ∀ e ∈ s.evt.raised, e ∈ t.evt.raised

theorem ReplanFrame.trans {s t u : Device} (h : ReplanFrame s t) (g : ReplanFrame t u) : ReplanFrame s u := by
  obtain ⟨clock, hkp, req, told⟩ := h
  obtain ⟨clock', hkp', req', told'⟩ := g
  exact ⟨clock'.trans clock, by rw [hkp', hkp], req'.trans req, fun e h => told' e (told e h)⟩

/-- A new period begins (R485). -/
def beginReplan (delays : List Int) (s : Device) : Device :=
  let s := { s with hkp := { s.hkp with planAt := s.clock, lowSlack := none, delays := delays } }
  (s.set64 R.HKP_REPLAN_TIME_LO R.HKP_REPLAN_TIME_HI s.shw.time).raise Ev.MARGIN_REPLAN (worstMonitor s)

/-- A voltage is planned, or the margin is judged at the present one. -/
def planVolt (w : Int) (s : Device) : Device :=
  let k : Int := sext 16 (s.rn R.HKP_SENS_DV)
  let req := s.rn R.HKP_VCORE_REQ
  let lo := s.rf R.HKP_AVS_LIMITS 9 0
  let hi := s.rf R.HKP_AVS_LIMITS 25 16
  let gap : Int := ((s.rf R.HKP_MARGIN_CFG 15 8 : Nat) : Int) - w
  let (i, s) := s.takeFree
  let v : Nat :=
    if k ≤ 0 then max lo (min hi (Config.planVolt i))
    else (clampI lo hi (((req : Nat) : Int) + -((-(gap * 100)) / k))).toNat
  if v = req then noteMargin s else { s with hkp := { s.hkp with plan := some v } }

/-- The receive phases follow their monitors (R487). -/
def followDelays (delays : List Int) (s : Device) : Device :=
  let live := (upto 512).filter (fun c => chainOn s.reg c && chainMode s.reg c = 0 && s.rb (R.BAT_CHn_EYE c) 12)
  let shifts := live.filterMap (fun c => (s.hkp.eyes.find c).map (fun (p : Nat × Int) => delays.getD (c / 128) 0 - p.2))
  let most := shifts.foldl (fun (a : Int) d => if a.natAbs < d.natAbs then d else a) 0
  (s.setN R.HKP_RXSHIFT (trunc 16 most)).each live (fun s c => shiftChain c s)

/-- A re-plan as its stages at its instant. -/
def replanAt (delays : List Int) (t : Nat) (s : Device) : Device :=
  let u := s.elapseTo t
  let w := u.hkp.lowSlack.getD (worstSlack u)
  let b := beginReplan delays u
  followDelays delays (if !avsRuns b then noteMargin b else planVolt w b)

theorem marginReplan_eq (delays : List Int) (s : Device) :
    marginReplan delays s = replanAt delays (s.hkp.planAt + 60000000000 * s.rf R.HKP_AVS_CFG 15 8) s := rfl

theorem noteMargin_frame (s : Device) : ReplanFrame s (noteMargin s) := by
  unfold noteMargin
  dsimp only
  refine ⟨Device.raiseIf_clock .., ?_, ?_, fun e told => ?_⟩
  · rw [Device.raiseIf_hkp]
    rfl
  · rw [Device.reg_raiseIf]
    exact s.reg_setReg_other _ (by decide)
  · unfold Device.raiseIf
    split
    · exact List.mem_append_left _ told
    · exact told

theorem planVolt_frame (w : Int) (s : Device) : ReplanFrame s (planVolt w s) := by
  have judged (v : Nat) : ReplanFrame s (if v = s.rn R.HKP_VCORE_REQ then noteMargin s.takeFree.2 else
      { s.takeFree.2 with hkp := { s.takeFree.2.hkp with plan := some v } }) := by
    split
    · exact noteMargin_frame s.takeFree.2
    · exact ⟨rfl, rfl, rfl, fun _ told => told⟩
  exact judged _

/-- With no eye calibrated, only the largest shift is shown. -/
theorem followDelays_none (delays : List Int) {s : Device} (none : ∀ c, s.hkp.eyes.find c = .none) : ReplanFrame s (followDelays delays s) ∧
    (followDelays delays s).hkp = s.hkp := by
  have idle (l : List Nat) (t : Device) (same : t.hkp = s.hkp) : t.each l (fun s c => shiftChain c s) = t := by
    induction l with
    | nil => rfl
    | cons c l ih =>
      have still : shiftChain c t = t := by
        unfold shiftChain
        rw [same, none c]
      rw [Device.each_cons, still, ih]
  unfold followDelays
  dsimp only
  generalize trunc 16 _ = v
  rw [idle _ (s.setN R.HKP_RXSHIFT v) rfl]
  exact ⟨⟨rfl, rfl, Device.reg_setReg_other _ _ (by decide), fun _ told => told⟩, rfl⟩

theorem noteMargin_hkp (s : Device) : (noteMargin s).hkp = s.hkp := Device.raiseIf_hkp ..

/-- A re-plan with no eye calibrated, from its instant on. -/
theorem replanAt_effect (delays : List Int) (t : Nat) {s : Device} (none : ∀ c, s.hkp.eyes.find c = .none) : let d := replanAt delays t s
    d.hkp.delays = delays ∧ d.hkp.lowSlack = .none ∧ d.clock = max s.clock t ∧ d.hkp.planAt = d.clock ∧ d.reg R.HKP_VCORE_REQ = s.reg R.HKP_VCORE_REQ ∧
      (avsRuns s = false → d.hkp.plan = s.hkp.plan) ∧ ∃ e ∈ d.evt.raised, e.ev = Ev.MARGIN_REPLAN := by
  have clock : (s.elapseTo t).clock = max s.clock t := Device.elapseTo_clock ..
  have hkp : (s.elapseTo t).hkp = s.hkp := Device.elapseTo_hkp ..
  have regs (o : Nat) : (s.elapseTo t).reg o = s.reg o := Device.reg_elapseTo ..
  unfold replanAt
  generalize s.elapseTo t = u at clock hkp regs
  have begunReg (o : Nat) (hi : o ≠ R.HKP_REPLAN_TIME_HI) (lo : o ≠ R.HKP_REPLAN_TIME_LO) : (beginReplan delays u).reg o = s.reg o := by
    refine Eq.trans ?_ (regs o)
    exact (Device.reg_setReg_other _ _ hi).trans (Device.reg_setReg_other _ _ lo)
  have begunHkp : (beginReplan delays u).hkp = { s.hkp with planAt := u.clock, lowSlack := .none, delays := delays } := by
    rw [← hkp]
    rfl
  have begunClock : (beginReplan delays u).clock = u.clock := rfl
  have told : ∃ e ∈ (beginReplan delays u).evt.raised, e.ev = Ev.MARGIN_REPLAN := by
    obtain ⟨e, he, ev, _⟩ := Device.raise_tells (Device.set64 { u with hkp := { u.hkp with planAt := u.clock, lowSlack := .none, delays := delays } }
      R.HKP_REPLAN_TIME_LO R.HKP_REPLAN_TIME_HI u.shw.time) Ev.MARGIN_REPLAN (worstMonitor { u with hkp := { u.hkp with planAt := u.clock, lowSlack := .none, delays := delays } })
    exact ⟨e, he, ev⟩
  have runs : avsRuns (beginReplan delays u) = avsRuns s := by
    unfold avsRuns
    rw [Device.rb_of_reg (begunReg R.HKP_AVS_CFG (by decide) (by decide)), Device.rb_of_reg (begunReg R.HKP_AVS_STATUS (by decide) (by decide))]
  dsimp only
  have req := begunReg R.HKP_VCORE_REQ (by decide) (by decide)
  generalize u.hkp.lowSlack.getD (worstSlack u) = w
  generalize beginReplan delays u = b at begunHkp begunClock told runs req
  have planned : ReplanFrame b (if (!avsRuns b) = true then noteMargin b else planVolt w b) := by
    split
    · exact noteMargin_frame b
    · exact planVolt_frame w b
  have off (h : avsRuns s = false) : (if (!avsRuns b) = true then noteMargin b else planVolt w b).hkp.plan = s.hkp.plan := by
    rw [runs, h, Bool.not_false, if_pos rfl, noteMargin_hkp, begunHkp]
  generalize (if (!avsRuns b) = true then noteMargin b else planVolt w b) = p at planned off
  obtain ⟨followed, same⟩ := followDelays_none delays (s := p) (by rw [planned.2.1, begunHkp]; exact none)
  obtain ⟨pclock, phkp, preq, ptold⟩ := planned.trans followed
  obtain ⟨e, he, ev⟩ := told
  refine ⟨by rw [phkp, begunHkp], by rw [phkp, begunHkp], pclock.trans (begunClock.trans clock), ?_, preq.trans req, fun h => ?_, e, ptold e he, ev⟩
  · rw [phkp, begunHkp, pclock, begunClock]
  · rw [same, off h]

/-- Settles O46: the effect of each command, clause by clause. -/
theorem dieAndCoreVoltageAreWatched : Obligations.DieAndCoreVoltageAreWatched := by
  unfold Obligations.DieAndCoreVoltageAreWatched
  intro s
  refine ⟨fun temps first => ?_, fun temps => ?_, fun slacks => ?_, fun vout iout temp status => ⟨fun off => ?_, fun on => ?_⟩, fun ack mv => ?_,
    fun idle => ?_, fun runs fast => ?_, fun delays none => ?_⟩
  · exact State.runs_of (thermSample temps) rfl (thermSample_effect temps first)
  · exact State.runs_of (thermalRelease temps) rfl (thermalRelease_effect temps s.dev)
  · have frame := pdmSample_loopFrame slacks s.dev
    refine State.runs_of (pdmSample slacks) rfl ⟨frame.shw.trans (noteSlacks_frame slacks s.dev).shw, fun m inside => ?_, fun off => ?_⟩
    · refine Eq.trans ?_ (noteSlacks_reads slacks s.dev inside)
      exact congrArg BitVec.toNat (frame.2 _ (by unfold R.HKP_PDMm; omega))
    · obtain ⟨req, fast, sent, low⟩ := pdmSample_off slacks off
      exact ⟨req, fast, sent, low⟩
  · exact State.runs_of (fun s => s.when (s.rb R.HKP_PMB_CFG 0) (storePmbus vout iout temp status)) rfl (by rw [off]; rfl)
  · refine State.runs_of (fun s => s.when (s.rb R.HKP_PMB_CFG 0) (storePmbus vout iout temp status)) rfl ?_
    rw [on]
    exact storePmbus_effect vout iout temp status s.dev
  · obtain ⟨clock, shown, good, bad⟩ := judgeVout_effect ack mv (s.dev.hkp.sentAt + 2000000) s.dev
    refine State.runs_of (avsReadback ack mv) rfl ?_
    rw [avsReadback_eq]
    refine ⟨clock, shown, good, fun runs differs => bad ?_⟩
    rintro (off | ⟨a, low, high⟩)
    · exact absurd (runs.symm.trans off) (by decide)
    · have := differs a
      omega
  · exact State.runs_of vcoreStep rfl (vcoreStep_idle idle)
  · exact State.runs_of vcoreStep rfl (vcoreStep_effect runs fast)
  · refine State.runs_of (marginReplan delays) rfl ?_
    rw [marginReplan_eq]
    exact replanAt_effect delays _ none

end Sys2Proof.Machine
end

section
/-! PROOFS. What the members of a pair hear of each other (R387 to R423). -/

namespace Sys2Proof.Machine

/-! ### Lanes (R390) -/

theorem pairPay_lt (s : Device) (cause place content : Nat) : pairPay s cause place content < 2 ^ 64 := payF_lt ..

theorem rdgState_congr {s t : Device} (h : t.reg R.RDG_STATUS = s.reg R.RDG_STATUS) : rdgState t = rdgState s := Device.rf_of_reg h 3 0

theorem pairPay_congr {s t : Device} (h : t.reg R.RDG_STATUS = s.reg R.RDG_STATUS) (cause place content : Nat) :
    pairPay t cause place content = pairPay s cause place content := by
  unfold pairPay
  rw [rdgState_congr h]

/-- What a lane that goes down leaves (R390): its bit cleared, its resends forgotten, the instant kept, RIDGE_DEGRADED told. -/
def laneFell (k : Nat) (s d : Device) : Prop :=
  d.rb R.RDG_LINK k = false ∧ (∀ j, j < 2 → j ≠ k → d.rb R.RDG_LINK j = s.rb R.RDG_LINK j) ∧
    d.rdg = { s.rdg with resends := s.rdg.resends.del k, downAt := s.rdg.downAt.put k s.clock } ∧
    s.newEvents d [(Ev.RIDGE_DEGRADED, pairPay s 0 k s.shw.frame)]

theorem laneDown_effect {k : Nat} (lane : k < 2) {s : Device} (up : s.rb R.RDG_LINK k = true) :
    laneFell k s (laneDown k s) ∧ s.keepsRegs (laneDown k s) [R.RDG_LINK] := by
  have k32 : k < 32 := by omega
  have state : (s.setB R.RDG_LINK k false).reg R.RDG_STATUS = s.reg R.RDG_STATUS := s.reg_setReg_other _ (by decide)
  have eq : laneDown k s = let t := (s.setB R.RDG_LINK k false).raise Ev.RIDGE_DEGRADED (pairPay s 0 k s.shw.frame)
      { t with rdg := { s.rdg with resends := s.rdg.resends.del k, downAt := s.rdg.downAt.put k s.clock } } := by
    unfold laneDown
    rw [if_neg (by simp [up]), ← pairPay_congr state]
    rfl
  rw [eq]
  refine ⟨⟨s.rb_setB_same _ _ k32, fun j _ other => s.rb_setB_otherBit _ _ _ k32 other, rfl, ?_⟩, s.setReg_keeps _ _⟩
  exact Device.newEvents_one rfl _ (pairPay_lt ..)

/-- A resend before the third is counted. -/
theorem resend_effect {k : Nat} {s : Device} (up : s.rb R.RDG_LINK k = true) (few : s.rdg.resends.getD 0 k < 3) : let d := resend k s
    d.rdg = { s.rdg with resends := s.rdg.resends.put k (s.rdg.resends.getD 0 k + 1) } ∧
      d.rf R.RDG_LINK 15 8 = min 255 (s.rf R.RDG_LINK 15 8 + 1) ∧ s.keepsRegs d [R.RDG_LINK] ∧ s.newEvents d [] := by
  have counted : (s.setF R.RDG_LINK 15 8 (min 255 (s.rf R.RDG_LINK 15 8 + 1))).rf R.RDG_LINK 15 8 = min 255 (s.rf R.RDG_LINK 15 8 + 1) :=
    (s.rf_setF_same R.RDG_LINK 15 8 _ (by decide) (by decide)).trans (Nat.mod_eq_of_lt (lt_of_le_of_lt (min_le_left _ _) (by decide)))
  have keeps := s.setReg_keeps R.RDG_LINK (setFld (s.reg R.RDG_LINK) 15 8 (min 255 (s.rf R.RDG_LINK 15 8 + 1)))
  unfold resend
  rw [if_neg (by simp [up]), if_neg (by omega)]
  dsimp only
  split
  · exact ⟨rfl, counted, keeps, Device.newEvents_none rfl⟩
  · exact ⟨rfl, counted, keeps, Device.newEvents_none rfl⟩

theorem retrain_effect {k : Nat} (lane : k < 2) {s : Device} (down : s.rb R.RDG_LINK k = false) : let d := retrain k true s
    d.rb R.RDG_LINK k = true ∧ d.rdg = { s.rdg with downAt := s.rdg.downAt.del k } ∧ s.keepsRegs d [R.RDG_LINK] := by
  unfold retrain
  rw [if_neg (by simp [down])]
  exact ⟨s.rb_setB_same _ _ (by omega), rfl, s.setReg_keeps _ _⟩

/-- A loss of block lock is counted, and takes the lane down. -/
theorem blockLockLoss_effect {k : Nat} (lane : k < 2) {s : Device} (up : s.rb R.RDG_LINK k = true) : let d := laneDown k (s.count R.RDG_LINK_ERR 1)
    laneFell k s d ∧ d.reg R.RDG_LINK_ERR = satInc (s.reg R.RDG_LINK_ERR) 1 ∧ s.keepsRegs d [R.RDG_LINK, R.RDG_LINK_ERR] := by
  have link : (s.count R.RDG_LINK_ERR 1).reg R.RDG_LINK = s.reg R.RDG_LINK := s.reg_setReg_other _ (by decide)
  have state : (s.count R.RDG_LINK_ERR 1).reg R.RDG_STATUS = s.reg R.RDG_STATUS := s.reg_setReg_other _ (by decide)
  obtain ⟨⟨fell, others, rdg, told⟩, keeps⟩ := laneDown_effect lane (s := s.count R.RDG_LINK_ERR 1) ((Device.rb_of_reg link k).trans up)
  rw [pairPay_congr state] at told
  refine ⟨⟨fell, fun j hj other => (others j hj other).trans (Device.rb_of_reg link j), rdg, told⟩, ?_, fun o beside => ?_⟩
  · exact (keeps _ (by decide)).trans (s.reg_setReg_same _ _)
  · simp only [List.mem_cons, List.not_mem_nil, or_false, not_or] at beside
    exact (keeps o (by simpa using beside.1)).trans (s.reg_setReg_other _ beside.2)

/-! ### Heartbeats that are missed (R391, R392) -/

/-- A decision about evidence changes what is held of evidence alone. -/
theorem decideEvidence_eq (s : Device) : ∃ e, decide_ s = { s with rdg := { s.rdg with evidence := e } } := by
  unfold decide_
  split
  · exact ⟨_, rfl⟩
  · dsimp only
    split
    · exact ⟨_, rfl⟩
    · split
      · exact ⟨s.rdg.evidence, rfl⟩
      · exact ⟨_, rfl⟩

theorem ridgeMissed_effect {s : Device} (paired : rdgState s ≠ 0) (few : ridgeUp s = false ∨ s.rdg.ridgeMiss < 2) : let d := ridgeMissed s
    d.rdg.ridgeMiss = s.rdg.ridgeMiss + 1 ∧ d.reg R.RDG_RIDGE_MISS = satInc (s.reg R.RDG_RIDGE_MISS) 1 ∧ s.keepsRegs d [R.RDG_RIDGE_MISS] ∧ s.newEvents d [] := by
  have up : ridgeUp { s.count R.RDG_RIDGE_MISS 1 with rdg := { s.rdg with ridgeMiss := s.rdg.ridgeMiss + 1 } } = ridgeUp s :=
    Device.rb_of_reg (s.reg_setReg_other _ (by decide)) 5
  unfold ridgeMissed
  rw [if_neg paired]
  dsimp only
  rw [if_neg (by rw [up]; rcases few with down | few <;> simp [*])]
  obtain ⟨e, eq⟩ := decideEvidence_eq { s.count R.RDG_RIDGE_MISS 1 with rdg := { s.rdg with ridgeMiss := s.rdg.ridgeMiss + 1 } }
  rw [eq]
  exact ⟨rfl, s.reg_setReg_same _ _, s.setReg_keeps _ _, Device.newEvents_none rfl⟩

/-- A unit without its standby keeps its registers and the events told. -/
theorem standbyGone_keeps (s : Device) : (standbyGone s).regs = s.regs ∧ ∀ e ∈ s.evt.raised, e ∈ (standbyGone s).evt.raised := by
  unfold standbyGone
  split
  · dsimp only
    generalize pairPay s 0 0 s.shw.frame = p
    refine ⟨?_, fun e told => ?_⟩
    · exact (s.raise Ev.STANDBY_LOST p).each_keeps Device.regs (s.raise Ev.STANDBY_LOST p).rdg.held _ (fun _ _ _ => rfl)
    · have same := (s.raise Ev.STANDBY_LOST p).each_keeps Device.evt (s.raise Ev.STANDBY_LOST p).rdg.held
        (fun s q => s.sendBytes (.session q.1) q.2) (fun _ _ _ => rfl)
      rw [same]
      exact List.mem_append_left _ told
  · exact ⟨rfl, fun _ told => told⟩

theorem netLost_effect {s : Device} (paired : rdgState s ≠ 0) : let d := netLost s
    d.rb R.RDG_STATUS 7 = false ∧ ∃ e ∈ d.evt.raised, e.ev = Ev.NET_PATH_LOST := by
  unfold netLost
  rw [if_neg paired]
  dsimp only
  generalize s.count R.RDG_NET_MISS _ = t
  generalize pairPay (t.setB R.RDG_STATUS 7 false) 0 0 (t.setB R.RDG_STATUS 7 false).shw.frame = p
  obtain ⟨x, eq⟩ := decideEvidence_eq ((t.setB R.RDG_STATUS 7 false).raise Ev.NET_PATH_LOST p)
  rw [eq]
  obtain ⟨regs, told⟩ := standbyGone_keeps { (t.setB R.RDG_STATUS 7 false).raise Ev.NET_PATH_LOST p with
    rdg := { ((t.setB R.RDG_STATUS 7 false).raise Ev.NET_PATH_LOST p).rdg with evidence := x } }
  obtain ⟨e, he, ev, _⟩ := (t.setB R.RDG_STATUS 7 false).raise_tells Ev.NET_PATH_LOST p
  exact ⟨(Device.rb_of_reg (Device.reg_congr regs _) 7).trans (t.rb_setB_same _ _ (by decide)), e, told e he, ev⟩

/-! ### Health records (R418) -/

theorem putHealth_effect (r : List Byte) (s : Device) : let d := putHealth R.RDG_HEALTH_PEERj r s
    (∀ j, j < 16 → d.rn (R.RDG_HEALTH_PEERj j) = leAt r (4 * j) 4 % 2 ^ 32) ∧ ∀ o, (∀ j, j < 16 → o ≠ R.RDG_HEALTH_PEERj j) → d.reg o = s.reg o := by
  refine ⟨fun j inside => ?_, fun o beside => ?_⟩
  · have stores := Device.each_stores (l := upto 16) (key := R.RDG_HEALTH_PEERj) (value := fun j => BitVec.ofNat 32 (leAt r (4 * j) 4)) (holds := fun _ => True)
      (s := s) (f := fun s j => s.setN (R.RDG_HEALTH_PEERj j) (leAt r (4 * j) 4)) ?_ trivial j (List.mem_range.mpr inside)
    · exact (congrArg BitVec.toNat stores).trans (BitVec.toNat_ofNat ..)
    · intro t _ k _
      exact ⟨trivial, t.reg_setReg_same _ _, fun i _ other => t.reg_setReg_other _ (by unfold R.RDG_HEALTH_PEERj; omega)⟩
  · exact s.each_keeps (fun d => d.reg o) (upto 16) _ fun t j hj => t.reg_setReg_other _ (beside j (List.mem_range.mp hj))

theorem healthHeard_bad {r : List Byte} (bad : r.length ≠ 64 ∨ leAt r 60 4 ≠ crc32c (r.take 60)) (s : Device) : healthHeard r s = s :=
  if_neg (by rcases bad with bad | bad <;> simp [bad])

theorem healthHeard_good {r : List Byte} {s : Device} (paired : rdgState s ≠ 0) (len : r.length = 64) (crc : leAt r 60 4 = crc32c (r.take 60)) :
    healthHeard r s = putHealth R.RDG_HEALTH_PEERj r s :=
  if_pos (by simp only [paired, len, crc, ne_eq, not_false_eq_true, decide_true, Bool.and_self])

/-! ### Responses held (R400) -/

theorem changeAcknowledged_none {s : Device} (none : s.rdg.held = []) : changeAcknowledged s = { s with rdg := { s.rdg with resends := [] } } := by
  unfold changeAcknowledged
  simp only [none]

theorem changeAcknowledged_some {s : Device} {slot : Nat} {b : List Byte} {rest : List (Nat × List Byte)} (held : s.rdg.held = (slot, b) :: rest) :
    let d := changeAcknowledged s
    d.rdg = { s.rdg with resends := [], held := rest } ∧
      d.sent = s.sent ++ if (s.kpr.sessions.find slot).isSome then [⟨.session slot, b.map (·.toNat)⟩] else [] := by
  unfold changeAcknowledged
  simp only [held]
  split
  · exact ⟨rfl, rfl⟩
  · exact ⟨rfl, (List.append_nil _).symm⟩

/-! ### The statement -/

/-- Settles O53: a command that is not for this unit leaves the device as it is, and each other has its effect. -/
theorem pairMembersHearEachOther : Obligations.PairMembersHearEachOther := by
  unfold Obligations.PairMembersHearEachOther
  intro s hb tag rec_
  refine ⟨fun solo => ?_, fun away => ?_, fun idle stream seq => ?_, fun none => ?_, fun none => ?_, fun k lane => ?_, fun bad => ?_, fun bad => ?_,
    fun paired len crc => ?_, fun paired few => ?_, fun paired => ?_, fun none => ?_, fun slot b rest held => ?_⟩
  · refine ⟨State.runs_of ridgeBeat rfl (if_pos solo), State.runs_of (ridgeHeard hb) rfl (if_pos solo), State.runs_of ridgeMissed rfl (if_pos solo),
      State.runs_of netBeat rfl (if_pos solo), State.runs_of (netHeard hb tag) rfl (if_pos (by simp [solo])), State.runs_of netLost rfl (if_pos solo),
      State.runs_of healthTick rfl (if_pos solo), State.runs_of (healthHeard rec_) rfl (if_neg (by simp [solo]))⟩
  · have out : (!inStandby s.dev) = true := by simp [away]
    have not : ¬ inStandby s.dev = true := by simp [away]
    refine ⟨fun r => State.runs_of (captureHeard r) rfl (if_pos out), fun r => State.runs_of (outputHeard r) rfl (if_pos out),
      fun r => State.runs_of (recordHeard r) rfl (if_pos out), fun off v f => State.runs_of (forwardHeard off v f) rfl (if_pos (by simp [away])),
      fun off data => State.runs_of (mirrorHeard off data) rfl (if_neg not), fun seq items => State.runs_of (deltaHeard seq items) rfl (if_pos (by simp [away])),
      fun items pages last => State.runs_of (sweepHeard items pages last) rfl (if_pos out),
      fun stream seq packet univ values => State.runs_of (repairHeard stream seq packet univ values) rfl (if_pos out)⟩
  · exact State.runs_of (repairAsked stream seq) rfl (if_pos (by simp [idle]))
  · exact State.runs_of captureExpired rfl (if_pos (by simp [none]))
  · exact State.runs_of waitExpired rfl (by unfold waitExpired; rw [none])
  · have exists_ : decide (k < 2) = true := decide_eq_true lane
    dsimp only
    refine ⟨fun up => ?_, fun up many => ?_, fun up few => ?_, fun down => ⟨?_, ?_⟩, ?_⟩
    · exact State.runs_unit (fun _ => k < 2) (fun s => laneDown k (s.count R.RDG_LINK_ERR 1)) rfl exists_ (blockLockLoss_effect lane up)
    · refine State.runs_unit (fun _ => k < 2) (resend k) rfl exists_ ?_
      have falls : resend k s.dev = laneDown k s.dev := by
        unfold resend
        rw [if_neg (by simp [up]), if_pos many]
      rw [falls]
      exact laneDown_effect lane up
    · exact State.runs_unit (fun _ => k < 2) (resend k) rfl exists_ (resend_effect up few)
    · exact State.runs_unit (fun _ => k < 2) (resend k) rfl exists_ (if_pos (by simp [down]))
    · exact State.runs_unit (fun _ => k < 2) (retrain k true) rfl exists_ (retrain_effect lane down)
    · exact State.runs_unit (fun _ => k < 2) (retrain k false) rfl exists_ (if_pos (by simp))
  · exact State.runs_of (netHeard hb tag) rfl (if_pos (by rcases bad with bad | bad <;> simp [bad]))
  · exact State.runs_of (healthHeard rec_) rfl (healthHeard_bad bad s.dev)
  · refine State.runs_of (healthHeard rec_) rfl ?_
    rw [healthHeard_good paired len crc]
    exact putHealth_effect rec_ s.dev
  · exact State.runs_of ridgeMissed rfl (ridgeMissed_effect paired few)
  · exact State.runs_of netLost rfl (netLost_effect paired)
  · refine State.runs_of changeAcknowledged rfl ?_
    rw [changeAcknowledged_none none]
    exact ⟨rfl, rfl⟩
  · exact State.runs_of changeAcknowledged rfl (changeAcknowledged_some held)

end Sys2Proof.Machine
end

section
/-! PROOFS. Resets (R424, R425, R448, R451): what each clears and keeps, and the start-up that follows. -/

namespace Sys2Proof.Machine

/-! ### A full reset and a core reset (R424) -/

/-- What every reset loses and keeps besides the registers (R424). -/
def resetLost (s d : Device) : Prop :=
  d.mem = {} ∧ d.shw = {} ∧ d.net = {} ∧ d.que = {} ∧ d.cmp = {} ∧ d.bat = {} ∧ d.hdr = {} ∧ d.pvw = {} ∧ d.kpr = {} ∧
    d.evt = {} ∧ d.rdg = {} ∧ d.hkp = {} ∧ d.upd = {} ∧ d.pipe = [] ∧ d.banked = [] ∧ d.latches = [] ∧ d.sys.released = none ∧ d.sys.slot = none ∧
    d.sys.flash = s.sys.flash ∧ d.sys.minVer = s.sys.minVer ∧ d.pho.ageNewest = s.pho.ageNewest ∧ d.mtr.records = s.mtr.records

/-- A core reset (R424): the always-on registers and the metering stay, the cause is shown and the reset counted. -/
def coreKept (s : Device) (cause : Nat) (d : Device) : Prop :=
  (∀ b, d.rb R.SYS_RESET_CAUSE b = (decide (b = cause) || s.rb R.SYS_RESET_CAUSE b)) ∧
    d.reg R.SYS_RESETS = satInc (s.reg R.SYS_RESETS) 1 ∧
    (∀ o, o ≠ R.SYS_RESET_CAUSE → o ≠ R.SYS_RESETS → d.reg o = if keptRegister o then s.reg o else resetOf o) ∧ resetLost s d ∧
    d.mtr = { s.mtr with saving := none } ∧ d.sys.full = false ∧ d.sys.hot = false

theorem fullReset_effect (s : Device) : (∀ o, (fullReset s).reg o = resetOf o) ∧ resetLost s (fullReset s) ∧ (fullReset s).sys.full = true ∧
    (fullReset s).sys.settings = s.sys.settings ∧ (fullReset s).clock = s.clock :=
  ⟨fun _ => rfl, ⟨rfl, rfl, rfl, rfl, rfl, rfl, rfl, rfl, rfl, rfl, rfl, rfl, rfl, rfl, rfl, rfl, rfl, rfl, rfl, rfl, rfl, rfl⟩, rfl, rfl, rfl⟩

theorem readFile_filter (m : Table Word) (keep : Nat → Bool) (o : Nat) :
    readFile (m.filter fun p => keep p.1) o = if keep o then readFile m o else resetOf o := by
  unfold readFile
  rw [Table.find_filter_key]
  split <;> rfl

theorem setBit_true_testBit (v : Word) {i : Nat} (h : i < 32) (j : Nat) : (setBit v i true).toNat.testBit j = (decide (j = i) || v.toNat.testBit j) := by
  rw [testBit_setBit _ _ _ _ h]
  by_cases same : j = i <;> simp [same]

/-- A device whose always-on domain alone is left. -/
def coreCleared (cause : Nat) (s : Device) : Device :=
  { clock := s.clock, free := s.free, resp := s.resp, sent := s.sent,
    regs := s.regs.filter (fun p => keptRegister p.1), sys := { s.sys.kept with full := false, hot := cause = 6 }, pho := s.pho.kept,
    mtr := { s.mtr with saving := none } }

theorem coreReset_eq (cause : Nat) (s : Device) :
    coreReset cause s = ((coreCleared cause s).setB R.SYS_RESET_CAUSE cause true).count R.SYS_RESETS 1 := rfl

theorem coreCleared_reg (cause : Nat) (s : Device) (o : Nat) : (coreCleared cause s).reg o = if keptRegister o then s.reg o else resetOf o :=
  readFile_filter s.regs keptRegister o

theorem coreReset_reg (cause : Nat) (s : Device) (o : Nat) : (coreReset cause s).reg o =
    if o = R.SYS_RESETS then satInc (s.reg R.SYS_RESETS) 1
    else if o = R.SYS_RESET_CAUSE then setBit (s.reg R.SYS_RESET_CAUSE) cause true
    else if keptRegister o then s.reg o else resetOf o := by
  have resets : (coreCleared cause s).reg R.SYS_RESETS = s.reg R.SYS_RESETS := (coreCleared_reg ..).trans (if_pos (by decide))
  have causes : (coreCleared cause s).reg R.SYS_RESET_CAUSE = s.reg R.SYS_RESET_CAUSE := (coreCleared_reg ..).trans (if_pos (by decide))
  have apart : R.SYS_RESETS ≠ R.SYS_RESET_CAUSE := by decide
  rw [coreReset_eq, Device.reg_count, Device.reg_setB, Device.reg_setB, if_neg apart, resets, causes, coreCleared_reg]

/-- What a core reset keeps of a device that differs from `s` in registers that are not kept, and in work. -/
theorem coreReset_after {s t : Device} {cause : Nat} (small : cause < 6) (regs : ∀ o, keptRegister o = true → t.reg o = s.reg o) (mtr : t.mtr = s.mtr)
    (flash : t.sys.flash = s.sys.flash) (minVer : t.sys.minVer = s.sys.minVer) (age : t.pho.ageNewest = s.pho.ageNewest) :
    coreKept s cause (coreReset cause t) := by
  have resets : t.reg R.SYS_RESETS = s.reg R.SYS_RESETS := regs _ (by decide)
  have causes : t.reg R.SYS_RESET_CAUSE = s.reg R.SYS_RESET_CAUSE := regs _ (by decide)
  refine ⟨fun b => ?_, ?_, fun o cause other => ?_, ⟨rfl, rfl, rfl, rfl, rfl, rfl, rfl, rfl, rfl, rfl, rfl, rfl, rfl, rfl, rfl, rfl, rfl, rfl, flash, minVer, age, ?_⟩, ?_, rfl, ?_⟩
  · unfold Device.rb Device.rn
    rw [coreReset_reg, if_neg (by decide), if_pos rfl, causes]
    exact setBit_true_testBit _ (by omega) b
  · rw [coreReset_reg, if_pos rfl, resets]
  · rw [coreReset_reg, if_neg other, if_neg cause]
    split
    · next keeps => exact regs o keeps
    · rfl
  · exact congrArg (·.records) mtr
  · exact congrArg (fun m : MtrState => { m with saving := none }) mtr
  · exact decide_eq_false (by omega)

theorem coreReset_effect (s : Device) {cause : Nat} (small : cause < 6) : coreKept s cause (coreReset cause s) :=
  coreReset_after small (fun _ _ => rfl) rfl rfl rfl rfl

/-! ### SYS_CMD (R444, R446, R448) -/

/-- What the commands of SYS_CMD change besides a reset: the settings and ageing saves, the holdup test, and their registers. -/
def CmdFrame (s t : Device) : Prop :=
  t.sys = { s.sys with settings := t.sys.settings, holdup := t.sys.holdup, tested := t.sys.tested } ∧
    t.pho = { s.pho with ageSaving := t.pho.ageSaving } ∧ t.mtr = s.mtr ∧ s.keepsRegs t [R.SYS_CMD, R.UPD_SETTINGS_FMT, R.SYS_SETTINGS_STATUS]

theorem CmdFrame.refl (s : Device) : CmdFrame s s := ⟨rfl, rfl, rfl, Device.keepsRegs_refl _ rfl⟩

theorem CmdFrame.trans {s t u : Device} (h : CmdFrame s t) (g : CmdFrame t u) : CmdFrame s u := by
  obtain ⟨sys, pho, mtr, regs⟩ := h
  obtain ⟨sys', pho', mtr', regs'⟩ := g
  refine ⟨?_, ?_, mtr'.trans mtr, Device.keepsRegs_trans regs regs'⟩
  · rw [sys'.trans (by rw [sys])]
  · rw [pho'.trans (by rw [pho])]

/-- SYS_CMD.SAVE_SETTINGS. -/
def settingsServed (b : Bool) (s : Device) : Device := if b then saveSettings s else s

/-- SYS_CMD.HOLDUP_TEST. -/
def holdupServed (b : Bool) (s : Device) : Device := if b then holdupStart (s.setB R.SYS_CMD 2 true) else s

/-- SYS_CMD.AGE_SAVE. -/
def ageServed (b : Bool) (s : Device) : Device := if b then ageSaveStart (s.setB R.SYS_CMD 3 true) else s

/-- The commands of SYS_CMD but for the reset. -/
def cmdServed (v : Word) (s : Device) : Device := ageServed (wbit v 3) (holdupServed (wbit v 2) (settingsServed (wbit v 1) s))

theorem sysCmd_effect (w : Who) (v : Word) (s : Device) :
    (sysHandler w R.SYS_CMD v).effect s = if wbit v 0 then coreReset 4 (cmdServed v s) else cmdServed v s := rfl

/-- The settings in effect (R446). -/
def settingsNow (s : Device) : Nat × Table Word := (s.rf R.UPD_SETTINGS_FMT 15 0, s.regs.filter fun p => isSetting p.1)

/-- The settings are stored, with their format, and that is told. -/
theorem saveSettings_eq (s : Device) : saveSettings s =
    (({ s with sys := { s.sys with settings := some (settingsNow s) } }.setF R.UPD_SETTINGS_FMT 31 16 (settingsNow s).1).setB R.SYS_SETTINGS_STATUS 1
      false).raise Ev.SETTINGS_SAVED (settingsNow s).2.length := by
  have same : (s.regs.filter fun p => isSetting p.1).map (fun p => (p.1, p.2)) = s.regs.filter fun p => isSetting p.1 := List.map_id _
  unfold saveSettings settingsNow
  rw [same]

theorem settingsServed_effect (b : Bool) (s : Device) : let d := settingsServed b s
    CmdFrame s d ∧ d.pho = s.pho ∧ d.sys = { s.sys with settings := if b then some (settingsNow s) else s.sys.settings } ∧
      (b = true → ∃ e ∈ d.evt.raised, e.ev = Ev.SETTINGS_SAVED) := by
  cases b
  · exact ⟨CmdFrame.refl s, rfl, rfl, nofun⟩
  · have eq : settingsServed true s = _ := saveSettings_eq s
    dsimp only
    rw [eq]
    refine ⟨⟨rfl, rfl, rfl, ?_⟩, rfl, rfl, fun _ => ?_⟩
    · exact Device.keepsRegs_setReg (Device.keepsRegs_setReg (Device.keepsRegs_refl _ rfl) _ _ (by decide)) _ _ (by decide)
    · obtain ⟨e, he, ev, _⟩ := Device.raise_tells (({ s with sys := { s.sys with settings := some (settingsNow s) } }.setF R.UPD_SETTINGS_FMT 31 16
        (settingsNow s).1).setB R.SYS_SETTINGS_STATUS 1 false) Ev.SETTINGS_SAVED (settingsNow s).2.length
      exact ⟨e, he, ev⟩

/-- A holdup test that starts, or runs already. -/
theorem holdupStart_effect (s : Device) : let d := holdupStart s
    CmdFrame s d ∧ d.pho = s.pho ∧ d.sys.settings = s.sys.settings ∧ d.sys.holdup = true ∧ d.evt = s.evt ∧ d.regs = s.regs := by
  unfold holdupStart
  split
  · next runs => exact ⟨CmdFrame.refl s, rfl, rfl, runs, rfl, rfl⟩
  · exact ⟨⟨rfl, rfl, rfl, Device.keepsRegs_refl _ rfl⟩, rfl, rfl, rfl, rfl, rfl⟩

theorem setCmd_frame (s : Device) (i : Nat) (b : Bool) : CmdFrame s (s.setB R.SYS_CMD i b) :=
  ⟨rfl, rfl, rfl, Device.keepsRegs_setReg (Device.keepsRegs_refl _ rfl) _ _ (by decide)⟩

theorem holdupServed_effect (b : Bool) (s : Device) : let d := holdupServed b s
    CmdFrame s d ∧ d.pho = s.pho ∧ d.sys.settings = s.sys.settings ∧ d.sys.holdup = (b || s.sys.holdup) ∧ d.evt = s.evt ∧
      (b = true → d.rb R.SYS_CMD 2 = true) := by
  cases b
  · exact ⟨CmdFrame.refl s, rfl, rfl, (Bool.false_or _).symm, rfl, nofun⟩
  · obtain ⟨frame, pho, settings, holdup, evt, regs⟩ := holdupStart_effect (s.setB R.SYS_CMD 2 true)
    refine ⟨(setCmd_frame s 2 true).trans frame, pho, settings, holdup.trans (Bool.true_or _).symm, evt, fun _ => ?_⟩
    exact (Device.rb_of_reg (Device.reg_congr regs _) 2).trans (s.rb_setB_same _ _ (by decide))

/-- The ageing copies are saved when no save runs. -/
theorem ageServed_effect {b : Bool} {s : Device} (idle : b = true → s.pho.ageSaving = none) : let d := ageServed b s
    CmdFrame s d ∧ d.sys = s.sys ∧ d.evt = s.evt ∧ d.rb R.SYS_CMD 2 = s.rb R.SYS_CMD 2 ∧ (b = false → d.pho = s.pho) ∧
      (b = true → d.pho.ageSaving ≠ none ∧ d.rb R.SYS_CMD 3 = true) := by
  cases b
  · exact ⟨CmdFrame.refl s, rfl, rfl, rfl, fun _ => rfl, nofun⟩
  · have starts : ageServed true s = ({ s.setB R.SYS_CMD 3 true with pho := { s.pho with ageSaving := some (ageTable (s.setB R.SYS_CMD 3 true)) } }).send
        .flash [6] := ageSaveStart_idle (s := s.setB R.SYS_CMD 3 true) (idle rfl)
    dsimp only
    rw [starts]
    generalize ageTable (s.setB R.SYS_CMD 3 true) = copy
    exact ⟨⟨rfl, rfl, rfl, (setCmd_frame s 3 true).2.2.2⟩, rfl, rfl, s.rb_setB_otherBit _ _ _ (by decide) (by decide), nofun,
      fun _ => ⟨nofun, s.rb_setB_same _ _ (by decide)⟩⟩

/-- What the commands of SYS_CMD have done: each bit its own. -/
def CmdDone (v : Word) (s d : Device) : Prop :=
  (wbit v 1 = false → d.sys.settings = s.sys.settings) ∧
    (wbit v 1 = true → d.sys.settings = some (settingsNow s) ∧ ∃ e ∈ d.evt.raised, e.ev = Ev.SETTINGS_SAVED) ∧
    d.sys.holdup = (wbit v 2 || s.sys.holdup) ∧ (wbit v 2 = true → d.rb R.SYS_CMD 2 = true) ∧
    (wbit v 3 = false → d.pho = s.pho) ∧ (wbit v 3 = true → d.pho.ageSaving ≠ none ∧ d.rb R.SYS_CMD 3 = true)

theorem cmdServed_effect {v : Word} {s : Device} (idle : wbit v 3 = true → s.pho.ageSaving = none) :
    CmdFrame s (cmdServed v s) ∧ CmdDone v s (cmdServed v s) := by
  obtain ⟨frame, pho, sys, told⟩ := settingsServed_effect (wbit v 1) s
  obtain ⟨frame', pho', settings', holdup, evt', test⟩ := holdupServed_effect (wbit v 2) (settingsServed (wbit v 1) s)
  obtain ⟨frame'', sys'', evt'', test'', same, aged⟩ := ageServed_effect (b := wbit v 3) (s := holdupServed (wbit v 2) (settingsServed (wbit v 1) s))
    (fun on => by rw [pho', pho, idle on])
  have stored : (cmdServed v s).sys.settings = if wbit v 1 then some (settingsNow s) else s.sys.settings := by
    refine (congrArg (·.settings) sys'').trans (settings'.trans ?_)
    rw [sys]
  refine ⟨(frame.trans frame').trans frame'', fun off => ?_, fun on => ⟨?_, ?_⟩, ?_, fun on => test''.trans (test on), fun off => ?_, aged⟩
  · rw [stored, off]
    rfl
  · rw [stored, on]
    rfl
  · obtain ⟨e, he, ev⟩ := told on
    exact ⟨e, by unfold cmdServed; rw [evt'', evt']; exact he, ev⟩
  · refine (congrArg (·.holdup) sys'').trans (holdup.trans ?_)
    rw [sys]
  · exact (same off).trans (pho'.trans pho)

/-- A write of SYS_CMD that is accepted finds no ageing save running when it asks for one. -/
theorem sysCmd_idle {s : Device} {w : Who} {v : Word} (ok : writeCode s w R.SYS_CMD v (sysHandler w R.SYS_CMD v) = .ok) (on : wbit v 3 = true) :
    s.pho.ageSaving = none := by
  obtain ⟨_, state, _, _⟩ := (writeCode_eq_ok ..).mp ok
  have state : (if (wbit v 2 && braced s) || ((wbit v 1 || wbit v 3) && s.mtr.tally) then Code.state
      else if wbit v 3 && s.pho.ageSaving.isSome then .busy else .ok) = .ok := state
  split at state
  · exact absurd state (by decide)
  · split at state
    · exact absurd state (by decide)
    · next free => simpa [on] using free

/-- A write of SYS_CMD that is accepted serves its commands, and then resets. -/
theorem sysCmd_written {s : Device} {w : Who} {v : Word} (ok : writeCode s w R.SYS_CMD v (sysHandler w R.SYS_CMD v) = .ok) :
    ∃ sent, regWrite s w R.SYS_CMD v (sysHandler w R.SYS_CMD v) =
      { (if wbit v 0 then coreReset 4 (cmdServed v (s.answer .ok)) else cmdServed v (s.answer .ok)) with sent := sent } := by
  rw [regWrite_ok ok, forwardWrite_eq, sysCmd_effect]
  exact ⟨_, rfl⟩

/-- A reset that SYS_CMD asks for keeps what every core reset keeps: none of the registers of its commands is kept. -/
theorem softReset_effect {v : Word} {s : Device} (idle : wbit v 3 = true → s.pho.ageSaving = none) :
    coreKept s 4 (coreReset 4 (cmdServed v s)) ∧ (wbit v 1 = false → (coreReset 4 (cmdServed v s)).sys.settings = s.sys.settings) := by
  obtain ⟨⟨sys, pho, mtr, regs⟩, settings, _⟩ := cmdServed_effect idle
  refine ⟨coreReset_after (by decide) (fun o kept => regs o fun command => ?_) mtr (by rw [sys]) (by rw [sys]) (by rw [pho]), fun off => settings off⟩
  have none : ∀ o ∈ [R.SYS_CMD, R.UPD_SETTINGS_FMT, R.SYS_SETTINGS_STATUS], keptRegister o = false := by decide
  exact absurd (none o command) (by simp [kept])

/-! ### Rails and the watchdog (R448, R451) -/

theorem railReset_core {rail : Nat} (core : rail < 5) (other : rail ≠ 2) (s : Device) : railReset rail s = coreReset 1 s := by
  unfold railReset
  rw [if_neg other, if_neg (by simp; omega)]

/-- The loss of SD or MTR_A clears its bit and is told. -/
theorem railReset_clears {rail : Nat} (which : rail = 5 ∨ rail = 6) (s : Device) : let d := railReset rail s
    d.rb R.SYS_RAIL_STATUS rail = false ∧ d.mem = s.mem ∧ s.keepsRegs d [R.SYS_RAIL_STATUS] ∧ s.newEvents d [(Ev.RAIL_WARN, rail)] := by
  have eq : railReset rail s = (s.setB R.SYS_RAIL_STATUS rail false).raise Ev.RAIL_WARN rail := by
    unfold railReset
    rw [if_neg (by omega), if_pos (by simpa using which)]
  rw [eq]
  exact ⟨s.rb_setB_same _ _ (by omega), rfl, s.setReg_keeps _ _, Device.newEvents_one rfl _ (by omega)⟩

theorem wdtExpiry_effect {s : Device} (on : s.rb R.SYS_WDT_CFG 16 = true) : let d := wdtExpiry s
    coreKept s 3 d ∧ d.clock = max s.clock (wdtDue s) ∧ d.sys.settings = s.sys.settings := by
  unfold wdtExpiry
  rw [if_pos on]
  generalize wdtDue s = t
  refine ⟨coreReset_after (by decide) (fun o _ => s.reg_elapseTo t o) (s.elapseTo_mtr t) ?_ ?_ ?_, s.elapseTo_clock t, ?_⟩
  · rw [Device.elapseTo_sys]
  · rw [Device.elapseTo_sys]
  · rw [Device.elapseTo_pho]
  · exact congrArg (·.settings) (s.elapseTo_sys t)

theorem wdtWarn_effect {s : Device} (on : s.rb R.SYS_WDT_CFG 16 = true) : let d := wdtWarn s
    d.clock = max s.clock (s.sys.kicked + 500000 * s.rf R.SYS_WDT_CFG 15 0) ∧ s.keepsRegs d [] ∧ d.mem = s.mem ∧ s.newEvents d [(Ev.WDT_WARN, 0)] := by
  unfold wdtWarn
  rw [if_pos on]
  generalize s.sys.kicked + 500000 * s.rf R.SYS_WDT_CFG 15 0 = t
  exact ⟨s.elapseTo_clock t, Device.keepsRegs_refl _ (s.elapseTo_regs t), s.elapseTo_mem t, Device.newEvents_one (s.elapseTo_evt t) _ (by decide)⟩

/-! ### Release from reset (R425, R433) -/

theorem resetRelease_again {s : Device} (again : s.sys.released ≠ none ∨ s.sys.hot = true) (unitB bootSvc : Bool) : resetRelease unitB bootSvc s = s := by
  refine if_pos ?_
  rcases again with released | hot
  · simp [Option.isSome_iff_ne_none.mpr released]
  · simp [hot]

/-- The straps as a reset release samples them. -/
def strapsRead (unitB bootSvc : Bool) (s : Device) : Device :=
  let t := { s with sys := { s.sys with released := some s.clock, kicked := s.clock } }
  (((t.setN R.BOOT_STRAPS (b2n unitB + 2 * b2n bootSvc)).setB R.RDG_UNIT 0 unitB).setB R.RDG_STATUS 4 unitB).setN R.SYS_RAIL_STATUS 0x7F

theorem resetRelease_service {s : Device} (first : s.sys.released = none) (cool : s.sys.hot = false) (unitB : Bool) :
    resetRelease unitB true s = serviceLoader false (strapsRead unitB true s) := by
  unfold resetRelease
  rw [if_neg (by simp [first, cool])]
  rfl

/-- The service loader shows itself in BOOT_STATUS and SYS_STATUS. -/
theorem serviceLoader_shows (s : Device) : let d := serviceLoader false s
    d.rf R.BOOT_STATUS 3 0 = 15 ∧ d.rb R.BOOT_STATUS 6 = true ∧ d.sys = s.sys ∧ s.keepsRegs d [R.BOOT_STATUS, R.SYS_STATUS] := by
  have status : (serviceLoader false s).reg R.BOOT_STATUS = ((s.setF R.BOOT_STATUS 3 0 15).setB R.BOOT_STATUS 6 true).reg R.BOOT_STATUS :=
    Device.reg_setReg_other _ _ (by decide)
  refine ⟨?_, ?_, rfl, ?_⟩
  · rw [Device.rf_of_reg status]
    refine ((s.setF R.BOOT_STATUS 3 0 15).rf_setF_other R.BOOT_STATUS 6 6 _ R.BOOT_STATUS 3 0 (by decide) (by decide) (by decide) (.inr (.inl (by decide)))).trans ?_
    exact s.rf_setF_same R.BOOT_STATUS 3 0 15 (by decide) (by decide)
  · exact (Device.rb_of_reg status 6).trans ((s.setF R.BOOT_STATUS 3 0 15).rb_setB_same _ _ (by decide))
  · exact Device.keepsRegs_setReg (Device.keepsRegs_setReg (Device.keepsRegs_setReg (Device.keepsRegs_refl _ rfl) _ _ (by decide)) _ _ (by decide)) _ _
      (by decide)

theorem strapsRead_shows (unitB : Bool) (s : Device) : let d := strapsRead unitB true s
    d.rn R.BOOT_STRAPS = b2n unitB + 2 ∧ d.rb R.RDG_UNIT 0 = unitB := by
  have small : b2n unitB + 2 < 2 ^ 32 := by cases unitB <;> decide
  refine ⟨?_, ?_⟩
  · refine Eq.trans ?_ (Nat.mod_eq_of_lt small)
    unfold strapsRead
    simp [Device.rn, Device.reg_setN, Device.reg_setB, R.BOOT_STRAPS, R.RDG_UNIT, R.RDG_STATUS, R.SYS_RAIL_STATUS, b2n]
  · have after (t : Device) : ((t.setB R.RDG_STATUS 4 unitB).setN R.SYS_RAIL_STATUS 0x7F).reg R.RDG_UNIT = t.reg R.RDG_UNIT :=
      (Device.reg_setReg_other _ _ (by decide)).trans (Device.reg_setReg_other _ _ (by decide))
    exact (Device.rb_of_reg (after _) 0).trans (Device.rb_setB_same _ _ _ (by decide))

theorem resetRelease_effect {s : Device} (first : s.sys.released = none) (cool : s.sys.hot = false) (unitB : Bool) : let d := resetRelease unitB true s
    d.sys.released = some s.clock ∧ d.sys.kicked = s.clock ∧ d.rn R.BOOT_STRAPS = b2n unitB + 2 ∧ d.rb R.RDG_UNIT 0 = unitB ∧ d.rf R.BOOT_STATUS 3 0 = 15 ∧
      d.rb R.BOOT_STATUS 6 = true ∧ d.sys.slot = s.sys.slot := by
  obtain ⟨straps, unit⟩ := strapsRead_shows unitB s
  obtain ⟨state, service, sys, keeps⟩ := serviceLoader_shows (strapsRead unitB true s)
  rw [resetRelease_service first cool]
  refine ⟨congrArg (·.released) sys, congrArg (·.kicked) sys, ?_, ?_, state, service, congrArg (·.slot) sys⟩
  · exact (congrArg BitVec.toNat (keeps _ (by decide))).trans straps
  · exact (Device.rb_of_reg (keeps _ (by decide)) 0).trans unit

/-! ### The statement -/

/-- Settles O54: the core reset of every cause is one lemma, and each other command has its own. -/
theorem resetsClearAndKeep : Obligations.ResetsClearAndKeep := by
  unfold Obligations.ResetsClearAndKeep
  intro s w v
  have core {c : Instr} {cause : Nat} (small : cause < 6) (h : exec c s = s.onDevice fun d => .next (coreReset cause d)) :
      s.runs c fun d => coreKept s.dev cause d ∧ d.clock = s.dev.clock ∧ d.sys.settings = s.dev.sys.settings :=
    State.runs_of (coreReset cause) h ⟨coreReset_effect s.dev small, rfl, rfl⟩
  refine ⟨State.runs_of fullReset rfl (fullReset_effect s.dev), ?_, fun rail which => ?_, fun rail small other => ?_, core (by decide) rfl, core (by decide) rfl,
    fun on => ⟨?_, ?_⟩, fun off => ⟨?_, ?_⟩, fun ok reset => ?_, fun ok => ?_, fun unitB bootSvc => ⟨fun again => ?_, fun first cool => ?_⟩, fun idle => ?_,
    fun idle => ?_⟩
  · exact State.runs_unit (fun _ => 2 < 7) (railReset 2) rfl (by decide) (fullReset_effect s.dev)
  · exact State.runs_unit (fun _ => rail < 7) (railReset rail) rfl (decide_eq_true (by omega)) (railReset_clears which s.dev)
  · refine State.runs_unit (fun _ => rail < 7) (railReset rail) rfl (decide_eq_true (by omega)) ?_
    rw [railReset_core small other]
    exact ⟨coreReset_effect s.dev (by decide), rfl, rfl⟩
  · exact State.runs_of wdtExpiry rfl (wdtExpiry_effect on)
  · exact State.runs_of wdtWarn rfl (wdtWarn_effect on)
  · exact State.runs_of wdtExpiry rfl (if_neg (by simp [off]))
  · exact State.runs_of wdtWarn rfl (if_neg (by simp [off]))
  · refine State.runs_of (fun s => regWrite s w R.SYS_CMD v (sysHandler w R.SYS_CMD v)) rfl ?_
    obtain ⟨sent, eq⟩ := sysCmd_written ok
    dsimp only
    rw [eq, if_pos reset]
    obtain ⟨kept, settings⟩ := softReset_effect (v := v) (s := s.dev.answer .ok) (sysCmd_idle ok)
    generalize coreReset 4 (cmdServed v (s.dev.answer .ok)) = d at kept settings
    exact ⟨kept, settings⟩
  · refine State.runs_of (fun s => regWrite s w R.SYS_WDT_KICK v (sysHandler w R.SYS_WDT_KICK v)) rfl ?_
    obtain ⟨d, sent, effect, eq⟩ := regWrite_effect ok
    dsimp only
    rw [eq, ← effect]
    exact ⟨rfl, Device.keepsRegs_refl _ rfl, rfl⟩
  · exact State.runs_of (resetRelease unitB bootSvc) rfl (resetRelease_again again unitB bootSvc)
  · exact State.runs_of (resetRelease unitB true) rfl (resetRelease_effect first cool unitB)
  · refine State.runs_of runtimeStart rfl ?_
    unfold runtimeStart
    rcases idle with none | started
    · rw [none]
    · split
      · rfl
      · rw [if_pos started]
  · exact State.runs_of showImageLoad rfl (if_pos idle)

end Sys2Proof.Machine
end

section
/-! PROOFS. Holdup tests, settings and trial slots (R432, R444, R446, R466). -/

namespace Sys2Proof.Machine

/-! ### Holdup tests (R444) -/

theorem holdupStart_idle {s : Device} (idle : s.sys.holdup = false) : holdupStart s =
    (({ s with sys := { s.sys with holdup := true, tested := s.clock } }).send (.pin pinHuIso) [1]).send (.pin pinHuTest) [1] :=
  if_neg (by simp [idle])

/-- A periodic test at the instant it is due. -/
def holdupDue (t : Nat) (s : Device) : Device := if braced (s.elapseTo t) then s.elapseTo t else holdupStart (s.elapseTo t)

theorem holdupPeriodic_eq {s : Device} (on : s.rf R.SYS_HU_PERIOD 10 0 ≠ 0) :
    holdupPeriodic s = holdupDue (s.sys.tested + 60000000000 * s.rf R.SYS_HU_PERIOD 10 0) s := if_neg on

theorem braced_elapseTo (s : Device) (t : Nat) : braced (s.elapseTo t) = braced s := Device.rb_of_reg (s.reg_elapseTo t _) 2

theorem holdupDue_effect (t : Nat) (s : Device) : let d := holdupDue t s
    d.clock = max s.clock t ∧ s.keepsRegs d [] ∧ (braced s = true → d.sys = s.sys ∧ d.sent = s.sent) ∧
      (braced s = false → s.sys.holdup = false → d.sys = { s.sys with holdup := true, tested := d.clock } ∧
        d.sent = s.sent ++ [⟨.pin pinHuIso, [1]⟩, ⟨.pin pinHuTest, [1]⟩]) := by
  have clock : (s.elapseTo t).clock = max s.clock t := s.elapseTo_clock t
  have regs : (s.elapseTo t).regs = s.regs := s.elapseTo_regs t
  have sys : (s.elapseTo t).sys = s.sys := s.elapseTo_sys t
  have sent : (s.elapseTo t).sent = s.sent := s.elapseTo_sent t
  unfold holdupDue
  rw [braced_elapseTo]
  generalize s.elapseTo t = u at clock regs sys sent
  by_cases brace : braced s = true
  · rw [if_pos brace]
    exact ⟨clock, Device.keepsRegs_refl _ regs, fun _ => ⟨sys, sent⟩, fun free => absurd (brace.symm.trans free) (by decide)⟩
  · rw [if_neg brace]
    by_cases runs : u.sys.holdup = true
    · have stays : holdupStart u = u := if_pos runs
      rw [stays]
      exact ⟨clock, Device.keepsRegs_refl _ regs, fun on => absurd on brace, fun _ idle => absurd (runs.symm.trans (congrArg (·.holdup) sys |>.trans idle)) (by decide)⟩
    · rw [holdupStart_idle (by simpa using runs)]
      refine ⟨clock, Device.keepsRegs_refl _ regs, fun on => absurd on brace, fun _ _ => ⟨?_, ?_⟩⟩
      · exact congrArg (fun x : SysState => { x with holdup := true, tested := u.clock }) sys
      · exact (List.append_assoc ..).trans (congrArg (· ++ _) sent)

/-- The results of a test in its registers. -/
def holdupNoted (result sense : Nat) (pass : Bool) (s : Device) : Device :=
  ((((s.setN R.SYS_HU_RESULT result).setN R.SYS_HU_SENSE sense).setB R.SYS_STATUS 5 pass).setB R.SYS_STATUS 6 true).setB R.SYS_CMD 2 false

/-- The results of a test are shown and told (R444). -/
def holdupShown (v0 : Nat) (r : Rat × Rat) (s : Device) : Device × Bool :=
  let pass := decide (300 ≤ r.2)
  let near (x : Rat) : Nat := min 65535 (nearest x).toNat
  (((holdupNoted (near r.1 + 65536 * near r.2) (min 65535 v0) pass s).raise Ev.HOLDUP_DONE (b2n pass)).raiseIf (!pass) Ev.HOLDUP_FAIL (near r.2), pass)

/-- A test that ends at an instant. -/
def holdupEndAt (v0 : Nat) (dt : Option Nat) (t : Nat) (s : Device) : Device × Bool :=
  holdupShown v0 (holdupResult (holdupRelease (s.elapseTo t)) dt) (holdupRelease (s.elapseTo t))

theorem holdupEnd_eq (v0 : Nat) (dt : Option Nat) (s : Device) : holdupEnd v0 dt s = holdupEndAt v0 dt (s.sys.tested + dt.getD 5000000) s := rfl

theorem holdupNoted_frame (result sense : Nat) (pass : Bool) (s : Device) : RegsOnly s (holdupNoted result sense pass s) ∧
    s.keepsRegs (holdupNoted result sense pass s) [R.SYS_HU_RESULT, R.SYS_HU_SENSE, R.SYS_STATUS, R.SYS_CMD] :=
  ⟨(((((RegsOnly.refl s).setReg _ _).setReg _ _).setReg _ _).setReg _ _).setReg _ _,
    Device.keepsRegs_setReg (Device.keepsRegs_setReg (Device.keepsRegs_setReg (Device.keepsRegs_setReg (Device.keepsRegs_setReg (Device.keepsRegs_refl _ rfl)
      _ _ (by decide)) _ _ (by decide)) _ _ (by decide)) _ _ (by decide)) _ _ (by decide)⟩

theorem holdupNoted_shows (result sense : Nat) (pass : Bool) (s : Device) : let d := holdupNoted result sense pass s
    d.rb R.SYS_STATUS 5 = pass ∧ d.rb R.SYS_STATUS 6 = true ∧ d.rb R.SYS_CMD 2 = false ∧ d.rn R.SYS_HU_SENSE = sense % 2 ^ 32 := by
  unfold holdupNoted
  generalize s.setN R.SYS_HU_RESULT result = a
  have afterCmd (x : Device) {o : Nat} (other : o ≠ R.SYS_CMD) : (x.setB R.SYS_CMD 2 false).reg o = x.reg o := x.reg_setReg_other _ other
  have afterStatus (x : Device) (i : Nat) (b : Bool) {o : Nat} (other : o ≠ R.SYS_STATUS) : (x.setB R.SYS_STATUS i b).reg o = x.reg o :=
    x.reg_setReg_other _ other
  refine ⟨?_, ?_, Device.rb_setB_same _ _ _ (by decide), ?_⟩
  · rw [Device.rb_of_reg (afterCmd _ (by decide)), Device.rb_setB_otherBit _ _ _ _ (by decide) (by decide), Device.rb_setB_same _ _ _ (by decide)]
  · rw [Device.rb_of_reg (afterCmd _ (by decide)), Device.rb_setB_same _ _ _ (by decide)]
  · unfold Device.rn
    rw [afterCmd _ (by decide), afterStatus _ _ _ (by decide), afterStatus _ _ _ (by decide)]
    exact (congrArg BitVec.toNat (Device.reg_setReg_same ..)).trans (BitVec.toNat_ofNat ..)

theorem holdupShown_effect (v0 : Nat) (r : Rat × Rat) (s : Device) : let pass := decide (300 ≤ r.2)
    let d := (holdupShown v0 r s).1
    d.clock = s.clock ∧ d.sys = s.sys ∧ d.rb R.SYS_STATUS 5 = pass ∧ d.rb R.SYS_STATUS 6 = true ∧ d.rb R.SYS_CMD 2 = false ∧
      d.rn R.SYS_HU_SENSE = min 65535 v0 ∧ s.keepsRegs d [R.SYS_HU_RESULT, R.SYS_HU_SENSE, R.SYS_STATUS, R.SYS_CMD] ∧ d.sent = s.sent ∧ d.upd = s.upd ∧
      ∃ p, s.newEvents d ((Ev.HOLDUP_DONE, b2n pass) :: if pass then [] else [(Ev.HOLDUP_FAIL, p)]) := by
  unfold holdupShown
  dsimp only
  generalize min 65535 (nearest r.2).toNat = near
  generalize min 65535 (nearest r.1).toNat + 65536 * near = result
  generalize decide (300 ≤ r.2) = pass
  have small : b2n pass < 2 ^ 64 := by cases pass <;> decide
  have fits : min 65535 v0 % 2 ^ 32 = min 65535 v0 := Nat.mod_eq_of_lt (by omega)
  obtain ⟨only, keeps⟩ := holdupNoted_frame result (min 65535 v0) pass s
  obtain ⟨passed, valid, ended, sensed⟩ := holdupNoted_shows result (min 65535 v0) pass s
  rw [fits] at sensed
  generalize holdupNoted result (min 65535 v0) pass s = d at only keeps passed valid ended sensed
  generalize min 65535 v0 = sense at sensed
  have clock : d.clock = s.clock := by rw [only]
  have sent : d.sent = s.sent := by rw [only]
  have evt : d.evt = s.evt := by rw [only]
  have told := Device.newEvents_one evt Ev.HOLDUP_DONE small
  have failed := Device.newEvents_raise told Ev.HOLDUP_FAIL near
  simp only [Device.raiseIf_clock, Device.raiseIf_sys, Device.raiseIf_sent, Device.raiseIf_upd]
  have regs (o : Nat) : ((d.raise Ev.HOLDUP_DONE (b2n pass)).raiseIf (!pass) Ev.HOLDUP_FAIL near).reg o = d.reg o := Device.reg_raiseIf ..
  refine ⟨clock, only.same.1, (Device.rb_of_reg (regs _) 5).trans passed, (Device.rb_of_reg (regs _) 6).trans valid, (Device.rb_of_reg (regs _) 2).trans ended,
    (congrArg BitVec.toNat (regs _)).trans sensed, fun o beside => (regs o).trans (keeps o beside), sent, only.same.2.1, ?_⟩
  cases pass
  · exact ⟨_, failed⟩
  · exact ⟨0, told⟩

theorem holdupEndAt_effect (v0 : Nat) (dt : Option Nat) (t : Nat) (s : Device) : let pass := decide (300 ≤ (holdupResult s dt).2)
    let d := (holdupEndAt v0 dt t s).1
    d.clock = max s.clock t ∧ d.sys = { s.sys with holdup := false } ∧ d.rb R.SYS_STATUS 5 = pass ∧ d.rb R.SYS_STATUS 6 = true ∧ d.rb R.SYS_CMD 2 = false ∧
      d.rn R.SYS_HU_SENSE = min 65535 v0 ∧ s.keepsRegs d [R.SYS_HU_RESULT, R.SYS_HU_SENSE, R.SYS_STATUS, R.SYS_CMD] ∧
      d.sent = s.sent ++ [⟨.pin pinHuTest, [0]⟩, ⟨.pin pinHuIso, [0]⟩] ∧ d.upd = s.upd ∧
      ∃ p, s.newEvents d ((Ev.HOLDUP_DONE, b2n pass) :: if pass then [] else [(Ev.HOLDUP_FAIL, p)]) := by
  have regs (o : Nat) : (holdupRelease (s.elapseTo t)).reg o = s.reg o := s.reg_elapseTo t o
  have result : holdupResult (holdupRelease (s.elapseTo t)) dt = holdupResult s dt := by
    unfold holdupResult
    simp only [Device.rf_of_reg (regs R.SYS_HU_CFG1), Device.rf_of_reg (regs R.SYS_HU_CFG2)]
  have clock : (holdupRelease (s.elapseTo t)).clock = max s.clock t := s.elapseTo_clock t
  have sys : (holdupRelease (s.elapseTo t)).sys = { s.sys with holdup := false } :=
    congrArg (fun x : SysState => { x with holdup := false }) (s.elapseTo_sys t)
  have sent : (holdupRelease (s.elapseTo t)).sent = s.sent ++ [⟨.pin pinHuTest, [0]⟩, ⟨.pin pinHuIso, [0]⟩] :=
    (List.append_assoc ..).trans (congrArg (· ++ _) (s.elapseTo_sent t))
  have upd : (holdupRelease (s.elapseTo t)).upd = s.upd := s.elapseTo_upd t
  have evt : (holdupRelease (s.elapseTo t)).evt = s.evt := s.elapseTo_evt t
  unfold holdupEndAt
  rw [result]
  generalize holdupRelease (s.elapseTo t) = u at regs clock sys sent upd evt
  obtain ⟨clock', sys', passed, valid, ended, sensed, keeps, sent', upd', p, told⟩ := holdupShown_effect v0 (holdupResult s dt) u
  refine ⟨clock'.trans clock, sys'.trans sys, passed, valid, ended, sensed, fun o beside => (keeps o beside).trans (regs o), sent'.trans sent, upd'.trans upd, p, ?_⟩
  unfold Device.newEvents at told ⊢
  rwa [evt] at told

theorem holdupDone_idle {s : Device} (idle : s.sys.holdup = false) (v0 : Nat) (dt : Option Nat) : holdupDone v0 dt s = s := if_pos (by simp [idle])

/-- A test that no update waits for only ends. -/
theorem holdupDone_ends {s : Device} (runs : s.sys.holdup = true) (alone : s.upd.checking = false) (v0 : Nat) (dt : Option Nat) :
    holdupDone v0 dt s = (holdupEndAt v0 dt (s.sys.tested + dt.getD 5000000) s).1 := by
  unfold holdupDone
  rw [if_neg (by simp [runs]), holdupEnd_eq]
  generalize s.sys.tested + dt.getD 5000000 = t
  obtain ⟨_, _, _, _, _, _, _, _, upd, _⟩ := holdupEndAt_effect v0 dt t s
  generalize holdupEndAt v0 dt t s = e at upd
  obtain ⟨d, pass⟩ := e
  have free : (!d.upd.checking) = true := by rw [show d.upd = s.upd from upd, alone]; rfl
  exact if_pos free

/-! ### Trial slots (R432, R466) -/

theorem markSlot_sys (k state attempt : Nat) (s : Device) : ∃ flash, markSlot k state attempt s = { s with sys := { s.sys with flash := flash } } := by
  unfold markSlot
  split
  · exact ⟨_, rfl⟩
  · exact ⟨s.sys.flash, rfl⟩

theorem reportSlots_frame (s : Device) : RegsOnly s (reportSlots s) ∧ s.keepsRegs (reportSlots s) [R.BOOT_FW_VER_A, R.BOOT_FW_VER_B, R.BOOT_FW_STATE] :=
  ⟨(((RegsOnly.refl s).setReg _ _).setReg _ _).setReg _ _,
    Device.keepsRegs_setReg (Device.keepsRegs_setReg (Device.keepsRegs_setReg (Device.keepsRegs_refl _ rfl) _ _ (by decide)) _ _ (by decide)) _ _ (by decide)⟩

theorem confirmSlot_idle {s : Device} (idle : s.rb R.BOOT_TRIAL 0 = false) : confirmSlot s = s := if_pos (by simp [idle])

/-- A trial that is confirmed ends, and raises the lowest version that boots. -/
theorem confirmSlot_effect {s : Device} (trial : s.rb R.BOOT_TRIAL 0 = true) : let d := confirmSlot s
    d.clock = s.clock ∧ d.rb R.BOOT_TRIAL 0 = false ∧ d.sys.trialFrom = none ∧ s.sys.minVer ≤ d.sys.minVer ∧
      s.keepsRegs d [R.BOOT_TRIAL, R.BOOT_FW_VER_A, R.BOOT_FW_VER_B, R.BOOT_FW_STATE] := by
  obtain ⟨flash, marked⟩ := markSlot_sys (s.sys.slot.getD 0) 0x3F (((slotAt s (s.sys.slot.getD 0)).map (·.attempt)).getD 0) s
  unfold confirmSlot
  rw [if_neg (by simp [trial])]
  dsimp only
  rw [marked]
  generalize ht : Device.setB { s with sys := { s.sys with flash := flash } } R.BOOT_TRIAL 0 false = t
  generalize (if 6 ≤ updState t || updState t = 5 then leAt (stream t 16 4) 0 4 else 0) = floor
  have sys : t.sys = { s.sys with flash := flash } := by rw [← ht]; rfl
  have clock : t.clock = s.clock := by rw [← ht]; rfl
  have ended : t.rb R.BOOT_TRIAL 0 = false := by rw [← ht]; exact Device.rb_setB_same _ _ _ (by decide)
  have keeps : s.keepsRegs t [R.BOOT_TRIAL] := by rw [← ht]; exact s.setReg_keeps _ _
  obtain ⟨only, kept⟩ := reportSlots_frame { t with sys := { t.sys with trialFrom := none, minVer := max t.sys.minVer floor } }
  generalize reportSlots { t with sys := { t.sys with trialFrom := none, minVer := max t.sys.minVer floor } } = d at only kept
  have same : d.sys = { t.sys with trialFrom := none, minVer := max t.sys.minVer floor } := only.same.1
  refine ⟨?_, ?_, ?_, ?_, fun o beside => ?_⟩
  · rw [only]
    exact clock
  · exact (Device.rb_of_reg (kept R.BOOT_TRIAL (by decide)) 0).trans ended
  · rw [same]
  · rw [same, sys]
    exact le_max_left _ _
  · simp only [List.mem_cons, List.not_mem_nil, or_false, not_or] at beside
    exact (kept o (by simp [beside])).trans (keeps o (by simp [beside]))

/-- A trial whose minute is over. -/
theorem slotConfirm_effect {s : Device} {t : Nat} (since : s.sys.trialFrom = some t) : let d := slotConfirm s
    d.clock = max s.clock (t + 60000000000) ∧ d.rb R.BOOT_TRIAL 0 = false ∧
      (s.rb R.BOOT_TRIAL 0 = true → d.sys.trialFrom = none ∧ s.sys.minVer ≤ d.sys.minVer) ∧ (s.rb R.BOOT_TRIAL 0 = false → d.sys = s.sys) := by
  have eq : slotConfirm s = confirmSlot (s.elapseTo (t + 60000000000)) := by
    unfold slotConfirm
    rw [since]
  rw [eq]
  generalize t + 60000000000 = due
  have trial : (s.elapseTo due).rb R.BOOT_TRIAL 0 = s.rb R.BOOT_TRIAL 0 := Device.rb_of_reg (s.reg_elapseTo due _) 0
  have clock : (s.elapseTo due).clock = max s.clock due := s.elapseTo_clock due
  have sys : (s.elapseTo due).sys = s.sys := s.elapseTo_sys due
  generalize s.elapseTo due = u at trial clock sys
  by_cases on : s.rb R.BOOT_TRIAL 0 = true
  · obtain ⟨same, ended, trialFrom, minVer, _⟩ := confirmSlot_effect (trial.trans on)
    exact ⟨same.trans clock, ended, fun _ => ⟨trialFrom, by rw [sys] at minVer; exact minVer⟩, fun off => absurd (on.symm.trans off) (by decide)⟩
  · have off : s.rb R.BOOT_TRIAL 0 = false := by simpa using on
    rw [confirmSlot_idle (trial.trans off)]
    exact ⟨clock, trial.trans off, fun h => absurd h on, fun _ => sys⟩

/-- A command that writes SYS_CMD is that write. -/
theorem runs_sysCmd {s : State} {w : Who} {v : Word} {c : Instr} {P : Device → Prop}
    (h : exec c s = s.onDevice fun d => .next (regWrite d w R.SYS_CMD v (sysHandler w R.SYS_CMD v)))
    (p : P (regWrite s.dev w R.SYS_CMD v (sysHandler w R.SYS_CMD v))) : s.runs c P :=
  State.runs_of (fun d => regWrite d w R.SYS_CMD v (sysHandler w R.SYS_CMD v)) h p

/-- A write of BOOT_TRIAL that is accepted confirms the trial when it asks for that. -/
theorem bootTrial_written {s : Device} {w : Who} {v : Word} (ok : writeCode s w R.BOOT_TRIAL v (sysHandler w R.BOOT_TRIAL v) = .ok) :
    ∃ sent, regWrite s w R.BOOT_TRIAL v (sysHandler w R.BOOT_TRIAL v) =
      { (if wbit v 1 then confirmSlot (s.answer .ok) else s.answer .ok) with sent := sent } := by
  obtain ⟨d, sent, effect, eq⟩ := regWrite_effect ok
  refine ⟨sent, ?_⟩
  rw [eq, ← effect]
  rfl

/-! ### The statement -/

/-- Settles O56: one lemma for each command, and the commands of SYS_CMD in one. -/
theorem holdupSettingsAndTrials : Obligations.HoldupSettingsAndTrials := by
  unfold Obligations.HoldupSettingsAndTrials
  intro s w v
  refine ⟨fun off => ?_, fun on => ?_, fun v0 dt => ⟨fun idle => ?_, fun runs alone => ?_⟩, fun ok stays => ?_, fun none => ?_, fun t since => ?_,
    fun ok => ⟨fun idle => ?_, fun asked trial => ?_⟩⟩
  · exact State.runs_of holdupPeriodic rfl (if_pos off)
  · refine State.runs_of holdupPeriodic rfl ?_
    rw [holdupPeriodic_eq on]
    exact holdupDue_effect _ s.dev
  · exact State.runs_of (holdupDone v0 dt) rfl (holdupDone_idle idle v0 dt)
  · refine State.runs_of (holdupDone v0 dt) rfl ?_
    rw [holdupDone_ends runs alone]
    obtain ⟨clock, sys, passed, valid, ended, sensed, keeps, sent, -, told⟩ := holdupEndAt_effect v0 dt (s.dev.sys.tested + dt.getD 5000000) s.dev
    exact ⟨clock, sys, passed, valid, ended, sensed, keeps, sent, told⟩
  · have served : ∃ sent, regWrite s.dev w R.SYS_CMD v (sysHandler w R.SYS_CMD v) = { cmdServed v (s.dev.answer .ok) with sent := sent } := by
      obtain ⟨sent, eq⟩ := sysCmd_written ok
      exact ⟨sent, eq.trans (by rw [if_neg (by simp [stays])])⟩
    obtain ⟨sent, eq⟩ := served
    obtain ⟨⟨_, _, _, keeps⟩, done⟩ := cmdServed_effect (v := v) (s := s.dev.answer .ok) (sysCmd_idle ok)
    generalize cmdServed v (s.dev.answer .ok) = t at eq keeps done
    obtain ⟨kept, stored, holdup, test, still, aged⟩ := done
    refine ⟨runs_sysCmd rfl ?_, runs_sysCmd rfl ?_, runs_sysCmd rfl ?_⟩
    all_goals
      rw [eq]
      exact ⟨kept, stored, holdup, test, still, aged, keeps⟩
  · refine State.runs_of slotConfirm rfl ?_
    unfold slotConfirm
    rw [none]
  · exact State.runs_of slotConfirm rfl (slotConfirm_effect since)
  · refine State.runs_of (fun s => regWrite s w R.BOOT_TRIAL v (sysHandler w R.BOOT_TRIAL v)) rfl ?_
    obtain ⟨sent, eq⟩ := bootTrial_written ok
    have stays : (if wbit v 1 then confirmSlot (s.dev.answer .ok) else s.dev.answer .ok) = s.dev.answer .ok := by
      rcases idle with unasked | off
      · rw [if_neg (by simp [unasked])]
      · rw [confirmSlot_idle (s := s.dev.answer .ok) off, ite_self]
    rw [eq, stays]
    exact ⟨rfl, Device.keepsRegs_refl _ rfl⟩
  · refine State.runs_of (fun s => regWrite s w R.BOOT_TRIAL v (sysHandler w R.BOOT_TRIAL v)) rfl ?_
    obtain ⟨sent, eq⟩ := bootTrial_written ok
    obtain ⟨-, ended, trialFrom, minVer, keeps⟩ := confirmSlot_effect (s := s.dev.answer .ok) trial
    rw [eq, if_pos asked]
    generalize confirmSlot (s.dev.answer .ok) = d at ended trialFrom minVer keeps
    exact ⟨ended, trialFrom, minVer, keeps⟩

end Sys2Proof.Machine
end

section
/-! PROOFS. Field update (R454 to R471): blocks and their writes, verification, installation, and what ends an activation. -/

namespace Sys2Proof.Machine

/-! ### A delivered block (R458, R459) -/

/-- Over the service port a block is held back only by one that is being written, and only a stored one is a duplicate. -/
theorem blockCode_service (s : Device) (b : Nat) (data : List Byte) : let p := blockCode s b data false
    (p.2 = true → p.1 = .ok) ∧ (p.1 = .busy → s.upd.writing.isSome = true) := by
  unfold blockCode
  simp only [Bool.false_and, Bool.false_or, Bool.false_eq_true, if_false]
  split_ifs <;> simp [*]

/-- A block over the service port: refused, counted, or taken to be written. -/
theorem deliverBlock_service (b : Nat) (data : List Byte) (s : Device) : deliverBlock b data false s =
    let p := blockCode s b data false
    let t := s.setN R.UPD_BLK_RESULT (p.1.num + 256 * b2n p.2)
    if p.1 = .check then t.count R.UPD_BLK_CRC_ERR 1
    else if p.2 then t.count R.UPD_BLK_DUP 1
    else if p.1 ≠ .ok then t
    else ({ t with upd := { t.upd with writing := some (b, data) } }).setB R.UPD_CMD 1 true := by
  obtain ⟨-, busy⟩ := blockCode_service s b data
  have free : (decide ((blockCode s b data false).1 = .busy) && !s.upd.writing.isSome) = false := by
    by_cases held : (blockCode s b data false).1 = .busy
    · simp [busy held]
    · simp [held]
  have stage : deliverBlock b data false s =
    let p := blockCode s b data false
    let t := s.setN R.UPD_BLK_RESULT (p.1.num + 256 * b2n p.2)
    if p.1 = .check then t.count R.UPD_BLK_CRC_ERR 1
    else if decide (p.1 = .busy) && !s.upd.writing.isSome then t.count R.UPD_BLK_BUSY 1
    else if p.2 then t.count R.UPD_BLK_DUP 1
    else if p.1 ≠ .ok then t
    else ({ t with upd := { t.upd with writing := some (b, data) } }).setB R.UPD_CMD 1 true := rfl
  rw [stage]
  simp only [free, Bool.false_eq_true, if_false]

theorem deliverBlock_effect (b : Nat) (data : List Byte) (s : Device) : let p := blockCode s b data false
    let d := deliverBlock b data false s
    d.rn R.UPD_BLK_RESULT = p.1.num + 256 * b2n p.2 ∧
      d.upd = (if p.1 = .ok ∧ p.2 = false then { s.upd with writing := some (b, data) } else s.upd) ∧
      d.rb R.UPD_CMD 1 = (decide (p.1 = .ok ∧ p.2 = false) || s.rb R.UPD_CMD 1) ∧
      d.reg R.UPD_BLK_CRC_ERR = (if p.1 = .check then satInc (s.reg R.UPD_BLK_CRC_ERR) 1 else s.reg R.UPD_BLK_CRC_ERR) ∧
      d.reg R.UPD_BLK_DUP = (if p.1 = .ok ∧ p.2 = true then satInc (s.reg R.UPD_BLK_DUP) 1 else s.reg R.UPD_BLK_DUP) ∧
      s.keepsRegs d [R.UPD_BLK_RESULT, R.UPD_CMD, R.UPD_BLK_CRC_ERR, R.UPD_BLK_BUSY, R.UPD_BLK_DUP] ∧ d.sys = s.sys := by
  obtain ⟨stored, -⟩ := blockCode_service s b data
  dsimp only
  rw [deliverBlock_service]
  generalize blockCode s b data false = p at stored
  obtain ⟨c, dup⟩ := p
  have fits : c.num + 256 * b2n dup < 2 ^ 32 := by
    have small := c.num_lt
    have one : b2n dup ≤ 1 := by cases dup <;> decide
    omega
  dsimp only at stored ⊢
  generalize c.num + 256 * b2n dup = result at fits
  have shown : (s.setN R.UPD_BLK_RESULT result).rn R.UPD_BLK_RESULT = result := by rw [Device.rn_setN, if_pos rfl, Nat.mod_eq_of_lt fits]
  have others {o : Nat} (other : o ≠ R.UPD_BLK_RESULT) : (s.setN R.UPD_BLK_RESULT result).reg o = s.reg o := s.reg_setReg_other _ other
  have keeps : s.keepsRegs (s.setN R.UPD_BLK_RESULT result) [R.UPD_BLK_RESULT, R.UPD_CMD, R.UPD_BLK_CRC_ERR, R.UPD_BLK_BUSY, R.UPD_BLK_DUP] :=
    Device.keepsRegs_setReg (Device.keepsRegs_refl _ rfl) _ _ (by decide)
  have upd : (s.setN R.UPD_BLK_RESULT result).upd = s.upd := rfl
  have sys : (s.setN R.UPD_BLK_RESULT result).sys = s.sys := rfl
  generalize s.setN R.UPD_BLK_RESULT result = t at shown others keeps upd sys
  have next (off : Nat) (v : Word) {o : Nat} (other : o ≠ off) : (t.setReg off v).reg o = t.reg o := t.reg_setReg_other v other
  have bit (off : Nat) (v : Word) (other : R.UPD_CMD ≠ off) : (t.setReg off v).rb R.UPD_CMD 1 = s.rb R.UPD_CMD 1 :=
    Device.rb_of_reg ((next off v other).trans (others (by decide))) 1
  by_cases bad : c = .check
  · subst bad
    have fresh : dup = false := by simpa using stored
    subst fresh
    rw [if_pos rfl, if_pos rfl, if_neg (by simp), if_neg (by simp)]
    refine ⟨(congrArg BitVec.toNat (next _ _ (by decide))).trans shown, upd, bit _ _ (by decide), ?_, (next _ _ (by decide)).trans (others (by decide)),
      Device.keepsRegs_setReg keeps _ _ (by decide), sys⟩
    exact (t.reg_setReg_same _ _).trans (congrArg (satInc · 1) (others (by decide)))
  · rw [if_neg bad, if_neg bad]
    by_cases again : dup = true
    · have ok := stored again
      subst ok again
      rw [if_pos rfl, if_neg (by simp), if_pos (by simp)]
      refine ⟨(congrArg BitVec.toNat (next _ _ (by decide))).trans shown, upd, bit _ _ (by decide), (next _ _ (by decide)).trans (others (by decide)), ?_,
        Device.keepsRegs_setReg keeps _ _ (by decide), sys⟩
      exact (t.reg_setReg_same _ _).trans (congrArg (satInc · 1) (others (by decide)))
    · have fresh : dup = false := by simpa using again
      subst fresh
      by_cases ok : c = .ok
      · subst ok
        rw [if_neg again, if_neg (by simp), if_pos (by simp), if_neg (by simp)]
        refine ⟨(congrArg BitVec.toNat (next _ _ (by decide))).trans shown, congrArg (fun u : UpdState => { u with writing := some (b, data) }) upd, ?_,
          (next _ _ (by decide)).trans (others (by decide)), (next _ _ (by decide)).trans (others (by decide)), Device.keepsRegs_setReg keeps _ _ (by decide), sys⟩
        exact t.rb_setB_same _ _ (by decide)
      · rw [if_neg again, if_pos ok, if_neg (by simp [ok]), if_neg (by simp [ok])]
        exact ⟨shown, upd, by simpa [ok] using Device.rb_of_reg (others (by decide)) 1, others (by decide), others (by decide), keeps, sys⟩

/-! ### The staging area and the update state (R457, R461) -/

/-- `t` differs from `s` in registers and in what the flash holds. -/
def StageFrame (s t : Device) : Prop := t = { s with regs := t.regs, sys := { s.sys with flash := t.sys.flash } }

section
variable {s t u : Device}

theorem StageFrame.refl (s : Device) : StageFrame s s := rfl

theorem StageFrame.trans (h : StageFrame s t) (g : StageFrame t u) : StageFrame s u := by
  unfold StageFrame at h g ⊢
  rw [g, h]

theorem StageFrame.setReg (h : StageFrame s t) (off : Nat) (v : Word) : StageFrame s (t.setReg off v) := h.trans rfl

theorem StageFrame.write (h : StageFrame s t) (a : Nat) (data : List Byte) : StageFrame s (flashWrite a data t) := h.trans rfl

theorem StageFrame.each {α : Type} (h : StageFrame s t) (l : List α) {f : Device → α → Device} (step : ∀ x a, StageFrame x (f x a)) :
    StageFrame s (t.each l f) := by
  induction l generalizing t with
  | nil => exact h
  | cons a l ih => exact ih (h.trans (step t a))

theorem StageFrame.upd (h : StageFrame s t) : t.upd = s.upd := by rw [h]
theorem StageFrame.evt (h : StageFrame s t) : t.evt = s.evt := by rw [h]
theorem StageFrame.clock (h : StageFrame s t) : t.clock = s.clock := by rw [h]

end

/-- The fields of UPD_STATE as a state is entered. -/
def updShown (state : Nat) (code : Code) (part : Nat) (s : Device) : Device :=
  let t := (s.setF R.UPD_STATE 3 0 state).setF R.UPD_STATE 18 16 part
  if code = .ok then t else t.setF R.UPD_STATE 15 8 code.num

theorem setUpd_eq (state : Nat) (code : Code) (part : Nat) (s : Device) :
    setUpd state code part s = if state = 0 then updShown state code part s else writeStageHeader (updShown state code part s) := rfl

theorem setUpd_regs (state : Nat) (code : Code) (part : Nat) (s : Device) : (setUpd state code part s).regs = (updShown state code part s).regs := by
  rw [setUpd_eq]
  split <;> rfl

theorem setUpd_stage (state : Nat) (code : Code) (part : Nat) (s : Device) : StageFrame s (setUpd state code part s) := by
  have shown : StageFrame s (updShown state code part s) := by
    unfold updShown
    dsimp only
    split
    · rfl
    · rfl
  rw [setUpd_eq]
  split
  · exact shown
  · exact shown.write _ _

/-- The state that is entered. -/
theorem updState_setUpd (state : Nat) (code : Code) (part : Nat) (s : Device) : updState (setUpd state code part s) = state % 16 := by
  have beside (x : Device) (hi lo v : Nat) (range : lo ≤ hi ∧ hi < 32) (above : 3 < lo) : (x.setF R.UPD_STATE hi lo v).rf R.UPD_STATE 3 0 = x.rf R.UPD_STATE 3 0 :=
    x.rf_setF_other R.UPD_STATE hi lo v R.UPD_STATE 3 0 range.1 range.2 (by decide) (.inr (.inl above))
  have entered : ((s.setF R.UPD_STATE 3 0 state).setF R.UPD_STATE 18 16 part).rf R.UPD_STATE 3 0 = state % 16 :=
    (beside _ 18 16 part (by decide) (by decide)).trans (s.rf_setF_same R.UPD_STATE 3 0 state (by decide) (by decide))
  unfold updState
  rw [Device.rf_of_reg (Device.reg_congr (setUpd_regs state code part s) R.UPD_STATE)]
  unfold updShown
  dsimp only
  split
  · exact entered
  · exact (beside _ 15 8 code.num (by decide) (by decide)).trans entered

/-- The code of a failure is shown. -/
theorem updError_setUpd {code : Code} (failure : code ≠ .ok) (state part : Nat) (s : Device) :
    (setUpd state code part s).rf R.UPD_STATE 15 8 = code.num := by
  rw [Device.rf_of_reg (Device.reg_congr (setUpd_regs state code part s) R.UPD_STATE)]
  unfold updShown
  dsimp only
  rw [if_neg failure]
  exact (Device.rf_setF_same _ R.UPD_STATE 15 8 code.num (by decide) (by decide)).trans (Nat.mod_eq_of_lt code.num_lt)

theorem setUpd_reg {o : Nat} (other : o ≠ R.UPD_STATE) (state : Nat) (code : Code) (part : Nat) (s : Device) : (setUpd state code part s).reg o = s.reg o := by
  have entered : ((s.setF R.UPD_STATE 3 0 state).setF R.UPD_STATE 18 16 part).reg o = s.reg o :=
    (Device.reg_setReg_other _ _ other).trans (s.reg_setReg_other _ other)
  rw [Device.reg_congr (setUpd_regs state code part s)]
  unfold updShown
  dsimp only
  split
  · exact entered
  · exact (Device.reg_setReg_other _ _ other).trans entered

theorem reportMissing_stage (s : Device) : StageFrame s (reportMissing s) := ((StageFrame.refl s).setReg _ _).setReg _ _

theorem reportParts_stage (s : Device) : StageFrame s (reportParts s) :=
  ((StageFrame.refl s).each (upto 8) fun x _ => ((StageFrame.refl x).setReg _ _).setReg _ _).each _ fun x _ => ((StageFrame.refl x).setReg _ _).setReg _ _

theorem stageOpen_stage (data : List Byte) (s : Device) : StageFrame s (stageOpen data s) :=
  ((((StageFrame.refl s).write _ _).setReg _ _).setReg _ _).trans (setUpd_stage 1 .ok 0 _)

/-! ### The end of a block's write (R457) -/

/-- The unit is free for the next block. -/
def writeOver (s : Device) : Device := ({ s with upd := { s.upd with writing := none } }).setB R.UPD_CMD 1 false

/-- A block that is written is stored, and may complete the package. -/
def blockStored (b : Nat) (data : List Byte) (s : Device) : Device :=
  let s := if updState s = 0 then stageOpen data s else s
  let s := reportMissing (markBlock b false (flashWrite (stageAt s (stageBlocks + 4096 * b)) data s))
  let s := if b = 0 then reportParts s else s
  if s.rn R.UPD_MISSING = 0 && updState s = 1 then setUpd 2 .ok 0 s else s

theorem blockWritten_eq {s : Device} {b : Nat} {data : List Byte} (writes : s.upd.writing = some (b, data)) (ok : Bool) :
    blockWritten ok s = if ok then blockStored b data (writeOver s) else writeOver s := by
  unfold blockWritten
  rw [writes]
  cases ok <;> rfl

theorem StageFrame.ite {s t u : Device} {c : Prop} {_ : Decidable c} (h : StageFrame s t) (g : StageFrame s u) : StageFrame s (if c then t else u) := by
  split
  · exact h
  · exact g

theorem blockStored_stage (b : Nat) (data : List Byte) (s : Device) : StageFrame s (blockStored b data s) := by
  have stored (u : Device) : StageFrame u (reportMissing (markBlock b false (flashWrite (stageAt u (stageBlocks + 4096 * b)) data u))) :=
    (((StageFrame.refl u).write _ _).write _ _).trans (reportMissing_stage _)
  have shown (u : Device) : StageFrame u (if b = 0 then reportParts u else u) := .ite (reportParts_stage u) (.refl u)
  have done (u : Device) : StageFrame u (if u.rn R.UPD_MISSING = 0 && updState u = 1 then setUpd 2 .ok 0 u else u) := .ite (setUpd_stage 2 .ok 0 u) (.refl u)
  have begun : StageFrame s (if updState s = 0 then stageOpen data s else s) := .ite (stageOpen_stage data s) (.refl s)
  exact ((begun.trans (stored _)).trans (shown _)).trans (done _)

theorem writeOver_effect (s : Device) : let d := writeOver s
    d.rb R.UPD_CMD 1 = false ∧ d.upd = { s.upd with writing := none } ∧ s.keepsRegs d [R.UPD_CMD] ∧ d.sys = s.sys :=
  ⟨Device.rb_setB_same _ _ _ (by decide), rfl, s.setReg_keeps _ _, rfl⟩

/-! ### DISCARD (R458) -/

/-- The registers of a staged package. -/
def packageRegs : List Nat := [R.UPD_PKG_ID, R.UPD_BLOCKS, R.UPD_MISSING, R.UPD_DONE_MASK, R.UPD_STATE, R.UPD_DRV_PENDING]

/-- The staging area and its registers are emptied. -/
def stageEmptied (s : Device) : Device :=
  let s := flashErase (stageAt s 0) (36 * 1024) s
  let s := s.each packageRegs (fun s o => s.setN o 0)
  s.each (upto 8) (fun s k => (s.setN (R.UPD_PARTk_INFO k) 0).setN (R.UPD_PARTk_VER k) 0)

/-- No package is staged any more. -/
def stageEnded (s : Device) : Device :=
  let s := (s.setN R.UPD_NEXT_MISSING 0x7FFFF).setN R.UPD_ORDER 0xFFFFFFFF
  ({ s with upd := { s.upd with writing := none, order := [], checking := false, delivered := [], delivering := [] } }).setF R.UPD_CMD 2 1 0

theorem updDiscard_eq (s : Device) : updDiscard s = stageEnded (stageEmptied s) := rfl

theorem stageEmptied_effect (s : Device) : (∀ o ∈ packageRegs, (stageEmptied s).rn o = 0) ∧ StageFrame s (stageEmptied s) := by
  have erased : StageFrame s (flashErase (stageAt s 0) (36 * 1024) s) := rfl
  refine ⟨fun o inside => ?_, (erased.each packageRegs fun x _ => (StageFrame.refl x).setReg _ _).each (upto 8) fun x _ =>
    ((StageFrame.refl x).setReg _ _).setReg _ _⟩
  unfold stageEmptied
  generalize flashErase (stageAt s 0) (36 * 1024) s = u
  have cleared : (u.each packageRegs fun s o => s.setN o 0).reg o = BitVec.ofNat 32 0 :=
    Device.each_stores (l := packageRegs) (key := id) (value := fun _ => BitVec.ofNat 32 0) (holds := fun _ => True)
      (fun t _ o _ => ⟨trivial, t.reg_setReg_same _ _, fun j _ other => t.reg_setReg_other _ other⟩) trivial o inside
  have apart : ∀ o ∈ packageRegs, ∀ k < 8, o ≠ R.UPD_PARTk_INFO k ∧ o ≠ R.UPD_PARTk_VER k := by decide
  have kept : ((u.each packageRegs fun s o => s.setN o 0).each (upto 8) fun s k => (s.setN (R.UPD_PARTk_INFO k) 0).setN (R.UPD_PARTk_VER k) 0).reg o =
      (u.each packageRegs fun s o => s.setN o 0).reg o :=
    Device.each_keeps _ (fun d => d.reg o) (upto 8) _ fun t k hk =>
      (Device.reg_setReg_other _ _ (apart o inside k (List.mem_range.mp hk)).2).trans (t.reg_setReg_other _ (apart o inside k (List.mem_range.mp hk)).1)
  exact congrArg BitVec.toNat (kept.trans cleared)

theorem stageEnded_effect (s : Device) : let d := stageEnded s
    (∀ o, o ≠ R.UPD_NEXT_MISSING → o ≠ R.UPD_ORDER → o ≠ R.UPD_CMD → d.reg o = s.reg o) ∧ d.rn R.UPD_NEXT_MISSING = 0x7FFFF ∧ d.rn R.UPD_ORDER = 0xFFFFFFFF ∧
      d.upd = { s.upd with writing := none, order := [], checking := false, delivered := [], delivering := [] } := by
  have stored (o : Nat) (other : o ≠ R.UPD_CMD) : (stageEnded s).reg o = ((s.setN R.UPD_NEXT_MISSING 0x7FFFF).setN R.UPD_ORDER 0xFFFFFFFF).reg o :=
    Device.reg_setReg_other _ _ other
  refine ⟨fun o missing order other => ?_, ?_, ?_, rfl⟩
  · exact (stored o other).trans ((Device.reg_setReg_other _ _ order).trans (s.reg_setReg_other _ missing))
  · refine congrArg BitVec.toNat ((stored _ (by decide)).trans ((Device.reg_setReg_other _ _ (by decide)).trans (s.reg_setReg_same _ _)))
  · refine congrArg BitVec.toNat ((stored _ (by decide)).trans (Device.reg_setReg_same _ _ _))

theorem updDiscard_effect (s : Device) : let d := updDiscard s
    (∀ o ∈ packageRegs, d.rn o = 0) ∧ d.rn R.UPD_NEXT_MISSING = 0x7FFFF ∧ d.rn R.UPD_ORDER = 0xFFFFFFFF ∧
      d.upd = { s.upd with writing := none, order := [], checking := false, delivered := [], delivering := [] } := by
  obtain ⟨cleared, stage⟩ := stageEmptied_effect s
  obtain ⟨others, missing, order, upd⟩ := stageEnded_effect (stageEmptied s)
  have apart : ∀ o ∈ packageRegs, o ≠ R.UPD_NEXT_MISSING ∧ o ≠ R.UPD_ORDER ∧ o ≠ R.UPD_CMD := by decide
  rw [updDiscard_eq]
  refine ⟨fun o inside => ?_, missing, order, upd.trans (by rw [stage.upd])⟩
  obtain ⟨a, b, c⟩ := apart o inside
  exact (congrArg BitVec.toNat (others o a b c)).trans (cleared o inside)

/-- A write of UPD_CMD that is accepted and asks for DISCARD alone discards. -/
theorem updCmd_discards {s : Device} {w : Who} {v : Word} (ok : writeCode s w R.UPD_CMD v (updHandler w R.UPD_CMD v) = .ok) (discard : wbit v 0 = true)
    (block : wbit v 1 = false) (activate : wbit v 2 = false) :
    ∃ sent, regWrite s w R.UPD_CMD v (updHandler w R.UPD_CMD v) = { updDiscard (s.answer .ok) with sent := sent } := by
  have effect : (updHandler w R.UPD_CMD v).effect (s.answer .ok) = updDiscard (s.answer .ok) := by
    have stages : (updHandler w R.UPD_CMD v).effect = (updCmdHandler v).effect := rfl
    rw [stages, updCmdHandler, discard, block, activate]
    rfl
  rw [regWrite_ok ok, forwardWrite_eq, effect]
  exact ⟨_, rfl⟩

/-! ### Verification (R461) -/

/-- Verification ends in its next state. -/
theorem verified_state {s : Device} (at_ : updState s = 2) : updState (verified s) = match packageCode s with
    | (.ok, _) => if s.rb R.BOOT_TRIAL 0 then 2 else 3
    | (.check, some _) => 1
    | _ => 8 := by
  have told (x : Device) (ev p : Nat) : updState (x.raise ev p) = updState x := rfl
  unfold verified
  rw [if_neg (by simp [at_])]
  generalize packageCode s = code
  obtain ⟨c, part⟩ := code
  cases c with
  | ok =>
    dsimp only
    split
    · rw [told]
      exact (s.rf_setF_other R.UPD_STATE 15 8 Code.state.num R.UPD_STATE 3 0 (by decide) (by decide) (by decide) (.inr (.inl (by decide)))).trans at_
    · exact updState_setUpd 3 .ok 0 s
  | check =>
    cases part with
    | none => exact (told _ _ _).trans (updState_setUpd 8 .check 0 s)
    | some p => exact (told _ _ _).trans (updState_setUpd 1 .check p.index _)
  | _ => exact (told _ _ _).trans (updState_setUpd 8 _ 0 s)

/-! ### Failures (R461, R465) -/

/-- A failure is shown, counted and told. -/
def updFailed (state : Nat) (c : Code) (part payload : Nat) (s : Device) : Device :=
  ((setUpd state c part s).count R.UPD_FAILURES 1).raise Ev.UPD_FAILED payload

theorem updFailed_effect {c : Code} (failure : c ≠ .ok) {payload : Nat} (fits : payload < 2 ^ 64) (state part : Nat) (s : Device) :
    let d := updFailed state c part payload s
    updState d = state % 16 ∧ d.rf R.UPD_STATE 15 8 = c.num ∧ d.reg R.UPD_FAILURES = satInc (s.reg R.UPD_FAILURES) 1 ∧ d.upd = s.upd ∧ d.clock = s.clock ∧
      d.rb R.UPD_CMD 2 = s.rb R.UPD_CMD 2 ∧ s.newEvents d [(Ev.UPD_FAILED, payload)] := by
  have stage := setUpd_stage state c part s
  have upState := updState_setUpd state c part s
  have upError := updError_setUpd failure state part s
  have failures := setUpd_reg (o := R.UPD_FAILURES) (by decide) state c part s
  have command := setUpd_reg (o := R.UPD_CMD) (by decide) state c part s
  unfold updFailed
  generalize setUpd state c part s = t at stage upState upError failures command
  have kept {o : Nat} (other : o ≠ R.UPD_FAILURES) : ((t.count R.UPD_FAILURES 1).raise Ev.UPD_FAILED payload).reg o = t.reg o := t.reg_setReg_other _ other
  refine ⟨(Device.rf_of_reg (kept (by decide)) 3 0).trans upState, (Device.rf_of_reg (kept (by decide)) 15 8).trans upError, ?_, stage.upd, stage.clock,
    (Device.rb_of_reg (kept (by decide)) 2).trans (Device.rb_of_reg command 2), Device.newEvents_one stage.evt _ fits⟩
  exact (t.reg_setReg_same _ _).trans (congrArg (satInc · 1) failures)

theorem installDone_fails {s : Device} (at_ : updState s = 3) : installDone false s = updFailed 8 .check 0 (256 * Code.check.num) s := by
  unfold installDone
  rw [if_neg (by simp [at_])]
  rfl

/-- The handover ends at an instant without its new runtime. -/
def handoverEnds (t : Nat) (s : Device) : Device := ({ s with upd := { s.upd with handover := none } }.elapseTo t).setB R.UPD_CMD 2 false

theorem handoverTimeout_eq {s : Device} {t : Nat} (since : s.upd.handover = some t) : handoverTimeout s =
    updFailed 6 .timeout (s.rf R.UPD_STATE 18 16) (s.rf R.UPD_STATE 18 16 + 256 * Code.timeout.num) (handoverEnds (t + 500000000) s) := by
  unfold handoverTimeout
  rw [since]
  rfl

theorem handoverEnds_effect (t : Nat) (s : Device) : let d := handoverEnds t s
    d.clock = max s.clock t ∧ d.upd = { s.upd with handover := none } ∧ d.rb R.UPD_CMD 2 = false ∧ d.reg R.UPD_FAILURES = s.reg R.UPD_FAILURES ∧ d.evt = s.evt := by
  refine ⟨Device.elapseTo_clock _ t, Device.elapseTo_upd _ t, Device.rb_setB_same _ _ _ (by decide), ?_, Device.elapseTo_evt _ t⟩
  exact (Device.reg_setReg_other _ _ (by decide)).trans (Device.reg_elapseTo _ t _)

theorem handoverTimeout_effect {s : Device} {t : Nat} (since : s.upd.handover = some t) : let d := handoverTimeout s
    d.clock = max s.clock (t + 500000000) ∧ d.upd = { s.upd with handover := none } ∧ updState d = 6 ∧ d.rf R.UPD_STATE 15 8 = Code.timeout.num ∧
      d.rb R.UPD_CMD 2 = false ∧ d.reg R.UPD_FAILURES = satInc (s.reg R.UPD_FAILURES) 1 ∧
      s.newEvents d [(Ev.UPD_FAILED, s.rf R.UPD_STATE 18 16 + 256 * Code.timeout.num)] := by
  have small : s.rf R.UPD_STATE 18 16 < 8 := Nat.mod_lt _ (by decide)
  have num : Code.timeout.num = 16 := rfl
  rw [handoverTimeout_eq since]
  generalize t + 500000000 = due
  obtain ⟨clock, upd, cmd, failures, evt⟩ := handoverEnds_effect due s
  obtain ⟨state, code, counted, upd', clock', cmd', told⟩ := updFailed_effect (c := .timeout) (by decide)
    (payload := s.rf R.UPD_STATE 18 16 + 256 * Code.timeout.num) (by omega) 6 (s.rf R.UPD_STATE 18 16) (handoverEnds due s)
  generalize handoverEnds due s = u at *
  refine ⟨clock'.trans clock, upd'.trans upd, state, code, cmd'.trans cmd, counted.trans (by rw [failures]), ?_⟩
  unfold Device.newEvents at told ⊢
  rwa [evt] at told

/-! ### What does not belong (R465 to R471) -/

theorem safetyTimeout_late {s : Device} {old k t : Nat} (swapped : s.upd.safetyOld = some (old, k, t)) (late : t + 1000000 < s.clock) : safetyTimeout s = s := by
  unfold safetyTimeout
  rw [swapped]
  exact if_pos late

theorem imageActivate_away {s : Device} (away : updState s ≠ 5 ∨ s.upd.imageReset = true) : imageActivate s = s := by
  unfold imageActivate
  dsimp only
  split
  · exact if_pos (by rcases away with away | away <;> simp [away])
  · rfl

theorem drvPiece_away {c : Nat} {s : Device} (away : updState s < 3 ∨ 7 < updState s ∨ sends s = false ∨ chainLive s c = false) (pos : Nat) (good : Bool) :
    drvPiece c pos good s = s := by
  unfold drvPiece
  split
  · rfl
  · exact if_pos (by rcases away with away | away | away | away <;> simp [away])

theorem drvActivate_away {c : Nat} {s : Device} (away : updState s ≠ 5 ∨ s.upd.drvNow ≠ none ∨ s.upd.drvChains.head? ≠ some c) : drvActivate c s = s := by
  refine if_pos ?_
  rcases away with away | away | away
  · simp [away]
  · simp [Option.isSome_iff_ne_none.mpr away]
  · simp [away]

/-! ### The statement -/

/-- Settles O57: each command's effect is a lemma above; a command in a state in which it does not belong leaves the device as it is. -/
theorem updatesAreStagedAndEnd : Obligations.UpdatesAreStagedAndEnd := by
  unfold Obligations.UpdatesAreStagedAndEnd
  intro s w v
  refine ⟨fun index data => ?_, ?_, fun none ok => ?_, fun some => ⟨?_, ?_⟩, fun ok discard block activate => ?_, fun away => ?_, fun at_ => ?_, fun away ok => ?_,
    fun at_ => ?_, fun none => ⟨fun f => ?_, ?_⟩, fun t since => ?_, fun none => ?_, fun old k t swapped late => ?_, fun away => ?_, fun c exists_ =>
    ⟨fun away pos good => ?_, fun away => ?_⟩⟩
  · obtain ⟨result, upd, cmd, crc, dup, keeps, sys⟩ := deliverBlock_effect index data s.dev
    refine State.runs_of (fun s => (deliverBlock index data false s).answer (blockCode s index data false).1) rfl ?_
    exact ⟨result, upd, cmd, crc, dup, keeps, sys⟩
  · exact State.runs_of (fun s => (s.send .service [updState s]).answerD .ok [s.reg R.UPD_STATE]) rfl ⟨rfl, Device.keepsRegs_refl _ rfl, rfl⟩
  · refine State.runs_of (blockWritten ok) rfl ?_
    unfold blockWritten
    rw [none]
  · obtain ⟨⟨b, data⟩, writes⟩ := Option.ne_none_iff_exists'.mp some
    refine State.runs_of (blockWritten false) rfl ?_
    rw [blockWritten_eq writes]
    exact writeOver_effect s.dev
  · obtain ⟨⟨b, data⟩, writes⟩ := Option.ne_none_iff_exists'.mp some
    refine State.runs_of (blockWritten true) rfl ?_
    rw [blockWritten_eq writes, if_pos rfl]
    exact (blockStored_stage b data (writeOver s.dev)).upd
  · refine State.runs_of (fun s => regWrite s w R.UPD_CMD v (updHandler w R.UPD_CMD v)) rfl ?_
    obtain ⟨sent, eq⟩ := updCmd_discards ok discard block activate
    obtain ⟨cleared, missing, order, upd⟩ := updDiscard_effect (s.dev.answer .ok)
    dsimp only
    rw [eq]
    generalize updDiscard (s.dev.answer .ok) = d at cleared missing order upd
    exact ⟨cleared, missing, order, upd⟩
  · exact State.runs_of verified rfl (if_pos away)
  · exact State.runs_of verified rfl (verified_state at_)
  · exact State.runs_of (installDone ok) rfl (if_pos away)
  · obtain ⟨state, code, counted, upd, -, -, told⟩ := updFailed_effect (c := .check) (by decide) (payload := 256 * Code.check.num) (by decide) 8 0 s.dev
    refine State.runs_of (installDone false) rfl ?_
    rw [installDone_fails at_]
    exact ⟨state, code, counted, upd, told⟩
  · refine State.runs_of (fwHandover f) rfl ?_
    unfold fwHandover
    rw [none]
  · refine State.runs_of handoverTimeout rfl ?_
    unfold handoverTimeout
    rw [none]
  · exact State.runs_of handoverTimeout rfl (handoverTimeout_effect since)
  · refine State.runs_of safetyTimeout rfl ?_
    unfold safetyTimeout
    rw [none]
  · exact State.runs_of safetyTimeout rfl (safetyTimeout_late swapped late)
  · exact State.runs_of imageActivate rfl (imageActivate_away away)
  · exact State.runs_unit (fun _ => c < 512) (drvPiece c pos good) rfl (decide_eq_true exists_) (drvPiece_away away pos good)
  · exact State.runs_unit (fun _ => c < 512) (drvActivate c) rfl (decide_eq_true exists_) (drvActivate_away away)

end Sys2Proof.Machine
end
